-- ==== Sys2Proof/Word.lean ====
section
/-!
DEFINITION. The plainest types of the model: register fields, sparse tables, words, and exact arithmetic narrowed at the end.
A register field is named by its address, low bit and width (Fld). A table (Tbl) is a list of keys and values, keys strictly rising;
the operations over it are in Machine/Table.lean.
-/

namespace Sys2Proof

/-- A register field: the byte address of its register, its lowest bit, its width in bits. -/
structure Fld where
  addr : Nat
  lo : Nat
  width : Nat
deriving DecidableEq, Repr

/-- A sparse table: entries in rising order of key, none equal to what an unlisted key reads as. -/
abbrev Tbl (V : Type) := List (Nat × V)

/-- The field's key in the register table of State: 32 × address + low bit. -/
def Fld.key (f : Fld) : Nat := f.addr * 32 + f.lo

/-- The shadow copy of a field: the value written and waiting for its activation (R29, R49, R57, R212). -/
def Fld.shadow (f : Fld) : Fld := { f with addr := f.addr + 0x100000000 }

/-- A 32-bit word of the device. -/
abbrev Word := BitVec 32

/-- A byte. -/
abbrev Byte := BitVec 8

/-- The two's complement value of the low `w` bits of `n`. -/
def signedOf (w n : Nat) : Int :=
  let m := n % 2 ^ w
  if m < 2 ^ (w - 1) then (m : Int) else (m : Int) - 2 ^ w

/-- The low `w` bits of an integer in two's complement. -/
def bitsOf (w : Nat) (i : Int) : Nat := (i % (2 ^ w : Int)).toNat

/-- `x` held between `lo` and `hi`: max(lo, min(x, hi)). -/
def clampInt (x lo hi : Int) : Int := max lo (min x hi)

/-- A sum that stops at `top`. -/
def satAdd (top a b : Nat) : Nat := min top (a + b)

/-- Bit `i` of a number, as 0 or 1. -/
def bitAt (n i : Nat) : Nat := (n >>> i) % 2

/-- `n` with bit `i` set. -/
def setBit (n i : Nat) : Nat := if n.testBit i then n else n + 2 ^ i

/-- `n` with bit `i` cleared. -/
def clearBit (n i : Nat) : Nat := if n.testBit i then n - 2 ^ i else n

/-- `n` with bit `i` set or cleared. -/
def putBit (n i : Nat) (b : Bool) : Nat := if b then setBit n i else clearBit n i

/-- The number of bits set among the lowest `w`. -/
def popCount (w n : Nat) : Nat := ((List.range w).filter (fun i => n.testBit i)).length

/-- The indices of the bits set among the lowest `w`, lowest first. -/
def bitList (w n : Nat) : List Nat := (List.range w).filter (fun i => n.testBit i)

/-- `x` divided by `y > 0`, rounded down. -/
def floorDiv (x y : Int) : Int := x / y

/-- The nearest integer to `x / y` for `y > 0`, exact halves to the even one (R85). -/
def roundHalfEven (x y : Int) : Int :=
  let q := x / y
  let r := x % y
  if 2 * r < y then q
  else if y < 2 * r then q + 1
  else if q % 2 = 0 then q else q + 1

/-- The nearest integer to `x / y` for `y > 0`, exact halves away from zero. -/
def roundHalfAway (x y : Int) : Int :=
  if 0 ≤ x then (2 * x + y) / (2 * y) else -((2 * -x + y) / (2 * y))

end Sys2Proof
end

