-- ==== Sys2Proof/Syntax.lean ====
section
/-!
DEFINITION. The commands of the block: one constructor per row of spec/opcode_table.json.
The table gives the rows no operand fields; the operands here are what each row's rule names (a register's value, an index, what the
outside world supplies: a sample, a level, a frame). A write's value is the 32-bit word written; an index is a Fin of its range.
-/

namespace Sys2Proof

/-- The outputs of one Tricycle core in the six groups of R293. -/
structure BusOut where
  fetchAddr : Word
  fetchCtl : Word
  dataAddr : Word
  writeData : Word
  dataCtl : Word
  side : Word
deriving DecidableEq, Repr

/-- The kind of a bus access (the TYPE code of MEM_VIOL_INFO). -/
inductive AccessKind where
  | read
  | write
  | fetch
deriving DecidableEq, Repr

/-- One access on the fabric (R340 to R345): master, kind, size in bytes, address, and the value of a write. -/
structure BusAccess where
  master : Fin 32
  kind : AccessKind
  size : Nat
  addr : Word
  value : BitVec 64
deriving DecidableEq, Repr

/-- A register of a function's configuration space that R310 gives content: Vendor and Device ID, the class code, VF Device ID, TotalVFs, First VF
Offset and VF Stride, NumVFs and VF Enable of the SR-IOV capability, and Message Control of MSI-X. -/
inductive ConfigReg where
  | identity | classCode | vfDevice | totalVfs | vfOffset | vfStride | numVfs | vfControl | msixControl
deriving DecidableEq, Repr

/-- What REGISTER_WRITE brings: an access; a write TLP over several registers (R312); two accesses of one cycle (R351); an access to a function's
configuration space (R310); an event that the MGC posts in a tenant's event ring, its code 0x100 + event (R328). -/
inductive FabricCommand where
  | one (a : BusAccess)
  | burst (master : Fin 32) (addr : Word) (data : List Word)
  | both (a b : BusAccess)
  | config (tenant : Fin 16) (reg : ConfigReg) (value : Option Word)
  | mgcEvent (ring : Fin 16) (event : BitVec 8) (tenant : Fin 16) (arg : Word)
deriving DecidableEq, Repr

/-- The access that a report of source 30, 66, 67 or 69 names (R379). -/
structure ReportedAccess where
  master : Fin 32
  kind : AccessKind
  addr : Word
deriving DecidableEq, Repr

/-- A request of the debug module that leaves the cluster halted or resumes it (R305, R306): a resume; a single step or a run of the program
buffer, with the accesses that the instructions put on the bus and whether they end in an exception; an abstract read or write of a register by
its number; a word of the program buffer; the error of the last abstract command cleared. -/
inductive DebugRequest where
  | resume
  | step (accesses : List BusAccess)
  | readReg (regno : BitVec 16)
  | writeReg (regno : BitVec 16) (value : Word)
  | programWord (i : Fin 8) (value : Word)
  | runProgram (accesses : List BusAccess) (raised : Bool)
  | clearError
deriving DecidableEq, Repr

/-- A debug request and the hart it names (R306, R307). -/
structure HartRequest where
  hart : Fin 3
  request : DebugRequest
deriving DecidableEq, Repr

/-- The seven registers of the timing set (R29). -/
inductive TimingReg where
  | period | dlAcq | dlSolve | dlPlan | dlDisp | applyDly | tickPhase
deriving DecidableEq, Repr

/-- The registers of the converter set (R49). -/
inductive ConvReg where
  | topo | baseV | baseS | baseVdc | vmax
  | armCfg (arm : Fin 6) | portMap (port : Fin 96) | cellCfg (cell : Fin 96) | cellCap (cell : Fin 96)
deriving DecidableEq, Repr

/-- The registers of the sampling set (R57). ADC_CTRL holds the shadowed MODE beside BGCAL and CONV_EN, which act at once. -/
inductive SampReg where
  | ctrl | inst (k : Fin 2) | pairSeq (pair : Fin 4)
deriving DecidableEq, Repr

/-- A background-calibration step (R74): it starts in an idle gap; or it ends with the zero reading in 1/256 LSB. -/
inductive CalEvent where
  | start | finish (zero : Int)
deriving DecidableEq, Repr

/-- The hard-limit registers (R241). -/
inductive HardLimitReg where
  | iarm | vcell | pexp | vdc | freq | dvdt
deriving DecidableEq, Repr

/-- A safety-function counter register that a read clears (SAF_STAT, SAF_Cc_CNT). -/
inductive SafCounter where
  | stat | conn (c : Fin 4)
deriving DecidableEq, Repr

/-- The memory operand of format M (R81): address (XB × I[XI] + OFS) mod 4,096; INC counts the index register on. -/
structure MemOperand where
  xi : Fin 4
  xb : Bool
  inc : Bool
  ofs : Fin 4096
deriving DecidableEq, Repr

/-- A word of a CLE memory that bus writes reach through the write queue (R106). -/
inductive CleMemWord where
  | object (word : Fin 4096)
  | data (word : Fin 4096)
deriving DecidableEq, Repr

/-- What one measurement of a delay-line group's ring shows (R206): the group lies within 625.0 ps ± 5 ps, or its trim is to step up or
down. -/
inductive TrimResult where
  | inBand | stepUp | stepDown
deriving DecidableEq, Repr

/-- A frame as it arrives on a line (R255, R280): its bytes from byte 0 (a length other than 64 is a truncated or oversize frame), and
whether it held an invalid 10-bit group or a reserved character. -/
structure LineFrame where
  bytes : List Byte
  codeError : Bool
deriving DecidableEq, Repr

/-- What a device's CONFIG carries (R464): TOPO, FNOM, the bases, VMAX, NCELL and K of each arm, and cell, VNOM and arm of every enabled
local cell. -/
structure ConverterConfig where
  topo : Nat
  fnom : Nat
  baseV : Nat
  baseS : Nat
  baseVdc : Nat
  vmax : Nat
  arms : List (Nat × Nat)
  cells : List (Nat × Nat × Nat)
deriving DecidableEq, Repr

/-- One metering sample (R417 to R419, R434): the 24-bit codes of path 1 of V0 to V3 and I0 to I3 and of path 2 of I0 to I3; the overload
marks of the two paths; the modulators without a transition (path 1 of channel c as bit c, path 2 of I k as bit 8 + k); the channels whose
reference check is out by more than 1 %. -/
structure MeterSample where
  path1 : List Int
  path2 : List Int
  over1 : BitVec 8
  over2 : BitVec 4
  idle : BitVec 12
  refOut : BitVec 8
deriving DecidableEq, Repr

/-- A PTP message as it is decoded (R446, IEEE 1588-2008): source port identity and sequence as numbers, times as seconds and nanoseconds,
correctionField in units of 2^−16 ns. An Announce carries the values that the best-master algorithm compares, in its order, the lower the
better, and its interval as a power of 2 s. -/
inductive PtpBody where
  | announce (source : Nat) (rank : List Nat) (logInterval : Int)
  | sync (source seq : Nat) (twoStep : Bool) (seconds nanoseconds : Nat) (correction : Int)
  | followUp (source seq seconds nanoseconds : Nat) (correction : Int)
  | pdelayReq (source seq : Nat)
  | pdelayResp (seq : Nat) (twoStep : Bool) (seconds nanoseconds : Nat) (correction : Int)
  | pdelayRespFollowUp (seq seconds nanoseconds : Nat) (correction : Int)
deriving DecidableEq, Repr

/-- One ASDU of a Sampled Values frame (R450): smpCnt, smpSynch, the bytes of its data set. -/
structure SvAsdu where
  smpCnt : Nat
  smpSynch : Nat
  data : List Byte
deriving DecidableEq, Repr

/-- What a Peloton lane's receiver sees (R459): transitions on a lane that is DOWN; 16 valid characters with a comma; loss of alignment. -/
inductive LaneEvent where
  | transitions | aligned | lost
deriving DecidableEq, Repr

/-- An ECHO of a lane (R462): sent; a request of the far end, answered; a reply, whose arrival is `t2` in units of 78.125 ps. -/
inductive LaneEcho where
  | send | answer | reply (t2 : Nat)
deriving DecidableEq, Repr

/-- What a SERVICE frame's payload holds where the spec gives no byte layout (R464): HELLO, the CONFIG that its last frame completes, other. -/
inductive PelService where
  | hello (cand : Bool) (verMap : BitVec 8) (part : Word)
  | config (c : ConverterConfig)
  | other
deriving DecidableEq, Repr

/-- The cryptographic verdicts on an image (R516, R517): the SHA-384 of PUBKEY equals the key in the slot KEYIDX names (in BLANK: the ROM key);
the signature is valid; the first segment whose hash differs, if one does. -/
structure ImageVerdict where
  keyOk : Bool
  sigOk : Bool
  badSegment : Option (Fin 15)
deriving DecidableEq, Repr

/-- An image as a source offers it: its bytes and the verdicts on it. -/
structure Image where
  bytes : List Byte
  verdict : ImageVerdict
deriving DecidableEq, Repr

/-- What the sources of R513 hold at a boot: the two flash slots, and the image of the Peloton device that answers first, if one does. -/
structure ImageOffers where
  slotA : Image
  slotB : Image
  peloton : Option Image
deriving DecidableEq, Repr


/-- The commands: those with operands in the order of the table, then those without. -/
inductive Instr where
  | planDeadline (incomplete : Bool)
  | dispatchDeadline (stalled : Bool)
  | holdlimWrite (v : BitVec 3)
  | cadTimeLoRead (master : Fin 32)
  | cadTimeHiRead (master : Fin 32)
  | timingSetWrite (reg : TimingReg) (v : Word)
  | converterSetWrite (reg : ConvReg) (v : Word)
  | converterPrewake (inst : Fin 2)
  | samplingInstant (inst : Fin 2)
  | resultPost (input : Fin 32) (code : BitVec 16) (level : Int)
  | adcUrgReq (chan : Fin 32)
  | urgentSample (conv : Fin 8) (code : BitVec 16) (level : Int)
  | urgentResultPost (conv : Fin 8)
  | calibrationStep (conv : Fin 8) (event : CalEvent) (refPpm : Int)
  | samplingSetWrite (reg : SampReg) (v : Word)
  | restart (input : Fin 32) (v : Word)
  | cleBr (cond : Fin 16) (target : Fin 16384)
  | cleLoop (count : Fin 4096) (last : Fin 16384)
  | cleRuno (obj : Fin 256)
  | cleWaitt (cnt : Fin 65536)
  | cleLd (d : Fin 16) (m : MemOperand)
  | cleSt (d : Fin 16) (m : MemOperand)
  | cleLd2 (d : Fin 16) (m : MemOperand)
  | cleSt2 (d : Fin 16) (m : MemOperand)
  | cleLdx (d : Fin 16) (m : MemOperand)
  | cleStx (d : Fin 16) (m : MemOperand)
  | cleLds (d : Fin 16) (m : MemOperand) (fresh unsettled : Bool)
  | cleAdd (d s t : Fin 16) (wrap : Bool)
  | cleSub (d s t : Fin 16) (wrap : Bool)
  | cleNeg (d s : Fin 16)
  | cleAbs (d s : Fin 16)
  | cleMul (d s t : Fin 16)
  | cleDiv (d s t : Fin 16)
  | cleMinmax (d s t : Fin 16) (max : Bool)
  | cleClamp (d s t : Fin 16)
  | cleMovi (d : Fin 16) (imm : BitVec 18)
  | cleMovl (d : Fin 16) (imm : BitVec 14)
  | cleMov (d s : Fin 16)
  | cleSh (d s t : Fin 16) (amt : Fin 64) (reg : Bool) (kind : Fin 8)
  | cleLogic (d s t : Fin 16) (op : Fin 4)
  | cleCmp (s t : Fin 16)
  | cleSel (d s t : Fin 16) (cond : Fin 16)
  | cleSetx (index : Fin 4) (s : Fin 16) (src : Bool) (imm : BitVec 12)
  | cleMac (d s t : Fin 16)
  | cleMsu (d s t : Fin 16)
  | cleDmac (d s t : Fin 16) (zero : Bool)
  | cleMpy (d s t : Fin 16)
  | cleAld (d s : Fin 16) (clear : Bool)
  | cleExt (d s : Fin 16) (k : Fin 16)
  | cleAadd (d s t : Fin 16) (minus : Bool)
  | cleSincos (d s : Fin 16)
  | cleSqrt (d s : Fin 16)
  | undefinedInstruction (word : Word)
  | cleMemoryBusWrite (word : CleMemWord) (v : Word)
  | clePdataWrite (v : Word)
  | grdRegisterWrite (offset : Fin 16384) (v : Word)
  | toneWindowEnd (vRe vIm iRe iIm : Int)
  | passiveTestTimerExpiry (test : Fin 4)
  | celRegisterWrite (offset : Fin 16384) (v : Word)
  | mpptUpdate (cell : Fin 96)
  | mpptScanStart (cell : Fin 96)
  | socWindowEnd (cell : Fin 96)
  | gatesat (cell : Fin 96)
  | celBypReq (j : Fin 3) (v : Word)
  | bypassDecision (cell : Fin 96)
  | bypassConfirmTimeout (cell : Fin 96)
  | celRjReq (j : Fin 3) (v : Word)
  | rejoinJudgement (cell : Fin 96)
  | edgRegisterWrite (offset : Fin 16384) (v : Word)
  | dlCalStep (line : Fin 13) (result : TrimResult)
  | dlGroupSwap (line : Fin 13)
  | pwmCtrlWrite (v : Word)
  | pwmCounterEvent (channel : Fin 6) (event : Fin 6)
  | pwmDeadtimeEnd (channel : Fin 6)
  | tripInputChange (k : Fin 8) (level : Bool) (samples : Nat)
  | tripfClear (channel : Fin 6)
  | pwmChnStatRead (channel : Fin 6)
  | comparatorOut (n : Fin 16) (level : Int)
  | blankingWindowClose (n : Fin 16)
  | pulseEnableRequest (arms : BitVec 6)
  | trpBlkReq (arms : BitVec 6)
  | tripFlagClear (hi : Bool) (v : Word)
  | hardLimitWrite (reg : HardLimitReg) (v : Word)
  | echoReplyReceived (port : Fin 96) (t2 : Nat)
  | dlyjump (port : Fin 96)
  | dlystale (port : Fin 96)
  | reportFrameReceived (port : Fin 96) (frame : LineFrame)
  | cellDeclaredLost (port : Fin 96)
  | helloOffer (port : Fin 96)
  | hello (port : Fin 96) (frame : LineFrame)
  | serviceFrameReceived (port : Fin 96) (frame : LineFrame)
  | serviceRetransmit (port : Fin 96) (seq : Fin 64)
  | alignmentFound (port : Fin 96)
  | alignmentLoss (port : Fin 96)
  | resyncTimeout (port : Fin 96)
  | retrain (j : Fin 3) (v : Word)
  | spkPortEnWrite (j : Fin 3) (v : Word)
  | spkRegisterWrite (offset : Fin 16384) (v : Word)
  | spkErrRead (which : Fin 3) (port : Fin 96)
  | spkSvcRead (port : Fin 96)
  | clusterBusOutput (a b c : BusOut)
  | resyncFreeze (verified : Bool)
  | rsreq (core : Fin 3)
  | takeout (core : Fin 3)
  | lbistComplete (core : Fin 3) (passed : Bool)
  | triReset (master : Fin 32)
  | voterTestComplete (failed : Option (Fin 42))
  | clusterImageReload (image : Image)
  | debugHaltRequest (hart : Fin 3)
  | timeCsrRead (core : Fin 3)
  | timehCsrRead (core : Fin 3)
  | tcirqpendWrite (core : Fin 3) (v : Word) (events : Word)
  | sqTailDoorbell (tenant : Fin 16) (sq : Fin 4) (v : Word)
  | cqHeadDoorbell (tenant : Fin 16) (ring : Fin 5) (v : Word)
  | descriptorFetch (bytes : List Byte)
  | readRegs (tenant : Fin 16) (sq : Fin 4) (dma : Bool)
  | readRegsSnapshot (tenant : Fin 16) (sq : Fin 4) (dma : Bool)
  | setpoint (tenant : Fin 16) (sq : Fin 4)
  | qsend (tenant : Fin 16) (sq : Fin 4) (data : List Byte) (dma : Bool)
  | qrecv (tenant : Fin 16) (sq : Fin 4) (dma : Bool)
  | timeDescriptor (tenant : Fin 16) (sq : Fin 4) (dma : Bool)
  | safetyDescriptor (tenant : Fin 16) (sq : Fin 4) (pdu : List Byte) (dma : Bool)
  | recordDescriptor (tenant : Fin 16) (sq : Fin 4)
  | imageDescriptor (tenant : Fin 16) (sq : Fin 4) (block : List Byte) (verdict : ImageVerdict) (dma : Bool)
  | mgcDefinedOperation (tenant : Fin 16) (sq : Fin 4)
  | mgcOperationComplete (tenant : Fin 16) (sq : Fin 4) (tag : BitVec 16) (status : Fin 8) (result : Word)
  | nopDescriptor (tenant : Fin 16) (sq : Fin 4)
  | cqCoalescingTimer (tenant : Fin 16) (cq : Fin 4)
  | attach (tenant : Fin 16) (vermap : BitVec 4)
  | detach (tenant : Fin 16)
  | hstTReset (tenant : Fin 16) (v : Word)
  | tenantResetComplete (tenant : Fin 16)
  | functionLevelReset (tenant : Fin 16)
  | ringEnableWrite (tenant : Fin 16) (ring : Fin 9) (v : Word)
  | tenantDmaFailure (tenant : Fin 16) (ring : Fin 9)
  | hstRegisterWrite (offset : Fin 16384) (v : Word)
  | backgroundTestStep (underAccess differs : Bool)
  | hamperWipe (cause : Fin 8)
  | hamperVerifyComplete (allZero : Bool)
  | push (master : Fin 32) (q : Fin 64) (v : Word)
  | close (master : Fin 32) (q : Fin 64) (v : Word)
  | pop (master : Fin 32) (q : Fin 64)
  | flush (q : Fin 64)
  | flushEffect (q : Fin 64)
  | skip (q : Fin 64)
  | queueReset (q : Fin 64)
  | queueResetComplete (q : Fin 64)
  | queAlloc (master : Fin 32)
  | queFree (master : Fin 32) (block : Fin 4096)
  | xferWrite (master : Fin 32) (q : Fin 64) (v : Word)
  | xferRead (master : Fin 32) (q : Fin 64)
  | faultReport (src : Fin 256) (info : Word) (access : Option ReportedAccess)
  | railPairInvalid (src : Fin 256) (stays : Bool)
  | escalationExpiry (src : Fin 256)
  | faultNReadbackMismatch (level : Bool)
  | fltAckWrite (j : Fin 8) (v : Word)
  | fltSrcClear (j : Fin 8) (v : Word)
  | fltForceWrite (master : Fin 32) (j : Fin 8) (v : Word)
  | arm (v : Word)
  | safetyPduReceived (conn : Fin 4) (carrier : Fin 3) (tenant : Fin 16) (pdu : List Byte)
  | safetyWatchdogExpiry (conn : Fin 4)
  | safetyConnectionEnWrite (conn : Fin 4) (en : Bool)
  | safeEnChange (closed : Bool)
  | safRegisterWrite (master : Fin 32) (offset : Fin 16384) (v : Word)
  | safReadCounters (which : SafCounter)
  | meteringSample (x : MeterSample)
  | upshift (k : Fin 4)
  | meteringPulse (j : Fin 2)
  | mtrClr (v : Word)
  | mtrCounterRead (which : Fin 6)
  | mtrRegisterWrite (offset : Fin 16384) (v : Word)
  | stationFrameReceived (port : Fin 2) (frame : List Byte) (fcsOk bothPorts : Bool)
  | ptpMessageReceived (domain : BitVec 8) (body : PtpBody) (stamp : Nat)
  | pdelayReqSend (stamp0 stamp1 : Nat)
  | gooseMessageReceived (stNum sqNum timeAllowedToLive : Nat)
  | gooseTalExpiry (sub : Fin 16)
  | gooseResend (pub : Fin 4)
  | svFrameReceived (asdus : List SvAsdu) (simulated : Bool)
  | svSampleDue (stream : Fin 8)
  | svPublish (stream : Fin 2)
  | stationLinkChange (port : Fin 2) (up : Bool)
  | netRegisterWrite (offset : Fin 16384) (v : Word)
  | netCounterRead (which : Fin 27)
  | laneAlignmentChange (lane : Fin 2) (event : LaneEvent)
  | pelotonTimeFrame (lane : Fin 2) (frame : LineFrame) (arrival : Nat)
  | summaryReceived (lane : Fin 2) (frame : LineFrame)
  | gridFrameReceived (lane : Fin 2) (frame : LineFrame)
  | pelotonBlockFrame (lane : Fin 2) (frame : LineFrame)
  | pelotonServiceFrame (lane : Fin 2) (frame : LineFrame) (content : PelService)
  | pelotonEcho (lane : Fin 2) (event : LaneEcho)
  | deviceUnheard (device : Fin 8)
  | pelRegisterWrite (offset : Fin 16384) (v : Word)
  | pelErrRead (lane : Fin 2)
  | cupThresholdCrossed (above : Bool)
  | gaugeMeasurement (cupMv jugMv : Nat)
  | jugCapacitanceMeasured (ms mv : Nat)
  | pwrRtcWrite (v : Word)
  | tamperSample (opens : BitVec 2)
  | railOutOfBand (rail : Fin 4) (out : Bool)
  | pwrRegisterWrite (offset : Fin 16384) (v : Word)
  | pllLockLoss (pll : Fin 3)
  | pllRelock (pll : Fin 3)
  | clkPll2CfgWrite (v : Word)
  | clkOutWrite (output : Fin 8) (v : Word)
  | clkPllStatRead (pll : Fin 3)
  | junctionTemperatureSample (tenths : BitVec 16)
  | boot (offers : ImageOffers)
  | bootRetry (offers : ImageOffers)
  | lcsTrans (v : Word)
  | lcsSelect (v : Word)
  | lcsConfirm (v : Word)
  | keyRevoke (slots : BitVec 4)
  | ageingMeasurement (drift0 drift1 : BitVec 16) (shift2 : Int) (drift3 : BitVec 16) (shift4 : Int)
  | registerWrite (a : FabricCommand)
  | comparatorIn (n : Fin 16) (level : Int)
  | blankingCapReached (n : Fin 16)
  | registerPairLoRead (master : Fin 32) (addr : Word)
  | kickstandAlignTimeout (port : Fin 96)
  | meteringPulseEnd (j : Fin 2)
  | imageSourceTimeout (offers : ImageOffers)
  | debugResume (request : HartRequest)
  | tickStart
  | acquireDeadline
  | solveDeadline
  | planFrameStart
  | apply
  | timingSetActivate
  | runSet
  | runClear
  | ticksStop
  | cadLock
  | cap
  | syncHoldoverTimeout
  | commit
  | converterSetCheck
  | samplingSetActivate
  | adcUrgCntRead
  | cleNop
  | cleEnd
  | waittRelease
  | writeQueueDrain
  | holdwClear
  | clePdataRead
  | mailboxCommit
  | mailboxCopy
  | cleEnClear
  | cycclr
  | cleImplStatRead
  | deferredWriteEffect
  | grdRestart
  | bsreq
  | observerLocked
  | observerLost
  | rejoin
  | shadowLock
  | freewheelTimeout
  | alignEnd
  | handover
  | blackstartTimeout
  | rtHoldExpiry
  | ageingHourEnd
  | baseline
  | edgWinCntRead
  | hlLock
  | trpHlLockRead
  | exportLimitTimeout
  | echo
  | serviceFrameSend
  | rate
  | kickstandPlan
  | takeoutEffect
  | gob
  | goc
  | setpointApply
  | linkReset
  | dispatchStale
  | backgroundTestStepTimeout
  | memEccCntRead
  | freeListRebuild
  | freeListRebuildComplete
  | cancel
  | fltLock
  | demand
  | spdTimeout
  | safLimitChangeEffect
  | safLock
  | meteringResult
  | meteringWindowEnd
  | snap
  | savenow
  | periodicSave
  | saveComplete
  | saveTimeout
  | callock
  | totlock
  | mtrStatRead
  | announceTimeout
  | activePortChange
  | goosePublish
  | safetyFrameReceived
  | supervisionFrameSend
  | generalFrameTransmit
  | summarySend
  | pelotonHello
  | leaderElection
  | vauxRise
  | powerOnReset
  | vauxLoss
  | earlyWarning
  | earlyWarningClear
  | ksreq
  | kickstandEntryComplete
  | wake
  | kickstandExitComplete
  | jugThresholdCrossed
  | rtcSecond
  | reverseCurrent
  | confirmTimeout
  | lcsLock
  | supplyReturn
  | pelotonServiceSend
deriving DecidableEq, Repr

end Sys2Proof
end

