-- ==== Sys2Proof/Config.lean ====
section
/-!
DEFINITION. What the spec leaves open: each value is an uninterpreted constant with no body, so that nothing in Lean can evaluate it and
every statement holds for each of its values. The log entries name them.
-/

namespace Sys2Proof.Config

/-- Which of the free blocks the pool takes (R361, R367 say only a free block): a number taken modulo how many are free (log 3). -/
opaque freeBlock : Nat → Nat

/-- Whether an exact result that a word cannot hold goes to the word above it, where the spec states no rounding (log 7). -/
opaque roundUp : Rat → Bool

/-- The word for an exact result outside its format, where the spec states none (log 7). -/
opaque outOfRange : Rat → Int

/-- The angle of a vector of length 0 (R113, R121, R144 form one; log 8). -/
opaque angleOfZero : Rat

/-! The grid functions (05) -/

/-- One step of the frequency-locked loop: gain, f_nom, interval, frequency, and per phase the error and the quadrature component
(R113; log 20). -/
opaque fll (gamma : Rat) (fnom dt : Nat) (w : Rat) (e qv : Rat × Rat × Rat) : Rat

/-- One step of the phase-locked loop: bandwidth in Hz, f_nom, interval, the positive-sequence vector, frequency, angle, integrator; the
new angle and integrator (R113; log 20). -/
opaque pll (bw fnom dt : Nat) (v : Rat × Rat) (w th integ : Rat) : Rat × Rat

/-- The quadrature component at a re-seeding from two samples no time apart (R121; log 20). -/
opaque reseedOpen (v0 v1 : Rat) : Rat

/-- ROCOF before the observer has run for ROCW (log 20). -/
opaque earlyRocof : Rat → Rat

/-- V_pre where no evaluation lies in the 50 ms before the entry (R148; log 20). -/
opaque vPreNone : Rat

/-- Z_tone where the tone current is 0, and IRAT where no unflagged window precedes (R141; log 20). -/
opaque zToneZero (v : Rat × Rat) : Rat × Rat
opaque iratFirst : Rat → Rat

/-- The master number of a CLE read of its own memories (R340 gives the CLE none; log 51). -/
opaque cleMaster : BitVec 5

/-! Tricycle (10) -/

/-- The word at place `place` of a core's state (R298) as its program leaves it when a debug halt or step stops core `x` for the `k`-th time
(log 158). -/
opaque coreWord (k x place : Nat) : Word

/-! Cell energy (06) -/

/-- The full scale in pu of an arm-current input that no comparator serves, AIN16 to AIN31 (R157; log 23). -/
opaque inputScale : Nat → Rat

/-- A quotient by 0 where the spec states none: the dividend (log 24). -/
opaque overZero : Rat → Rat

/-- A mean, least or greatest key of no cell (R162; log 24). -/
opaque ofNone : Nat → Rat

/-! Cadence (01) -/

/-- The 5-bit fraction of a capture of TIME (R8, R27; log 30). -/
opaque captureFraction : Nat → BitVec 5

/-- The frequency correction in 0.001 ppb that the servo forms from the last one and a measured offset in 78.125 ps units (R34, R36;
log 30). -/
opaque servo : Int → Int → Int

/-- How much of a phase correction a clock slews at most, in 10^−12 counts, by the correction left; never more than SLEW_MAX (R34, R35;
log 30). -/
opaque slewStep : Int → Nat

/-! The control engine (04) -/

/-- Where in the 4 LSB of SINCOS each of its two results lies, by the angle's word: a number taken modulo 9 (R83; log 31). -/
opaque cosOpen : Word → Nat
opaque sinOpen : Word → Nat

/-! The host interface (11) -/

/-- RESULT of an MGC operation that the tenant has no right to: what MGC firmware would give (R322, R325; log 33). -/
opaque mgcResult : Nat → BitVec 32

/-! Revenue metering (15) -/

/-- The taps of the fractional-delay filter for a delay in sample intervals: the weight of the sample `k` intervals old (R423; log 34). -/
opaque delayTap : Rat → Nat → Rat

/-- The taps of the filter that shifts a voltage by −90°: the weight of the sample `k` intervals old (R427; log 34). -/
opaque quadTap : Nat → Rat

/-! The fault collector (13) -/

/-- The INFO word of a source that latches because its rail pair is invalid, where R389 does not give that source INFO 0 (R377, R378;
log 133). -/
opaque railInfo (source : Nat) : Word

/-! The station network (16) -/

/-- The ports on which a frame leaves under RED 0 where the spec names none: bit p for port p (R441; log 35). -/
opaque stationPorts : Nat → Nat

/-- The residence time of a forwarded PTP message, in 78.125 ps units (R446; log 35). -/
opaque residence : Nat → Nat


/-- The factory baselines of ageing monitor 2, a delay-line trim mean, and of monitor 4, the CONV_OFS of each converter, in 1/256: factory data
that the spec does not give (R527; log 131). -/
opaque trimBaseline : Int
opaque offsetBaseline (converter : Nat) : Int

end Sys2Proof.Config
end

