-- ==== Sys2Proof/Machine/RegMap.lean ====
section
/-!
DEFINITION. The register map of the device: every register field of the register tables of spec/ under its own name (as a Fld: address,
low bit, width), and per block the table of its registers with access types (R6), reset values and legal encodings.
The reset values and the encodings called valid or reserved are those of the register tables; the tables' chapters are named by block:
SYS 00 and 02, CLK and PWR 18, CAD 01, ADC 03, MTR 15, CLE 04, GRD 05, CEL 06, EDG and PWM 07, TRP 08, SPK 09, PEL 17, TRI 10, HST 11,
QUE and MEM 12, FLT 13, SAF 14, NET 16, LCS and AGE 19; BAR0 holds each tenant's registers of 11.
-/

namespace Sys2Proof.Machine

/-- The access types of R6. -/
inductive Access where
  | RW | RO | W1C | W1S | WO | RC | LK
deriving DecidableEq, Repr

/-- A field's reset value, from its register table: one value, the register's index, a word that is not valid with CHAN = index (R65),
or one value per index. -/
inductive ResetVal where
  | const (n : Nat)
  | index
  | nvChan
  | listed (l : List Nat)
deriving DecidableEq, Repr

/-- One row of a register table. `legal` lists the ranges the table calls valid; empty when it names no reserved encoding. -/
structure FieldRow where
  lo : Nat
  width : Nat
  acc : Access
  rst : ResetVal
  legal : List (Nat × Nat)
deriving DecidableEq, Repr

/-- One register, or an array of `count` registers `stride` bytes apart. -/
structure RegRow where
  base : Nat
  count : Nat
  stride : Nat
  fields : List FieldRow
deriving DecidableEq, Repr

namespace Reg

def SYS_PART_ID_PART : Fld := ⟨0x40000000, 16, 16⟩
def SYS_PART_ID_GRADE : Fld := ⟨0x40000000, 12, 4⟩
def SYS_PART_ID_STEP : Fld := ⟨0x40000000, 8, 4⟩
def SYS_CONV_CTRL_COMMIT : Fld := ⟨0x40000100, 0, 1⟩
def SYS_CONV_STAT_ERRIDX : Fld := ⟨0x40000104, 16, 7⟩
def SYS_CONV_STAT_ERRCODE : Fld := ⟨0x40000104, 8, 4⟩
def SYS_CONV_STAT_CFGERR : Fld := ⟨0x40000104, 2, 1⟩
def SYS_CONV_STAT_PEND : Fld := ⟨0x40000104, 1, 1⟩
def SYS_CONV_STAT_ACTIVE : Fld := ⟨0x40000104, 0, 1⟩
def SYS_TOPO_FNOM : Fld := ⟨0x40000108, 4, 1⟩
def SYS_TOPO_TOPO : Fld := ⟨0x40000108, 0, 3⟩
def SYS_BASE_V_VALUE : Fld := ⟨0x4000010c, 0, 32⟩
def SYS_BASE_S_VALUE : Fld := ⟨0x40000110, 0, 32⟩
def SYS_BASE_VDC_VALUE : Fld := ⟨0x40000114, 0, 32⟩
def SYS_VMAX_VMAX : Fld := ⟨0x40000118, 0, 11⟩
def SYS_ARM_CFG_NCELL (i : Nat) : Fld := ⟨0x40000120 + 4 * i, 16, 9⟩
def SYS_ARM_CFG_K (i : Nat) : Fld := ⟨0x40000120 + 4 * i, 0, 8⟩
def SYS_ARM_STAT_VRES_LOW (i : Nat) : Fld := ⟨0x40000140 + 4 * i, 31, 1⟩
def SYS_ARM_STAT_EXHAUST (i : Nat) : Fld := ⟨0x40000140 + 4 * i, 30, 1⟩
def SYS_ARM_STAT_BYPASSED (i : Nat) : Fld := ⟨0x40000140 + 4 * i, 16, 9⟩
def SYS_ARM_STAT_LOCAL (i : Nat) : Fld := ⟨0x40000140 + 4 * i, 0, 9⟩
def SYS_PORT_MAP_CELL (i : Nat) : Fld := ⟨0x40000200 + 4 * i, 0, 7⟩
def SYS_CELL_CFG_VNOM (i : Nat) : Fld := ⟨0x40000400 + 4 * i, 16, 16⟩
def SYS_CELL_CFG_ARM (i : Nat) : Fld := ⟨0x40000400 + 4 * i, 4, 3⟩
def SYS_CELL_CFG_LEGS (i : Nat) : Fld := ⟨0x40000400 + 4 * i, 3, 1⟩
def SYS_CELL_CFG_KIND (i : Nat) : Fld := ⟨0x40000400 + 4 * i, 1, 2⟩
def SYS_CELL_CFG_EN (i : Nat) : Fld := ⟨0x40000400 + 4 * i, 0, 1⟩
def SYS_CELL_CAP_CAP (i : Nat) : Fld := ⟨0x40000600 + 4 * i, 0, 16⟩
def CLK_REF_SSCHOLD : Fld := ⟨0x40010000, 8, 1⟩
def CLK_REF_REFOK : Fld := ⟨0x40010000, 4, 1⟩
def CLK_REF_CFGERR : Fld := ⟨0x40010000, 3, 1⟩
def CLK_REF_XBYP : Fld := ⟨0x40010000, 0, 1⟩
def CLK_PLL0_CFG_LOCK : Fld := ⟨0x40010010, 31, 1⟩
def CLK_PLL0_CFG_EN : Fld := ⟨0x40010010, 30, 1⟩
def CLK_PLL0_CFG_REFSEL : Fld := ⟨0x40010010, 24, 2⟩
def CLK_PLL0_CFG_N : Fld := ⟨0x40010010, 0, 9⟩
def CLK_PLL_STAT_UNLOCK (i : Nat) : Fld := ⟨0x40010014 + 16 * i, 8, 1⟩
def CLK_PLL_STAT_LOSS (i : Nat) : Fld := ⟨0x40010014 + 16 * i, 0, 8⟩
def CLK_PLL1_CFG_LOCK : Fld := ⟨0x40010020, 31, 1⟩
def CLK_PLL1_CFG_EN : Fld := ⟨0x40010020, 30, 1⟩
def CLK_PLL1_CFG_REFSEL : Fld := ⟨0x40010020, 24, 2⟩
def CLK_PLL1_CFG_SSC : Fld := ⟨0x40010020, 22, 2⟩
def CLK_PLL1_CFG_DEPTH : Fld := ⟨0x40010020, 16, 6⟩
def CLK_PLL1_CFG_N : Fld := ⟨0x40010020, 0, 9⟩
def CLK_PLL2_CFG_LOCK : Fld := ⟨0x40010030, 31, 1⟩
def CLK_PLL2_CFG_EN : Fld := ⟨0x40010030, 30, 1⟩
def CLK_PLL2_CFG_REFSEL : Fld := ⟨0x40010030, 24, 2⟩
def CLK_PLL2_CFG_SSC : Fld := ⟨0x40010030, 22, 2⟩
def CLK_PLL2_CFG_DEPTH : Fld := ⟨0x40010030, 16, 6⟩
def CLK_PLL2_CFG_N : Fld := ⟨0x40010030, 0, 9⟩
def CLK_OUT_EN (i : Nat) : Fld := ⟨0x40010100 + 4 * i, 31, 1⟩
def CLK_OUT_ON (i : Nat) : Fld := ⟨0x40010100 + 4 * i, 30, 1⟩
def CLK_OUT_DLY (i : Nat) : Fld := ⟨0x40010100 + 4 * i, 16, 6⟩
def CLK_OUT_DIV (i : Nat) : Fld := ⟨0x40010100 + 4 * i, 0, 12⟩
def PWR_CTRL_KSREQ : Fld := ⟨0x40020000, 8, 1⟩
def PWR_CTRL_JUGMODE : Fld := ⟨0x40020000, 4, 2⟩
def PWR_CTRL_JUGCHG : Fld := ⟨0x40020000, 2, 1⟩
def PWR_CTRL_CSEN : Fld := ⟨0x40020000, 1, 1⟩
def PWR_STAT_WAKECAUSE : Fld := ⟨0x40020004, 28, 4⟩
def PWR_STAT_RAILOK : Fld := ⟨0x40020004, 24, 4⟩
def PWR_STAT_PENDWAKE : Fld := ⟨0x40020004, 18, 6⟩
def PWR_STAT_KSREF : Fld := ⟨0x40020004, 17, 1⟩
def PWR_STAT_EW : Fld := ⟨0x40020004, 16, 1⟩
def PWR_STAT_VAUXOK : Fld := ⟨0x40020004, 15, 1⟩
def PWR_STAT_RPGON : Fld := ⟨0x40020004, 14, 1⟩
def PWR_STAT_EWACT : Fld := ⟨0x40020004, 13, 1⟩
def PWR_STAT_SRC : Fld := ⟨0x40020004, 12, 1⟩
def PWR_STAT_STATE : Fld := ⟨0x40020004, 0, 3⟩
def PWR_EW_EWHYS : Fld := ⟨0x40020008, 16, 8⟩
def PWR_EW_EWTH : Fld := ⟨0x40020008, 0, 9⟩
def PWR_GAUGE_CUP_TREND : Fld := ⟨0x40020010, 16, 16⟩
def PWR_GAUGE_CUP_ENERGY : Fld := ⟨0x40020010, 0, 16⟩
def PWR_GAUGE_JUG_TREND : Fld := ⟨0x40020014, 20, 12⟩
def PWR_GAUGE_JUG_ENERGY : Fld := ⟨0x40020014, 0, 20⟩
def PWR_JUG_CFG_CJUG : Fld := ⟨0x40020018, 16, 16⟩
def PWR_JUG_CFG_VJMAX : Fld := ⟨0x40020018, 8, 8⟩
def PWR_JUG_CFG_ICHG : Fld := ⟨0x40020018, 0, 8⟩
def PWR_JUG_LIM_JWAKE : Fld := ⟨0x4002001c, 16, 16⟩
def PWR_JUG_LIM_JRUNMIN : Fld := ⟨0x4002001c, 0, 16⟩
def PWR_JUG_KS_JKSMIN : Fld := ⟨0x40020020, 0, 16⟩
def PWR_JUG_CMEAS_VALID : Fld := ⟨0x40020024, 16, 1⟩
def PWR_JUG_CMEAS_C : Fld := ⟨0x40020024, 0, 16⟩
def PWR_WAKE_WEN : Fld := ⟨0x40020028, 0, 6⟩
def PWR_RTC_SECONDS : Fld := ⟨0x4002002c, 0, 32⟩
def PWR_RTC_ALARM_SECONDS : Fld := ⟨0x40020030, 0, 32⟩
def PWR_TAMP_OPEN : Fld := ⟨0x40020034, 8, 2⟩
def PWR_TAMP_EN : Fld := ⟨0x40020034, 0, 2⟩
def PWR_TJ_MAX : Fld := ⟨0x40020038, 16, 16⟩
def PWR_TJ_TJ : Fld := ⟨0x40020038, 0, 16⟩
def CAD_CTRL_LOCK : Fld := ⟨0x40030000, 31, 1⟩
def CAD_CTRL_HOLDLIM : Fld := ⟨0x40030000, 4, 3⟩
def CAD_CTRL_ALIGN : Fld := ⟨0x40030000, 2, 1⟩
def CAD_CTRL_APPLY : Fld := ⟨0x40030000, 1, 1⟩
def CAD_CTRL_RUN : Fld := ⟨0x40030000, 0, 1⟩
def CAD_PERIOD_PERIOD : Fld := ⟨0x40030004, 0, 16⟩
def CAD_DL_ACQ_DL : Fld := ⟨0x40030008, 0, 16⟩
def CAD_DL_SOLVE_DL : Fld := ⟨0x4003000c, 0, 16⟩
def CAD_DL_PLAN_DL : Fld := ⟨0x40030010, 0, 16⟩
def CAD_DL_DISP_DL : Fld := ⟨0x40030014, 0, 16⟩
def CAD_APPLY_DLY_DLY : Fld := ⟨0x40030018, 0, 12⟩
def CAD_TICK_PHASE_PHASE : Fld := ⟨0x4003001c, 0, 16⟩
def CAD_STAT_SYNC : Fld := ⟨0x40030020, 16, 3⟩
def CAD_STAT_STEPPEND : Fld := ⟨0x40030020, 13, 1⟩
def CAD_STAT_HOLDBLK : Fld := ⟨0x40030020, 12, 1⟩
def CAD_STAT_HOLDCNT : Fld := ⟨0x40030020, 8, 3⟩
def CAD_STAT_CFGERR : Fld := ⟨0x40030020, 5, 1⟩
def CAD_STAT_PEND : Fld := ⟨0x40030020, 4, 1⟩
def CAD_STAT_PHASE : Fld := ⟨0x40030020, 0, 2⟩
def CAD_TICK_TICK : Fld := ⟨0x40030024, 0, 32⟩
def CAD_TIME_LO_TIME : Fld := ⟨0x40030028, 0, 32⟩
def CAD_TIME_HI_TIME : Fld := ⟨0x4003002c, 0, 32⟩
def CAD_CAP_CTRL_CAP : Fld := ⟨0x40030030, 0, 1⟩
def CAD_CAP_LO_TIME : Fld := ⟨0x40030034, 0, 32⟩
def CAD_CAP_HI_TIME : Fld := ⟨0x40030038, 0, 32⟩
def CAD_CAP_FRAC_TICK : Fld := ⟨0x4003003c, 16, 16⟩
def CAD_CAP_FRAC_PHASE : Fld := ⟨0x4003003c, 8, 2⟩
def CAD_CAP_FRAC_FRAC : Fld := ⟨0x4003003c, 0, 5⟩
def CAD_OVR_SOLVE_COUNT : Fld := ⟨0x40030040, 0, 32⟩
def CAD_OVR_PLAN_COUNT : Fld := ⟨0x40030044, 0, 32⟩
def CAD_OVR_DISP_COUNT : Fld := ⟨0x40030048, 0, 32⟩
def CAD_OVR_TICK_TICK : Fld := ⟨0x4003004c, 0, 32⟩
def CAD_SYNC_SLEW_MAX : Fld := ⟨0x40030050, 16, 8⟩
def CAD_SYNC_STEP_TH : Fld := ⟨0x40030050, 8, 8⟩
def CAD_SYNC_STEPEN : Fld := ⟨0x40030050, 2, 1⟩
def CAD_SYNC_SRC : Fld := ⟨0x40030050, 0, 2⟩
def CAD_FREQ_ADJ_FADJ : Fld := ⟨0x40030054, 0, 32⟩
def CAD_OFFSET_OFFSET : Fld := ⟨0x40030058, 0, 32⟩
def ADC_CTRL_MODE : Fld := ⟨0x40040000, 16, 2⟩
def ADC_CTRL_BGCAL : Fld := ⟨0x40040000, 8, 1⟩
def ADC_CTRL_CONV_EN : Fld := ⟨0x40040000, 0, 8⟩
def ADC_INST_OFS (i : Nat) : Fld := ⟨0x40040004 + 4 * i, 0, 16⟩
def ADC_STAT_PEND : Fld := ⟨0x4004000c, 17, 1⟩
def ADC_STAT_CFGERR : Fld := ⟨0x4004000c, 16, 1⟩
def ADC_STAT_CALBUSY : Fld := ⟨0x4004000c, 8, 8⟩
def ADC_STAT_CONVFLT : Fld := ⟨0x4004000c, 0, 8⟩
def ADC_PAIR_SEQ_NSLOT (i : Nat) : Fld := ⟨0x40040010 + 4 * i, 16, 3⟩
def ADC_PAIR_SEQ_SLOT (i : Nat) : Fld := ⟨0x40040010 + 4 * i, 0, 16⟩
def ADC_URG_REQ_GO : Fld := ⟨0x40040020, 31, 1⟩
def ADC_URG_REQ_CHAN : Fld := ⟨0x40040020, 0, 5⟩
def ADC_URG_CNT_DROP : Fld := ⟨0x40040024, 16, 16⟩
def ADC_URG_CNT_DISP : Fld := ⟨0x40040024, 0, 16⟩
def ADC_CONV_OFS_OFS (i : Nat) : Fld := ⟨0x40040040 + 4 * i, 0, 16⟩
def ADC_URG_RES_RESULT (i : Nat) : Fld := ⟨0x40040060 + 4 * i, 0, 32⟩
def ADC_URG_TS_TIME (i : Nat) : Fld := ⟨0x40040080 + 4 * i, 0, 32⟩
def ADC_CH_CFG_RESTART (i : Nat) : Fld := ⟨0x40040100 + 4 * i, 31, 1⟩
def ADC_CH_CFG_LEN (i : Nat) : Fld := ⟨0x40040100 + 4 * i, 8, 8⟩
def ADC_CH_CFG_ORDER (i : Nat) : Fld := ⟨0x40040100 + 4 * i, 0, 3⟩
def ADC_CAL_GAIN (i : Nat) : Fld := ⟨0x40040180 + 4 * i, 16, 16⟩
def ADC_CAL_CH_OFS (i : Nat) : Fld := ⟨0x40040180 + 4 * i, 0, 16⟩
def ADC_RAW_RESULT (i : Nat) : Fld := ⟨0x40040200 + 4 * i, 0, 32⟩
def ADC_FILT_RESULT (i : Nat) : Fld := ⟨0x40040280 + 4 * i, 0, 32⟩
def MTR_CTRL_CALLOCK : Fld := ⟨0x40050000, 31, 1⟩
def MTR_CTRL_TOTLOCK : Fld := ⟨0x40050000, 30, 1⟩
def MTR_CTRL_SAVENOW : Fld := ⟨0x40050000, 9, 1⟩
def MTR_CTRL_SNAP : Fld := ⟨0x40050000, 8, 1⟩
def MTR_CTRL_DERAIL : Fld := ⟨0x40050000, 3, 1⟩
def MTR_CTRL_WIRING : Fld := ⟨0x40050000, 1, 2⟩
def MTR_CTRL_EN : Fld := ⟨0x40050000, 0, 1⟩
def MTR_STAT_SNAPRDY : Fld := ⟨0x40050004, 31, 1⟩
def MTR_STAT_SAVEBUSY : Fld := ⟨0x40050004, 30, 1⟩
def MTR_STAT_SAVEERR : Fld := ⟨0x40050004, 29, 1⟩
def MTR_STAT_RESTERR : Fld := ⟨0x40050004, 28, 1⟩
def MTR_STAT_OVL : Fld := ⟨0x40050004, 8, 8⟩
def MTR_STAT_CHFLT : Fld := ⟨0x40050004, 0, 8⟩
def MTR_GAIN_G : Fld := ⟨0x40050008, 0, 8⟩
def MTR_DER_CFG_HOLD : Fld := ⟨0x4005000c, 16, 8⟩
def MTR_DER_CFG_DNTH : Fld := ⟨0x4005000c, 8, 8⟩
def MTR_DER_CFG_UPTH : Fld := ⟨0x4005000c, 0, 8⟩
def MTR_DER_CNT_UP (i : Nat) : Fld := ⟨0x40050010 + 4 * i, 16, 16⟩
def MTR_DER_CNT_DN (i : Nat) : Fld := ⟨0x40050010 + 4 * i, 0, 16⟩
def MTR_SAVE_SAVEINT : Fld := ⟨0x40050020, 0, 16⟩
def MTR_CLR_KEY : Fld := ⟨0x40050024, 0, 8⟩
def MTR_PLS_CFG_EN (i : Nat) : Fld := ⟨0x40050030 + 16 * i, 31, 1⟩
def MTR_PLS_CFG_PW (i : Nat) : Fld := ⟨0x40050030 + 16 * i, 8, 8⟩
def MTR_PLS_CFG_POL (i : Nat) : Fld := ⟨0x40050030 + 16 * i, 6, 1⟩
def MTR_PLS_CFG_ELEM (i : Nat) : Fld := ⟨0x40050030 + 16 * i, 4, 2⟩
def MTR_PLS_CFG_QTY (i : Nat) : Fld := ⟨0x40050030 + 16 * i, 0, 3⟩
def MTR_PLS_THR_LO_THR (i : Nat) : Fld := ⟨0x40050034 + 16 * i, 0, 32⟩
def MTR_PLS_THR_HI_THR (i : Nat) : Fld := ⟨0x40050038 + 16 * i, 0, 16⟩
def MTR_PLS_CNT_PEND (i : Nat) : Fld := ⟨0x4005003c + 16 * i, 24, 8⟩
def MTR_PLS_CNT_LOST (i : Nat) : Fld := ⟨0x4005003c + 16 * i, 16, 8⟩
def MTR_VCAL_G (i : Nat) : Fld := ⟨0x40050080 + 4 * i, 16, 16⟩
def MTR_VCAL_D (i : Nat) : Fld := ⟨0x40050080 + 4 * i, 0, 16⟩
def MTR_USR_G (i : Nat) : Fld := ⟨0x400500a0 + 4 * i, 16, 16⟩
def MTR_USR_D (i : Nat) : Fld := ⟨0x400500a0 + 4 * i, 0, 16⟩
def MTR_SEGB_B (i j : Nat) : Fld := ⟨0x40050100 + 64 * i + 4 * j, 0, 16⟩
def MTR_SEGC_G (i j : Nat) : Fld := ⟨0x40050120 + 64 * i + 4 * j, 16, 16⟩
def MTR_SEGC_D (i j : Nat) : Fld := ⟨0x40050120 + 64 * i + 4 * j, 0, 16⟩
def MTR_RMS_VALUE (i : Nat) : Fld := ⟨0x40050200 + 4 * i, 0, 32⟩
def MTR_PQS_VALUE (i j : Nat) : Fld := ⟨0x40050220 + 16 * i + 4 * j, 0, 32⟩
def MTR_ACC_LO_COUNT (i j : Nat) : Fld := ⟨0x40050400 + 64 * i + 8 * j, 0, 32⟩
def MTR_ACC_HI_COUNT (i j : Nat) : Fld := ⟨0x40050404 + 64 * i + 8 * j, 0, 32⟩
def MTR_SNAP_LO_COUNT (i j : Nat) : Fld := ⟨0x40050500 + 64 * i + 8 * j, 0, 32⟩
def MTR_SNAP_HI_COUNT (i j : Nat) : Fld := ⟨0x40050504 + 64 * i + 8 * j, 0, 32⟩
def CLE_CTRL_CYCCLR : Fld := ⟨0x40060000, 3, 1⟩
def CLE_CTRL_SUPEN : Fld := ⟨0x40060000, 2, 1⟩
def CLE_CTRL_HOLDW : Fld := ⟨0x40060000, 1, 1⟩
def CLE_CTRL_EN : Fld := ⟨0x40060000, 0, 1⟩
def CLE_STAT_WQLVL : Fld := ⟨0x40060004, 16, 7⟩
def CLE_STAT_PWERR : Fld := ⟨0x40060004, 9, 1⟩
def CLE_STAT_WQOVF : Fld := ⟨0x40060004, 8, 1⟩
def CLE_STAT_UNDEF : Fld := ⟨0x40060004, 4, 1⟩
def CLE_STAT_DONE : Fld := ⟨0x40060004, 3, 1⟩
def CLE_STAT_STATE : Fld := ⟨0x40060004, 0, 2⟩
def CLE_ENTRY_ENTRY : Fld := ⟨0x40060008, 0, 14⟩
def CLE_CYC_MAX : Fld := ⟨0x4006000c, 16, 16⟩
def CLE_CYC_LAST : Fld := ⟨0x4006000c, 0, 16⟩
def CLE_UNDEF_PC_TICK : Fld := ⟨0x40060010, 16, 16⟩
def CLE_UNDEF_PC_PAST : Fld := ⟨0x40060010, 14, 1⟩
def CLE_UNDEF_PC_PC : Fld := ⟨0x40060010, 0, 14⟩
def CLE_UNDEF_INSN_INSN : Fld := ⟨0x40060014, 0, 32⟩
def CLE_SAT_CNT_COUNT : Fld := ⟨0x40060018, 0, 32⟩
def CLE_DZ_CNT_COUNT : Fld := ⟨0x4006001c, 0, 32⟩
def CLE_PADDR_ADDR : Fld := ⟨0x40060020, 0, 14⟩
def CLE_PDATA_INSN : Fld := ⟨0x40060024, 0, 32⟩
def CLE_MBX_CTRL_PEND : Fld := ⟨0x40060028, 1, 1⟩
def CLE_MBX_CTRL_COMMIT : Fld := ⟨0x40060028, 0, 1⟩
def CLE_IMPL_STAT_COUNT : Fld := ⟨0x4006002c, 16, 16⟩
def CLE_IMPL_STAT_OBJ : Fld := ⟨0x4006002c, 0, 8⟩
def CLE_IMPL_OBJ (i : Nat) : Fld := ⟨0x40060040 + 4 * i, 0, 32⟩
def GRD_CTRL_RTSEL : Fld := ⟨0x40070000, 12, 1⟩
def GRD_CTRL_ISLACT : Fld := ⟨0x40070000, 10, 2⟩
def GRD_CTRL_FWACT : Fld := ⟨0x40070000, 8, 2⟩
def GRD_CTRL_RESTART : Fld := ⟨0x40070000, 5, 1⟩
def GRD_CTRL_BSREQ : Fld := ⟨0x40070000, 4, 1⟩
def GRD_CTRL_TONEEN : Fld := ⟨0x40070000, 2, 1⟩
def GRD_CTRL_FORM : Fld := ⟨0x40070000, 1, 1⟩
def GRD_CTRL_EN : Fld := ⟨0x40070000, 0, 1⟩
def GRD_STAT_CFGERR : Fld := ⟨0x40070004, 22, 1⟩
def GRD_STAT_BSABT : Fld := ⟨0x40070004, 21, 1⟩
def GRD_STAT_BSREF : Fld := ⟨0x40070004, 20, 1⟩
def GRD_STAT_CAUSE : Fld := ⟨0x40070004, 16, 4⟩
def GRD_STAT_SHADOW : Fld := ⟨0x40070004, 14, 1⟩
def GRD_STAT_ZOPEN : Fld := ⟨0x40070004, 13, 1⟩
def GRD_STAT_ZVALID : Fld := ⟨0x40070004, 12, 1⟩
def GRD_STAT_WEAK : Fld := ⟨0x40070004, 11, 1⟩
def GRD_STAT_ADV : Fld := ⟨0x40070004, 10, 1⟩
def GRD_STAT_RT : Fld := ⟨0x40070004, 8, 2⟩
def GRD_STAT_BSPH : Fld := ⟨0x40070004, 6, 2⟩
def GRD_STAT_OBS : Fld := ⟨0x40070004, 4, 2⟩
def GRD_STAT_MODE : Fld := ⟨0x40070004, 0, 3⟩
def GRD_VIN_SCALE : Fld := ⟨0x40070008, 22, 10⟩
def GRD_VIN_LL : Fld := ⟨0x40070008, 21, 1⟩
def GRD_VIN_C : Fld := ⟨0x40070008, 16, 5⟩
def GRD_VIN_B : Fld := ⟨0x40070008, 8, 5⟩
def GRD_VIN_A : Fld := ⟨0x40070008, 0, 5⟩
def GRD_IIN_SCALE : Fld := ⟨0x4007000c, 22, 10⟩
def GRD_IIN_TWO : Fld := ⟨0x4007000c, 21, 1⟩
def GRD_IIN_C : Fld := ⟨0x4007000c, 16, 5⟩
def GRD_IIN_B : Fld := ⟨0x4007000c, 8, 5⟩
def GRD_IIN_A : Fld := ⟨0x4007000c, 0, 5⟩
def GRD_ZIN_SCALE : Fld := ⟨0x40070010, 22, 10⟩
def GRD_ZIN_SAME : Fld := ⟨0x40070010, 21, 1⟩
def GRD_ZIN_C : Fld := ⟨0x40070010, 16, 5⟩
def GRD_ZIN_B : Fld := ⟨0x40070010, 8, 5⟩
def GRD_ZIN_A : Fld := ⟨0x40070010, 0, 5⟩
def GRD_REFPT_OFS : Fld := ⟨0x40070014, 0, 16⟩
def GRD_OBS_CFG_ROCW : Fld := ⟨0x40070018, 24, 8⟩
def GRD_OBS_CFG_BW : Fld := ⟨0x40070018, 16, 8⟩
def GRD_OBS_CFG_GAMMA : Fld := ⟨0x40070018, 8, 8⟩
def GRD_OBS_CFG_K : Fld := ⟨0x40070018, 0, 8⟩
def GRD_OBS_LIM_LOSSBAND : Fld := ⟨0x4007001c, 24, 8⟩
def GRD_OBS_LIM_ERRBAND : Fld := ⟨0x4007001c, 16, 8⟩
def GRD_OBS_LIM_VLOSS : Fld := ⟨0x4007001c, 8, 8⟩
def GRD_OBS_LIM_VMIN : Fld := ⟨0x4007001c, 0, 8⟩
def GRD_OBS_CNT_REJOIN_N : Fld := ⟨0x40070020, 16, 16⟩
def GRD_OBS_CNT_LOCK_N : Fld := ⟨0x40070020, 0, 16⟩
def GRD_FBAND_FMAX : Fld := ⟨0x40070024, 16, 16⟩
def GRD_FBAND_FMIN : Fld := ⟨0x40070024, 0, 16⟩
def GRD_FW_CFG_VREACQ : Fld := ⟨0x40070028, 24, 8⟩
def GRD_FW_CFG_REJANG : Fld := ⟨0x40070028, 16, 8⟩
def GRD_FW_CFG_FWROC : Fld := ⟨0x40070028, 8, 8⟩
def GRD_FW_CFG_LOSS_N : Fld := ⟨0x40070028, 0, 8⟩
def GRD_FW_TMO_SLEW : Fld := ⟨0x4007002c, 16, 16⟩
def GRD_FW_TMO_TMO : Fld := ⟨0x4007002c, 0, 16⟩
def GRD_VSM_HD_D : Fld := ⟨0x40070030, 16, 16⟩
def GRD_VSM_HD_H : Fld := ⟨0x40070030, 0, 16⟩
def GRD_VSM_DROOP_KQ : Fld := ⟨0x40070034, 16, 16⟩
def GRD_VSM_DROOP_RF : Fld := ⟨0x40070034, 0, 16⟩
def GRD_PSET_VALUE : Fld := ⟨0x40070038, 0, 32⟩
def GRD_QSET_VALUE : Fld := ⟨0x4007003c, 0, 32⟩
def GRD_VSET_VALUE : Fld := ⟨0x40070040, 0, 32⟩
def GRD_FSET_VALUE : Fld := ⟨0x40070044, 0, 32⟩
def GRD_IMAX_VALUE : Fld := ⟨0x40070048, 0, 32⟩
def GRD_MLIM_MLIM : Fld := ⟨0x4007004c, 0, 16⟩
def GRD_BS_ANG_TALIGN : Fld := ⟨0x40070050, 16, 16⟩
def GRD_BS_ANG_ANG : Fld := ⟨0x40070050, 0, 16⟩
def GRD_BS_RAMP_FRAMP : Fld := ⟨0x40070054, 16, 16⟩
def GRD_BS_RAMP_VRAMP : Fld := ⟨0x40070054, 0, 16⟩
def GRD_BS_F0_TMO : Fld := ⟨0x40070058, 16, 16⟩
def GRD_BS_F0_F0 : Fld := ⟨0x40070058, 0, 16⟩
def GRD_BS_HAND_NGOOD : Fld := ⟨0x4007005c, 16, 16⟩
def GRD_BS_HAND_FBAND : Fld := ⟨0x4007005c, 8, 8⟩
def GRD_BS_HAND_VHAND : Fld := ⟨0x4007005c, 0, 8⟩
def GRD_BS_T0_LO_T0 : Fld := ⟨0x40070060, 0, 32⟩
def GRD_BS_T0_HI_T0 : Fld := ⟨0x40070064, 0, 32⟩
def GRD_TONE_AMP : Fld := ⟨0x40070068, 16, 8⟩
def GRD_TONE_FREQ : Fld := ⟨0x40070068, 0, 9⟩
def GRD_Z_R_VALUE : Fld := ⟨0x4007006c, 0, 32⟩
def GRD_Z_X_VALUE : Fld := ⟨0x40070070, 0, 32⟩
def GRD_Z_STAT_IRAT : Fld := ⟨0x40070074, 24, 8⟩
def GRD_Z_STAT_NEST : Fld := ⟨0x40070074, 16, 8⟩
def GRD_Z_STAT_SCR : Fld := ⟨0x40070074, 0, 16⟩
def GRD_Z_LIM_XMIN : Fld := ⟨0x40070078, 16, 8⟩
def GRD_Z_LIM_ZIMIN : Fld := ⟨0x40070078, 8, 8⟩
def GRD_Z_LIM_SCRMIN : Fld := ⟨0x40070078, 0, 8⟩
def GRD_ISL_EN_TEST : Fld := ⟨0x4007007c, 0, 6⟩
def GRD_ISL_ROC_TIME : Fld := ⟨0x40070080, 16, 16⟩
def GRD_ISL_ROC_THR : Fld := ⟨0x40070080, 0, 16⟩
def GRD_ISL_VS_THR : Fld := ⟨0x40070084, 0, 16⟩
def GRD_ISL_VWIN_TIME : Fld := ⟨0x40070088, 16, 16⟩
def GRD_ISL_VWIN_VHI : Fld := ⟨0x40070088, 8, 8⟩
def GRD_ISL_VWIN_VLO : Fld := ⟨0x40070088, 0, 8⟩
def GRD_ISL_FWIN_TIME : Fld := ⟨0x4007008c, 16, 16⟩
def GRD_ISL_FWIN_FHI : Fld := ⟨0x4007008c, 8, 8⟩
def GRD_ISL_FWIN_FLO : Fld := ⟨0x4007008c, 0, 8⟩
def GRD_ISL_STAT_TEST : Fld := ⟨0x40070090, 0, 6⟩
def GRD_RT_CFG_K2 : Fld := ⟨0x40070094, 24, 8⟩
def GRD_RT_CFG_K : Fld := ⟨0x40070094, 16, 8⟩
def GRD_RT_CFG_OVENT : Fld := ⟨0x40070094, 8, 8⟩
def GRD_RT_CFG_UVENT : Fld := ⟨0x40070094, 0, 8⟩
def GRD_RT_TIM_PRAMP : Fld := ⟨0x40070098, 16, 16⟩
def GRD_RT_TIM_HOLD : Fld := ⟨0x40070098, 0, 16⟩
def GRD_FW_CNT_REJOIN : Fld := ⟨0x4007009c, 16, 16⟩
def GRD_FW_CNT_ENTRY : Fld := ⟨0x4007009c, 0, 16⟩
def GRD_EVT_TICK_TICK : Fld := ⟨0x400700a0, 0, 32⟩
def GRD_PADV_ADV (i : Nat) : Fld := ⟨0x40070100 + 4 * i, 0, 16⟩
def GRD_RT_UV_V (i : Nat) : Fld := ⟨0x40070200 + 4 * i, 16, 16⟩
def GRD_RT_UV_T (i : Nat) : Fld := ⟨0x40070200 + 4 * i, 0, 16⟩
def GRD_RT_OV_V (i : Nat) : Fld := ⟨0x40070240 + 4 * i, 16, 16⟩
def GRD_RT_OV_T (i : Nat) : Fld := ⟨0x40070240 + 4 * i, 0, 16⟩
def CEL_CTRL_GDEV : Fld := ⟨0x40080000, 16, 8⟩
def CEL_CTRL_BASELINE : Fld := ⟨0x40080000, 6, 1⟩
def CEL_CTRL_AUTOBYP : Fld := ⟨0x40080000, 5, 1⟩
def CEL_CTRL_AGEEN : Fld := ⟨0x40080000, 4, 1⟩
def CEL_CTRL_GATEEN : Fld := ⟨0x40080000, 3, 1⟩
def CEL_CTRL_SOCCHK : Fld := ⟨0x40080000, 2, 1⟩
def CEL_CTRL_MPPTEN : Fld := ⟨0x40080000, 1, 1⟩
def CEL_CTRL_SORTEN : Fld := ⟨0x40080000, 0, 1⟩
def CEL_STAT_CFGERR : Fld := ⟨0x40080004, 8, 1⟩
def CEL_STAT_SCANNING : Fld := ⟨0x40080004, 0, 4⟩
def CEL_ARM_CFG_HYST (i : Nat) : Fld := ⟨0x40080010 + 4 * i, 16, 16⟩
def CEL_ARM_CFG_SWAPMAX (i : Nat) : Fld := ⟨0x40080010 + 4 * i, 12, 4⟩
def CEL_ARM_CFG_INV (i : Nat) : Fld := ⟨0x40080010 + 4 * i, 11, 1⟩
def CEL_ARM_CFG_KEYSEL (i : Nat) : Fld := ⟨0x40080010 + 4 * i, 8, 2⟩
def CEL_ARM_CFG_IIN (i : Nat) : Fld := ⟨0x40080010 + 4 * i, 0, 5⟩
def CEL_ARM_AUX_MIXW (i : Nat) : Fld := ⟨0x40080030 + 4 * i, 24, 8⟩
def CEL_ARM_AUX_IDB (i : Nat) : Fld := ⟨0x40080030 + 4 * i, 16, 8⟩
def CEL_ARM_AUX_KBAL (i : Nat) : Fld := ⟨0x40080030 + 4 * i, 8, 8⟩
def CEL_ARM_AUX_DBAL (i : Nat) : Fld := ⟨0x40080030 + 4 * i, 0, 8⟩
def CEL_ARM_STAT_NSHORT (i : Nat) : Fld := ⟨0x40080050 + 4 * i, 24, 8⟩
def CEL_ARM_STAT_SWAPS (i : Nat) : Fld := ⟨0x40080050 + 4 * i, 16, 8⟩
def CEL_ARM_STAT_NINS (i : Nat) : Fld := ⟨0x40080050 + 4 * i, 8, 8⟩
def CEL_ARM_STAT_DIR (i : Nat) : Fld := ⟨0x40080050 + 4 * i, 0, 1⟩
def CEL_MPPT_CFG_TSTEP : Fld := ⟨0x40080080, 16, 16⟩
def CEL_MPPT_CFG_SMAX : Fld := ⟨0x40080080, 8, 8⟩
def CEL_MPPT_CFG_SMIN : Fld := ⟨0x40080080, 0, 8⟩
def CEL_MPPT_LIM_VLO : Fld := ⟨0x40080084, 24, 8⟩
def CEL_MPPT_LIM_VHI : Fld := ⟨0x40080084, 16, 8⟩
def CEL_MPPT_LIM_ICTOL : Fld := ⟨0x40080084, 8, 8⟩
def CEL_MPPT_LIM_IMIN : Fld := ⟨0x40080084, 0, 8⟩
def CEL_MPPT_SCAN_SCANPER : Fld := ⟨0x40080088, 16, 16⟩
def CEL_MPPT_SCAN_SCANN : Fld := ⟨0x40080088, 8, 8⟩
def CEL_MPPT_SCAN_SCANMAX : Fld := ⟨0x40080088, 0, 8⟩
def CEL_SOC_CFG_SOCWIN : Fld := ⟨0x4008008c, 16, 16⟩
def CEL_SOC_CFG_SOCTOL : Fld := ⟨0x4008008c, 0, 16⟩
def CEL_GATE_CFG_TARGET : Fld := ⟨0x40080090, 16, 16⟩
def CEL_GATE_CFG_TOL : Fld := ⟨0x40080090, 10, 6⟩
def CEL_GATE_CFG_TGSEL : Fld := ⟨0x40080090, 8, 2⟩
def CEL_GATE_CFG_CODEMAX : Fld := ⟨0x40080090, 4, 4⟩
def CEL_GATE_CFG_CODEMIN : Fld := ⟨0x40080090, 0, 4⟩
def CEL_AGE_CFG_DERI : Fld := ⟨0x40080094, 24, 8⟩
def CEL_AGE_CFG_DERT : Fld := ⟨0x40080094, 16, 8⟩
def CEL_AGE_CFG_CEOL : Fld := ⟨0x40080094, 8, 8⟩
def CEL_AGE_CFG_VEOL : Fld := ⟨0x40080094, 0, 8⟩
def CEL_AGE_REF_TMAX : Fld := ⟨0x40080098, 16, 16⟩
def CEL_AGE_REF_TREF : Fld := ⟨0x40080098, 8, 8⟩
def CEL_AGE_REF_IREF : Fld := ⟨0x40080098, 0, 8⟩
def CEL_BYP_CFG_RJLO : Fld := ⟨0x4008009c, 8, 8⟩
def CEL_BYP_CFG_RJHI : Fld := ⟨0x4008009c, 0, 8⟩
def CEL_BYP_REQ_CELL (i : Nat) : Fld := ⟨0x400800a0 + 4 * i, 0, 32⟩
def CEL_RJ_REQ_CELL (i : Nat) : Fld := ⟨0x400800b0 + 4 * i, 0, 32⟩
def CEL_BYP_STAT_CELL (i : Nat) : Fld := ⟨0x400800c0 + 4 * i, 0, 32⟩
def CEL_KEY_KEY (i : Nat) : Fld := ⟨0x40080100 + 4 * i, 0, 32⟩
def CEL_MPPT_VREF (i : Nat) : Fld := ⟨0x40080300 + 4 * i, 16, 16⟩
def CEL_MPPT_NOHIST (i : Nat) : Fld := ⟨0x40080300 + 4 * i, 7, 1⟩
def CEL_MPPT_VOCEST (i : Nat) : Fld := ⟨0x40080300 + 4 * i, 6, 1⟩
def CEL_MPPT_VOCOK (i : Nat) : Fld := ⟨0x40080300 + 4 * i, 5, 1⟩
def CEL_MPPT_NVALID (i : Nat) : Fld := ⟨0x40080300 + 4 * i, 3, 2⟩
def CEL_MPPT_STATE (i : Nat) : Fld := ⟨0x40080300 + 4 * i, 0, 3⟩
def CEL_MPPT_VP_POWER (i : Nat) : Fld := ⟨0x40080500 + 4 * i, 16, 16⟩
def CEL_MPPT_VP_VOC (i : Nat) : Fld := ⟨0x40080500 + 4 * i, 0, 16⟩
def CEL_BAT_SOCI (i : Nat) : Fld := ⟨0x40080700 + 4 * i, 16, 16⟩
def CEL_BAT_CAP_AH (i : Nat) : Fld := ⟨0x40080700 + 4 * i, 0, 16⟩
def CEL_HEALTH_AGE (i : Nat) : Fld := ⟨0x40080900 + 4 * i, 16, 16⟩
def CEL_HEALTH_C0 (i : Nat) : Fld := ⟨0x40080900 + 4 * i, 8, 4⟩
def CEL_HEALTH_CODE (i : Nat) : Fld := ⟨0x40080900 + 4 * i, 0, 4⟩
def CEL_CELL_STAT_BYPCAUSE (i : Nat) : Fld := ⟨0x40080b00 + 4 * i, 8, 3⟩
def CEL_CELL_STAT_BYPFAIL (i : Nat) : Fld := ⟨0x40080b00 + 4 * i, 7, 1⟩
def CEL_CELL_STAT_RJREF (i : Nat) : Fld := ⟨0x40080b00 + 4 * i, 6, 1⟩
def CEL_CELL_STAT_AGED (i : Nat) : Fld := ⟨0x40080b00 + 4 * i, 5, 1⟩
def CEL_CELL_STAT_HOT (i : Nat) : Fld := ⟨0x40080b00 + 4 * i, 4, 1⟩
def CEL_CELL_STAT_GATESAT (i : Nat) : Fld := ⟨0x40080b00 + 4 * i, 3, 1⟩
def CEL_CELL_STAT_SOCIMPL (i : Nat) : Fld := ⟨0x40080b00 + 4 * i, 2, 1⟩
def CEL_CELL_STAT_FAULT (i : Nat) : Fld := ⟨0x40080b00 + 4 * i, 1, 1⟩
def CEL_CELL_STAT_ELIG (i : Nat) : Fld := ⟨0x40080b00 + 4 * i, 0, 1⟩
def EDG_CTRL_CALINT : Fld := ⟨0x40090000, 8, 8⟩
def EDG_CTRL_CALEN : Fld := ⟨0x40090000, 2, 1⟩
def EDG_CTRL_CARRYEN : Fld := ⟨0x40090000, 1, 1⟩
def EDG_CTRL_DTCOMP : Fld := ⟨0x40090000, 0, 1⟩
def EDG_STAT_MMAX : Fld := ⟨0x40090004, 16, 16⟩
def EDG_STAT_CFGERR : Fld := ⟨0x40090004, 2, 1⟩
def EDG_STAT_DLFLT : Fld := ⟨0x40090004, 1, 1⟩
def EDG_STAT_DLRDY : Fld := ⟨0x40090004, 0, 1⟩
def EDG_TIMING_MINPW : Fld := ⟨0x40090008, 16, 11⟩
def EDG_TIMING_GUARD : Fld := ⟨0x40090008, 0, 9⟩
def EDG_CARRYMAX_CARRYMAX : Fld := ⟨0x4009000c, 0, 10⟩
def EDG_CARRY_DROP_COUNT : Fld := ⟨0x40090010, 0, 32⟩
def EDG_WIN_CNT_REMOVED : Fld := ⟨0x40090014, 16, 16⟩
def EDG_WIN_CNT_MOVED : Fld := ⟨0x40090014, 0, 16⟩
def EDG_DLCAL_STAT_TMAX : Fld := ⟨0x40090018, 20, 6⟩
def EDG_DLCAL_STAT_TMIN : Fld := ⟨0x40090018, 14, 6⟩
def EDG_DLCAL_STAT_TMEAN : Fld := ⟨0x40090018, 0, 14⟩
def EDG_ARM_CFG_CARPER (i : Nat) : Fld := ⟨0x40090020 + 4 * i, 16, 12⟩
def EDG_ARM_CFG_FRAC (i : Nat) : Fld := ⟨0x40090020 + 4 * i, 2, 1⟩
def EDG_ARM_CFG_MOD (i : Nat) : Fld := ⟨0x40090020 + 4 * i, 0, 2⟩
def EDG_ARM_STAT_LIMIT (i : Nat) : Fld := ⟨0x40090040 + 4 * i, 25, 1⟩
def EDG_ARM_STAT_N (i : Nat) : Fld := ⟨0x40090040 + 4 * i, 16, 9⟩
def EDG_ARM_STAT_M (i : Nat) : Fld := ⟨0x40090040 + 4 * i, 0, 16⟩
def EDG_CELL_DT_DT (i : Nat) : Fld := ⟨0x40090100 + 4 * i, 0, 11⟩
def EDG_CARRY_LEG2 (i : Nat) : Fld := ⟨0x40090300 + 4 * i, 16, 16⟩
def EDG_CARRY_LEG1 (i : Nat) : Fld := ⟨0x40090300 + 4 * i, 0, 16⟩
def PWM_CTRL_EN : Fld := ⟨0x400a0000, 0, 6⟩
def PWM_TRIPIN_CFG_FLEN (i : Nat) : Fld := ⟨0x400a0010 + 4 * i, 8, 8⟩
def PWM_TRIPIN_CFG_FDIV (i : Nat) : Fld := ⟨0x400a0010 + 4 * i, 4, 3⟩
def PWM_TRIPIN_CFG_POL (i : Nat) : Fld := ⟨0x400a0010 + 4 * i, 0, 1⟩
def PWM_TRIPIN_STAT_FILT : Fld := ⟨0x400a0030, 8, 8⟩
def PWM_TRIPIN_STAT_RAW : Fld := ⟨0x400a0030, 0, 8⟩
def PWM_CHCTRL_SYNCIN (i : Nat) : Fld := ⟨0x400a0100 + 64 * i, 8, 1⟩
def PWM_CHCTRL_TSYNC (i : Nat) : Fld := ⟨0x400a0100 + 64 * i, 7, 1⟩
def PWM_CHCTRL_LOAD (i : Nat) : Fld := ⟨0x400a0100 + 64 * i, 5, 2⟩
def PWM_CHCTRL_CLKDIV (i : Nat) : Fld := ⟨0x400a0100 + 64 * i, 2, 3⟩
def PWM_CHCTRL_MODE (i : Nat) : Fld := ⟨0x400a0100 + 64 * i, 0, 2⟩
def PWM_PER_VALUE (i : Nat) : Fld := ⟨0x400a0104 + 64 * i, 0, 16⟩
def PWM_CMPA_FRAC (i : Nat) : Fld := ⟨0x400a0108 + 64 * i, 16, 5⟩
def PWM_CMPA_CMPA (i : Nat) : Fld := ⟨0x400a0108 + 64 * i, 0, 16⟩
def PWM_CMPB_VALUE (i : Nat) : Fld := ⟨0x400a010c + 64 * i, 0, 16⟩
def PWM_DT_DT (i : Nat) : Fld := ⟨0x400a0110 + 64 * i, 0, 12⟩
def PWM_TRIP_RSTPT (i : Nat) : Fld := ⟨0x400a0114 + 64 * i, 12, 1⟩
def PWM_TRIP_TNBLK (i : Nat) : Fld := ⟨0x400a0114 + 64 * i, 11, 1⟩
def PWM_TRIP_TRIPST (i : Nat) : Fld := ⟨0x400a0114 + 64 * i, 9, 2⟩
def PWM_TRIP_TRIPMODE (i : Nat) : Fld := ⟨0x400a0114 + 64 * i, 8, 1⟩
def PWM_TRIP_TRIPSEL (i : Nat) : Fld := ⟨0x400a0114 + 64 * i, 0, 8⟩
def PWM_EVT_TRGCH (i : Nat) : Fld := ⟨0x400a0118 + 64 * i, 24, 5⟩
def PWM_EVT_TRGACT (i : Nat) : Fld := ⟨0x400a0118 + 64 * i, 16, 2⟩
def PWM_EVT_TRGSEL (i : Nat) : Fld := ⟨0x400a0118 + 64 * i, 12, 3⟩
def PWM_EVT_ETPS (i : Nat) : Fld := ⟨0x400a0118 + 64 * i, 8, 4⟩
def PWM_EVT_IEN (i : Nat) : Fld := ⟨0x400a0118 + 64 * i, 0, 6⟩
def PWM_STAT_CBCCNT (i : Nat) : Fld := ⟨0x400a011c + 64 * i, 16, 16⟩
def PWM_STAT_TRIPACT (i : Nat) : Fld := ⟨0x400a011c + 64 * i, 10, 1⟩
def PWM_STAT_TRIPF (i : Nat) : Fld := ⟨0x400a011c + 64 * i, 9, 1⟩
def PWM_STAT_CBCF (i : Nat) : Fld := ⟨0x400a011c + 64 * i, 8, 1⟩
def PWM_STAT_EVTF (i : Nat) : Fld := ⟨0x400a011c + 64 * i, 0, 6⟩
def PWM_CNT_DIR (i : Nat) : Fld := ⟨0x400a0120 + 64 * i, 16, 1⟩
def PWM_CNT_COUNT (i : Nat) : Fld := ⟨0x400a0120 + 64 * i, 0, 16⟩
def TRP_PULSE_EN_EN : Fld := ⟨0x400b0000, 0, 6⟩
def TRP_PULSE_STAT_ERR : Fld := ⟨0x400b0004, 24, 4⟩
def TRP_PULSE_STAT_REFUSED : Fld := ⟨0x400b0004, 16, 6⟩
def TRP_BLK_REQ_ARMS : Fld := ⟨0x400b0008, 0, 6⟩
def TRP_CTRL_BLKCAP : Fld := ⟨0x400b000c, 0, 16⟩
def TRP_SRC_LO_SRC : Fld := ⟨0x400b0010, 0, 32⟩
def TRP_SRC_HI_SRC : Fld := ⟨0x400b0014, 0, 4⟩
def TRP_ACT_LO_SRC : Fld := ⟨0x400b0018, 0, 32⟩
def TRP_ACT_HI_SRC : Fld := ⟨0x400b001c, 0, 4⟩
def TRP_FIRST_TICK : Fld := ⟨0x400b0020, 16, 16⟩
def TRP_FIRST_VALID : Fld := ⟨0x400b0020, 8, 1⟩
def TRP_FIRST_SRC : Fld := ⟨0x400b0020, 0, 6⟩
def TRP_FIRST_TS_LO_TIME : Fld := ⟨0x400b0024, 0, 32⟩
def TRP_FIRST_TS_HI_TIME : Fld := ⟨0x400b0028, 0, 32⟩
def TRP_CLR_REF_COUNT : Fld := ⟨0x400b002c, 0, 32⟩
def TRP_CMP_STAT_BLKOVF : Fld := ⟨0x400b0030, 16, 16⟩
def TRP_CMP_STAT_OUT : Fld := ⟨0x400b0030, 0, 16⟩
def TRP_CMP_CFG_BLKSRC (i : Nat) : Fld := ⟨0x400b0100 + 4 * i, 24, 6⟩
def TRP_CMP_CFG_ARMS (i : Nat) : Fld := ⟨0x400b0100 + 4 * i, 16, 6⟩
def TRP_CMP_CFG_BLANK (i : Nat) : Fld := ⟨0x400b0100 + 4 * i, 8, 8⟩
def TRP_CMP_CFG_HYS (i : Nat) : Fld := ⟨0x400b0100 + 4 * i, 6, 2⟩
def TRP_CMP_CFG_CAPEN (i : Nat) : Fld := ⟨0x400b0100 + 4 * i, 5, 1⟩
def TRP_CMP_CFG_LATCH (i : Nat) : Fld := ⟨0x400b0100 + 4 * i, 4, 1⟩
def TRP_CMP_CFG_KIND (i : Nat) : Fld := ⟨0x400b0100 + 4 * i, 0, 2⟩
def TRP_CMP_THR_FS (i : Nat) : Fld := ⟨0x400b0140 + 4 * i, 22, 10⟩
def TRP_CMP_THR_HI (i : Nat) : Fld := ⟨0x400b0140 + 4 * i, 12, 10⟩
def TRP_CMP_THR_LO (i : Nat) : Fld := ⟨0x400b0140 + 4 * i, 0, 10⟩
def TRP_TIN_CFG_EN (i : Nat) : Fld := ⟨0x400b0180 + 4 * i, 9, 1⟩
def TRP_TIN_CFG_LATCH (i : Nat) : Fld := ⟨0x400b0180 + 4 * i, 8, 1⟩
def TRP_TIN_CFG_ARMS (i : Nat) : Fld := ⟨0x400b0180 + 4 * i, 0, 6⟩
def TRP_HL_LOCK_HLREJ : Fld := ⟨0x400b0200, 16, 16⟩
def TRP_HL_LOCK_LOCK : Fld := ⟨0x400b0200, 0, 1⟩
def TRP_HL_IARM_LIMIT : Fld := ⟨0x400b0204, 0, 16⟩
def TRP_HL_VCELL_LIMIT : Fld := ⟨0x400b0208, 0, 16⟩
def TRP_HL_PEXP_LIMIT : Fld := ⟨0x400b020c, 0, 16⟩
def TRP_HL_VDC_FS : Fld := ⟨0x400b0210, 22, 10⟩
def TRP_HL_VDC_IN : Fld := ⟨0x400b0210, 16, 5⟩
def TRP_HL_VDC_VDCMAX : Fld := ⟨0x400b0210, 0, 16⟩
def TRP_HL_FREQ_FMAX : Fld := ⟨0x400b0214, 16, 16⟩
def TRP_HL_FREQ_FMIN : Fld := ⟨0x400b0214, 0, 16⟩
def TRP_HL_DVDT_DVDT : Fld := ⟨0x400b0218, 16, 16⟩
def TRP_HL_DVDT_CODECAP : Fld := ⟨0x400b0218, 0, 4⟩
def SPK_CTRL_VERMAX : Fld := ⟨0x400c0000, 8, 3⟩
def SPK_CTRL_VERMIN : Fld := ⟨0x400c0000, 4, 3⟩
def SPK_CTRL_AUTOTRAIN : Fld := ⟨0x400c0000, 0, 1⟩
def SPK_STAT_NOPER : Fld := ⟨0x400c0004, 16, 7⟩
def SPK_STAT_KS : Fld := ⟨0x400c0004, 8, 1⟩
def SPK_STAT_CFGERR : Fld := ⟨0x400c0004, 0, 1⟩
def SPK_RPT_OFS_VALUE : Fld := ⟨0x400c0008, 0, 16⟩
def SPK_RSTMO_VALUE : Fld := ⟨0x400c000c, 0, 16⟩
def SPK_SVC_Q_INQ : Fld := ⟨0x400c0010, 8, 6⟩
def SPK_SVC_Q_OUTQ : Fld := ⟨0x400c0010, 0, 6⟩
def SPK_PORT_EN_PORT (i : Nat) : Fld := ⟨0x400c0020 + 4 * i, 0, 32⟩
def SPK_RETRAIN_PORT (i : Nat) : Fld := ⟨0x400c0030 + 4 * i, 0, 32⟩
def SPK_LOST_PORT (i : Nat) : Fld := ⟨0x400c0040 + 4 * i, 0, 32⟩
def SPK_PSTAT_MISSN (i : Nat) : Fld := ⟨0x400c0100 + 4 * i, 16, 8⟩
def SPK_PSTAT_DLYLONG (i : Nat) : Fld := ⟨0x400c0100 + 4 * i, 15, 1⟩
def SPK_PSTAT_DLYSTALE (i : Nat) : Fld := ⟨0x400c0100 + 4 * i, 14, 1⟩
def SPK_PSTAT_VERERR (i : Nat) : Fld := ⟨0x400c0100 + 4 * i, 13, 1⟩
def SPK_PSTAT_DLYJUMP (i : Nat) : Fld := ⟨0x400c0100 + 4 * i, 12, 1⟩
def SPK_PSTAT_KIND (i : Nat) : Fld := ⟨0x400c0100 + 4 * i, 10, 2⟩
def SPK_PSTAT_LEGS (i : Nat) : Fld := ⟨0x400c0100 + 4 * i, 9, 1⟩
def SPK_PSTAT_VER (i : Nat) : Fld := ⟨0x400c0100 + 4 * i, 4, 2⟩
def SPK_PSTAT_LSTATE (i : Nat) : Fld := ⟨0x400c0100 + 4 * i, 0, 3⟩
def SPK_DLY_REACT (i : Nat) : Fld := ⟨0x400c0300 + 4 * i, 20, 12⟩
def SPK_DLY_DLY (i : Nat) : Fld := ⟨0x400c0300 + 4 * i, 0, 20⟩
def SPK_ASYM_ASYM (i : Nat) : Fld := ⟨0x400c0500 + 4 * i, 0, 16⟩
def SPK_ERRA_CRC (i : Nat) : Fld := ⟨0x400c0700 + 4 * i, 16, 16⟩
def SPK_ERRA_TICK (i : Nat) : Fld := ⟨0x400c0700 + 4 * i, 8, 8⟩
def SPK_ERRA_SEQ (i : Nat) : Fld := ⟨0x400c0700 + 4 * i, 0, 8⟩
def SPK_ERRB_CODE (i : Nat) : Fld := ⟨0x400c0900 + 4 * i, 24, 8⟩
def SPK_ERRB_SIZE (i : Nat) : Fld := ⟨0x400c0900 + 4 * i, 16, 8⟩
def SPK_ERRB_FIELD (i : Nat) : Fld := ⟨0x400c0900 + 4 * i, 8, 8⟩
def SPK_ERRB_VER (i : Nat) : Fld := ⟨0x400c0900 + 4 * i, 0, 8⟩
def SPK_ERRC_MISS (i : Nat) : Fld := ⟨0x400c0b00 + 4 * i, 16, 16⟩
def SPK_ERRC_LATE (i : Nat) : Fld := ⟨0x400c0b00 + 4 * i, 8, 8⟩
def SPK_ERRC_ECHO (i : Nat) : Fld := ⟨0x400c0b00 + 4 * i, 0, 8⟩
def SPK_SVC_RETX (i : Nat) : Fld := ⟨0x400c0d00 + 4 * i, 16, 16⟩
def SPK_SVC_GIVEUP (i : Nat) : Fld := ⟨0x400c0d00 + 4 * i, 0, 8⟩
def SPK_UNIT_SERIAL (i : Nat) : Fld := ⟨0x400c0f00 + 4 * i, 0, 32⟩
def PEL_CTRL_MEMBERS : Fld := ⟨0x400d0000, 24, 8⟩
def PEL_CTRL_LOSSN : Fld := ⟨0x400d0000, 16, 4⟩
def PEL_CTRL_VERMAX : Fld := ⟨0x400d0000, 8, 3⟩
def PEL_CTRL_VERMIN : Fld := ⟨0x400d0000, 4, 3⟩
def PEL_CTRL_LDRSRC : Fld := ⟨0x400d0000, 2, 1⟩
def PEL_CTRL_ELECT : Fld := ⟨0x400d0000, 1, 1⟩
def PEL_CTRL_EN : Fld := ⟨0x400d0000, 0, 1⟩
def PEL_STAT_HEARD : Fld := ⟨0x400d0004, 24, 8⟩
def PEL_STAT_ADMIT : Fld := ⟨0x400d0004, 16, 8⟩
def PEL_STAT_CFGERR : Fld := ⟨0x400d0004, 15, 1⟩
def PEL_STAT_RING : Fld := ⟨0x400d0004, 14, 1⟩
def PEL_STAT_LANEUP : Fld := ⟨0x400d0004, 12, 2⟩
def PEL_STAT_VER : Fld := ⟨0x400d0004, 10, 2⟩
def PEL_STAT_ROLE : Fld := ⟨0x400d0004, 8, 2⟩
def PEL_STAT_CAND : Fld := ⟨0x400d0004, 7, 1⟩
def PEL_STAT_LEADER : Fld := ⟨0x400d0004, 4, 3⟩
def PEL_STAT_INDEX : Fld := ⟨0x400d0004, 0, 3⟩
def PEL_SUMOFS_OFS : Fld := ⟨0x400d0008, 0, 16⟩
def PEL_LANE_LSTATE (i : Nat) : Fld := ⟨0x400d000c + 4 * i, 30, 2⟩
def PEL_LANE_NVALID (i : Nat) : Fld := ⟨0x400d000c + 4 * i, 29, 1⟩
def PEL_LANE_NEIGH (i : Nat) : Fld := ⟨0x400d000c + 4 * i, 26, 3⟩
def PEL_LANE_DLY (i : Nat) : Fld := ⟨0x400d000c + 4 * i, 0, 20⟩
def PEL_ERR_CRC (i : Nat) : Fld := ⟨0x400d0014 + 4 * i, 24, 8⟩
def PEL_ERR_CODE (i : Nat) : Fld := ⟨0x400d0014 + 4 * i, 16, 8⟩
def PEL_ERR_ALIGN (i : Nat) : Fld := ⟨0x400d0014 + 4 * i, 8, 8⟩
def PEL_ERR_ECHO (i : Nat) : Fld := ⟨0x400d0014 + 4 * i, 0, 8⟩
def PEL_MISS_MISSN0 : Fld := ⟨0x400d001c, 0, 4⟩
def PEL_MISS_MISSN1 : Fld := ⟨0x400d001c, 4, 4⟩
def PEL_MISS_MISSN2 : Fld := ⟨0x400d001c, 8, 4⟩
def PEL_MISS_MISSN3 : Fld := ⟨0x400d001c, 12, 4⟩
def PEL_MISS_MISSN4 : Fld := ⟨0x400d001c, 16, 4⟩
def PEL_MISS_MISSN5 : Fld := ⟨0x400d001c, 20, 4⟩
def PEL_MISS_MISSN6 : Fld := ⟨0x400d001c, 24, 4⟩
def PEL_MISS_MISSN7 : Fld := ⟨0x400d001c, 28, 4⟩
def PEL_ADM_VALID : Fld := ⟨0x400d0020, 31, 1⟩
def PEL_ADM_DEVICE : Fld := ⟨0x400d0020, 8, 3⟩
def PEL_ADM_REASON : Fld := ⟨0x400d0020, 0, 4⟩
def PEL_CNT_ELECTS : Fld := ⟨0x400d0024, 24, 8⟩
def PEL_CNT_LDRLOSS : Fld := ⟨0x400d0024, 16, 8⟩
def PEL_CNT_BLKRX : Fld := ⟨0x400d0024, 0, 16⟩
def PEL_SVC_Q_INQ : Fld := ⟨0x400d0028, 8, 6⟩
def PEL_SVC_Q_OUTQ : Fld := ⟨0x400d0028, 0, 6⟩
def TRI_MODE_SAFEUNAV : Fld := ⟨0x400e0000, 8, 1⟩
def TRI_MODE_MODE : Fld := ⟨0x400e0000, 0, 2⟩
def TRI_CTRL_RSWIN : Fld := ⟨0x400e0004, 16, 8⟩
def TRI_CTRL_RSLIM : Fld := ⟨0x400e0004, 8, 4⟩
def TRI_CTRL_HALTRUN : Fld := ⟨0x400e0004, 4, 1⟩
def TRI_CTRL_TEST : Fld := ⟨0x400e0004, 2, 1⟩
def TRI_CTRL_AUTORS : Fld := ⟨0x400e0004, 0, 1⟩
def TRI_CMD_GOC : Fld := ⟨0x400e0008, 9, 1⟩
def TRI_CMD_GOB : Fld := ⟨0x400e0008, 8, 1⟩
def TRI_CMD_RSREQ : Fld := ⟨0x400e0008, 7, 1⟩
def TRI_CMD_TAKEOUT : Fld := ⟨0x400e0008, 6, 1⟩
def TRI_CMD_CORE : Fld := ⟨0x400e0008, 0, 2⟩
def TRI_STAT_DBGHALT : Fld := ⟨0x400e000c, 13, 1⟩
def TRI_STAT_RSPEND : Fld := ⟨0x400e000c, 12, 1⟩
def TRI_STAT_CSTAT_C : Fld := ⟨0x400e000c, 10, 2⟩
def TRI_STAT_CSTAT_B : Fld := ⟨0x400e000c, 8, 2⟩
def TRI_STAT_CSTAT_A : Fld := ⟨0x400e000c, 6, 2⟩
def TRI_STAT_STATE : Fld := ⟨0x400e000c, 0, 3⟩
def TRI_DIS_INFO_TICK : Fld := ⟨0x400e0010, 16, 16⟩
def TRI_DIS_INFO_BIT : Fld := ⟨0x400e0010, 8, 8⟩
def TRI_DIS_INFO_BUS : Fld := ⟨0x400e0010, 5, 3⟩
def TRI_DIS_INFO_VALID : Fld := ⟨0x400e0010, 3, 1⟩
def TRI_DIS_INFO_CORES : Fld := ⟨0x400e0010, 0, 3⟩
def TRI_DIS_TS_LO_TIME : Fld := ⟨0x400e0014, 0, 32⟩
def TRI_DIS_TS_HI_TIME : Fld := ⟨0x400e0018, 0, 32⟩
def TRI_CNT_OUTV_C : Fld := ⟨0x400e001c, 24, 8⟩
def TRI_CNT_OUTV_B : Fld := ⟨0x400e001c, 16, 8⟩
def TRI_CNT_OUTV_A : Fld := ⟨0x400e001c, 8, 8⟩
def TRI_CNT_RESYNC : Fld := ⟨0x400e001c, 0, 8⟩
def TRI_VTEST_DONE : Fld := ⟨0x400e0020, 31, 1⟩
def TRI_VTEST_PASS : Fld := ⟨0x400e0020, 30, 1⟩
def TRI_VTEST_STEP : Fld := ⟨0x400e0020, 8, 6⟩
def TRI_VTEST_BUS : Fld := ⟨0x400e0020, 0, 3⟩
def TRI_LBIST_RES_C : Fld := ⟨0x400e0024, 4, 2⟩
def TRI_LBIST_RES_B : Fld := ⟨0x400e0024, 2, 2⟩
def TRI_LBIST_RES_A : Fld := ⟨0x400e0024, 0, 2⟩
def TRI_SPLIT_ENTRY_B_ENTRY : Fld := ⟨0x400e0028, 1, 31⟩
def TRI_SPLIT_ENTRY_C_ENTRY : Fld := ⟨0x400e002c, 1, 31⟩
def TRI_RESET_KEY : Fld := ⟨0x400e0030, 0, 8⟩
def HST_CTRL_VERMAX : Fld := ⟨0x400f0000, 8, 3⟩
def HST_STAT_INFLIGHT : Fld := ⟨0x400f0004, 16, 13⟩
def HST_STAT_FALLBACK : Fld := ⟨0x400f0004, 3, 1⟩
def HST_STAT_RAMP : Fld := ⟨0x400f0004, 2, 1⟩
def HST_STAT_CFGERR : Fld := ⟨0x400f0004, 0, 1⟩
def HST_DISPATCH_EN : Fld := ⟨0x400f0008, 31, 1⟩
def HST_DISPATCH_TEN : Fld := ⟨0x400f0008, 16, 4⟩
def HST_DISPATCH_STALE : Fld := ⟨0x400f0008, 0, 16⟩
def HST_FB_P_VALUE : Fld := ⟨0x400f000c, 0, 32⟩
def HST_FB_Q_VALUE : Fld := ⟨0x400f0010, 0, 32⟩
def HST_FB_RAMP_FBCNT : Fld := ⟨0x400f0014, 16, 16⟩
def HST_FB_RAMP_RAMP : Fld := ⟨0x400f0014, 0, 16⟩
def HST_TEN_STATE_STATE : Fld := ⟨0x400f0018, 0, 32⟩
def HST_TEN_CFG_EN (i : Nat) : Fld := ⟨0x400f0100 + 16 * i, 31, 1⟩
def HST_TEN_CFG_RIGHTS (i : Nat) : Fld := ⟨0x400f0100 + 16 * i, 16, 8⟩
def HST_TEN_CFG_QNUM (i : Nat) : Fld := ⟨0x400f0100 + 16 * i, 8, 7⟩
def HST_TEN_CFG_QBASE (i : Nat) : Fld := ⟨0x400f0100 + 16 * i, 0, 6⟩
def HST_TEN_CRED_MAXF (i : Nat) : Fld := ⟨0x400f0104 + 16 * i, 16, 13⟩
def HST_TEN_CRED_RES (i : Nat) : Fld := ⟨0x400f0104 + 16 * i, 0, 13⟩
def HST_TEN_SCHED_WEIGHT (i : Nat) : Fld := ⟨0x400f0108 + 16 * i, 24, 4⟩
def HST_TEN_SCHED_MGCMAX (i : Nat) : Fld := ⟨0x400f0108 + 16 * i, 16, 8⟩
def HST_TEN_SCHED_SPMASK (i : Nat) : Fld := ⟨0x400f0108 + 16 * i, 0, 16⟩
def HST_TEN_VIOL_COUNT (i : Nat) : Fld := ⟨0x400f010c + 16 * i, 0, 32⟩
def HST_TEN_WIN_NPAGE (i j : Nat) : Fld := ⟨0x400f0200 + 16 * i + 4 * j, 16, 9⟩
def HST_TEN_WIN_FIRST (i j : Nat) : Fld := ⟨0x400f0200 + 16 * i + 4 * j, 0, 9⟩
def HST_SP_VALUE (i : Nat) : Fld := ⟨0x400f0300 + 4 * i, 0, 32⟩
def QUE_POOL_REBUILD : Fld := ⟨0x40100000, 31, 1⟩
def QUE_POOL_FREE : Fld := ⟨0x40100000, 0, 13⟩
def QUE_ALLOC_NV : Fld := ⟨0x40100004, 31, 1⟩
def QUE_ALLOC_BLOCK : Fld := ⟨0x40100004, 0, 12⟩
def QUE_FREE_BLOCK : Fld := ⟨0x40100008, 0, 12⟩
def QUE_BADBLK_VALID : Fld := ⟨0x4010000c, 31, 1⟩
def QUE_BADBLK_MASTER : Fld := ⟨0x4010000c, 24, 5⟩
def QUE_BADBLK_KIND : Fld := ⟨0x4010000c, 16, 2⟩
def QUE_BADBLK_BLOCK : Fld := ⟨0x4010000c, 0, 12⟩
def QUE_BADBLK_CNT_COUNT : Fld := ⟨0x40100010, 0, 32⟩
def QUE_PTRERR_LO_QUEUE : Fld := ⟨0x40100014, 0, 32⟩
def QUE_PTRERR_HI_QUEUE : Fld := ⟨0x40100018, 0, 32⟩
def QUE_EVT_LO_QUEUE : Fld := ⟨0x4010001c, 0, 32⟩
def QUE_EVT_HI_QUEUE : Fld := ⟨0x40100020, 0, 32⟩
def QUE_DROP_CNT_COUNT : Fld := ⟨0x40100024, 0, 32⟩
def QUE_CFG_EN (i : Nat) : Fld := ⟨0x40100100 + 32 * i, 31, 1⟩
def QUE_CFG_CONS (i : Nat) : Fld := ⟨0x40100100 + 32 * i, 24, 6⟩
def QUE_CFG_PROD (i : Nat) : Fld := ⟨0x40100100 + 32 * i, 16, 6⟩
def QUE_CFG_EVT (i : Nat) : Fld := ⟨0x40100100 + 32 * i, 12, 2⟩
def QUE_CFG_MAXBLK (i : Nat) : Fld := ⟨0x40100100 + 32 * i, 0, 12⟩
def QUE_STAT_PKTS (i : Nat) : Fld := ⟨0x40100104 + 32 * i, 20, 12⟩
def QUE_STAT_BLOCKS (i : Nat) : Fld := ⟨0x40100104 + 32 * i, 7, 13⟩
def QUE_STAT_PTRRST (i : Nat) : Fld := ⟨0x40100104 + 32 * i, 6, 1⟩
def QUE_STAT_FLUSHPEND (i : Nat) : Fld := ⟨0x40100104 + 32 * i, 5, 1⟩
def QUE_STAT_OPEN (i : Nat) : Fld := ⟨0x40100104 + 32 * i, 4, 1⟩
def QUE_STAT_TRUNC (i : Nat) : Fld := ⟨0x40100104 + 32 * i, 3, 1⟩
def QUE_STAT_OVR (i : Nat) : Fld := ⟨0x40100104 + 32 * i, 2, 1⟩
def QUE_STAT_FULL (i : Nat) : Fld := ⟨0x40100104 + 32 * i, 1, 1⟩
def QUE_STAT_EMPTY (i : Nat) : Fld := ⟨0x40100104 + 32 * i, 0, 1⟩
def QUE_PUSH_DATA (i : Nat) : Fld := ⟨0x40100108 + 32 * i, 0, 32⟩
def QUE_CLOSE_ABORT (i : Nat) : Fld := ⟨0x4010010c + 32 * i, 8, 1⟩
def QUE_CLOSE_LASTB (i : Nat) : Fld := ⟨0x4010010c + 32 * i, 0, 3⟩
def QUE_POP_WORD (i : Nat) : Fld := ⟨0x40100110 + 32 * i, 0, 32⟩
def QUE_PEEK_WORD (i : Nat) : Fld := ⟨0x40100114 + 32 * i, 0, 32⟩
def QUE_CMD_RESET (i : Nat) : Fld := ⟨0x40100118 + 32 * i, 2, 1⟩
def QUE_CMD_SKIP (i : Nat) : Fld := ⟨0x40100118 + 32 * i, 1, 1⟩
def QUE_CMD_FLUSH (i : Nat) : Fld := ⟨0x40100118 + 32 * i, 0, 1⟩
def QUE_XFER_NV (i : Nat) : Fld := ⟨0x4010011c + 32 * i, 31, 1⟩
def QUE_XFER_MULTI (i : Nat) : Fld := ⟨0x4010011c + 32 * i, 30, 1⟩
def QUE_XFER_LEN (i : Nat) : Fld := ⟨0x4010011c + 32 * i, 16, 6⟩
def QUE_XFER_BLOCK (i : Nat) : Fld := ⟨0x4010011c + 32 * i, 0, 12⟩
def MEM_CTRL_BTEN : Fld := ⟨0x40110000, 0, 1⟩
def MEM_BT_INT_INT : Fld := ⟨0x40110004, 0, 20⟩
def MEM_BT_USE_INT : Fld := ⟨0x40110008, 0, 20⟩
def MEM_BT_STAT_FAIL : Fld := ⟨0x4011000c, 31, 1⟩
def MEM_BT_STAT_BUSY : Fld := ⟨0x4011000c, 30, 1⟩
def MEM_BT_STAT_REGION : Fld := ⟨0x4011000c, 0, 16⟩
def MEM_BT_FAIL_ADDR : Fld := ⟨0x40110010, 0, 32⟩
def MEM_BT_CNT_DEFER : Fld := ⟨0x40110014, 16, 16⟩
def MEM_BT_CNT_PASSES : Fld := ⟨0x40110014, 0, 16⟩
def MEM_ECC_CNT_CORR : Fld := ⟨0x40110018, 16, 16⟩
def MEM_ECC_CNT_UNCORR : Fld := ⟨0x40110018, 0, 16⟩
def MEM_VIOL_INFO_VALID : Fld := ⟨0x4011001c, 31, 1⟩
def MEM_VIOL_INFO_MASTER : Fld := ⟨0x4011001c, 16, 5⟩
def MEM_VIOL_INFO_TYPE : Fld := ⟨0x4011001c, 8, 2⟩
def MEM_VIOL_ADDR_ADDR : Fld := ⟨0x40110020, 0, 32⟩
def MEM_VIOL_CNT_COUNT : Fld := ⟨0x40110024, 0, 32⟩
def MEM_DP_COLL_COUNT : Fld := ⟨0x40110028, 0, 32⟩
def MEM_HAMPER_WIPECNT : Fld := ⟨0x4011002c, 16, 16⟩
def MEM_HAMPER_CAUSE : Fld := ⟨0x4011002c, 4, 3⟩
def MEM_HAMPER_HSTATE : Fld := ⟨0x4011002c, 0, 3⟩
def MEM_CONF_COUNT (i : Nat) : Fld := ⟨0x40110100 + 4 * i, 0, 32⟩
def FLT_CTRL_LOCK : Fld := ⟨0x40120000, 31, 1⟩
def FLT_CTRL_CAPMIN : Fld := ⟨0x40120000, 0, 3⟩
def FLT_STAT_NNOTE : Fld := ⟨0x40120004, 24, 8⟩
def FLT_STAT_NREC : Fld := ⟨0x40120004, 16, 8⟩
def FLT_STAT_NSER : Fld := ⟨0x40120004, 8, 8⟩
def FLT_STAT_NFAT : Fld := ⟨0x40120004, 4, 4⟩
def FLT_STAT_PIN : Fld := ⟨0x40120004, 2, 1⟩
def FLT_STAT_LEVEL : Fld := ⟨0x40120004, 0, 2⟩
def FLT_ESC0_TMO_N : Fld := ⟨0x40120008, 0, 16⟩
def FLT_ESC1_TMO_S : Fld := ⟨0x4012000c, 16, 16⟩
def FLT_ESC1_TMO_R : Fld := ⟨0x4012000c, 0, 16⟩
def FLT_FIRST_VALID : Fld := ⟨0x40120010, 31, 1⟩
def FLT_FIRST_CLASS : Fld := ⟨0x40120010, 28, 3⟩
def FLT_FIRST_FORCED : Fld := ⟨0x40120010, 27, 1⟩
def FLT_FIRST_TYPE : Fld := ⟨0x40120010, 24, 2⟩
def FLT_FIRST_MASTER : Fld := ⟨0x40120010, 16, 5⟩
def FLT_FIRST_SRC : Fld := ⟨0x40120010, 0, 8⟩
def FLT_FIRST_ADDR_VALUE : Fld := ⟨0x40120014, 0, 32⟩
def FLT_FIRST_TS_LO_VALUE : Fld := ⟨0x40120018, 0, 32⟩
def FLT_FIRST_TS_HI_VALUE : Fld := ⟨0x4012001c, 0, 32⟩
def FLT_CNT_FATAL : Fld := ⟨0x40120020, 24, 8⟩
def FLT_CNT_SERIOUS : Fld := ⟨0x40120020, 16, 8⟩
def FLT_CNT_REC : Fld := ⟨0x40120020, 8, 8⟩
def FLT_CNT_NOTE : Fld := ⟨0x40120020, 0, 8⟩
def FLT_CLR_REF_COUNT : Fld := ⟨0x40120024, 0, 32⟩
def FLT_INJ_CTRL_ARM : Fld := ⟨0x40120028, 31, 1⟩
def FLT_INJ_CTRL_CANCEL : Fld := ⟨0x40120028, 30, 1⟩
def FLT_INJ_CTRL_DONE : Fld := ⟨0x40120028, 29, 1⟩
def FLT_INJ_CTRL_NBIT : Fld := ⟨0x40120028, 8, 2⟩
def FLT_INJ_CTRL_CHK : Fld := ⟨0x40120028, 0, 5⟩
def FLT_INJ_ARG_ARG : Fld := ⟨0x4012002c, 0, 32⟩
def FLT_RAIL_VALID : Fld := ⟨0x40120030, 31, 1⟩
def FLT_RAIL_SRC : Fld := ⟨0x40120030, 0, 8⟩
def FLT_SRC_SRC (i : Nat) : Fld := ⟨0x40120100 + 4 * i, 0, 32⟩
def FLT_ACT_ACT (i : Nat) : Fld := ⟨0x40120120 + 4 * i, 0, 32⟩
def FLT_ACK_ACK (i : Nat) : Fld := ⟨0x40120140 + 4 * i, 0, 32⟩
def FLT_ESCD_ESCD (i : Nat) : Fld := ⟨0x40120160 + 4 * i, 0, 32⟩
def FLT_FORCE_FORCE (i : Nat) : Fld := ⟨0x40120180 + 4 * i, 0, 32⟩
def FLT_CLS_CLASS (i : Nat) : Fld := ⟨0x40120200 + 4 * i, 0, 32⟩
def FLT_INFO_INFO (i : Nat) : Fld := ⟨0x40120400 + 4 * i, 0, 32⟩
def SAF_CTRL_LOCK : Fld := ⟨0x40130000, 31, 1⟩
def SAF_CTRL_SENFLT : Fld := ⟨0x40130000, 16, 4⟩
def SAF_CTRL_REDSEL : Fld := ⟨0x40130000, 9, 1⟩
def SAF_CTRL_DEMAND : Fld := ⟨0x40130000, 8, 1⟩
def SAF_CTRL_FEN : Fld := ⟨0x40130000, 0, 5⟩
def SAF_STAT_STARTOK : Fld := ⟨0x40130004, 31, 1⟩
def SAF_STAT_SENLVL : Fld := ⟨0x40130004, 30, 1⟩
def SAF_STAT_UNAV : Fld := ⟨0x40130004, 29, 1⟩
def SAF_STAT_SETUSE : Fld := ⟨0x40130004, 28, 1⟩
def SAF_STAT_DEMACT : Fld := ⟨0x40130004, 16, 5⟩
def SAF_STAT_LREJ : Fld := ⟨0x40130004, 8, 8⟩
def SAF_STAT_DEMF : Fld := ⟨0x40130004, 0, 5⟩
def SAF_LINKMAX_PORT : Fld := ⟨0x40130008, 16, 7⟩
def SAF_LINKMAX_TIME : Fld := ⟨0x40130008, 0, 16⟩
def SAF_S_A_ILIM (i : Nat) : Fld := ⟨0x40130010 + 16 * i, 16, 16⟩
def SAF_S_A_VCELL (i : Nat) : Fld := ⟨0x40130010 + 16 * i, 0, 16⟩
def SAF_S_B_VDC (i : Nat) : Fld := ⟨0x40130014 + 16 * i, 16, 16⟩
def SAF_S_B_PEXP (i : Nat) : Fld := ⟨0x40130014 + 16 * i, 0, 16⟩
def SAF_S_C_FMAX (i : Nat) : Fld := ⟨0x40130018 + 16 * i, 16, 16⟩
def SAF_S_C_FMIN (i : Nat) : Fld := ⟨0x40130018 + 16 * i, 0, 16⟩
def SAF_S_D_PIMP (i : Nat) : Fld := ⟨0x4013001c + 16 * i, 16, 16⟩
def SAF_S_D_TDIR (i : Nat) : Fld := ⟨0x4013001c + 16 * i, 0, 16⟩
def SAF_IIN_IN : Fld := ⟨0x40130030, 0, 16⟩
def SAF_C_ID_CONNID (i : Nat) : Fld := ⟨0x40130100 + 32 * i, 0, 32⟩
def SAF_C_CFG_EN (i : Nat) : Fld := ⟨0x40130104 + 32 * i, 31, 1⟩
def SAF_C_CFG_CARRIER (i : Nat) : Fld := ⟨0x40130104 + 32 * i, 24, 2⟩
def SAF_C_CFG_TEN (i : Nat) : Fld := ⟨0x40130104 + 32 * i, 20, 4⟩
def SAF_C_CFG_VERMAX (i : Nat) : Fld := ⟨0x40130104 + 32 * i, 16, 2⟩
def SAF_C_CFG_SEQWIN (i : Nat) : Fld := ⟨0x40130104 + 32 * i, 12, 4⟩
def SAF_C_TIME_TEXP (i : Nat) : Fld := ⟨0x40130108 + 32 * i, 16, 16⟩
def SAF_C_TIME_MAXAGE (i : Nat) : Fld := ⟨0x40130108 + 32 * i, 0, 16⟩
def SAF_C_STAT_CSTATE (i : Nat) : Fld := ⟨0x4013010c + 32 * i, 30, 2⟩
def SAF_C_STAT_VER (i : Nat) : Fld := ⟨0x4013010c + 32 * i, 28, 2⟩
def SAF_C_STAT_LASTREJ (i : Nat) : Fld := ⟨0x4013010c + 32 * i, 24, 4⟩
def SAF_C_STAT_EVER (i : Nat) : Fld := ⟨0x4013010c + 32 * i, 16, 1⟩
def SAF_C_STAT_SEQ (i : Nat) : Fld := ⟨0x4013010c + 32 * i, 0, 16⟩
def SAF_C_CNT_REJ (i : Nat) : Fld := ⟨0x40130110 + 32 * i, 16, 16⟩
def SAF_C_CNT_EXP (i : Nat) : Fld := ⟨0x40130110 + 32 * i, 0, 16⟩
def SAF_C_RX_PAYLOAD (i : Nat) : Fld := ⟨0x40130114 + 32 * i, 0, 32⟩
def NET_CTRL_PTPEN : Fld := ⟨0x40140000, 8, 1⟩
def NET_CTRL_KSPORT : Fld := ⟨0x40140000, 5, 1⟩
def NET_CTRL_RED : Fld := ⟨0x40140000, 3, 2⟩
def NET_CTRL_EN : Fld := ⟨0x40140000, 0, 2⟩
def NET_STAT_CFGERR : Fld := ⟨0x40140004, 8, 1⟩
def NET_STAT_PTPPORT : Fld := ⟨0x40140004, 4, 1⟩
def NET_STAT_LINK : Fld := ⟨0x40140004, 0, 2⟩
def NET_MAC_LO_MAC : Fld := ⟨0x40140008, 0, 32⟩
def NET_MAC_HI_MAC : Fld := ⟨0x4014000c, 0, 16⟩
def NET_PTP_CFG_LOGPDELAY : Fld := ⟨0x40140010, 8, 8⟩
def NET_PTP_CFG_DOMAIN : Fld := ⟨0x40140010, 0, 8⟩
def NET_PTP_LAT_TXLAT : Fld := ⟨0x40140014, 16, 16⟩
def NET_PTP_LAT_RXLAT : Fld := ⟨0x40140014, 0, 16⟩
def NET_PTP_PDLY_PDLY (i : Nat) : Fld := ⟨0x40140018 + 4 * i, 0, 32⟩
def NET_SAF_CFG_SAFTYPE : Fld := ⟨0x40140020, 0, 16⟩
def NET_QSEL_GPUBEN : Fld := ⟨0x40140024, 23, 1⟩
def NET_QSEL_GPUBQ : Fld := ⟨0x40140024, 16, 6⟩
def NET_QSEL_GOOSEEN : Fld := ⟨0x40140024, 15, 1⟩
def NET_QSEL_GOOSEQ : Fld := ⟨0x40140024, 8, 6⟩
def NET_QSEL_RXEN : Fld := ⟨0x40140024, 7, 1⟩
def NET_QSEL_RXQ : Fld := ⟨0x40140024, 0, 6⟩
def NET_TXQ_EN3 : Fld := ⟨0x40140028, 31, 1⟩
def NET_TXQ_Q3 : Fld := ⟨0x40140028, 24, 6⟩
def NET_TXQ_EN2 : Fld := ⟨0x40140028, 23, 1⟩
def NET_TXQ_Q2 : Fld := ⟨0x40140028, 16, 6⟩
def NET_TXQ_EN1 : Fld := ⟨0x40140028, 15, 1⟩
def NET_TXQ_Q1 : Fld := ⟨0x40140028, 8, 6⟩
def NET_TXQ_EN0 : Fld := ⟨0x40140028, 7, 1⟩
def NET_TXQ_Q0 : Fld := ⟨0x40140028, 0, 6⟩
def NET_DROP_GUARD : Fld := ⟨0x40140030, 24, 8⟩
def NET_DROP_RXFULL : Fld := ⟨0x40140030, 16, 8⟩
def NET_DROP_SAFDROP : Fld := ⟨0x40140030, 8, 8⟩
def NET_DROP_FWDDROP : Fld := ⟨0x40140030, 0, 8⟩
def NET_PORT_CNT_FCS (i : Nat) : Fld := ⟨0x40140034 + 4 * i, 16, 16⟩
def NET_PORT_CNT_SIZE (i : Nat) : Fld := ⟨0x40140034 + 4 * i, 0, 16⟩
def NET_GSUB_CFG_EN (i : Nat) : Fld := ⟨0x40140100 + 8 * i, 31, 1⟩
def NET_GSUB_CFG_MACLO (i : Nat) : Fld := ⟨0x40140100 + 8 * i, 16, 9⟩
def NET_GSUB_CFG_APPID (i : Nat) : Fld := ⟨0x40140100 + 8 * i, 0, 16⟩
def NET_GSUB_STAT_STATE (i : Nat) : Fld := ⟨0x40140104 + 8 * i, 30, 2⟩
def NET_GSUB_STAT_GDUP (i : Nat) : Fld := ⟨0x40140104 + 8 * i, 16, 8⟩
def NET_GSUB_STAT_STNUM (i : Nat) : Fld := ⟨0x40140104 + 8 * i, 0, 16⟩
def NET_GPUB_CFG_EN (i : Nat) : Fld := ⟨0x40140180 + 8 * i, 31, 1⟩
def NET_GPUB_CFG_SQOFS (i : Nat) : Fld := ⟨0x40140180 + 8 * i, 16, 11⟩
def NET_GPUB_CFG_TMAX (i : Nat) : Fld := ⟨0x40140180 + 8 * i, 0, 16⟩
def NET_GPUB_TMIN_TMIN (i : Nat) : Fld := ⟨0x40140184 + 8 * i, 0, 8⟩
def NET_SVS_CFG_EN (i : Nat) : Fld := ⟨0x40140200 + 16 * i, 31, 1⟩
def NET_SVS_CFG_MACLO (i : Nat) : Fld := ⟨0x40140200 + 16 * i, 16, 9⟩
def NET_SVS_CFG_APPID (i : Nat) : Fld := ⟨0x40140200 + 16 * i, 0, 16⟩
def NET_SVS_RATE_NMEM (i : Nat) : Fld := ⟨0x40140204 + 16 * i, 28, 4⟩
def NET_SVS_RATE_TSMP (i : Nat) : Fld := ⟨0x40140204 + 16 * i, 16, 12⟩
def NET_SVS_RATE_WRAP (i : Nat) : Fld := ⟨0x40140204 + 16 * i, 0, 16⟩
def NET_SVS_SUP_LOSSN (i : Nat) : Fld := ⟨0x40140208 + 16 * i, 24, 8⟩
def NET_SVS_SUP_RESYNCN (i : Nat) : Fld := ⟨0x40140208 + 16 * i, 16, 8⟩
def NET_SVS_SUP_TOL (i : Nat) : Fld := ⟨0x40140208 + 16 * i, 0, 16⟩
def NET_SVS_BASE_BASE (i : Nat) : Fld := ⟨0x4014020c + 16 * i, 0, 32⟩
def NET_SVS_STAT_STATE (i : Nat) : Fld := ⟨0x40140280 + 4 * i, 29, 3⟩
def NET_SVS_STAT_WIDX (i : Nat) : Fld := ⟨0x40140280 + 4 * i, 16, 6⟩
def NET_SVS_STAT_SUBST (i : Nat) : Fld := ⟨0x40140280 + 4 * i, 8, 8⟩
def NET_SVS_STAT_LATE (i : Nat) : Fld := ⟨0x40140280 + 4 * i, 4, 4⟩
def NET_SVS_STAT_FORM (i : Nat) : Fld := ⟨0x40140280 + 4 * i, 0, 4⟩
def NET_SVP_CFG_EN (i : Nat) : Fld := ⟨0x40140300 + 32 * i, 31, 1⟩
def NET_SVP_CFG_DEC (i : Nat) : Fld := ⟨0x40140300 + 32 * i, 30, 1⟩
def NET_SVP_CFG_LEN (i : Nat) : Fld := ⟨0x40140300 + 32 * i, 16, 11⟩
def NET_SVP_TPL_TPL (i : Nat) : Fld := ⟨0x40140304 + 32 * i, 0, 32⟩
def NET_SVP_OFS_DSOFS (i : Nat) : Fld := ⟨0x40140308 + 32 * i, 16, 11⟩
def NET_SVP_OFS_SMPOFS (i : Nat) : Fld := ⟨0x40140308 + 32 * i, 0, 11⟩
def NET_SVP_FSI_FSI (i : Nat) : Fld := ⟨0x4014030c + 32 * i, 0, 32⟩
def NET_SVP_FSV_FSV (i : Nat) : Fld := ⟨0x40140310 + 32 * i, 0, 32⟩
def LCS_STATE_DBGOPEN : Fld := ⟨0x40150000, 31, 1⟩
def LCS_STATE_TOKENOK : Fld := ⟨0x40150000, 30, 1⟩
def LCS_STATE_TREF : Fld := ⟨0x40150000, 29, 1⟩
def LCS_STATE_STATE : Fld := ⟨0x40150000, 0, 3⟩
def LCS_CTRL_LOCK : Fld := ⟨0x40150004, 31, 1⟩
def LCS_CTRL_CONFTMO : Fld := ⟨0x40150004, 16, 8⟩
def LCS_TRANS_KEY : Fld := ⟨0x40150008, 8, 8⟩
def LCS_TRANS_TARGET : Fld := ⟨0x40150008, 0, 3⟩
def LCS_BOOT_SRC : Fld := ⟨0x4015000c, 30, 2⟩
def LCS_BOOT_PREF : Fld := ⟨0x4015000c, 25, 1⟩
def LCS_BOOT_SLOT : Fld := ⟨0x4015000c, 24, 1⟩
def LCS_BOOT_TRIAL : Fld := ⟨0x4015000c, 23, 1⟩
def LCS_BOOT_ATTEMPTS : Fld := ⟨0x4015000c, 20, 3⟩
def LCS_BOOT_FALLBK : Fld := ⟨0x4015000c, 19, 1⟩
def LCS_BOOT_FMTVER : Fld := ⟨0x4015000c, 16, 2⟩
def LCS_BOOT_SVN : Fld := ⟨0x4015000c, 8, 8⟩
def LCS_SELECT_KEY : Fld := ⟨0x40150010, 8, 8⟩
def LCS_SELECT_SLOT : Fld := ⟨0x40150010, 0, 1⟩
def LCS_CONFIRM_KEY : Fld := ⟨0x40150014, 0, 8⟩
def LCS_RBC_COUNTER0 : Fld := ⟨0x40150018, 0, 8⟩
def LCS_RBC_COUNTER1 : Fld := ⟨0x40150018, 8, 8⟩
def LCS_RBC_COUNTER2 : Fld := ⟨0x40150018, 16, 8⟩
def LCS_RBC_COUNTER3 : Fld := ⟨0x40150018, 24, 8⟩
def LCS_IMG_VALID : Fld := ⟨0x4015001c, 31, 1⟩
def LCS_IMG_SOURCE : Fld := ⟨0x4015001c, 8, 2⟩
def LCS_IMG_REASON : Fld := ⟨0x4015001c, 0, 4⟩
def LCS_SERIAL_LO_SERIAL : Fld := ⟨0x40150020, 0, 32⟩
def LCS_SERIAL_HI_SERIAL : Fld := ⟨0x40150024, 0, 32⟩
def LCS_KEYS_REVOKED : Fld := ⟨0x40150028, 4, 4⟩
def LCS_KEYS_PRESENT : Fld := ⟨0x40150028, 0, 4⟩
def LCS_INFO_FMTMAP : Fld := ⟨0x4015002c, 0, 4⟩
def AGE_CTRL_EN : Fld := ⟨0x40160000, 31, 1⟩
def AGE_CTRL_INT : Fld := ⟨0x40160000, 16, 8⟩
def AGE_CTRL_ADCINT : Fld := ⟨0x40160000, 0, 16⟩
def AGE_HEALTH_EOL : Fld := ⟨0x40160004, 31, 1⟩
def AGE_HEALTH_LEVEL : Fld := ⟨0x40160004, 24, 2⟩
def AGE_HEALTH_LVCORE : Fld := ⟨0x40160004, 22, 2⟩
def AGE_HEALTH_LBT : Fld := ⟨0x40160004, 20, 2⟩
def AGE_HEALTH_LADC : Fld := ⟨0x40160004, 18, 2⟩
def AGE_HEALTH_SCOREMAX : Fld := ⟨0x40160004, 8, 8⟩
def AGE_PLAN_VOFS : Fld := ⟨0x40160008, 26, 6⟩
def AGE_PLAN_ADCUSE : Fld := ⟨0x40160008, 16, 10⟩
def AGE_PLAN_BTREQ : Fld := ⟨0x40160008, 0, 16⟩
def AGE_MON_SCORE (i : Nat) : Fld := ⟨0x40160010 + 4 * i, 24, 8⟩
def AGE_MON_LEVEL (i : Nat) : Fld := ⟨0x40160010 + 4 * i, 22, 2⟩
def AGE_MON_VALUE (i : Nat) : Fld := ⟨0x40160010 + 4 * i, 0, 16⟩
def HST_T_INFO_VERSUP (i : Nat) : Fld := ⟨0x200000000 + 8192 * i, 8, 4⟩
def HST_T_INFO_TENANT (i : Nat) : Fld := ⟨0x200000000 + 8192 * i, 0, 4⟩
def HST_T_ATTACH_VERMAP (i : Nat) : Fld := ⟨0x200000004 + 8192 * i, 8, 4⟩
def HST_T_ATTACH_DETACH (i : Nat) : Fld := ⟨0x200000004 + 8192 * i, 1, 1⟩
def HST_T_ATTACH_ATTACH (i : Nat) : Fld := ⟨0x200000004 + 8192 * i, 0, 1⟩
def HST_T_STAT_STATE (i : Nat) : Fld := ⟨0x200000008 + 8192 * i, 16, 2⟩
def HST_T_STAT_VER (i : Nat) : Fld := ⟨0x200000008 + 8192 * i, 12, 2⟩
def HST_T_STAT_CFGERR (i : Nat) : Fld := ⟨0x200000008 + 8192 * i, 10, 1⟩
def HST_T_STAT_EVOVF (i : Nat) : Fld := ⟨0x200000008 + 8192 * i, 9, 1⟩
def HST_T_STAT_ATTERR (i : Nat) : Fld := ⟨0x200000008 + 8192 * i, 8, 1⟩
def HST_T_STAT_FCAUSE (i : Nat) : Fld := ⟨0x200000008 + 8192 * i, 4, 4⟩
def HST_T_RESET_KEY (i : Nat) : Fld := ⟨0x20000000c + 8192 * i, 0, 8⟩
def HST_T_EVR_LO_BASE (i : Nat) : Fld := ⟨0x200000010 + 8192 * i, 0, 32⟩
def HST_T_EVR_HI_BASE (i : Nat) : Fld := ⟨0x200000014 + 8192 * i, 0, 32⟩
def HST_T_EVR_CFG_EN (i : Nat) : Fld := ⟨0x200000018 + 8192 * i, 31, 1⟩
def HST_T_EVR_CFG_VEC (i : Nat) : Fld := ⟨0x200000018 + 8192 * i, 16, 3⟩
def HST_T_EVR_CFG_SIZE (i : Nat) : Fld := ⟨0x200000018 + 8192 * i, 0, 13⟩
def HST_T_SQ_LO_BASE (i j : Nat) : Fld := ⟨0x200000020 + 8192 * i + 16 * j, 0, 32⟩
def HST_T_SQ_HI_BASE (i j : Nat) : Fld := ⟨0x200000024 + 8192 * i + 16 * j, 0, 32⟩
def HST_T_SQ_CFG_EN (i j : Nat) : Fld := ⟨0x200000028 + 8192 * i + 16 * j, 31, 1⟩
def HST_T_SQ_CFG_CQ (i j : Nat) : Fld := ⟨0x200000028 + 8192 * i + 16 * j, 16, 2⟩
def HST_T_SQ_CFG_SIZE (i j : Nat) : Fld := ⟨0x200000028 + 8192 * i + 16 * j, 0, 13⟩
def HST_T_CQ_LO_BASE (i j : Nat) : Fld := ⟨0x200000060 + 8192 * i + 16 * j, 0, 32⟩
def HST_T_CQ_HI_BASE (i j : Nat) : Fld := ⟨0x200000064 + 8192 * i + 16 * j, 0, 32⟩
def HST_T_CQ_CFG_EN (i j : Nat) : Fld := ⟨0x200000068 + 8192 * i + 16 * j, 31, 1⟩
def HST_T_CQ_CFG_VEC (i j : Nat) : Fld := ⟨0x200000068 + 8192 * i + 16 * j, 16, 3⟩
def HST_T_CQ_CFG_SIZE (i j : Nat) : Fld := ⟨0x200000068 + 8192 * i + 16 * j, 0, 13⟩
def HST_T_CQ_COAL_TIMER (i j : Nat) : Fld := ⟨0x20000006c + 8192 * i + 16 * j, 16, 16⟩
def HST_T_CQ_COAL_CNT (i j : Nat) : Fld := ⟨0x20000006c + 8192 * i + 16 * j, 0, 8⟩
def HST_T_SQ_DB_INDEX (i j : Nat) : Fld := ⟨0x200001000 + 8192 * i + 8 * j, 0, 12⟩
def HST_T_CQ_DB_INDEX (i j : Nat) : Fld := ⟨0x200001004 + 8192 * i + 8 * j, 0, 12⟩
def HST_T_EVR_DB_INDEX (i : Nat) : Fld := ⟨0x200001040 + 8192 * i, 0, 12⟩

def rowsSYS : List RegRow := [
  ⟨0x40000000, 1, 4, [⟨16, 16, .RO, (.const 150), []⟩, ⟨12, 4, .RO, (.const 1), []⟩, ⟨8, 4, .RO, (.const 0), []⟩]⟩,
  ⟨0x40000100, 1, 4, [⟨0, 1, .WO, (.const 0), []⟩]⟩,
  ⟨0x40000104, 1, 4, [⟨16, 7, .RO, (.const 0), []⟩, ⟨8, 4, .RO, (.const 0), []⟩, ⟨2, 1, .W1C, (.const 0), []⟩, ⟨1, 1, .RO, (.const 0), []⟩, ⟨0, 1, .RO, (.const 0), []⟩]⟩,
  ⟨0x40000108, 1, 4, [⟨4, 1, .RW, (.const 0), []⟩, ⟨0, 3, .RW, (.const 0), [(0, 3)]⟩]⟩,
  ⟨0x4000010c, 1, 4, [⟨0, 32, .RW, (.const 0), []⟩]⟩,
  ⟨0x40000110, 1, 4, [⟨0, 32, .RW, (.const 0), []⟩]⟩,
  ⟨0x40000114, 1, 4, [⟨0, 32, .RW, (.const 0), []⟩]⟩,
  ⟨0x40000118, 1, 4, [⟨0, 11, .RW, (.const 1150), []⟩]⟩,
  ⟨0x40000120, 6, 4, [⟨16, 9, .RW, (.const 0), []⟩, ⟨0, 8, .RW, (.const 0), []⟩]⟩,
  ⟨0x40000140, 6, 4, [⟨31, 1, .RO, (.const 0), []⟩, ⟨30, 1, .RO, (.const 0), []⟩, ⟨16, 9, .RO, (.const 0), []⟩, ⟨0, 9, .RO, (.const 0), []⟩]⟩,
  ⟨0x40000200, 96, 4, [⟨0, 7, .RW, .index, [(0, 95), (127, 127)]⟩]⟩,
  ⟨0x40000400, 96, 4, [⟨16, 16, .RW, (.const 0), []⟩, ⟨4, 3, .RW, (.const 0), [(0, 5)]⟩, ⟨3, 1, .RW, (.const 0), []⟩, ⟨1, 2, .RW, (.const 0), [(0, 2)]⟩, ⟨0, 1, .RW, (.const 0), []⟩]⟩,
  ⟨0x40000600, 96, 4, [⟨0, 16, .RW, (.const 0), []⟩]⟩]

def rowsCLK : List RegRow := [
  ⟨0x40010000, 1, 4, [⟨8, 1, .RO, (.const 0), []⟩, ⟨4, 1, .RO, (.const 0), []⟩, ⟨3, 1, .W1C, (.const 0), []⟩, ⟨0, 1, .RO, (.const 0), []⟩]⟩,
  ⟨0x40010010, 1, 4, [⟨31, 1, .RO, (.const 0), []⟩, ⟨30, 1, .RO, (.const 1), []⟩, ⟨24, 2, .RO, (.const 1), []⟩, ⟨0, 9, .RO, (.const 160), []⟩]⟩,
  ⟨0x40010014, 3, 16, [⟨8, 1, .W1C, (.const 0), []⟩, ⟨0, 8, .RC, (.const 0), []⟩]⟩,
  ⟨0x40010020, 1, 4, [⟨31, 1, .RO, (.const 0), []⟩, ⟨30, 1, .RO, (.const 1), []⟩, ⟨24, 2, .RO, (.const 1), []⟩, ⟨22, 2, .RO, (.const 0), []⟩, ⟨16, 6, .RO, (.const 0), []⟩, ⟨0, 9, .RO, (.const 200), []⟩]⟩,
  ⟨0x40010030, 1, 4, [⟨31, 1, .RO, (.const 0), []⟩, ⟨30, 1, .RW, (.const 1), []⟩, ⟨24, 2, .RW, (.const 1), [(0, 2)]⟩, ⟨22, 2, .RW, (.const 0), [(0, 2)]⟩, ⟨16, 6, .RW, (.const 0), [(0, 40)]⟩, ⟨0, 9, .RW, (.const 160), [(64, 511)]⟩]⟩,
  ⟨0x40010100, 8, 4, [⟨31, 1, .RW, (.const 1), []⟩, ⟨30, 1, .RO, (.const 0), []⟩, ⟨16, 6, .RW, (.const 0), []⟩, ⟨0, 12, .RW, (.listed [10, 5, 16, 500, 4, 40, 4, 40]), []⟩]⟩]

def rowsPWR : List RegRow := [
  ⟨0x40020000, 1, 4, [⟨8, 1, .WO, (.const 0), []⟩, ⟨4, 2, .RW, (.const 1), [(0, 2)]⟩, ⟨2, 1, .RW, (.const 1), []⟩, ⟨1, 1, .RW, (.const 1), []⟩]⟩,
  ⟨0x40020004, 1, 4, [⟨28, 4, .RO, (.const 0), []⟩, ⟨24, 4, .RO, (.const 0), []⟩, ⟨18, 6, .RO, (.const 0), []⟩, ⟨17, 1, .W1C, (.const 0), []⟩, ⟨16, 1, .W1C, (.const 0), []⟩, ⟨15, 1, .RO, (.const 1), []⟩, ⟨14, 1, .RO, (.const 1), []⟩, ⟨13, 1, .RO, (.const 0), []⟩, ⟨12, 1, .RO, (.const 0), []⟩, ⟨0, 3, .RO, (.const 3), []⟩]⟩,
  ⟨0x40020008, 1, 4, [⟨16, 8, .RW, (.const 5), [(1, 50)]⟩, ⟨0, 9, .RW, (.const 46), [(43, 480)]⟩]⟩,
  ⟨0x40020010, 1, 4, [⟨16, 16, .RO, (.const 0), []⟩, ⟨0, 16, .RO, (.const 0), []⟩]⟩,
  ⟨0x40020014, 1, 4, [⟨20, 12, .RO, (.const 0), []⟩, ⟨0, 20, .RO, (.const 0), []⟩]⟩,
  ⟨0x40020018, 1, 4, [⟨16, 16, .RW, (.const 0), [(0, 1000)]⟩, ⟨8, 8, .RW, (.const 50), [(25, 50)]⟩, ⟨0, 8, .RW, (.const 50), [(1, 200)]⟩]⟩,
  ⟨0x4002001c, 1, 4, [⟨16, 16, .RW, (.const 300), []⟩, ⟨0, 16, .RW, (.const 150), []⟩]⟩,
  ⟨0x40020020, 1, 4, [⟨0, 16, .RW, (.const 10), []⟩]⟩,
  ⟨0x40020024, 1, 4, [⟨16, 1, .RO, (.const 0), []⟩, ⟨0, 16, .RO, (.const 0), []⟩]⟩,
  ⟨0x40020028, 1, 4, [⟨0, 6, .RW, (.const 63), []⟩]⟩,
  ⟨0x4002002c, 1, 4, [⟨0, 32, .RW, (.const 0), []⟩]⟩,
  ⟨0x40020030, 1, 4, [⟨0, 32, .RW, (.const 0), []⟩]⟩,
  ⟨0x40020034, 1, 4, [⟨8, 2, .RO, (.const 0), []⟩, ⟨0, 2, .RW, (.const 0), []⟩]⟩,
  ⟨0x40020038, 1, 4, [⟨16, 16, .RO, (.const 0), []⟩, ⟨0, 16, .RO, (.const 0), []⟩]⟩]

def rowsCAD : List RegRow := [
  ⟨0x40030000, 1, 4, [⟨31, 1, .W1S, (.const 0), []⟩, ⟨4, 3, .RW, (.const 2), [(1, 4)]⟩, ⟨2, 1, .RW, (.const 0), []⟩, ⟨1, 1, .WO, (.const 0), []⟩, ⟨0, 1, .RW, (.const 0), []⟩]⟩,
  ⟨0x40030004, 1, 4, [⟨0, 16, .RW, (.const 8000), [(4000, 40000)]⟩]⟩,
  ⟨0x40030008, 1, 4, [⟨0, 16, .RW, (.const 2400), [(1, 40000)]⟩]⟩,
  ⟨0x4003000c, 1, 4, [⟨0, 16, .RW, (.const 6000), [(1, 40000)]⟩]⟩,
  ⟨0x40030010, 1, 4, [⟨0, 16, .RW, (.const 7000), [(1, 40000)]⟩]⟩,
  ⟨0x40030014, 1, 4, [⟨0, 16, .RW, (.const 8000), [(1, 40000)]⟩]⟩,
  ⟨0x40030018, 1, 4, [⟨0, 12, .RW, (.const 800), [(40, 4000)]⟩]⟩,
  ⟨0x4003001c, 1, 4, [⟨0, 16, .RW, (.const 0), []⟩]⟩,
  ⟨0x40030020, 1, 4, [⟨16, 3, .RO, (.const 0), []⟩, ⟨13, 1, .RO, (.const 0), []⟩, ⟨12, 1, .W1C, (.const 0), []⟩, ⟨8, 3, .RO, (.const 0), []⟩, ⟨5, 1, .W1C, (.const 0), []⟩, ⟨4, 1, .RO, (.const 0), []⟩, ⟨0, 2, .RO, (.const 0), []⟩]⟩,
  ⟨0x40030024, 1, 4, [⟨0, 32, .RO, (.const 0xffffffff), []⟩]⟩,
  ⟨0x40030028, 1, 4, [⟨0, 32, .RO, (.const 0), []⟩]⟩,
  ⟨0x4003002c, 1, 4, [⟨0, 32, .RO, (.const 0), []⟩]⟩,
  ⟨0x40030030, 1, 4, [⟨0, 1, .WO, (.const 0), []⟩]⟩,
  ⟨0x40030034, 1, 4, [⟨0, 32, .RO, (.const 0), []⟩]⟩,
  ⟨0x40030038, 1, 4, [⟨0, 32, .RO, (.const 0), []⟩]⟩,
  ⟨0x4003003c, 1, 4, [⟨16, 16, .RO, (.const 0), []⟩, ⟨8, 2, .RO, (.const 0), []⟩, ⟨0, 5, .RO, (.const 0), []⟩]⟩,
  ⟨0x40030040, 1, 4, [⟨0, 32, .RW, (.const 0), []⟩]⟩,
  ⟨0x40030044, 1, 4, [⟨0, 32, .RW, (.const 0), []⟩]⟩,
  ⟨0x40030048, 1, 4, [⟨0, 32, .RW, (.const 0), []⟩]⟩,
  ⟨0x4003004c, 1, 4, [⟨0, 32, .RO, (.const 0), []⟩]⟩,
  ⟨0x40030050, 1, 4, [⟨16, 8, .RW, (.const 10), [(1, 100)]⟩, ⟨8, 8, .RW, (.const 10), [(1, 255)]⟩, ⟨2, 1, .RW, (.const 0), []⟩, ⟨0, 2, .RW, (.const 0), [(0, 2)]⟩]⟩,
  ⟨0x40030054, 1, 4, [⟨0, 32, .RO, (.const 0), []⟩]⟩,
  ⟨0x40030058, 1, 4, [⟨0, 32, .RO, (.const 0), []⟩]⟩]

def rowsADC : List RegRow := [
  ⟨0x40040000, 1, 4, [⟨16, 2, .RW, (.const 1), [(0, 2)]⟩, ⟨8, 1, .RW, (.const 1), []⟩, ⟨0, 8, .RW, (.const 255), []⟩]⟩,
  ⟨0x40040004, 2, 4, [⟨0, 16, .RW, (.listed [0, 4000]), [(0, 39999)]⟩]⟩,
  ⟨0x4004000c, 1, 4, [⟨17, 1, .RO, (.const 0), []⟩, ⟨16, 1, .W1C, (.const 0), []⟩, ⟨8, 8, .RO, (.const 0), []⟩, ⟨0, 8, .RO, (.const 0), []⟩]⟩,
  ⟨0x40040010, 4, 4, [⟨16, 3, .RW, (.const 4), [(0, 4)]⟩, ⟨0, 16, .RW, (.const 64080), []⟩]⟩,
  ⟨0x40040020, 1, 4, [⟨31, 1, .WO, (.const 0), []⟩, ⟨0, 5, .WO, (.const 0), []⟩]⟩,
  ⟨0x40040024, 1, 4, [⟨16, 16, .RC, (.const 0), []⟩, ⟨0, 16, .RC, (.const 0), []⟩]⟩,
  ⟨0x40040040, 8, 4, [⟨0, 16, .RO, (.const 0), []⟩]⟩,
  ⟨0x40040060, 8, 4, [⟨0, 32, .RO, (.const 0x80000000), []⟩]⟩,
  ⟨0x40040080, 8, 4, [⟨0, 32, .RO, (.const 0), []⟩]⟩,
  ⟨0x40040100, 32, 4, [⟨31, 1, .WO, (.const 0), []⟩, ⟨8, 8, .RW, (.const 2), [(1, 255)]⟩, ⟨0, 3, .RW, (.const 1), [(0, 4)]⟩]⟩,
  ⟨0x40040180, 32, 4, [⟨16, 16, .RW, (.const 16384), [(8192, 24576)]⟩, ⟨0, 16, .RW, (.const 0), []⟩]⟩,
  ⟨0x40040200, 32, 4, [⟨0, 32, .RO, .nvChan, []⟩]⟩,
  ⟨0x40040280, 32, 4, [⟨0, 32, .RO, .nvChan, []⟩]⟩]

def rowsMTR0 : List RegRow := [
  ⟨0x40050000, 1, 4, [⟨31, 1, .W1S, (.const 0), []⟩, ⟨30, 1, .W1S, (.const 0), []⟩, ⟨9, 1, .WO, (.const 0), []⟩, ⟨8, 1, .WO, (.const 0), []⟩, ⟨3, 1, .RW, (.const 1), []⟩, ⟨1, 2, .RW, (.const 0), [(0, 1)]⟩, ⟨0, 1, .RW, (.const 0), []⟩]⟩,
  ⟨0x40050004, 1, 4, [⟨31, 1, .RC, (.const 0), []⟩, ⟨30, 1, .RO, (.const 0), []⟩, ⟨29, 1, .W1C, (.const 0), []⟩, ⟨28, 1, .W1C, (.const 0), []⟩, ⟨8, 8, .W1C, (.const 0), []⟩, ⟨0, 8, .RO, (.const 0), []⟩]⟩,
  ⟨0x40050008, 1, 4, [⟨0, 8, .RO, (.const 0), []⟩]⟩,
  ⟨0x4005000c, 1, 4, [⟨16, 8, .RW, (.const 20), [(1, 255)]⟩, ⟨8, 8, .RW, (.const 90), [(50, 99)]⟩, ⟨0, 8, .RW, (.const 20), [(5, 24)]⟩]⟩,
  ⟨0x40050010, 4, 4, [⟨16, 16, .RC, (.const 0), []⟩, ⟨0, 16, .RC, (.const 0), []⟩]⟩,
  ⟨0x40050020, 1, 4, [⟨0, 16, .RW, (.const 60), []⟩]⟩,
  ⟨0x40050024, 1, 4, [⟨0, 8, .WO, (.const 0), []⟩]⟩,
  ⟨0x40050030, 2, 16, [⟨31, 1, .RW, (.const 0), []⟩, ⟨8, 8, .RW, (.const 40), [(5, 250)]⟩, ⟨6, 1, .RW, (.const 0), []⟩, ⟨4, 2, .RW, (.const 3), []⟩, ⟨0, 3, .RW, (.const 0), []⟩]⟩,
  ⟨0x40050034, 2, 16, [⟨0, 32, .RW, (.const 0), []⟩]⟩,
  ⟨0x40050038, 2, 16, [⟨0, 16, .RW, (.const 0), []⟩]⟩,
  ⟨0x4005003c, 2, 16, [⟨24, 8, .RO, (.const 0), []⟩, ⟨16, 8, .RC, (.const 0), []⟩]⟩,
  ⟨0x40050080, 4, 4, [⟨16, 16, .LK, (.const 32768), [(24576, 40960)]⟩, ⟨0, 16, .LK, (.const 0), [(0, 2047), (63488, 65535)]⟩]⟩,
  ⟨0x400500a0, 8, 4, [⟨16, 16, .RW, (.const 32768), [(24576, 40960)]⟩, ⟨0, 16, .RW, (.const 0), [(0, 2047), (63488, 65535)]⟩]⟩,
  ⟨0x40050100, 4, 64, [⟨0, 16, .LK, (.const 0), []⟩]⟩,
  ⟨0x40050104, 4, 64, [⟨0, 16, .LK, (.const 0), []⟩]⟩,
  ⟨0x40050108, 4, 64, [⟨0, 16, .LK, (.const 0), []⟩]⟩,
  ⟨0x4005010c, 4, 64, [⟨0, 16, .LK, (.const 0), []⟩]⟩,
  ⟨0x40050110, 4, 64, [⟨0, 16, .LK, (.const 0), []⟩]⟩,
  ⟨0x40050114, 4, 64, [⟨0, 16, .LK, (.const 0), []⟩]⟩,
  ⟨0x40050118, 4, 64, [⟨0, 16, .LK, (.const 0), []⟩]⟩,
  ⟨0x4005011c, 4, 64, [⟨0, 16, .LK, (.const 0), []⟩]⟩,
  ⟨0x40050120, 4, 64, [⟨16, 16, .LK, (.const 32768), [(24576, 40960)]⟩, ⟨0, 16, .LK, (.const 0), [(0, 2047), (63488, 65535)]⟩]⟩,
  ⟨0x40050124, 4, 64, [⟨16, 16, .LK, (.const 32768), [(24576, 40960)]⟩, ⟨0, 16, .LK, (.const 0), [(0, 2047), (63488, 65535)]⟩]⟩,
  ⟨0x40050128, 4, 64, [⟨16, 16, .LK, (.const 32768), [(24576, 40960)]⟩, ⟨0, 16, .LK, (.const 0), [(0, 2047), (63488, 65535)]⟩]⟩]

def rowsMTR1 : List RegRow := [
  ⟨0x4005012c, 4, 64, [⟨16, 16, .LK, (.const 32768), [(24576, 40960)]⟩, ⟨0, 16, .LK, (.const 0), [(0, 2047), (63488, 65535)]⟩]⟩,
  ⟨0x40050130, 4, 64, [⟨16, 16, .LK, (.const 32768), [(24576, 40960)]⟩, ⟨0, 16, .LK, (.const 0), [(0, 2047), (63488, 65535)]⟩]⟩,
  ⟨0x40050134, 4, 64, [⟨16, 16, .LK, (.const 32768), [(24576, 40960)]⟩, ⟨0, 16, .LK, (.const 0), [(0, 2047), (63488, 65535)]⟩]⟩,
  ⟨0x40050138, 4, 64, [⟨16, 16, .LK, (.const 32768), [(24576, 40960)]⟩, ⟨0, 16, .LK, (.const 0), [(0, 2047), (63488, 65535)]⟩]⟩,
  ⟨0x4005013c, 4, 64, [⟨16, 16, .LK, (.const 32768), [(24576, 40960)]⟩, ⟨0, 16, .LK, (.const 0), [(0, 2047), (63488, 65535)]⟩]⟩,
  ⟨0x40050200, 8, 4, [⟨0, 32, .RO, (.const 0), []⟩]⟩,
  ⟨0x40050220, 4, 16, [⟨0, 32, .RO, (.const 0), []⟩]⟩,
  ⟨0x40050224, 4, 16, [⟨0, 32, .RO, (.const 0), []⟩]⟩,
  ⟨0x40050228, 4, 16, [⟨0, 32, .RO, (.const 0), []⟩]⟩,
  ⟨0x4005022c, 4, 16, []⟩,
  ⟨0x40050400, 4, 64, [⟨0, 32, .RO, (.const 0), []⟩]⟩,
  ⟨0x40050408, 4, 64, [⟨0, 32, .RO, (.const 0), []⟩]⟩,
  ⟨0x40050410, 4, 64, [⟨0, 32, .RO, (.const 0), []⟩]⟩,
  ⟨0x40050418, 4, 64, [⟨0, 32, .RO, (.const 0), []⟩]⟩,
  ⟨0x40050420, 4, 64, [⟨0, 32, .RO, (.const 0), []⟩]⟩,
  ⟨0x40050428, 4, 64, [⟨0, 32, .RO, (.const 0), []⟩]⟩,
  ⟨0x40050430, 4, 64, [⟨0, 32, .RO, (.const 0), []⟩]⟩,
  ⟨0x40050438, 4, 64, [⟨0, 32, .RO, (.const 0), []⟩]⟩,
  ⟨0x40050404, 4, 64, [⟨0, 32, .RO, (.const 0), []⟩]⟩,
  ⟨0x4005040c, 4, 64, [⟨0, 32, .RO, (.const 0), []⟩]⟩,
  ⟨0x40050414, 4, 64, [⟨0, 32, .RO, (.const 0), []⟩]⟩,
  ⟨0x4005041c, 4, 64, [⟨0, 32, .RO, (.const 0), []⟩]⟩,
  ⟨0x40050424, 4, 64, [⟨0, 32, .RO, (.const 0), []⟩]⟩,
  ⟨0x4005042c, 4, 64, [⟨0, 32, .RO, (.const 0), []⟩]⟩,
  ⟨0x40050434, 4, 64, [⟨0, 32, .RO, (.const 0), []⟩]⟩]

def rowsMTR2 : List RegRow := [
  ⟨0x4005043c, 4, 64, [⟨0, 32, .RO, (.const 0), []⟩]⟩,
  ⟨0x40050500, 4, 64, [⟨0, 32, .RO, (.const 0), []⟩]⟩,
  ⟨0x40050508, 4, 64, [⟨0, 32, .RO, (.const 0), []⟩]⟩,
  ⟨0x40050510, 4, 64, [⟨0, 32, .RO, (.const 0), []⟩]⟩,
  ⟨0x40050518, 4, 64, [⟨0, 32, .RO, (.const 0), []⟩]⟩,
  ⟨0x40050520, 4, 64, [⟨0, 32, .RO, (.const 0), []⟩]⟩,
  ⟨0x40050528, 4, 64, [⟨0, 32, .RO, (.const 0), []⟩]⟩,
  ⟨0x40050530, 4, 64, [⟨0, 32, .RO, (.const 0), []⟩]⟩,
  ⟨0x40050538, 4, 64, [⟨0, 32, .RO, (.const 0), []⟩]⟩,
  ⟨0x40050504, 4, 64, [⟨0, 32, .RO, (.const 0), []⟩]⟩,
  ⟨0x4005050c, 4, 64, [⟨0, 32, .RO, (.const 0), []⟩]⟩,
  ⟨0x40050514, 4, 64, [⟨0, 32, .RO, (.const 0), []⟩]⟩,
  ⟨0x4005051c, 4, 64, [⟨0, 32, .RO, (.const 0), []⟩]⟩,
  ⟨0x40050524, 4, 64, [⟨0, 32, .RO, (.const 0), []⟩]⟩,
  ⟨0x4005052c, 4, 64, [⟨0, 32, .RO, (.const 0), []⟩]⟩,
  ⟨0x40050534, 4, 64, [⟨0, 32, .RO, (.const 0), []⟩]⟩,
  ⟨0x4005053c, 4, 64, [⟨0, 32, .RO, (.const 0), []⟩]⟩]

def rowsMTR : List RegRow := rowsMTR0 ++ rowsMTR1 ++ rowsMTR2

def rowsCLE : List RegRow := [
  ⟨0x40060000, 1, 4, [⟨3, 1, .WO, (.const 0), []⟩, ⟨2, 1, .RW, (.const 1), []⟩, ⟨1, 1, .RW, (.const 0), []⟩, ⟨0, 1, .RW, (.const 0), []⟩]⟩,
  ⟨0x40060004, 1, 4, [⟨16, 7, .RO, (.const 0), []⟩, ⟨9, 1, .W1C, (.const 0), []⟩, ⟨8, 1, .W1C, (.const 0), []⟩, ⟨4, 1, .W1C, (.const 0), []⟩, ⟨3, 1, .RO, (.const 0), []⟩, ⟨0, 2, .RO, (.const 0), []⟩]⟩,
  ⟨0x40060008, 1, 4, [⟨0, 14, .RW, (.const 0), []⟩]⟩,
  ⟨0x4006000c, 1, 4, [⟨16, 16, .RO, (.const 0), []⟩, ⟨0, 16, .RO, (.const 0), []⟩]⟩,
  ⟨0x40060010, 1, 4, [⟨16, 16, .RO, (.const 0), []⟩, ⟨14, 1, .RO, (.const 0), []⟩, ⟨0, 14, .RO, (.const 0), []⟩]⟩,
  ⟨0x40060014, 1, 4, [⟨0, 32, .RO, (.const 0), []⟩]⟩,
  ⟨0x40060018, 1, 4, [⟨0, 32, .RW, (.const 0), []⟩]⟩,
  ⟨0x4006001c, 1, 4, [⟨0, 32, .RW, (.const 0), []⟩]⟩,
  ⟨0x40060020, 1, 4, [⟨0, 14, .RW, (.const 0), []⟩]⟩,
  ⟨0x40060024, 1, 4, [⟨0, 32, .RW, (.const 0), []⟩]⟩,
  ⟨0x40060028, 1, 4, [⟨1, 1, .RO, (.const 0), []⟩, ⟨0, 1, .WO, (.const 0), []⟩]⟩,
  ⟨0x4006002c, 1, 4, [⟨16, 16, .RC, (.const 0), []⟩, ⟨0, 8, .RO, (.const 0), []⟩]⟩,
  ⟨0x40060040, 8, 4, [⟨0, 32, .W1C, (.const 0), []⟩]⟩]

def rowsGRD0 : List RegRow := [
  ⟨0x40070000, 1, 4, [⟨12, 1, .RW, (.const 0), []⟩, ⟨10, 2, .RW, (.const 0), [(0, 2)]⟩, ⟨8, 2, .RW, (.const 1), [(0, 1)]⟩, ⟨5, 1, .WO, (.const 0), []⟩, ⟨4, 1, .WO, (.const 0), []⟩, ⟨2, 1, .RW, (.const 0), []⟩, ⟨1, 1, .RW, (.const 0), []⟩, ⟨0, 1, .RW, (.const 0), []⟩]⟩,
  ⟨0x40070004, 1, 4, [⟨22, 1, .W1C, (.const 0), []⟩, ⟨21, 1, .W1C, (.const 0), []⟩, ⟨20, 1, .W1C, (.const 0), []⟩, ⟨16, 4, .RO, (.const 0), []⟩, ⟨14, 1, .RO, (.const 0), []⟩, ⟨13, 1, .RO, (.const 0), []⟩, ⟨12, 1, .RO, (.const 0), []⟩, ⟨11, 1, .RO, (.const 0), []⟩, ⟨10, 1, .RO, (.const 0), []⟩, ⟨8, 2, .RO, (.const 0), []⟩, ⟨6, 2, .RO, (.const 0), []⟩, ⟨4, 2, .RO, (.const 0), []⟩, ⟨0, 3, .RO, (.const 0), []⟩]⟩,
  ⟨0x40070008, 1, 4, [⟨22, 10, .RW, (.const 200), [(10, 1023)]⟩, ⟨21, 1, .RW, (.const 0), []⟩, ⟨16, 5, .RW, (.const 18), []⟩, ⟨8, 5, .RW, (.const 17), []⟩, ⟨0, 5, .RW, (.const 16), []⟩]⟩,
  ⟨0x4007000c, 1, 4, [⟨22, 10, .RW, (.const 200), [(10, 1023)]⟩, ⟨21, 1, .RW, (.const 0), []⟩, ⟨16, 5, .RW, (.const 2), []⟩, ⟨8, 5, .RW, (.const 1), []⟩, ⟨0, 5, .RW, (.const 0), []⟩]⟩,
  ⟨0x40070010, 1, 4, [⟨22, 10, .RW, (.const 200), [(10, 1023)]⟩, ⟨21, 1, .RW, (.const 1), []⟩, ⟨16, 5, .RW, (.const 0), []⟩, ⟨8, 5, .RW, (.const 0), []⟩, ⟨0, 5, .RW, (.const 0), []⟩]⟩,
  ⟨0x40070014, 1, 4, [⟨0, 16, .RW, (.const 4000), []⟩]⟩,
  ⟨0x40070018, 1, 4, [⟨24, 8, .RW, (.const 20), [(1, 255)]⟩, ⟨16, 8, .RW, (.const 30), [(5, 200)]⟩, ⟨8, 8, .RW, (.const 40), [(1, 255)]⟩, ⟨0, 8, .RW, (.const 91), [(32, 255)]⟩]⟩,
  ⟨0x4007001c, 1, 4, [⟨24, 8, .RW, (.const 35), [(1, 255)]⟩, ⟨16, 8, .RW, (.const 10), [(1, 255)]⟩, ⟨8, 8, .RW, (.const 20), [(1, 255)]⟩, ⟨0, 8, .RW, (.const 30), [(1, 255)]⟩]⟩,
  ⟨0x40070020, 1, 4, [⟨16, 16, .RW, (.const 1000), [(1, 65535)]⟩, ⟨0, 16, .RW, (.const 2500), [(1, 65535)]⟩]⟩,
  ⟨0x40070024, 1, 4, [⟨16, 16, .RW, (.const 6600), [(1, 65535)]⟩, ⟨0, 16, .RW, (.const 4250), [(1, 65535)]⟩]⟩,
  ⟨0x40070028, 1, 4, [⟨24, 8, .RW, (.const 5), [(1, 100)]⟩, ⟨16, 8, .RW, (.const 10), [(1, 255)]⟩, ⟨8, 8, .RW, (.const 20), [(1, 255)]⟩, ⟨0, 8, .RW, (.const 2), [(1, 255)]⟩]⟩,
  ⟨0x4007002c, 1, 4, [⟨16, 16, .RW, (.const 500), [(1, 5000)]⟩, ⟨0, 16, .RW, (.const 500), [(1, 65535)]⟩]⟩,
  ⟨0x40070030, 1, 4, [⟨16, 16, .RW, (.const 200), [(0, 10000)]⟩, ⟨0, 16, .RW, (.const 500), [(1, 2000)]⟩]⟩,
  ⟨0x40070034, 1, 4, [⟨16, 16, .RW, (.const 500), [(0, 10000)]⟩, ⟨0, 16, .RW, (.const 400), [(1, 10000)]⟩]⟩,
  ⟨0x40070038, 1, 4, [⟨0, 32, .RW, (.const 0), []⟩]⟩,
  ⟨0x4007003c, 1, 4, [⟨0, 32, .RW, (.const 0), []⟩]⟩,
  ⟨0x40070040, 1, 4, [⟨0, 32, .RW, (.const 0x20000000), []⟩]⟩,
  ⟨0x40070044, 1, 4, [⟨0, 32, .RW, (.const 0x20000000), []⟩]⟩,
  ⟨0x40070048, 1, 4, [⟨0, 32, .RW, (.const 0x23333333), [(0, 2147483647)]⟩]⟩,
  ⟨0x4007004c, 1, 4, [⟨0, 16, .RW, (.const 9800), [(5000, 9999)]⟩]⟩,
  ⟨0x40070050, 1, 4, [⟨16, 16, .RW, (.const 100), []⟩, ⟨0, 16, .RW, (.const 0), []⟩]⟩,
  ⟨0x40070054, 1, 4, [⟨16, 16, .RW, (.const 1000), []⟩, ⟨0, 16, .RW, (.const 500), [(1, 65535)]⟩]⟩,
  ⟨0x40070058, 1, 4, [⟨16, 16, .RW, (.const 100), [(1, 65535)]⟩, ⟨0, 16, .RW, (.const 2500), []⟩]⟩,
  ⟨0x4007005c, 1, 4, [⟨16, 16, .RW, (.const 500), [(1, 65535)]⟩, ⟨8, 8, .RW, (.const 20), [(1, 255)]⟩, ⟨0, 8, .RW, (.const 50), [(1, 100)]⟩]⟩]

def rowsGRD1 : List RegRow := [
  ⟨0x40070060, 1, 4, [⟨0, 32, .RW, (.const 0), []⟩]⟩,
  ⟨0x40070064, 1, 4, [⟨0, 32, .RW, (.const 0), []⟩]⟩,
  ⟨0x40070068, 1, 4, [⟨16, 8, .RW, (.const 50), [(20, 200)]⟩, ⟨0, 9, .RW, (.const 117), [(60, 300)]⟩]⟩,
  ⟨0x4007006c, 1, 4, [⟨0, 32, .RO, (.const 0), []⟩]⟩,
  ⟨0x40070070, 1, 4, [⟨0, 32, .RO, (.const 0), []⟩]⟩,
  ⟨0x40070074, 1, 4, [⟨24, 8, .RO, (.const 0), []⟩, ⟨16, 8, .RO, (.const 0), []⟩, ⟨0, 16, .RO, (.const 0), []⟩]⟩,
  ⟨0x40070078, 1, 4, [⟨16, 8, .RW, (.const 0), []⟩, ⟨8, 8, .RW, (.const 25), [(1, 100)]⟩, ⟨0, 8, .RW, (.const 30), []⟩]⟩,
  ⟨0x4007007c, 1, 4, [⟨0, 6, .RW, (.const 0), []⟩]⟩,
  ⟨0x40070080, 1, 4, [⟨16, 16, .RW, (.const 100), []⟩, ⟨0, 16, .RW, (.const 100), [(1, 65535)]⟩]⟩,
  ⟨0x40070084, 1, 4, [⟨0, 16, .RW, (.const 100), [(1, 65535)]⟩]⟩,
  ⟨0x40070088, 1, 4, [⟨16, 16, .RW, (.const 2000), []⟩, ⟨8, 8, .RW, (.const 110), []⟩, ⟨0, 8, .RW, (.const 85), []⟩]⟩,
  ⟨0x4007008c, 1, 4, [⟨16, 16, .RW, (.const 200), []⟩, ⟨8, 8, .RW, (.const 50), []⟩, ⟨0, 8, .RW, (.const 50), []⟩]⟩,
  ⟨0x40070090, 1, 4, [⟨0, 6, .W1C, (.const 0), []⟩]⟩,
  ⟨0x40070094, 1, 4, [⟨24, 8, .RW, (.const 0), [(0, 100)]⟩, ⟨16, 8, .RW, (.const 20), [(0, 100)]⟩, ⟨8, 8, .RW, (.const 110), []⟩, ⟨0, 8, .RW, (.const 90), []⟩]⟩,
  ⟨0x40070098, 1, 4, [⟨16, 16, .RW, (.const 1000), [(1, 65535)]⟩, ⟨0, 16, .RW, (.const 20), []⟩]⟩,
  ⟨0x4007009c, 1, 4, [⟨16, 16, .RW, (.const 0), []⟩, ⟨0, 16, .RW, (.const 0), []⟩]⟩,
  ⟨0x400700a0, 1, 4, [⟨0, 32, .RO, (.const 0), []⟩]⟩,
  ⟨0x40070100, 32, 4, [⟨0, 16, .RW, (.const 0), [(0, 16384), (49152, 65535)]⟩]⟩,
  ⟨0x40070200, 16, 4, [⟨16, 16, .RW, (.const 0), []⟩, ⟨0, 16, .RW, (.const 0), []⟩]⟩,
  ⟨0x40070240, 16, 4, [⟨16, 16, .RW, (.const 4000), []⟩, ⟨0, 16, .RW, (.const 0), []⟩]⟩]

def rowsGRD : List RegRow := rowsGRD0 ++ rowsGRD1

def rowsCEL : List RegRow := [
  ⟨0x40080000, 1, 4, [⟨16, 8, .RW, (.const 16), []⟩, ⟨6, 1, .WO, (.const 0), []⟩, ⟨5, 1, .RW, (.const 1), []⟩, ⟨4, 1, .RW, (.const 1), []⟩, ⟨3, 1, .RW, (.const 1), []⟩, ⟨2, 1, .RW, (.const 1), []⟩, ⟨1, 1, .RW, (.const 1), []⟩, ⟨0, 1, .RW, (.const 1), []⟩]⟩,
  ⟨0x40080004, 1, 4, [⟨8, 1, .W1C, (.const 0), []⟩, ⟨0, 4, .RO, (.const 0), []⟩]⟩,
  ⟨0x40080010, 6, 4, [⟨16, 16, .RW, (.const 328), []⟩, ⟨12, 4, .RW, (.const 2), []⟩, ⟨11, 1, .RW, (.const 0), []⟩, ⟨8, 2, .RW, (.const 0), [(0, 2)]⟩, ⟨0, 5, .RW, (.const 0), []⟩]⟩,
  ⟨0x40080030, 6, 4, [⟨24, 8, .RW, (.const 128), []⟩, ⟨16, 8, .RW, (.const 10), []⟩, ⟨8, 8, .RW, (.const 16), []⟩, ⟨0, 8, .RW, (.const 20), []⟩]⟩,
  ⟨0x40080050, 6, 4, [⟨24, 8, .RW, (.const 0), []⟩, ⟨16, 8, .RW, (.const 0), []⟩, ⟨8, 8, .RO, (.const 0), []⟩, ⟨0, 1, .RO, (.const 0), []⟩]⟩,
  ⟨0x40080080, 1, 4, [⟨16, 16, .RW, (.const 500), [(2, 65535)]⟩, ⟨8, 8, .RW, (.const 20), [(1, 255)]⟩, ⟨0, 8, .RW, (.const 1), [(1, 255)]⟩]⟩,
  ⟨0x40080084, 1, 4, [⟨24, 8, .RW, (.const 50), []⟩, ⟨16, 8, .RW, (.const 120), []⟩, ⟨8, 8, .RW, (.const 20), [(1, 255)]⟩, ⟨0, 8, .RW, (.const 10), []⟩]⟩,
  ⟨0x40080088, 1, 4, [⟨16, 16, .RW, (.const 60), []⟩, ⟨8, 8, .RW, (.const 16), [(4, 32)]⟩, ⟨0, 8, .RW, (.const 4), [(1, 15)]⟩]⟩,
  ⟨0x4008008c, 1, 4, [⟨16, 16, .RW, (.const 60), [(1, 65535)]⟩, ⟨0, 16, .RW, (.const 200), []⟩]⟩,
  ⟨0x40080090, 1, 4, [⟨16, 16, .RW, (.const 1500), []⟩, ⟨10, 6, .RW, (.const 1), []⟩, ⟨8, 2, .RW, (.const 1), [(0, 2)]⟩, ⟨4, 4, .RW, (.const 15), []⟩, ⟨0, 4, .RW, (.const 8), []⟩]⟩,
  ⟨0x40080094, 1, 4, [⟨24, 8, .RW, (.const 20), []⟩, ⟨16, 8, .RW, (.const 20), []⟩, ⟨8, 8, .RW, (.const 15), [(1, 255)]⟩, ⟨0, 8, .RW, (.const 20), [(1, 100)]⟩]⟩,
  ⟨0x40080098, 1, 4, [⟨16, 16, .RW, (.const 110), []⟩, ⟨8, 8, .RW, (.const 60), []⟩, ⟨0, 8, .RW, (.const 200), []⟩]⟩,
  ⟨0x4008009c, 1, 4, [⟨8, 8, .RW, (.const 90), []⟩, ⟨0, 8, .RW, (.const 110), []⟩]⟩,
  ⟨0x400800a0, 3, 4, [⟨0, 32, .WO, (.const 0), []⟩]⟩,
  ⟨0x400800b0, 3, 4, [⟨0, 32, .WO, (.const 0), []⟩]⟩,
  ⟨0x400800c0, 3, 4, [⟨0, 32, .RO, (.const 0), []⟩]⟩,
  ⟨0x40080100, 96, 4, [⟨0, 32, .RO, (.const 0), []⟩]⟩,
  ⟨0x40080300, 96, 4, [⟨16, 16, .RO, (.const 0), []⟩, ⟨7, 1, .RO, (.const 0), []⟩, ⟨6, 1, .RO, (.const 0), []⟩, ⟨5, 1, .RO, (.const 0), []⟩, ⟨3, 2, .RO, (.const 0), []⟩, ⟨0, 3, .RO, (.const 0), []⟩]⟩,
  ⟨0x40080500, 96, 4, [⟨16, 16, .RO, (.const 0), []⟩, ⟨0, 16, .RO, (.const 0), []⟩]⟩,
  ⟨0x40080700, 96, 4, [⟨16, 16, .RO, (.const 0), []⟩, ⟨0, 16, .RW, (.const 0), []⟩]⟩,
  ⟨0x40080900, 96, 4, [⟨16, 16, .RO, (.const 0), []⟩, ⟨8, 4, .RO, (.const 0), []⟩, ⟨0, 4, .RO, (.const 0), []⟩]⟩,
  ⟨0x40080b00, 96, 4, [⟨8, 3, .RO, (.const 0), []⟩, ⟨7, 1, .W1C, (.const 0), []⟩, ⟨6, 1, .W1C, (.const 0), []⟩, ⟨5, 1, .RO, (.const 0), []⟩, ⟨4, 1, .RO, (.const 0), []⟩, ⟨3, 1, .W1C, (.const 0), []⟩, ⟨2, 1, .RO, (.const 0), []⟩, ⟨1, 1, .RO, (.const 0), []⟩, ⟨0, 1, .RO, (.const 0), []⟩]⟩]

def rowsEDG : List RegRow := [
  ⟨0x40090000, 1, 4, [⟨8, 8, .RW, (.const 10), [(3, 255)]⟩, ⟨2, 1, .RW, (.const 1), []⟩, ⟨1, 1, .RW, (.const 1), []⟩, ⟨0, 1, .RW, (.const 0), []⟩]⟩,
  ⟨0x40090004, 1, 4, [⟨16, 16, .RO, (.const 0), []⟩, ⟨2, 1, .W1C, (.const 0), []⟩, ⟨1, 1, .RO, (.const 0), []⟩, ⟨0, 1, .RO, (.const 0), []⟩]⟩,
  ⟨0x40090008, 1, 4, [⟨16, 11, .RW, (.const 1600), [(0, 2000)]⟩, ⟨0, 9, .RW, (.const 80), [(0, 400)]⟩]⟩,
  ⟨0x4009000c, 1, 4, [⟨0, 10, .RW, (.const 400), [(0, 1000)]⟩]⟩,
  ⟨0x40090010, 1, 4, [⟨0, 32, .RW, (.const 0), []⟩]⟩,
  ⟨0x40090014, 1, 4, [⟨16, 16, .RC, (.const 0), []⟩, ⟨0, 16, .RC, (.const 0), []⟩]⟩,
  ⟨0x40090018, 1, 4, [⟨20, 6, .RO, (.const 0), []⟩, ⟨14, 6, .RO, (.const 0), []⟩, ⟨0, 14, .RO, (.const 0), []⟩]⟩,
  ⟨0x40090020, 6, 4, [⟨16, 12, .RW, (.const 100), [(1, 4095)]⟩, ⟨2, 1, .RW, (.const 0), []⟩, ⟨0, 2, .RW, (.const 0), [(0, 2)]⟩]⟩,
  ⟨0x40090040, 6, 4, [⟨25, 1, .RO, (.const 0), []⟩, ⟨16, 9, .RO, (.const 0), []⟩, ⟨0, 16, .RO, (.const 0), []⟩]⟩,
  ⟨0x40090100, 96, 4, [⟨0, 11, .RW, (.const 1200), [(0, 2000)]⟩]⟩,
  ⟨0x40090300, 96, 4, [⟨16, 16, .RO, (.const 0), []⟩, ⟨0, 16, .RO, (.const 0), []⟩]⟩]

def rowsPWM : List RegRow := [
  ⟨0x400a0000, 1, 4, [⟨0, 6, .RW, (.const 0), []⟩]⟩,
  ⟨0x400a0010, 8, 4, [⟨8, 8, .RW, (.const 4), []⟩, ⟨4, 3, .RW, (.const 0), []⟩, ⟨0, 1, .RW, (.const 0), []⟩]⟩,
  ⟨0x400a0030, 1, 4, [⟨8, 8, .RO, (.const 255), []⟩, ⟨0, 8, .RO, (.const 0), []⟩]⟩,
  ⟨0x400a0100, 6, 64, [⟨8, 1, .RW, (.const 0), []⟩, ⟨7, 1, .RW, (.const 0), []⟩, ⟨5, 2, .RW, (.const 0), [(0, 2)]⟩, ⟨2, 3, .RW, (.const 0), []⟩, ⟨0, 2, .RW, (.const 0), [(0, 1)]⟩]⟩,
  ⟨0x400a0104, 6, 64, [⟨0, 16, .RW, (.const 40000), [(1, 65535)]⟩]⟩,
  ⟨0x400a0108, 6, 64, [⟨16, 5, .RW, (.const 0), []⟩, ⟨0, 16, .RW, (.const 0), []⟩]⟩,
  ⟨0x400a010c, 6, 64, [⟨0, 16, .RW, (.const 0), []⟩]⟩,
  ⟨0x400a0110, 6, 64, [⟨0, 12, .RW, (.const 400), []⟩]⟩,
  ⟨0x400a0114, 6, 64, [⟨12, 1, .RW, (.const 0), []⟩, ⟨11, 1, .RW, (.const 1), []⟩, ⟨9, 2, .RW, (.const 0), [(0, 2)]⟩, ⟨8, 1, .RW, (.const 0), []⟩, ⟨0, 8, .RW, (.const 0), []⟩]⟩,
  ⟨0x400a0118, 6, 64, [⟨24, 5, .RW, (.const 0), []⟩, ⟨16, 2, .RW, (.const 0), [(0, 2)]⟩, ⟨12, 3, .RW, (.const 0), [(0, 5)]⟩, ⟨8, 4, .RW, (.const 1), [(1, 15)]⟩, ⟨0, 6, .RW, (.const 0), []⟩]⟩,
  ⟨0x400a011c, 6, 64, [⟨16, 16, .RC, (.const 0), []⟩, ⟨10, 1, .RO, (.const 0), []⟩, ⟨9, 1, .W1C, (.const 0), []⟩, ⟨8, 1, .W1C, (.const 0), []⟩, ⟨0, 6, .W1C, (.const 0), []⟩]⟩,
  ⟨0x400a0120, 6, 64, [⟨16, 1, .RO, (.const 0), []⟩, ⟨0, 16, .RO, (.const 0), []⟩]⟩]

def rowsTRP : List RegRow := [
  ⟨0x400b0000, 1, 4, [⟨0, 6, .W1S, (.const 0), []⟩]⟩,
  ⟨0x400b0004, 1, 4, [⟨24, 4, .RO, (.const 0), []⟩, ⟨16, 6, .W1C, (.const 0), []⟩]⟩,
  ⟨0x400b0008, 1, 4, [⟨0, 6, .WO, (.const 0), []⟩]⟩,
  ⟨0x400b000c, 1, 4, [⟨0, 16, .RW, (.const 2000), []⟩]⟩,
  ⟨0x400b0010, 1, 4, [⟨0, 32, .W1C, (.const 0), []⟩]⟩,
  ⟨0x400b0014, 1, 4, [⟨0, 4, .W1C, (.const 0), []⟩]⟩,
  ⟨0x400b0018, 1, 4, [⟨0, 32, .RO, (.const 0), []⟩]⟩,
  ⟨0x400b001c, 1, 4, [⟨0, 4, .RO, (.const 0), []⟩]⟩,
  ⟨0x400b0020, 1, 4, [⟨16, 16, .RO, (.const 0), []⟩, ⟨8, 1, .RO, (.const 0), []⟩, ⟨0, 6, .RO, (.const 0), []⟩]⟩,
  ⟨0x400b0024, 1, 4, [⟨0, 32, .RO, (.const 0), []⟩]⟩,
  ⟨0x400b0028, 1, 4, [⟨0, 32, .RO, (.const 0), []⟩]⟩,
  ⟨0x400b002c, 1, 4, [⟨0, 32, .RW, (.const 0), []⟩]⟩,
  ⟨0x400b0030, 1, 4, [⟨16, 16, .W1C, (.const 0), []⟩, ⟨0, 16, .RO, (.const 0), []⟩]⟩,
  ⟨0x400b0100, 16, 4, [⟨24, 6, .RW, (.const 0), []⟩, ⟨16, 6, .RW, (.const 63), []⟩, ⟨8, 8, .RW, (.const 80), []⟩, ⟨6, 2, .RW, (.const 1), []⟩, ⟨5, 1, .RW, (.const 0), []⟩, ⟨4, 1, .RW, (.const 0), []⟩, ⟨0, 2, .RW, (.const 0), [(0, 2)]⟩]⟩,
  ⟨0x400b0140, 16, 4, [⟨22, 10, .RW, (.const 200), [(10, 1023)]⟩, ⟨12, 10, .RW, (.const 1023), []⟩, ⟨0, 10, .RW, (.const 0), []⟩]⟩,
  ⟨0x400b0180, 8, 4, [⟨9, 1, .RW, (.const 0), []⟩, ⟨8, 1, .RW, (.const 0), []⟩, ⟨0, 6, .RW, (.const 63), []⟩]⟩,
  ⟨0x400b0200, 1, 4, [⟨16, 16, .RC, (.const 0), []⟩, ⟨0, 1, .W1S, (.const 0), []⟩]⟩,
  ⟨0x400b0204, 1, 4, [⟨0, 16, .RW, (.const 4000), [(1, 65535)]⟩]⟩,
  ⟨0x400b0208, 1, 4, [⟨0, 16, .RW, (.const 1300), [(1, 65535)]⟩]⟩,
  ⟨0x400b020c, 1, 4, [⟨0, 16, .RW, (.const 2000), [(1, 65535)]⟩]⟩,
  ⟨0x400b0210, 1, 4, [⟨22, 10, .RW, (.const 200), [(10, 1023)]⟩, ⟨16, 5, .RW, (.const 0), []⟩, ⟨0, 16, .RW, (.const 1500), [(1, 65535)]⟩]⟩,
  ⟨0x400b0214, 1, 4, [⟨16, 16, .RW, (.const 6600), [(1, 65535)]⟩, ⟨0, 16, .RW, (.const 4250), [(1, 65535)]⟩]⟩,
  ⟨0x400b0218, 1, 4, [⟨16, 16, .RW, (.const 200), [(1, 65535)]⟩, ⟨0, 4, .RW, (.const 15), []⟩]⟩]

def rowsSPK : List RegRow := [
  ⟨0x400c0000, 1, 4, [⟨8, 3, .RW, (.const 3), [(1, 3)]⟩, ⟨4, 3, .RW, (.const 1), [(1, 3)]⟩, ⟨0, 1, .RW, (.const 1), []⟩]⟩,
  ⟨0x400c0004, 1, 4, [⟨16, 7, .RO, (.const 0), []⟩, ⟨8, 1, .RO, (.const 0), []⟩, ⟨0, 1, .W1C, (.const 0), []⟩]⟩,
  ⟨0x400c0008, 1, 4, [⟨0, 16, .RW, (.const 400), [(0, 39999)]⟩]⟩,
  ⟨0x400c000c, 1, 4, [⟨0, 16, .RW, (.const 1000), [(1, 65535)]⟩]⟩,
  ⟨0x400c0010, 1, 4, [⟨8, 6, .RW, (.const 1), []⟩, ⟨0, 6, .RW, (.const 0), []⟩]⟩,
  ⟨0x400c0020, 3, 4, [⟨0, 32, .RW, (.const 0xffffffff), []⟩]⟩,
  ⟨0x400c0030, 3, 4, [⟨0, 32, .WO, (.const 0), []⟩]⟩,
  ⟨0x400c0040, 3, 4, [⟨0, 32, .RO, (.const 0), []⟩]⟩,
  ⟨0x400c0100, 96, 4, [⟨16, 8, .RO, (.const 0), []⟩, ⟨15, 1, .RO, (.const 0), []⟩, ⟨14, 1, .RO, (.const 0), []⟩, ⟨13, 1, .RO, (.const 0), []⟩, ⟨12, 1, .W1C, (.const 0), []⟩, ⟨10, 2, .RO, (.const 0), []⟩, ⟨9, 1, .RO, (.const 0), []⟩, ⟨4, 2, .RO, (.const 0), []⟩, ⟨0, 3, .RO, (.const 1), []⟩]⟩,
  ⟨0x400c0300, 96, 4, [⟨20, 12, .RO, (.const 0), []⟩, ⟨0, 20, .RO, (.const 0), []⟩]⟩,
  ⟨0x400c0500, 96, 4, [⟨0, 16, .RW, (.const 0), []⟩]⟩,
  ⟨0x400c0700, 96, 4, [⟨16, 16, .RC, (.const 0), []⟩, ⟨8, 8, .RC, (.const 0), []⟩, ⟨0, 8, .RC, (.const 0), []⟩]⟩,
  ⟨0x400c0900, 96, 4, [⟨24, 8, .RC, (.const 0), []⟩, ⟨16, 8, .RC, (.const 0), []⟩, ⟨8, 8, .RC, (.const 0), []⟩, ⟨0, 8, .RC, (.const 0), []⟩]⟩,
  ⟨0x400c0b00, 96, 4, [⟨16, 16, .RC, (.const 0), []⟩, ⟨8, 8, .RC, (.const 0), []⟩, ⟨0, 8, .RC, (.const 0), []⟩]⟩,
  ⟨0x400c0d00, 96, 4, [⟨16, 16, .RC, (.const 0), []⟩, ⟨0, 8, .RC, (.const 0), []⟩]⟩,
  ⟨0x400c0f00, 96, 4, [⟨0, 32, .RO, (.const 0), []⟩]⟩]

def rowsPEL : List RegRow := [
  ⟨0x400d0000, 1, 4, [⟨24, 8, .RW, (.const 1), [(1, 255)]⟩, ⟨16, 4, .RW, (.const 3), [(1, 15)]⟩, ⟨8, 3, .RW, (.const 2), [(1, 2)]⟩, ⟨4, 3, .RW, (.const 1), [(1, 2)]⟩, ⟨2, 1, .RW, (.const 0), []⟩, ⟨1, 1, .RW, (.const 0), []⟩, ⟨0, 1, .RW, (.const 0), []⟩]⟩,
  ⟨0x400d0004, 1, 4, [⟨24, 8, .RO, (.const 0), []⟩, ⟨16, 8, .RO, (.const 0), []⟩, ⟨15, 1, .W1C, (.const 0), []⟩, ⟨14, 1, .RO, (.const 0), []⟩, ⟨12, 2, .RO, (.const 0), []⟩, ⟨10, 2, .RO, (.const 0), []⟩, ⟨8, 2, .RO, (.const 0), []⟩, ⟨7, 1, .RO, (.const 0), []⟩, ⟨4, 3, .RO, (.const 0), []⟩, ⟨0, 3, .RO, (.const 0), []⟩]⟩,
  ⟨0x400d0008, 1, 4, [⟨0, 16, .RW, (.const 1760), [(0, 39999)]⟩]⟩,
  ⟨0x400d000c, 2, 4, [⟨30, 2, .RO, (.const 0), []⟩, ⟨29, 1, .RO, (.const 0), []⟩, ⟨26, 3, .RO, (.const 0), []⟩, ⟨0, 20, .RO, (.const 0), []⟩]⟩,
  ⟨0x400d0014, 2, 4, [⟨24, 8, .RC, (.const 0), []⟩, ⟨16, 8, .RC, (.const 0), []⟩, ⟨8, 8, .RC, (.const 0), []⟩, ⟨0, 8, .RC, (.const 0), []⟩]⟩,
  ⟨0x400d001c, 1, 4, [⟨0, 4, .RO, (.const 0), []⟩, ⟨4, 4, .RO, (.const 0), []⟩, ⟨8, 4, .RO, (.const 0), []⟩, ⟨12, 4, .RO, (.const 0), []⟩, ⟨16, 4, .RO, (.const 0), []⟩, ⟨20, 4, .RO, (.const 0), []⟩, ⟨24, 4, .RO, (.const 0), []⟩, ⟨28, 4, .RO, (.const 0), []⟩]⟩,
  ⟨0x400d0020, 1, 4, [⟨31, 1, .W1C, (.const 0), []⟩, ⟨8, 3, .RO, (.const 0), []⟩, ⟨0, 4, .RO, (.const 0), []⟩]⟩,
  ⟨0x400d0024, 1, 4, [⟨24, 8, .RW, (.const 0), []⟩, ⟨16, 8, .RW, (.const 0), []⟩, ⟨0, 16, .RW, (.const 0), []⟩]⟩,
  ⟨0x400d0028, 1, 4, [⟨8, 6, .RW, (.const 3), []⟩, ⟨0, 6, .RW, (.const 2), []⟩]⟩]

def rowsTRI : List RegRow := [
  ⟨0x400e0000, 1, 4, [⟨8, 1, .RO, (.const 0), []⟩, ⟨0, 2, .RO, (.const 0), []⟩]⟩,
  ⟨0x400e0004, 1, 4, [⟨16, 8, .RW, (.const 1), [(1, 255)]⟩, ⟨8, 4, .RW, (.const 2), [(1, 15)]⟩, ⟨4, 1, .RW, (.const 0), []⟩, ⟨2, 1, .RW, (.const 1), []⟩, ⟨0, 1, .RW, (.const 1), []⟩]⟩,
  ⟨0x400e0008, 1, 4, [⟨9, 1, .WO, (.const 0), []⟩, ⟨8, 1, .WO, (.const 0), []⟩, ⟨7, 1, .WO, (.const 0), []⟩, ⟨6, 1, .WO, (.const 0), []⟩, ⟨0, 2, .WO, (.const 0), []⟩]⟩,
  ⟨0x400e000c, 1, 4, [⟨13, 1, .RO, (.const 0), []⟩, ⟨12, 1, .RO, (.const 0), []⟩, ⟨10, 2, .RO, (.const 0), []⟩, ⟨8, 2, .RO, (.const 0), []⟩, ⟨6, 2, .RO, (.const 0), []⟩, ⟨0, 3, .RO, (.const 0), []⟩]⟩,
  ⟨0x400e0010, 1, 4, [⟨16, 16, .RO, (.const 0), []⟩, ⟨8, 8, .RO, (.const 0), []⟩, ⟨5, 3, .RO, (.const 0), []⟩, ⟨3, 1, .W1C, (.const 0), []⟩, ⟨0, 3, .RO, (.const 0), []⟩]⟩,
  ⟨0x400e0014, 1, 4, [⟨0, 32, .RO, (.const 0), []⟩]⟩,
  ⟨0x400e0018, 1, 4, [⟨0, 32, .RO, (.const 0), []⟩]⟩,
  ⟨0x400e001c, 1, 4, [⟨24, 8, .RW, (.const 0), []⟩, ⟨16, 8, .RW, (.const 0), []⟩, ⟨8, 8, .RW, (.const 0), []⟩, ⟨0, 8, .RW, (.const 0), []⟩]⟩,
  ⟨0x400e0020, 1, 4, [⟨31, 1, .RO, (.const 0), []⟩, ⟨30, 1, .RO, (.const 0), []⟩, ⟨8, 6, .RO, (.const 0), []⟩, ⟨0, 3, .RO, (.const 0), []⟩]⟩,
  ⟨0x400e0024, 1, 4, [⟨4, 2, .RO, (.const 0), []⟩, ⟨2, 2, .RO, (.const 0), []⟩, ⟨0, 2, .RO, (.const 0), []⟩]⟩,
  ⟨0x400e0028, 1, 4, [⟨1, 31, .RW, (.const 0), []⟩]⟩,
  ⟨0x400e002c, 1, 4, [⟨1, 31, .RW, (.const 0), []⟩]⟩,
  ⟨0x400e0030, 1, 4, [⟨0, 8, .WO, (.const 0), []⟩]⟩]

def rowsHST : List RegRow := [
  ⟨0x400f0000, 1, 4, [⟨8, 3, .RW, (.const 2), [(1, 2)]⟩]⟩,
  ⟨0x400f0004, 1, 4, [⟨16, 13, .RO, (.const 0), []⟩, ⟨3, 1, .RO, (.const 0), []⟩, ⟨2, 1, .RO, (.const 0), []⟩, ⟨0, 1, .W1C, (.const 0), []⟩]⟩,
  ⟨0x400f0008, 1, 4, [⟨31, 1, .RW, (.const 0), []⟩, ⟨16, 4, .RW, (.const 0), []⟩, ⟨0, 16, .RW, (.const 500), [(1, 65535)]⟩]⟩,
  ⟨0x400f000c, 1, 4, [⟨0, 32, .RW, (.const 0), []⟩]⟩,
  ⟨0x400f0010, 1, 4, [⟨0, 32, .RW, (.const 0), []⟩]⟩,
  ⟨0x400f0014, 1, 4, [⟨16, 16, .RW, (.const 0), []⟩, ⟨0, 16, .RW, (.const 200), [(1, 65535)]⟩]⟩,
  ⟨0x400f0018, 1, 4, [⟨0, 32, .RO, (.const 0), []⟩]⟩,
  ⟨0x400f0100, 16, 16, [⟨31, 1, .RW, (.listed [1, 0, 0, 0, 0, 0, 0, 0, 0, 0, 0, 0, 0, 0, 0, 0]), []⟩, ⟨16, 8, .RW, (.listed [255, 0, 0, 0, 0, 0, 0, 0, 0, 0, 0, 0, 0, 0, 0, 0]), []⟩, ⟨8, 7, .RW, (.listed [64, 0, 0, 0, 0, 0, 0, 0, 0, 0, 0, 0, 0, 0, 0, 0]), [(0, 64)]⟩, ⟨0, 6, .RW, (.const 0), []⟩]⟩,
  ⟨0x400f0104, 16, 16, [⟨16, 13, .RW, (.listed [4096, 256, 256, 256, 256, 256, 256, 256, 256, 256, 256, 256, 256, 256, 256, 256]), [(1, 4096)]⟩, ⟨0, 13, .RW, (.listed [256, 0, 0, 0, 0, 0, 0, 0, 0, 0, 0, 0, 0, 0, 0, 0]), [(0, 4096)]⟩]⟩,
  ⟨0x400f0108, 16, 16, [⟨24, 4, .RW, (.listed [4, 1, 1, 1, 1, 1, 1, 1, 1, 1, 1, 1, 1, 1, 1, 1]), [(1, 15)]⟩, ⟨16, 8, .RW, (.listed [64, 16, 16, 16, 16, 16, 16, 16, 16, 16, 16, 16, 16, 16, 16, 16]), [(1, 255)]⟩, ⟨0, 16, .RW, (.listed [65535, 0, 0, 0, 0, 0, 0, 0, 0, 0, 0, 0, 0, 0, 0, 0]), []⟩]⟩,
  ⟨0x400f010c, 16, 16, [⟨0, 32, .RW, (.const 0), []⟩]⟩,
  ⟨0x400f0200, 16, 16, [⟨16, 9, .RW, (.listed [384, 0, 0, 0, 0, 0, 0, 0, 0, 0, 0, 0, 0, 0, 0, 0]), [(0, 384)]⟩, ⟨0, 9, .RW, (.const 0), []⟩]⟩,
  ⟨0x400f0204, 16, 16, [⟨16, 9, .RW, (.const 0), [(0, 384)]⟩, ⟨0, 9, .RW, (.const 0), []⟩]⟩,
  ⟨0x400f0208, 16, 16, [⟨16, 9, .RW, (.const 0), [(0, 384)]⟩, ⟨0, 9, .RW, (.const 0), []⟩]⟩,
  ⟨0x400f020c, 16, 16, [⟨16, 9, .RW, (.const 0), [(0, 384)]⟩, ⟨0, 9, .RW, (.const 0), []⟩]⟩,
  ⟨0x400f0300, 16, 4, [⟨0, 32, .RO, (.const 0), []⟩]⟩]

def rowsQUE : List RegRow := [
  ⟨0x40100000, 1, 4, [⟨31, 1, .RO, (.const 0), []⟩, ⟨0, 13, .RO, (.const 4096), []⟩]⟩,
  ⟨0x40100004, 1, 4, [⟨31, 1, .RO, (.const 0), []⟩, ⟨0, 12, .RO, (.const 0), []⟩]⟩,
  ⟨0x40100008, 1, 4, [⟨0, 12, .WO, (.const 0), []⟩]⟩,
  ⟨0x4010000c, 1, 4, [⟨31, 1, .W1C, (.const 0), []⟩, ⟨24, 5, .RO, (.const 0), []⟩, ⟨16, 2, .RO, (.const 0), []⟩, ⟨0, 12, .RO, (.const 0), []⟩]⟩,
  ⟨0x40100010, 1, 4, [⟨0, 32, .RW, (.const 0), []⟩]⟩,
  ⟨0x40100014, 1, 4, [⟨0, 32, .W1C, (.const 0), []⟩]⟩,
  ⟨0x40100018, 1, 4, [⟨0, 32, .W1C, (.const 0), []⟩]⟩,
  ⟨0x4010001c, 1, 4, [⟨0, 32, .W1C, (.const 0), []⟩]⟩,
  ⟨0x40100020, 1, 4, [⟨0, 32, .W1C, (.const 0), []⟩]⟩,
  ⟨0x40100024, 1, 4, [⟨0, 32, .RW, (.const 0), []⟩]⟩,
  ⟨0x40100100, 64, 32, [⟨31, 1, .RW, (.const 0), []⟩, ⟨24, 6, .RW, (.const 63), [(0, 31), (63, 63)]⟩, ⟨16, 6, .RW, (.const 63), [(0, 31), (63, 63)]⟩, ⟨12, 2, .RW, (.const 0), []⟩, ⟨0, 12, .RW, (.const 0), []⟩]⟩,
  ⟨0x40100104, 64, 32, [⟨20, 12, .RO, (.const 0), []⟩, ⟨7, 13, .RO, (.const 0), []⟩, ⟨6, 1, .RO, (.const 0), []⟩, ⟨5, 1, .RO, (.const 0), []⟩, ⟨4, 1, .RO, (.const 0), []⟩, ⟨3, 1, .RO, (.const 0), []⟩, ⟨2, 1, .W1C, (.const 0), []⟩, ⟨1, 1, .RO, (.const 0), []⟩, ⟨0, 1, .RO, (.const 1), []⟩]⟩,
  ⟨0x40100108, 64, 32, [⟨0, 32, .WO, (.const 0), []⟩]⟩,
  ⟨0x4010010c, 64, 32, [⟨8, 1, .WO, (.const 0), []⟩, ⟨0, 3, .WO, (.const 0), [(1, 4)]⟩]⟩,
  ⟨0x40100110, 64, 32, [⟨0, 32, .RO, (.const 0x80000000), []⟩]⟩,
  ⟨0x40100114, 64, 32, [⟨0, 32, .RO, (.const 0x80000000), []⟩]⟩,
  ⟨0x40100118, 64, 32, [⟨2, 1, .WO, (.const 0), []⟩, ⟨1, 1, .WO, (.const 0), []⟩, ⟨0, 1, .WO, (.const 0), []⟩]⟩,
  ⟨0x4010011c, 64, 32, [⟨31, 1, .RO, (.const 1), []⟩, ⟨30, 1, .RO, (.const 0), []⟩, ⟨16, 6, .RW, (.const 0), [(0, 60)]⟩, ⟨0, 12, .RW, (.const 0), []⟩]⟩]

def rowsMEM : List RegRow := [
  ⟨0x40110000, 1, 4, [⟨0, 1, .RW, (.const 1), []⟩]⟩,
  ⟨0x40110004, 1, 4, [⟨0, 20, .RW, (.const 10000), [(100, 1000000)]⟩]⟩,
  ⟨0x40110008, 1, 4, [⟨0, 20, .RO, (.const 10000), []⟩]⟩,
  ⟨0x4011000c, 1, 4, [⟨31, 1, .W1C, (.const 0), []⟩, ⟨30, 1, .RO, (.const 0), []⟩, ⟨0, 16, .RO, (.const 0), []⟩]⟩,
  ⟨0x40110010, 1, 4, [⟨0, 32, .RO, (.const 0), []⟩]⟩,
  ⟨0x40110014, 1, 4, [⟨16, 16, .RW, (.const 0), []⟩, ⟨0, 16, .RW, (.const 0), []⟩]⟩,
  ⟨0x40110018, 1, 4, [⟨16, 16, .RC, (.const 0), []⟩, ⟨0, 16, .RC, (.const 0), []⟩]⟩,
  ⟨0x4011001c, 1, 4, [⟨31, 1, .W1C, (.const 0), []⟩, ⟨16, 5, .RO, (.const 0), []⟩, ⟨8, 2, .RO, (.const 0), []⟩]⟩,
  ⟨0x40110020, 1, 4, [⟨0, 32, .RO, (.const 0), []⟩]⟩,
  ⟨0x40110024, 1, 4, [⟨0, 32, .RW, (.const 0), []⟩]⟩,
  ⟨0x40110028, 1, 4, [⟨0, 32, .RW, (.const 0), []⟩]⟩,
  ⟨0x4011002c, 1, 4, [⟨16, 16, .RO, (.const 0), []⟩, ⟨4, 3, .RO, (.const 0), []⟩, ⟨0, 3, .RO, (.const 0), []⟩]⟩,
  ⟨0x40110100, 4, 4, [⟨0, 32, .RW, (.const 0), []⟩]⟩,
  ⟨0x40110110, 1, 4, []⟩,
  ⟨0x40110114, 8, 4, [⟨0, 32, .RW, (.const 0), []⟩]⟩,
  ⟨0x40110134, 3, 4, []⟩,
  ⟨0x40110140, 1, 4, [⟨0, 32, .RW, (.const 0), []⟩]⟩,
  ⟨0x40110144, 15, 4, []⟩]

def rowsFLT : List RegRow := [
  ⟨0x40120000, 1, 4, [⟨31, 1, .W1S, (.const 0), []⟩, ⟨0, 3, .RW, (.const 2), [(1, 4)]⟩]⟩,
  ⟨0x40120004, 1, 4, [⟨24, 8, .RO, (.const 0), []⟩, ⟨16, 8, .RO, (.const 0), []⟩, ⟨8, 8, .RO, (.const 0), []⟩, ⟨4, 4, .RO, (.const 0), []⟩, ⟨2, 1, .RO, (.const 1), []⟩, ⟨0, 2, .RO, (.const 0), []⟩]⟩,
  ⟨0x40120008, 1, 4, [⟨0, 16, .RW, (.const 10000), []⟩]⟩,
  ⟨0x4012000c, 1, 4, [⟨16, 16, .RW, (.const 100), []⟩, ⟨0, 16, .RW, (.const 1000), []⟩]⟩,
  ⟨0x40120010, 1, 4, [⟨31, 1, .W1C, (.const 0), []⟩, ⟨28, 3, .RO, (.const 0), []⟩, ⟨27, 1, .RO, (.const 0), []⟩, ⟨24, 2, .RO, (.const 0), []⟩, ⟨16, 5, .RO, (.const 0), []⟩, ⟨0, 8, .RO, (.const 0), []⟩]⟩,
  ⟨0x40120014, 1, 4, [⟨0, 32, .RO, (.const 0), []⟩]⟩,
  ⟨0x40120018, 1, 4, [⟨0, 32, .RO, (.const 0), []⟩]⟩,
  ⟨0x4012001c, 1, 4, [⟨0, 32, .RO, (.const 0), []⟩]⟩,
  ⟨0x40120020, 1, 4, [⟨24, 8, .RW, (.const 0), []⟩, ⟨16, 8, .RW, (.const 0), []⟩, ⟨8, 8, .RW, (.const 0), []⟩, ⟨0, 8, .RW, (.const 0), []⟩]⟩,
  ⟨0x40120024, 1, 4, [⟨0, 32, .RW, (.const 0), []⟩]⟩,
  ⟨0x40120028, 1, 4, [⟨31, 1, .W1S, (.const 0), []⟩, ⟨30, 1, .WO, (.const 0), []⟩, ⟨29, 1, .W1C, (.const 0), []⟩, ⟨8, 2, .RW, (.const 0), [(1, 2)]⟩, ⟨0, 5, .RW, (.const 0), [(1, 16)]⟩]⟩,
  ⟨0x4012002c, 1, 4, [⟨0, 32, .RW, (.const 0), []⟩]⟩,
  ⟨0x40120030, 1, 4, [⟨31, 1, .W1C, (.const 0), []⟩, ⟨0, 8, .RO, (.const 0), []⟩]⟩,
  ⟨0x40120100, 8, 4, [⟨0, 32, .W1C, (.const 0), []⟩]⟩,
  ⟨0x40120120, 8, 4, [⟨0, 32, .RO, (.const 0), []⟩]⟩,
  ⟨0x40120140, 8, 4, [⟨0, 32, .W1S, (.const 0), []⟩]⟩,
  ⟨0x40120160, 8, 4, [⟨0, 32, .RO, (.const 0), []⟩]⟩,
  ⟨0x40120180, 8, 4, [⟨0, 32, .RW, (.const 0), []⟩]⟩,
  ⟨0x40120200, 32, 4, [⟨0, 32, .RO, (.listed [590427187, 4, 858989361, 52572979, 823267603, 841027858, 606150930, 834, 34812177, 0, 554902322, 70194, 572662306, 572662306, 572662306, 572662306, 572662306, 572662306, 572662306, 572662306, 572662306, 572662306, 572662306, 572662306, 572662306, 572662306, 572662306, 572662306, 572662306, 572662306, 572662306, 572662306]), []⟩]⟩,
  ⟨0x40120400, 256, 4, [⟨0, 32, .RO, (.const 0), []⟩]⟩]

def rowsSAF : List RegRow := [
  ⟨0x40130000, 1, 4, [⟨31, 1, .W1S, (.const 0), []⟩, ⟨16, 4, .RW, (.const 4), [(1, 15)]⟩, ⟨9, 1, .RW, (.const 0), []⟩, ⟨8, 1, .WO, (.const 0), []⟩, ⟨0, 5, .RW, (.const 1), []⟩]⟩,
  ⟨0x40130004, 1, 4, [⟨31, 1, .RO, (.const 0), []⟩, ⟨30, 1, .RO, (.const 0), []⟩, ⟨29, 1, .RO, (.const 0), []⟩, ⟨28, 1, .RO, (.const 0), []⟩, ⟨16, 5, .RO, (.const 0), []⟩, ⟨8, 8, .RC, (.const 0), []⟩, ⟨0, 5, .W1C, (.const 0), []⟩]⟩,
  ⟨0x40130008, 1, 4, [⟨16, 7, .RO, (.const 0), []⟩, ⟨0, 16, .RO, (.const 0), []⟩]⟩,
  ⟨0x40130010, 2, 16, [⟨16, 16, .RW, (.const 2000), [(1, 65535)]⟩, ⟨0, 16, .RW, (.const 1250), [(1, 65535)]⟩]⟩,
  ⟨0x40130014, 2, 16, [⟨16, 16, .RW, (.const 1400), [(1, 65535)]⟩, ⟨0, 16, .RW, (.const 1100), []⟩]⟩,
  ⟨0x40130018, 2, 16, [⟨16, 16, .RW, (.const 6600), [(1, 65535)]⟩, ⟨0, 16, .RW, (.const 4250), [(1, 65535)]⟩]⟩,
  ⟨0x4013001c, 2, 16, [⟨16, 16, .RW, (.const 1100), []⟩, ⟨0, 16, .RW, (.const 20), [(1, 65535)]⟩]⟩,
  ⟨0x40130030, 1, 4, [⟨0, 16, .RW, (.const 0), []⟩]⟩,
  ⟨0x40130100, 4, 32, [⟨0, 32, .RW, (.const 0), []⟩]⟩,
  ⟨0x40130104, 4, 32, [⟨31, 1, .RW, (.const 0), []⟩, ⟨24, 2, .RW, (.const 0), [(0, 2)]⟩, ⟨20, 4, .RW, (.const 0), []⟩, ⟨16, 2, .RW, (.const 2), [(1, 2)]⟩, ⟨12, 4, .RW, (.const 4), [(1, 15)]⟩]⟩,
  ⟨0x40130108, 4, 32, [⟨16, 16, .RW, (.const 200), [(1, 65535)]⟩, ⟨0, 16, .RW, (.const 500), [(1, 65535)]⟩]⟩,
  ⟨0x4013010c, 4, 32, [⟨30, 2, .RO, (.const 0), []⟩, ⟨28, 2, .RO, (.const 0), []⟩, ⟨24, 4, .RO, (.const 0), []⟩, ⟨16, 1, .RO, (.const 0), []⟩, ⟨0, 16, .RO, (.const 0), []⟩]⟩,
  ⟨0x40130110, 4, 32, [⟨16, 16, .RC, (.const 0), []⟩, ⟨0, 16, .RC, (.const 0), []⟩]⟩,
  ⟨0x40130114, 4, 32, [⟨0, 32, .RO, (.const 0), []⟩]⟩]

def rowsNET0 : List RegRow := [
  ⟨0x40140000, 1, 4, [⟨8, 1, .RW, (.const 0), []⟩, ⟨5, 1, .RW, (.const 0), []⟩, ⟨3, 2, .RW, (.const 0), [(0, 2)]⟩, ⟨0, 2, .RW, (.const 0), []⟩]⟩,
  ⟨0x40140004, 1, 4, [⟨8, 1, .W1C, (.const 0), []⟩, ⟨4, 1, .RO, (.const 0), []⟩, ⟨0, 2, .RO, (.const 0), []⟩]⟩,
  ⟨0x40140008, 1, 4, [⟨0, 32, .RW, (.const 0), []⟩]⟩,
  ⟨0x4014000c, 1, 4, [⟨0, 16, .RW, (.const 0), []⟩]⟩,
  ⟨0x40140010, 1, 4, [⟨8, 8, .RW, (.const 0), [(0, 5), (252, 255)]⟩, ⟨0, 8, .RW, (.const 0), [(0, 127)]⟩]⟩,
  ⟨0x40140014, 1, 4, [⟨16, 16, .RW, (.const 0), []⟩, ⟨0, 16, .RW, (.const 0), []⟩]⟩,
  ⟨0x40140018, 2, 4, [⟨0, 32, .RO, (.const 0), []⟩]⟩,
  ⟨0x40140020, 1, 4, [⟨0, 16, .RW, (.const 34997), [(1536, 2047), (2049, 34524), (34526, 34999), (35001, 35001), (35003, 35062), (35064, 65535)]⟩]⟩,
  ⟨0x40140024, 1, 4, [⟨23, 1, .RW, (.const 0), []⟩, ⟨16, 6, .RW, (.const 0), []⟩, ⟨15, 1, .RW, (.const 0), []⟩, ⟨8, 6, .RW, (.const 0), []⟩, ⟨7, 1, .RW, (.const 0), []⟩, ⟨0, 6, .RW, (.const 0), []⟩]⟩,
  ⟨0x40140028, 1, 4, [⟨31, 1, .RW, (.const 0), []⟩, ⟨24, 6, .RW, (.const 0), []⟩, ⟨23, 1, .RW, (.const 0), []⟩, ⟨16, 6, .RW, (.const 0), []⟩, ⟨15, 1, .RW, (.const 0), []⟩, ⟨8, 6, .RW, (.const 0), []⟩, ⟨7, 1, .RW, (.const 0), []⟩, ⟨0, 6, .RW, (.const 0), []⟩]⟩,
  ⟨0x40140030, 1, 4, [⟨24, 8, .RC, (.const 0), []⟩, ⟨16, 8, .RC, (.const 0), []⟩, ⟨8, 8, .RC, (.const 0), []⟩, ⟨0, 8, .RC, (.const 0), []⟩]⟩,
  ⟨0x40140034, 2, 4, [⟨16, 16, .RC, (.const 0), []⟩, ⟨0, 16, .RC, (.const 0), []⟩]⟩,
  ⟨0x40140100, 16, 8, [⟨31, 1, .RW, (.const 0), []⟩, ⟨16, 9, .RW, (.const 0), []⟩, ⟨0, 16, .RW, (.const 0), []⟩]⟩,
  ⟨0x40140104, 16, 8, [⟨30, 2, .RO, (.const 0), []⟩, ⟨16, 8, .RC, (.const 0), []⟩, ⟨0, 16, .RO, (.const 0), []⟩]⟩,
  ⟨0x40140180, 4, 8, [⟨31, 1, .RW, (.const 0), []⟩, ⟨16, 11, .RW, (.const 0), [(0, 1514)]⟩, ⟨0, 16, .RW, (.const 1000), [(1, 65535)]⟩]⟩,
  ⟨0x40140184, 4, 8, [⟨0, 8, .RW, (.const 2), [(1, 255)]⟩]⟩,
  ⟨0x40140200, 8, 16, [⟨31, 1, .RW, (.const 0), []⟩, ⟨16, 9, .RW, (.const 0), []⟩, ⟨0, 16, .RW, (.const 0), []⟩]⟩,
  ⟨0x40140204, 8, 16, [⟨28, 4, .RW, (.const 8), [(1, 12)]⟩, ⟨16, 12, .RW, (.const 2500), [(100, 4095)]⟩, ⟨0, 16, .RW, (.const 3999), []⟩]⟩,
  ⟨0x40140208, 8, 16, [⟨24, 8, .RW, (.const 8), [(1, 255)]⟩, ⟨16, 8, .RW, (.const 8), [(1, 255)]⟩, ⟨0, 16, .RW, (.const 400), []⟩]⟩,
  ⟨0x4014020c, 8, 16, [⟨0, 32, .RW, (.const 0x11000000), [(285212672, 285728768)]⟩]⟩,
  ⟨0x40140280, 8, 4, [⟨29, 3, .RO, (.const 0), []⟩, ⟨16, 6, .RO, (.const 0), []⟩, ⟨8, 8, .RC, (.const 0), []⟩, ⟨4, 4, .RC, (.const 0), []⟩, ⟨0, 4, .RC, (.const 0), []⟩]⟩,
  ⟨0x40140300, 2, 32, [⟨31, 1, .RW, (.const 0), []⟩, ⟨30, 1, .RW, (.const 0), []⟩, ⟨16, 11, .RW, (.const 0), [(64, 1518)]⟩]⟩,
  ⟨0x40140304, 2, 32, [⟨0, 32, .RW, (.const 0), []⟩]⟩,
  ⟨0x40140308, 2, 32, [⟨16, 11, .RW, (.const 0), []⟩, ⟨0, 11, .RW, (.const 0), []⟩]⟩]

def rowsNET1 : List RegRow := [
  ⟨0x4014030c, 2, 32, [⟨0, 32, .RW, (.const 0), []⟩]⟩,
  ⟨0x40140310, 2, 32, [⟨0, 32, .RW, (.const 0), []⟩]⟩]

def rowsNET : List RegRow := rowsNET0 ++ rowsNET1

def rowsLCS : List RegRow := [
  ⟨0x40150000, 1, 4, [⟨31, 1, .RO, (.const 1), []⟩, ⟨30, 1, .RO, (.const 0), []⟩, ⟨29, 1, .W1C, (.const 0), []⟩, ⟨0, 3, .RO, (.const 0), []⟩]⟩,
  ⟨0x40150004, 1, 4, [⟨31, 1, .W1S, (.const 0), []⟩, ⟨16, 8, .RW, (.const 60), []⟩]⟩,
  ⟨0x40150008, 1, 4, [⟨8, 8, .WO, (.const 0), []⟩, ⟨0, 3, .WO, (.const 0), []⟩]⟩,
  ⟨0x4015000c, 1, 4, [⟨30, 2, .RO, (.const 0), []⟩, ⟨25, 1, .RO, (.const 0), []⟩, ⟨24, 1, .RO, (.const 0), []⟩, ⟨23, 1, .RO, (.const 0), []⟩, ⟨20, 3, .RO, (.const 0), []⟩, ⟨19, 1, .W1C, (.const 0), []⟩, ⟨16, 2, .RO, (.const 0), []⟩, ⟨8, 8, .RO, (.const 0), []⟩]⟩,
  ⟨0x40150010, 1, 4, [⟨8, 8, .WO, (.const 0), []⟩, ⟨0, 1, .WO, (.const 0), []⟩]⟩,
  ⟨0x40150014, 1, 4, [⟨0, 8, .WO, (.const 0), []⟩]⟩,
  ⟨0x40150018, 1, 4, [⟨0, 8, .RO, (.const 0), []⟩, ⟨8, 8, .RO, (.const 0), []⟩, ⟨16, 8, .RO, (.const 0), []⟩, ⟨24, 8, .RO, (.const 0), []⟩]⟩,
  ⟨0x4015001c, 1, 4, [⟨31, 1, .W1C, (.const 0), []⟩, ⟨8, 2, .RO, (.const 0), []⟩, ⟨0, 4, .RO, (.const 0), []⟩]⟩,
  ⟨0x40150020, 1, 4, [⟨0, 32, .RO, (.const 0), []⟩]⟩,
  ⟨0x40150024, 1, 4, [⟨0, 32, .RO, (.const 0), []⟩]⟩,
  ⟨0x40150028, 1, 4, [⟨4, 4, .W1S, (.const 0), []⟩, ⟨0, 4, .RO, (.const 0), []⟩]⟩,
  ⟨0x4015002c, 1, 4, [⟨0, 4, .RO, (.const 6), []⟩]⟩]

def rowsAGE : List RegRow := [
  ⟨0x40160000, 1, 4, [⟨31, 1, .RW, (.const 1), []⟩, ⟨16, 8, .RW, (.const 10), [(1, 255)]⟩, ⟨0, 16, .RW, (.const 10), [(1, 1000)]⟩]⟩,
  ⟨0x40160004, 1, 4, [⟨31, 1, .RO, (.const 0), []⟩, ⟨24, 2, .RO, (.const 0), []⟩, ⟨22, 2, .RO, (.const 0), []⟩, ⟨20, 2, .RO, (.const 0), []⟩, ⟨18, 2, .RO, (.const 0), []⟩, ⟨8, 8, .RO, (.const 0), []⟩]⟩,
  ⟨0x40160008, 1, 4, [⟨26, 6, .RO, (.const 0), []⟩, ⟨16, 10, .RO, (.const 10), []⟩, ⟨0, 16, .RO, (.const 0), []⟩]⟩,
  ⟨0x40160010, 5, 4, [⟨24, 8, .RO, (.const 0), []⟩, ⟨22, 2, .RO, (.const 0), []⟩, ⟨0, 16, .RO, (.const 0), []⟩]⟩]

def rowsBAR00 : List RegRow := [
  ⟨0x200000000, 16, 8192, [⟨8, 4, .RO, (.const 6), []⟩, ⟨0, 4, .RO, .index, []⟩]⟩,
  ⟨0x200000004, 16, 8192, [⟨8, 4, .WO, (.const 0), []⟩, ⟨1, 1, .WO, (.const 0), []⟩, ⟨0, 1, .WO, (.const 0), []⟩]⟩,
  ⟨0x200000008, 16, 8192, [⟨16, 2, .RO, (.const 0), []⟩, ⟨12, 2, .RO, (.const 0), []⟩, ⟨10, 1, .W1C, (.const 0), []⟩, ⟨9, 1, .W1C, (.const 0), []⟩, ⟨8, 1, .W1C, (.const 0), []⟩, ⟨4, 4, .RO, (.const 0), []⟩]⟩,
  ⟨0x20000000c, 16, 8192, [⟨0, 8, .WO, (.const 0), []⟩]⟩,
  ⟨0x200000010, 16, 8192, [⟨0, 32, .RW, (.const 0), []⟩]⟩,
  ⟨0x200000014, 16, 8192, [⟨0, 32, .RW, (.const 0), []⟩]⟩,
  ⟨0x200000018, 16, 8192, [⟨31, 1, .RW, (.const 0), []⟩, ⟨16, 3, .RW, (.const 0), []⟩, ⟨0, 13, .RW, (.const 0), []⟩]⟩,
  ⟨0x200000020, 16, 8192, [⟨0, 32, .RW, (.const 0), []⟩]⟩,
  ⟨0x200000030, 16, 8192, [⟨0, 32, .RW, (.const 0), []⟩]⟩,
  ⟨0x200000040, 16, 8192, [⟨0, 32, .RW, (.const 0), []⟩]⟩,
  ⟨0x200000050, 16, 8192, [⟨0, 32, .RW, (.const 0), []⟩]⟩,
  ⟨0x200000024, 16, 8192, [⟨0, 32, .RW, (.const 0), []⟩]⟩,
  ⟨0x200000034, 16, 8192, [⟨0, 32, .RW, (.const 0), []⟩]⟩,
  ⟨0x200000044, 16, 8192, [⟨0, 32, .RW, (.const 0), []⟩]⟩,
  ⟨0x200000054, 16, 8192, [⟨0, 32, .RW, (.const 0), []⟩]⟩,
  ⟨0x200000028, 16, 8192, [⟨31, 1, .RW, (.const 0), []⟩, ⟨16, 2, .RW, (.const 0), []⟩, ⟨0, 13, .RW, (.const 0), []⟩]⟩,
  ⟨0x200000038, 16, 8192, [⟨31, 1, .RW, (.const 0), []⟩, ⟨16, 2, .RW, (.const 0), []⟩, ⟨0, 13, .RW, (.const 0), []⟩]⟩,
  ⟨0x200000048, 16, 8192, [⟨31, 1, .RW, (.const 0), []⟩, ⟨16, 2, .RW, (.const 0), []⟩, ⟨0, 13, .RW, (.const 0), []⟩]⟩,
  ⟨0x200000058, 16, 8192, [⟨31, 1, .RW, (.const 0), []⟩, ⟨16, 2, .RW, (.const 0), []⟩, ⟨0, 13, .RW, (.const 0), []⟩]⟩,
  ⟨0x200000060, 16, 8192, [⟨0, 32, .RW, (.const 0), []⟩]⟩,
  ⟨0x200000070, 16, 8192, [⟨0, 32, .RW, (.const 0), []⟩]⟩,
  ⟨0x200000080, 16, 8192, [⟨0, 32, .RW, (.const 0), []⟩]⟩,
  ⟨0x200000090, 16, 8192, [⟨0, 32, .RW, (.const 0), []⟩]⟩,
  ⟨0x200000064, 16, 8192, [⟨0, 32, .RW, (.const 0), []⟩]⟩]

def rowsBAR01 : List RegRow := [
  ⟨0x200000074, 16, 8192, [⟨0, 32, .RW, (.const 0), []⟩]⟩,
  ⟨0x200000084, 16, 8192, [⟨0, 32, .RW, (.const 0), []⟩]⟩,
  ⟨0x200000094, 16, 8192, [⟨0, 32, .RW, (.const 0), []⟩]⟩,
  ⟨0x200000068, 16, 8192, [⟨31, 1, .RW, (.const 0), []⟩, ⟨16, 3, .RW, (.const 0), []⟩, ⟨0, 13, .RW, (.const 0), []⟩]⟩,
  ⟨0x200000078, 16, 8192, [⟨31, 1, .RW, (.const 0), []⟩, ⟨16, 3, .RW, (.const 0), []⟩, ⟨0, 13, .RW, (.const 0), []⟩]⟩,
  ⟨0x200000088, 16, 8192, [⟨31, 1, .RW, (.const 0), []⟩, ⟨16, 3, .RW, (.const 0), []⟩, ⟨0, 13, .RW, (.const 0), []⟩]⟩,
  ⟨0x200000098, 16, 8192, [⟨31, 1, .RW, (.const 0), []⟩, ⟨16, 3, .RW, (.const 0), []⟩, ⟨0, 13, .RW, (.const 0), []⟩]⟩,
  ⟨0x20000006c, 16, 8192, [⟨16, 16, .RW, (.const 0), []⟩, ⟨0, 8, .RW, (.const 0), []⟩]⟩,
  ⟨0x20000007c, 16, 8192, [⟨16, 16, .RW, (.const 0), []⟩, ⟨0, 8, .RW, (.const 0), []⟩]⟩,
  ⟨0x20000008c, 16, 8192, [⟨16, 16, .RW, (.const 0), []⟩, ⟨0, 8, .RW, (.const 0), []⟩]⟩,
  ⟨0x20000009c, 16, 8192, [⟨16, 16, .RW, (.const 0), []⟩, ⟨0, 8, .RW, (.const 0), []⟩]⟩,
  ⟨0x200001000, 16, 8192, [⟨0, 12, .WO, (.const 0), []⟩]⟩,
  ⟨0x200001008, 16, 8192, [⟨0, 12, .WO, (.const 0), []⟩]⟩,
  ⟨0x200001010, 16, 8192, [⟨0, 12, .WO, (.const 0), []⟩]⟩,
  ⟨0x200001018, 16, 8192, [⟨0, 12, .WO, (.const 0), []⟩]⟩,
  ⟨0x200001004, 16, 8192, [⟨0, 12, .WO, (.const 0), []⟩]⟩,
  ⟨0x20000100c, 16, 8192, [⟨0, 12, .WO, (.const 0), []⟩]⟩,
  ⟨0x200001014, 16, 8192, [⟨0, 12, .WO, (.const 0), []⟩]⟩,
  ⟨0x20000101c, 16, 8192, [⟨0, 12, .WO, (.const 0), []⟩]⟩,
  ⟨0x200001040, 16, 8192, [⟨0, 12, .WO, (.const 0), []⟩]⟩]

def rowsBAR0 : List RegRow := rowsBAR00 ++ rowsBAR01

/-- The block number of an address: 0 for SYS at 0x4000_0000 upwards (R339), 24 for the tenants' BAR0 registers. -/
def blockOf (addr : Nat) : Nat :=
  if 0x200000000 ≤ addr then 24 else (addr - 0x40000000) / 0x10000

/-- The registers of a block. -/
def rowsOf (b : Nat) : List RegRow :=
  match b with
  | 0 => rowsSYS
  | 1 => rowsCLK
  | 2 => rowsPWR
  | 3 => rowsCAD
  | 4 => rowsADC
  | 5 => rowsMTR
  | 6 => rowsCLE
  | 7 => rowsGRD
  | 8 => rowsCEL
  | 9 => rowsEDG
  | 10 => rowsPWM
  | 11 => rowsTRP
  | 12 => rowsSPK
  | 13 => rowsPEL
  | 14 => rowsTRI
  | 15 => rowsHST
  | 16 => rowsQUE
  | 17 => rowsMEM
  | 18 => rowsFLT
  | 19 => rowsSAF
  | 20 => rowsNET
  | 21 => rowsLCS
  | 22 => rowsAGE
  | 24 => rowsBAR0
  | _ => []

/-- Which element of the row an address is, if any. -/
def RegRow.elem? (r : RegRow) (addr : Nat) : Option Nat :=
  if addr < r.base then none
  else
    let d := addr - r.base
    if d % r.stride = 0 ∧ d / r.stride < r.count then some (d / r.stride) else none

/-- The register at an address, with its element number. -/
def find (addr : Nat) : Option (RegRow × Nat) :=
  (rowsOf (blockOf addr)).findSome? (fun r => (RegRow.elem? r addr).map (fun k => (r, k)))

/-- A reset value for element `k`. -/
def resetVal (v : ResetVal) (k : Nat) : Nat :=
  match v with
  | .const n => n
  | .index => k
  | .nvChan => 0x80000000 + k
  | .listed l => l.getD k 0

/-- The reset value of the field that begins at bit `lo` of the register at `addr`; 0 where there is none. -/
def resetAt (addr lo : Nat) : Nat :=
  match find addr with
  | none => 0
  | some (r, k) =>
    match r.fields.find? (fun f => f.lo == lo) with
    | none => 0
    | some f => resetVal f.rst k

/-- A key of the register table of State: 32 × address + low bit. A shadow copy (a value waiting for its activation) stands at its
field's address plus 2^32. -/
def resetOfKey (key : Nat) : Nat :=
  let a := key / 32
  let lo := key % 32
  if 0x200000000 ≤ a then resetAt a lo
  else if 0x100000000 ≤ a then resetAt (a - 0x100000000) lo
  else resetAt a lo

end Reg

end Sys2Proof.Machine
end

