-- ==== Sys2Proof/Machine/State.lean ====
section
/-!
DEFINITION. The state of the device as plain data.
Every register field of the register tables stands in `regs` (its reset value is the one its table gives, Reg.resetOfKey: an unlisted
field reads as it). What the chapters give a block beside its registers stands in that block's structure; each field's docstring gives
its width or kind, its rule and its reset value (the default written beside it).
-/

namespace Sys2Proof.Machine

/-- The stops of the model that report a fault. No command ends in one: the part is a block, and what it reports as a fault is a status
bit of its fault collector (R375 to R390), a next state. The one constructor is never answered by any meaning. -/
inductive Fault where
  /-- Raised by nothing. Safe. -/
  | never
deriving DecidableEq, Repr

/-- The refusals of the model. -/
inductive Refusal where
  /-- A command that has no meaning yet. Raised by Dispatch alone. Safe. -/
  | notModelled (mnemonic : String)
deriving DecidableEq, Repr

/-- What the device sends to its partners, oldest first: the model's own record. -/
inductive Out where
  /-- Block symbols on these Spoke ports: BLOCK in eight consecutive character slots from the next character on (R235, R276). -/
  | blockSymbols (ports : List Nat)
  /-- Plan frames in transmission on these ports, abandoned at the next character for the block symbol (R21, R235). -/
  | planAbandoned (ports : List Nat)
  /-- A Spoke frame: port, TIME at which its first character leaves, its 64 bytes (R255 to R274). -/
  | spokeFrame (port at_ : Nat) (bytes : List Nat)
  /-- A service frame that was to leave, or left, at this TIME is abandoned; it is sent again (R273). -/
  | spokeAbandoned (port at_ : Nat)
  /-- ECHO on a Spoke port, in the character slot at this TIME (R264). -/
  | spokeEcho (port at_ : Nat)
  /-- A ring frame on a lane: its bytes (R460 to R474). -/
  | laneFrame (lane : Nat) (bytes : List Nat)
  /-- A SERVICE frame on a lane whose payload the spec gives no layout for: its kind, its SEQ and what it carries (R464, R513). -/
  | laneService (lane kind : Nat) (fields : List Nat)
  /-- ECHO on a lane (R462). -/
  | laneEcho (lane : Nat)
  /-- A station frame: port, kind, its bytes or fields (R440 to R453). -/
  | stationFrame (port kind : Nat) (fields : List Int)
  /-- A notice to the MGC: what about, and an argument (R372, R376, R487, R497). -/
  | mgcNotice (what arg : Nat)
  /-- Words written into host memory of a tenant (R324 to R328). -/
  | hostWrite (tenant addr : Nat) (words : List Nat)
  /-- The bytes of a packet that QRECV writes to a tenant's buffer (R324). -/
  | hostBytes (tenant addr : Nat) (bytes : List Nat)
  /-- An MSI-X message of a tenant (R328). -/
  | msix (tenant vector : Nat)
  /-- A voted bus output of the Tricycle (R293). -/
  | voted (o : BusOut)
  /-- A status PDU of a safety connection (R405). -/
  | safetyPdu (conn : Nat) (bytes : List Nat)
  /-- A level driven on a metering pulse output (R432). -/
  | pulse (output : Nat) (level : Bool)
  /-- A synchronisation or edge of a PWM output pair (R210, R217). -/
  | pwm (channel : Nat) (a b : Bool)
  /-- FAULT_N driven to a level (R383). -/
  | faultN (high : Bool)
deriving DecidableEq, Repr

/-! ### Cadence (01) -/

/-- Cadence beside its registers. -/
structure CadState where
  /-- TIME, 64 bits, R7; reset 0. -/
  time : Nat := 0
  /-- The tick anchor, a TIME value, R10 and R31; reset 0. -/
  anchor : Nat := 0
  /-- TIME at the start of the present tick, R10; reset 0. -/
  tickStart : Nat := 0
  /-- TIME of the next tick start while ticks are scheduled, R10, R32; reset none. -/
  nextTick : Option Nat := none
  /-- A tick is in progress, R32; reset false. -/
  inTick : Bool := false
  /-- RUN was cleared and the tick in progress is the last: the TIME of its end, R32; reset none. -/
  stopAt : Option Nat := none
  /-- No plan has been dispatched since RUN went from 0 to 1: the previous plan is the null plan, R22; reset true. -/
  nullPlan : Bool := true
  /-- An overrun of this tick has been counted (one hold tick, counted once), R18; reset false. -/
  overrun : Bool := false
  /-- This tick is a hold tick, R18, R19; reset false. -/
  holdTick : Bool := false
  /-- The Dispatch deadline of this tick has passed, R11; reset false. -/
  dispatched : Bool := false
  /-- TIMEs of the waiting APPLY requests, oldest first, R30; reset none. -/
  applyReq : List Nat := []
  /-- Consecutive offsets within ±100 ns, R34; reset 0. -/
  goodOffsets : Nat := 0
  /-- TIME of the last valid Sync, R34; reset 0. -/
  lastSync : Nat := 0
  /-- The offset waiting to be stepped or slewed, in 78.125 ps units, R35; reset 0. -/
  pendingStep : Int := 0
  /-- RUN was set and its first tick has not started, R22, R32; reset false. -/
  starting : Bool := false
  /-- The phase correction still to be slewed, in 10^−12 counts, R34, R35; reset 0. -/
  phaseLeft : Int := 0
  /-- The part of a count that corrections have gathered, in 10^−12 counts, 0 to 10^12 − 1, R34 to R36; reset 0. -/
  drift : Int := 0
deriving DecidableEq, Repr

/-! ### Converter set (02) -/

/-- The converter set's request (R49). -/
structure SysState where
  /-- TIME of the waiting commit request, R49; reset none. -/
  commitReq : Option Nat := none
deriving DecidableEq, Repr

/-! ### Sensing (03) -/

/-- A sequenced sample due on one converter (R54): pair, slot, converter, input, its sample instant. -/
structure SlotSample where
  pair : Nat
  slot : Nat
  conv : Nat
  input : Nat
  time : Nat
deriving DecidableEq, Repr

/-- An urgent request held by a converter (R61, R63): its input, the TIME of the request, its sample instant, and what it sampled. -/
structure UrgentReq where
  input : Nat
  made : Nat
  sampleAt : Nat
  sampled : Bool
  code : BitVec 16
  ovr : Bool
deriving DecidableEq, Repr

/-- The post-filter of one input (R69 to R72): the history of each stage, newest first, samples entered since the last restart,
the OVR marks of the latest samples, newest first, and a restart that waits for the next sample. Reset: restarted, nothing entered. -/
structure FilterState where
  stages : List (List Int) := []
  entered : Nat := 0
  overs : List Bool := []
  restart : Bool := true
deriving DecidableEq, Repr

/-- Sensing beside its registers. -/
structure AdcState where
  /-- The sampling-set requests: TIMEs of the writes and the registers written, oldest first, R57; reset none. -/
  setReq : List (Nat × SampReg) := []
  /-- Bit c: converter c is awake, R55; reset 0: powered down. -/
  awake : Nat := 0
  /-- TIME of each converter's last calibration step, R74; reset none. -/
  calAt : Tbl (Option Nat) := []
  /-- The sequenced samples due and not yet posted, R54; reset none. -/
  due : List SlotSample := []
  /-- Urgent requests held per converter, at most two, R63; reset none. -/
  urgent : Tbl (List UrgentReq) := []
  /-- The filter of each input, R69; reset restarted and empty (R70). -/
  filters : Tbl FilterState := []
  /-- Bit n: input n has been converted since power-on reset, R68; reset 0. -/
  converted : Nat := 0
  /-- Bit n: input n reads NV from a dropped instant until its next sequenced result, R58, R68; reset 0. -/
  dropped : Nat := 0
  /-- Bit n: the latest sample of input n was NV, R72; reset 0. -/
  lastNv : Nat := 0
  /-- Sensing fell back to one instant at offset 0 (R58); reset false. -/
  oneInstant : Bool := false
deriving DecidableEq, Repr

/-! ### Control engine (04) -/

/-- The condition flags (R84). -/
structure CleFlags where
  z : Bool := false
  n : Bool := false
  v : Bool := false
  q : Bool := false
  l : Bool := false
deriving DecidableEq, Repr

/-- An active hardware loop (R88): the LOOP's address, its LAST, and the passes still to begin after this one. -/
structure CleLoopFrame where
  start : Nat
  last : Nat
  left : Nat
deriving DecidableEq, Repr

/-- The control engine beside its registers. -/
structure CleState where
  /-- W0 to W15, 32 bits each, R75; reset 0. -/
  w : Tbl Word := []
  /-- A0 to A15, 72 bits each, Q9.62, R79; reset 0. -/
  acc : Tbl (BitVec 72) := []
  /-- I0 to I3, 12 bits each, R75; reset 0. -/
  idx : Tbl (BitVec 12) := []
  /-- The condition flags, R84; reset all 0. -/
  flags : CleFlags := {}
  /-- The loop stack, innermost first, at most two, R88; reset empty. -/
  loops : List CleLoopFrame := []
  /-- The address of the next instruction; 16,384 after a sequential fetch past the end, R91; reset 0. -/
  pc : Nat := 0
  /-- TIME of the run's start, R75; reset 0. -/
  runStart : Nat := 0
  /-- TIME at which the next instruction issues, R80; reset 0. -/
  issue : Nat := 0
  /-- A WAITT in progress: the TIME at which the next instruction may issue, R90; reset none. -/
  waitUntil : Option Nat := none
  /-- The run of this tick completed with END, R76; reset false. -/
  ended : Bool := false
  /-- A run was started in this tick, R75; reset false. -/
  started : Bool := false
  /-- The program store, 16,384 words, R109; reset 0 in every word (DESIGN CHOICE, log 6). -/
  prog : Tbl Word := []
  /-- Program-store words whose parity is broken, R91; reset none. -/
  progBad : List Nat := []
  /-- Data memory, 4,096 words; reset 0 in every word (DESIGN CHOICE, log 6). -/
  data : Tbl Word := []
  /-- The object store, 4,096 words; reset 0 in every word (DESIGN CHOICE, log 6). -/
  obj : Tbl Word := []
  /-- Object words written by this run and not committed, R76; reset none. -/
  runObj : Tbl (Option Word) := []
  /-- Output-map and mailbox-out words written by this run and not committed, by map address, R76; reset none. -/
  runOut : Tbl (Option Word) := []
  /-- The output map as last committed (0x000 to 0x205), R95; reset 0. -/
  outMap : Tbl Word := []
  /-- Mailbox-out as last committed, 256 words, R93; reset 0. -/
  mbxOut : Tbl Word := []
  /-- Mailbox-in staging, 256 words, R110; reset 0 (DESIGN CHOICE, log 6). -/
  mbxStage : Tbl Word := []
  /-- Mailbox-in as active, 256 words, R110; reset 0 (DESIGN CHOICE, log 6). -/
  mbxIn : Tbl Word := []
  /-- TIME of the waiting mailbox request, R110; reset none. -/
  mbxReq : Option Nat := none
  /-- TIME of the last copy of the staging copy, R110; reset none. -/
  mbxCopied : Option Nat := none
  /-- TIME of the last write to the staging copy, and the copy before the writes of that clock, R110; reset none. -/
  mbxNow : Option (Nat × Tbl Word) := none
  /-- The write queue, oldest first, at most 64, R106; reset empty. -/
  wq : List (CleMemWord × Word) := []
  /-- A batch released by HOLDW that waits for the next END or abort, R107; reset false. -/
  wqWait : Bool := false
  /-- Input-map words fixed at the Acquire deadline (0x080 to 0x0BF, 0x100 to 0x43F), R93; reset 0. -/
  inMap : Tbl Word := []
deriving DecidableEq, Repr
/-! ### Grid functions (05) -/

/-- The angle observer (R113): per phase the in-phase and quadrature components at the phase's last sample, the last two sampled phase
voltages and their TIMEs; the TIME of the last step and, at it, the positive and negative sequence, the frequency in pu, the angle in
half-turns, and the integrator of the phase-locked loop. -/
structure Observer where
  a : Rat × Rat := (0, 0)
  b : Rat × Rat := (0, 0)
  c : Rat × Rat := (0, 0)
  lastV : Rat × Rat × Rat := (0, 0, 0)
  prevV : Rat × Rat × Rat := (0, 0, 0)
  lastT : Nat × Nat × Nat := (0, 0, 0)
  prevT : Nat × Nat × Nat := (0, 0, 0)
  at_ : Nat := 0
  pos : Rat × Rat := (0, 0)
  neg : Rat × Rat := (0, 0)
  w : Rat := 1
  th : Rat := 0
  integ : Rat := 0
deriving DecidableEq, Repr

/-- A good evaluation kept for the entry to FREEWHEEL (R130): the TIME of its reference point, the angle there, its frequency and ROCOF. -/
structure GoodEval where
  at_ : Nat
  th : Rat
  w : Rat
  rocof : Rat
deriving DecidableEq, Repr

/-- An impedance estimate formed at the end of a tone window and used at the next evaluation (R141). -/
structure ToneResult where
  r : Rat
  x : Rat
  irat : Rat
  opens : Bool
deriving DecidableEq, Repr

/-- The grid functions beside their registers. -/
structure GrdState where
  /-- The observer, R113; reset seeded at f_nom, angle 0, components 0 (DESIGN CHOICE, log 20). -/
  obs : Observer := {}
  /-- The shadow observer on the compensated EMF, R132; reset as the observer (DESIGN CHOICE, log 20). -/
  shadow : Observer := {}
  /-- The squared smallest U of the samples since the last evaluation, in pu², R118; reset none. -/
  uMin2 : Option Rat := none
  /-- The same with a sample that carries OVR counted as 1.05 × VSCALE, R148; reset none. -/
  ovMin2 : Option Rat := none
  /-- Voltage inputs posted since the last step of the observer, A, B, C as bits 0 to 2, R113; reset 0. -/
  posted : Nat := 0
  /-- TIMEs of the latest samples of the voltage inputs A, B, C, R113; reset 0. -/
  sampT : Nat × Nat × Nat := (0, 0, 0)
  /-- The smallest |e|² of the same samples, R132; reset none. -/
  eMin2 : Option Rat := none
  /-- A voltage word since the last evaluation was NV, R119; reset false. -/
  sawNv : Bool := false
  /-- A voltage word since the last evaluation was NV or OVR, R119; reset false. -/
  sawBad : Bool := false
  /-- A voltage word since the last evaluation carried OVR, R148; reset false. -/
  sawOvr : Bool := false
  /-- The voltage inputs A, B, C, as bits 0 to 2, whose word was NV since the last evaluation, R125; reset 0. -/
  nvSeen : Nat := 0
  /-- Consecutive good evaluations, R120, R133, R138; reset 0. -/
  goods : Nat := 0
  /-- Consecutive evaluations that were low or astray, R120; reset 0. -/
  bads : Nat := 0
  /-- Consecutive evaluations with an NV word, of each voltage input A, B, C, R125; reset 0, 0, 0. -/
  nvRuns : Nat × Nat × Nat := (0, 0, 0)
  /-- The last evaluation was good, R119; reset false. -/
  lastWasGood : Bool := false
  /-- The observer has been re-seeded since OBS became LOST, R121; reset false. -/
  reseeded : Bool := false
  /-- The last good evaluation, R130; reset none. -/
  lastGood : Option GoodEval := none
  /-- TIME since which every evaluation was low, R135; reset none. -/
  lowSince : Option Nat := none
  /-- The rotor's angle in half-turns, R127; reset 0 (DESIGN CHOICE, log 20). -/
  rotorTh : Rat := 0
  /-- The rotor's frequency in pu, R127; reset 0 (DESIGN CHOICE, log 20). -/
  rotorW : Rat := 0
  /-- The EMF magnitude E in pu, R127; reset 0 (DESIGN CHOICE, log 20). -/
  rotorE : Rat := 0
  /-- The rotor's rate in pu/s while coasting, R130; reset 0. -/
  rho : Rat := 0
  /-- TIME of the entry to FREEWHEEL, R134; reset 0. -/
  freeAt : Nat := 0
  /-- TIMEs of the last counted FREEWHEEL entry and rejoin, R154; reset none. -/
  entryAt : Option Nat := none
  rejoinAt : Option Nat := none
  /-- The virtual machine's p_ref of the last evaluation, R115, R127; reset 0. -/
  pref : Rat := 0
  /-- A met islanding test asks for the transfer to FORM at this evaluation, R146; reset false. -/
  transfer : Bool := false
  /-- |Δθ| ≤ REJANG has been reached in this FREEWHEEL, R133; reset false. -/
  aligned : Bool := false
  /-- Z_f frozen at the entry to FREEWHEEL, in pu, R132; reset 0. -/
  zFrozen : Rat × Rat := (0, 0)
  /-- Consecutive evaluations at which the shadow met both conditions, R132; reset 0. -/
  shadowGood : Nat := 0
  /-- Consecutive evaluations at which the shadow failed a condition, R132; reset 0. -/
  shadowBad : Nat := 0
  /-- TIME of the accepted black-start request, R136; reset 0. -/
  bsAt : Nat := 0
  /-- Consecutive evaluations in RAMP that meet the handover, R138; reset 0. -/
  bsGood : Nat := 0
  /-- After a handover E still moves towards VSET at VRAMP, R138; reset false. -/
  bsTail : Bool := false
  /-- TIME at which the tone window in progress begins, R141; reset 0. -/
  toneAt : Nat := 0
  /-- The tone's correlation with each of the six channels, voltages A, B, C as 0 to 2 and currents as 3 to 5: real and imaginary sum, and number
  of samples, R141; reset 0. -/
  toneSum : Tbl (Rat × Rat × Nat) := []
  /-- Tone windows completed since TONEEN went to 1, R142; reset 0. -/
  windows : Nat := 0
  /-- |I_tone| of the last windows not flagged by ZOPEN, newest first, at most 8, R141; reset none. -/
  iTones : List Rat := []
  /-- The result of a window that the next evaluation uses, R141; reset none. -/
  toneDue : Option ToneResult := none
  /-- ZVALID has been set since reset, R145; reset false. -/
  zEver : Bool := false
  /-- TIME since which each passive test's condition has held, by test, R144; reset none. -/
  testSince : Tbl (Option Nat) := []
  /-- Passive tests that were met at the last evaluation, by bit, R146; reset 0. -/
  testMet : Nat := 0
  /-- The passive tests stay suspended until this TIME, R144; reset 0. -/
  suspendedTo : Nat := 0
  /-- The suspension's cause held at the last evaluation, R144; reset true. -/
  suspended : Bool := true
  /-- TIME of the entry to ride-through, R148; reset 0. -/
  rtAt : Nat := 0
  /-- V_pre, R148; reset 0. -/
  vPre : Rat := 0
  /-- TIME at which recovery started, R148; reset none. -/
  recSince : Option Nat := none
  /-- TIME at which the active-power ramp started, while it runs, R151; reset none. -/
  rampFrom : Option Nat := none
  /-- Positive-sequence magnitudes of the evaluations of the last 50 ms, newest first, with their TIMEs, R148; reset none. -/
  posHist : List (Nat × Rat) := []
  /-- ω_obs after the observer's steps of the last ROCW, newest first, with their TIMEs, R113; reset none. -/
  wHist : List (Nat × Rat) := []
deriving DecidableEq, Repr

/-! ### Cell energy (06) -/

/-- The MPPT context of a cell beside its registers (R164 to R170). -/
structure Mppt where
  /-- VREF in 0.1 V, R166, R167; reset 0. -/
  vref : Rat := 0
  /-- The open-circuit voltage in 0.1 V, R165, R166; reset 0. -/
  voc : Rat := 0
  /-- The step in 0.1 V, R166, R167; reset 0. -/
  step : Rat := 0
  /-- The direction is up, R166, R167; reset true. -/
  up : Bool := true
  /-- Consecutive moves in the direction, R167; reset 0. -/
  run : Nat := 0
  /-- The previous point (V in 0.1 V, I in 0.1 A), R167; reset none. -/
  prev : Option (Rat × Rat) := none
  /-- Ticks since the last update or entry, R167; reset 0. -/
  ticks : Nat := 0
  /-- Sums of V and I and their number over the second half of the interval, R167; reset 0. -/
  sums : Int × Int × Nat := (0, 0, 0)
  /-- Every Report of the interval arrived unpredicted and the cell stayed eligible, R167; reset true. -/
  usable : Bool := true
  /-- The last usable point (V, I), of TRACK or a scan, R168; reset none. -/
  lastPoint : Option (Rat × Rat) := none
  /-- The last usable point of TRACK (V, I), R169; reset none. -/
  trackPoint : Option (Rat × Rat) := none
  /-- TIME of the entry to VOC, R166; reset 0. -/
  vocAt : Nat := 0
  /-- TIME of the present first use, R169; reset 0. -/
  usedAt : Nat := 0
  /-- The context left TRACK with NOHIST clear, R166; reset false. -/
  leftClear : Bool := false
  /-- The unpredicted cell voltages of the present VOC run, newest first, with their TIMEs, R165; reset none. -/
  vocRun : List (Nat × Nat) := []
  /-- TIME at which the last scan since the first use ended, R169; reset none. -/
  scanEnd : Option Nat := none
  /-- The point of the running scan, R169; reset 0. -/
  scanAt : Nat := 0
  /-- The scan's best point so far (power, VREF), R169; reset none. -/
  scanBest : Option (Rat × Rat) := none
  /-- VREF before the scan and the power of the last TRACK point, R169; reset 0. -/
  preScan : Rat × Rat := (0, 0)
deriving DecidableEq, Repr

/-- A cell's control state beside its registers, held per cell number (R181). -/
structure CellState where
  mppt : Mppt := {}
  /-- SOCI in 0.01 %, R171; reset 0. -/
  soci : Rat := 0
  /-- TIME of the present window's start, R171; reset none: no unit has been admitted for this cell. -/
  socStart : Option Nat := none
  /-- The reported SoC and SOCI at the window's start, in 0.01 %, R171; reset 0. -/
  socRef : Rat × Rat := (0, 0)
  /-- Every report of the window was in range, R172; reset true. -/
  socInRange : Bool := true
  /-- The latest reported SoC in 0.01 %, R171; reset 0. -/
  socRep : Nat := 0
  /-- The window that started at admission waits for its first good Report, R171; reset false. -/
  socAwait : Bool := false
  /-- Consecutive updates with the code held at a bound, R173; reset 0. -/
  satRun : Nat := 0
  /-- Sum and number of the codes of this hour, R174; reset 0. -/
  codeSum : Nat × Nat := (0, 0)
  /-- Sum and number of the qualifying on-state voltages of this hour, R174; reset 0. -/
  vonSum : Nat × Nat := (0, 0)
  /-- The mean on-state voltage of the last hour with a qualifying sample, in mV, R174; reset none. -/
  vonMean : Option Rat := none
  /-- The baselines C0 and VON0, R175; reset none. -/
  base : Option (Rat × Rat) := none
  /-- The hour in progress is complete since admission, R175; reset false. -/
  hourFull : Bool := false
  /-- A, 0 to 1, R174; reset 0. -/
  age : Rat := 0
  /-- The cell's temperature is above TLIM + 10 °C, R176; reset false. -/
  over10 : Bool := false
deriving DecidableEq, Repr

/-- An arm of the cell-energy block beside its registers. -/
structure ArmState where
  /-- P: the insertion set of the last dispatched plan, R158; reset empty. -/
  lastSet : List Nat := []
  /-- The last plan was short, R158; reset false. -/
  short : Bool := false
  /-- The arm's bypassed count was K at the last evaluation, R44; reset false. -/
  atK : Bool := false
  /-- The arm's carry C_arm in 78.125 ps units, R191, R205; reset 0. -/
  carry : Int := 0
deriving DecidableEq, Repr

/-- The cell-energy block beside its registers. -/
structure CelState where
  cells : Tbl CellState := []
  arms : Tbl ArmState := []
  /-- Cells whose bypass is requested and not yet decided, by bit, R177; reset 0. -/
  bypReq : Nat := 0
  /-- Cells whose requested bypass is due at the last Acquire deadline, by bit, R178; reset 0. -/
  bypDue : Nat := 0
  /-- Cells whose rejoin is requested and not yet judged, by bit, R180; reset 0. -/
  rjReq : Nat := 0
  /-- Cells whose rejoin is due for judgement since the last Acquire deadline, by bit, R180; reset 0. -/
  rjDue : Nat := 0
  /-- TIME of the last Acquire deadline, R178, R180; reset 0. -/
  acqAt : Nat := 0
  /-- TIME at which the hour of the ageing means began, R174; reset 0. -/
  hourAt : Nat := 0
  /-- This plan is the first since RUN went to 1, R157; reset true. -/
  firstPlan : Bool := true
deriving DecidableEq, Repr

/-! ### Edge scheduler (07) -/

/-- The state of a leg (R258). -/
inductive LegPos where
  | off | lower | upper
deriving DecidableEq, Repr

/-- The plan of one leg: the state at a, and its edges as offsets from a in 78.125 ps units with the state each leads to. -/
structure LegPlan where
  init : LegPos := .off
  edges : List (Int × LegPos) := []
deriving DecidableEq, Repr

/-- The plan of one cell (R257): TIME of a, the two legs (leg 2 idle in a half-bridge), dead time, strength code, and the commands. -/
structure CellPlan where
  start : Nat := 0
  leg1 : LegPlan := {}
  leg2 : LegPlan := {}
  dt : Nat := 0
  code : Nat := 0
  bypass : Bool := false
  blocked : Bool := false
deriving DecidableEq, Repr

/-- A cell's plan as built, with the remainders of its two legs in 78.125 ps units (R205). -/
structure BuiltCell where
  plan : CellPlan
  rem1 : Int
  rem2 : Int
deriving DecidableEq, Repr

/-- What the plan of an arm leaves beside its cells' plans: its mode, M before the clamp, LIMIT, the level count, the insertion set and its
swaps, whether this device carried the fractional pulse, and the edges moved and removed (R186, R190, R191, R205). -/
structure BuiltArm where
  mode : Nat := 0
  m : Rat := 0
  limit : Bool := false
  n : Nat := 0
  set : List Nat := []
  swaps : Nat := 0
  carried : Bool := false
  moved : Nat := 0
  removed : Nat := 0
deriving DecidableEq, Repr

/-- The edge scheduler beside its registers. -/
structure EdgState where
  /-- The plans built at this tick's Solve deadline, by cell, R183; reset none. -/
  built : Tbl (Option BuiltCell) := []
  /-- The same by arm; reset none. -/
  builtArms : Tbl (Option BuiltArm) := []
  /-- The plans last dispatched, by cell, R197, R199; reset none. -/
  sent : Tbl (Option CellPlan) := []
  /-- The plans dispatched before those, with their cells, whose blanking windows may still count, R227, R228; reset none. -/
  prior : List (Nat × CellPlan) := []
  /-- Arms blocked since the last dispatch, by bit: a plan computed for them is not dispatched and their legs are off, R198, R236;
  reset 0. -/
  offArms : Nat := 0
  /-- The largest M of the last plan, R126, R186; reset 0. -/
  m : Rat := 0
  /-- A plan built at this Solve deadline is not complete, R192, R471; reset false. -/
  incomplete : Bool := false
  /-- TIME at which the plans built at the Solve deadline are complete, R192; reset 0. -/
  readyAt : Nat := 0
deriving DecidableEq, Repr

/-- No plan has been dispatched: the previous one is the null plan (R22, R158). -/
def EdgState.noPrevious (e : EdgState) : EdgState := { e with sent := [], prior := [], offArms := 0 }

/-- The delay lines (R206 to R208): group 5 × line + group. -/
structure DlState where
  /-- The 6-bit trim of each group, R206; reset 0 (DESIGN CHOICE, log 21). -/
  trims : Tbl Nat := []
  /-- The group that is out of each line's path, 0 to 4, R206; reset 0 (DESIGN CHOICE, log 21). -/
  outs : Tbl Nat := []
  /-- Groups calibrated since the timebase PLL locked, by bit, R207; reset 0. -/
  done : Nat := 0
  /-- Lines whose group out is within its target and waits for its swap, by bit, R206; reset 0. -/
  swapDue : Nat := 0
  /-- Groups held at a trim bound off their target, by bit, R208; reset 0. -/
  bad : Nat := 0
deriving DecidableEq, Repr


/-! ### Local PWM (07) -/

/-- One PWM channel beside its registers. -/
structure PwmChan where
  /-- The counter runs, R213; reset false. -/
  run : Bool := false
  /-- Enabled with TSYNC 1 and waiting for the next tick start, R213; reset false. -/
  waitTick : Bool := false
  /-- TIME of the latest counter zero from which the counter counts up, R210; reset 0. -/
  zeroAt : Nat := 0
  /-- Output A is high, R209; reset low. -/
  outA : Bool := false
  /-- Output B is high, R209; reset low. -/
  outB : Bool := false
  /-- TIME × 32 of A's last turn-off, R211; reset 0. -/
  offA : Nat := 0
  /-- TIME × 32 of B's last turn-off, R211; reset 0. -/
  offB : Nat := 0
  /-- A turn-on waiting for its dead time: A (true) or B, and its TIME × 32, R211; reset none. -/
  turnOn : Option (Bool × Nat) := none
  /-- The trip state is in force, R217; reset false. -/
  cut : Bool := false
  /-- Occurrences counted towards the interrupt, R214; reset 0. -/
  evCount : Nat := 0
  /-- TIME + 1 of the last occurrence of each event; reset 0. -/
  evAfter : Tbl Nat := []
deriving DecidableEq, Repr

/-- Local PWM beside its registers: channels 0 to 5. -/
structure PwmState where
  chans : Tbl PwmChan := []
  /-- Samples of each trip input that agree on a new state so far, R216; reset 0. -/
  runs : Tbl Nat := []
  /-- The level last seen at each trip input pin, by bit, R216; reset all high, the inactive level of POL 0 (RAW reads 0). -/
  pins : Nat := 255
deriving DecidableEq, Repr

/-! ### Trip network (08) -/

/-- The trip network beside its registers. -/
structure TrpState where
  /-- The arms that each latched source blocks, R232; reset none. -/
  blocks : Tbl Nat := []
  /-- Which of RUN (bit 0) and CLE EN (bit 1) caused the latch of source 25, R231; reset 0. -/
  cause25 : Nat := 0
  /-- The input level at each comparator, in units of 0.1 µV, R225; reset 0 (DESIGN CHOICE, log 9). -/
  level : Tbl Int := []
  /-- Bit n: blanking of comparator n has been capped in this tick, R228; reset 0. -/
  capped : Nat := 0
  /-- The last unpredicted voltage of each cell in 0.1 V, R231 (source 32); reset none. -/
  cellV : Tbl (Option Int) := []
  /-- The last DC-link word that was not NV, R246 (source 33 activity); reset none. -/
  vdcWord : Option Nat := none
  /-- By source: TIME of its latest latching, and the arms it blocked before that clock, R223, R240; reset none. -/
  latched : Tbl (Option (Nat × Nat)) := []
  /-- By source: TIME at which software cleared it, and the arms and cause that the flag then held, R240; reset none. -/
  cleared : Tbl (Option (Nat × Nat × Nat)) := []
  /-- By arm: TIME at which it was enabled, R223; reset none. -/
  enabledAt : Tbl (Option Nat) := []
  /-- Consecutive exceeding DC-link words, R246; reset 0. -/
  vdcRun : Nat := 0
  /-- Since when P has exceeded 1.1 × PEXP, R248; reset none. -/
  pexpSince : Option Nat := none
deriving DecidableEq, Repr

/-! ### Spoke links (09) -/

/-- The quantities of a Report as the device uses them (R260, R263). -/
structure CellData where
  vcap : Int := 0
  isrc : Int := 0
  soc : Nat := 0
  von : Nat := 0
  temp : Int := 0
  ton : Nat := 0
  toff : Nat := 0
  planTick : Nat := 0
  gate : Nat := 0
  fcode : Nat := 0
  tvalid : Bool := false
  socv : Bool := false
  fault : Bool := false
  bypClosed : Bool := false
  blocked : Bool := false
  noplan : Bool := false
deriving DecidableEq, Repr

/-- A sequenced service frame sent and not acknowledged (R274): SEQ, TYPE, payload, attempts, the TIME of the last attempt. -/
structure SvcSent where
  seq : Nat
  type : Nat
  payload : List Nat
  tries : Nat
  at_ : Nat
deriving DecidableEq, Repr

/-- One Spoke port beside its registers, with the state of the cell unit on it (R41, R181). -/
structure PortState where
  /-- The Report accepted for the present tick, R277; reset none. -/
  got : Option CellData := none
  /-- The quantities in use since the last Acquire deadline, R263, R278; reset all 0. -/
  data : CellData := {}
  /-- The port had a good Report at the last Acquire deadline, R277; reset false. -/
  good : Bool := false
  /-- The quantities in use were predicted, R278; reset false. -/
  pred : Bool := false
  /-- TICK and VCAP of the last two good Reports, newest first, R278; reset none. -/
  goodV : List (Nat × Int) := []
  /-- Plan SEQ to send next, R256; reset 0. -/
  planSeq : Nat := 0
  /-- Service SEQ to send next, R256; reset 0. -/
  svcSeq : Nat := 0
  /-- Report SEQ and TICK received last, R280; reset none. -/
  rxSeq : Option (Nat × Nat) := none
  /-- TIME × 32 at which ECHO left, R264; reset none. -/
  echoT1 : Option Nat := none
  /-- t2 − t1 of the echo whose TURN has not come, in 78.125 ps units, R265; reset none. -/
  roundTrip : Option Int := none
  /-- The averaging in progress: twice the sum of the samples, and their number, R265; reset none. -/
  avg : Option (Int × Nat) := none
  /-- d has been formed since the port entered NEGOTIATE, R265, R266; reset false. -/
  formed : Bool := false
  /-- Consecutive rejected samples, R265; reset 0. -/
  rejects : Nat := 0
  /-- TICK of the last accepted sample, R265; reset 0. -/
  acceptTick : Nat := 0
  /-- The versions offered in the negotiation under way, as a map of bits, R270, R285; reset 0. -/
  offer : Nat := 0
  /-- The version offered in a confirmation and not yet acknowledged, R270; reset none. -/
  confirmed : Option Nat := none
  /-- The cell has acknowledged the version, R270, R551; reset false. -/
  acked : Bool := false
  /-- TIME of the last HELLO offer, R270; reset 0. -/
  offerAt : Nat := 0
  /-- The service window declared by the cell, R271; reset 1. -/
  window : Nat := 1
  /-- The block reaction time declared in HELLO, in ns, R270, R411; reset 0. -/
  react : Nat := 0
  /-- The cell unit has been admitted, R43; reset false. -/
  admitted : Bool := false
  /-- Consecutive Reports with another version, R280; reset 0. -/
  verRun : Nat := 0
  /-- In RESYNC: the TIME of the loss and whether the port was in OPERATE, R281; reset none. -/
  lossAt : Option (Nat × Bool) := none
  /-- Sequenced service frames not acknowledged, oldest first, R274; reset none. -/
  unacked : List SvcSent := []
  /-- SEQ of the last service frame received in order, R272; reset none. -/
  svcRx : Option Nat := none
  /-- TICKs of the last plans dispatched to the port, newest first, at most four, R261; reset none. -/
  planTicks : List Nat := []
  /-- BYPCAUSE, R177; reset 0. -/
  bypCause : Nat := 0
  /-- BYPFAIL, R179; reset false. -/
  bypFail : Bool := false
  /-- The unit has reported BYPCLOSED since its link was last trained, R179; reset false. -/
  closedSeen : Bool := false
  /-- TICK of the first frame with BYPASS sent while the link was in operation, BYPCLOSED not yet reported, R179; reset none. -/
  bypSent : Option Nat := none
  /-- Consecutive valid dv/dt estimates above DVDT, R247; reset 0. -/
  dvdtRun : Nat := 0
  /-- The voltage in 0.1 V and the time in 0.1 ns of the last valid dv/dt estimate, R231; reset none. -/
  dvdtLast : Option (Int × Nat) := none
  /-- Service frames placed on the line that have not ended: TIME of the first character, bytes, R273; reset none. -/
  line : List (Nat × List Nat) := []
  /-- TIME from which the line is free for a further service frame, R273; reset 0. -/
  lineFree : Nat := 0
  /-- TIME at which the last service frame begins, R284; reset 0. -/
  svcAt : Nat := 0
  /-- The end of the eight block symbols sent last, R276; reset 0. -/
  blockTill : Nat := 0
  /-- RATE waits for room in the service window: whether to 2.5 Mb/s, R274, R283; reset none. -/
  rateWait : Option Bool := none
  /-- TIME at which the port changes its line rate, and whether to 2.5 Mb/s, R283; reset none. -/
  rateAt : Option (Nat × Bool) := none
  /-- The line runs at 2.5 Mb/s, R283; reset false. -/
  slow : Bool := false
  /-- TIME of the last change of rate, R283; reset 0. -/
  rateSince : Nat := 0
deriving DecidableEq, Repr

/-- The Hub beside its registers. -/
structure SpkState where
  ports : Tbl PortState := []
  /-- The change of line rate under way: whether to 2.5 Mb/s, R283; reset none. -/
  rateTo : Option Bool := none
  /-- TIME of the last ECHO slot, R264; reset none. -/
  echoSlot : Option Nat := none
  /-- Ports whose alignment at the new rate is still awaited, by bit, R283; reset 0. -/
  alignWait : Nat := 0
  /-- TIME of the last Kickstand Plan frames, R284; reset 0. -/
  ksPlanAt : Nat := 0
  /-- Ports whose Plan frame of this tick has been started, by bit, R13; reset 0. -/
  planPorts : Nat := 0
  /-- Ports on which the plan data of those frames follow, by bit, R13; reset 0. -/
  planLine : Nat := 0
  /-- TIME at which those frames started (t_tx), R13, R266; reset 0. -/
  planAt : Nat := 0
  /-- The Hub asks the always-on domain for a wake, R284; reset false. -/
  wakeReq : Bool := false
deriving DecidableEq, Repr

/-! ### Peloton (17) -/

/-- A SUMMARY frame's contents (R469): lists by arm of six. -/
structure Summary where
  tick : Nat := 0
  lanes : Nat := 0
  leader : Bool := false
  blkArms : Nat := 0
  elig : List Nat := []
  byp : List Nat := []
  meanKey : List Nat := []
  volts : List Nat := []
  worst : Nat := 0
deriving DecidableEq, Repr

/-- What a device knows of another device of the Peloton, by index. -/
structure PelDevice where
  /-- Its SUMMARY in use, as held at the last Acquire deadline, R471; reset none. -/
  summary : Option Summary := none
  /-- The SUMMARY received last, R471; reset none. -/
  arrived : Option Summary := none
  /-- It sends HELLO and is present on the ring, R464; reset false. -/
  present : Bool := false
  /-- Its CAND, version map and part word from HELLO, R464; reset 0. -/
  cand : Bool := false
  verMap : Nat := 0
  part : Nat := 0
  /-- Another device has been heard under the same index, R465; reset false. -/
  twin : Bool := false
  /-- HOP of its last HELLO, by lane, R460, R465; reset none. -/
  hops : Tbl (Option Nat) := []
  /-- Its last CONFIG, R464; reset none. -/
  config : Option ConverterConfig := none
  /-- Arms that it blocks, as its last BLOCK or SUMMARY says, R474; reset 0. -/
  blkArms : Nat := 0
  /-- The present reason of refusal, 0 none, R465; reset 0. -/
  refused : Nat := 0
  /-- A frame of it has been received, so that this device's CONFIG has gone out to it, R464; reset false. -/
  met : Bool := false
deriving DecidableEq, Repr

/-- The Peloton beside its registers. -/
structure PelState where
  devs : Tbl PelDevice := []
  /-- Frames received, by origin, type and SEQ, newest first, R461; reset none. -/
  seen : List (Nat × Nat × Nat) := []
  /-- SEQ to send next, by frame type, R256; reset 0. -/
  seqs : Tbl Nat := []
  /-- TICK of the last GRID frame received, R472; reset none. -/
  gridTick : Option Nat := none
  /-- Source 30 is held active for every arm by NOLEADER, R475; reset false. -/
  noLeader : Bool := false
  /-- An election is due at the next tick start, R475; reset false. -/
  electDue : Bool := false
  /-- HELLO, CONFIG and image frames waiting until they may start, oldest first: kind and contents, R463; reset none. -/
  services : List (Nat × List Nat) := []
  /-- HELLO has been sent since the lanes started, R464; reset false. -/
  greeted : Bool := false
  /-- TIME × 32 at which ECHO left each lane, R462; reset none. -/
  echoAt : Tbl Nat := []
  /-- The averaging of each lane's delay: sum and number, R462; reset none. -/
  avg : Tbl (Option (Int × Nat)) := []
  /-- Consecutive rejected samples of each lane, R462; reset 0. -/
  rejects : Tbl Nat := []
  /-- A leader has been lost and none exists since: source 89's condition, R475; reset false. -/
  leaderLost : Bool := false
  /-- TIME of the last HELLO, R464; reset 0. -/
  helloAt : Nat := 0
  /-- The leader's phase error last steered out, in 78.125 ps units, R468; reset 0. -/
  steer : Int := 0
deriving DecidableEq, Repr


/-! ### Tricycle (10) -/

/-- One core of the Tricycle. -/
structure CoreState where
  /-- tcirqen, 32 bits (bits 18 to 31 reserved), R288; reset 0 (DESIGN CHOICE, log 10). -/
  irqen : Nat := 0
  /-- tcirqpend, 32 bits, R288; reset 0 (DESIGN CHOICE, log 10). -/
  irqpend : Nat := 0
  /-- The snapshot of TIME[63:32] for the CSR pair, R289; reset 0 (R26). -/
  timeSnap : Nat := 0
  /-- The 68 words that a resynchronisation copies, by their place in the list of R298, tcirqen and tcirqpend apart; reset 0
  (DESIGN CHOICE, log 10). -/
  words : Tbl Nat := []
  /-- The privilege mode: 3 Machine, 0 User (R286); reset Machine (PRESUMED, log 158). -/
  priv : Nat := 3
  /-- CAUSE of dcsr: 3 a halt request, 4 a step (R305); reset 0 (PRESUMED, log 158). -/
  haltCause : Nat := 0
  /-- TIMEs of this core's outvotes, newest first, R300; reset none. -/
  outvotes : List Nat := []
  /-- TIME at which this core's resynchronisation became pending, by software or AUTORS, R297; reset none. -/
  rsAt : Option Nat := none
  /-- The resynchronisation that is pending was asked for by RSREQ, R297; reset false. -/
  rsSoft : Bool := false
  /-- TIME at which this core's self-test started, R301; reset none. -/
  testSince : Option Nat := none
  /-- Halted by debug, R306; reset false. -/
  halted : Bool := false
  /-- A debug halt request is held until every arm is BLOCKED, R307; reset false. -/
  haltHeld : Bool := false
  /-- Started in Split mode (cores B and C by GOB, GOC), R308; reset false. -/
  started : Bool := false
deriving DecidableEq, Repr

/-- The Tricycle beside its registers. -/
structure TriState where
  /-- Cores A, B and C as 0, 1 and 2; reset as CoreState. -/
  cores : Tbl CoreState := []
  /-- The core a TAKEOUT names and the TIME of the write, waiting for the tick start, R301; reset none. -/
  takeout : Option (Nat × Nat) := none
  /-- The start-up voter test is running since this TIME, R303; reset 0: it starts as power-on reset ends (R480). -/
  testing : Option Nat := some 0
  /-- The mode staged by the image, latched at the release of the voter test, R308: 1 Voted, 2 Split; reset 1 (R308: a boot's first
  release reads Voted). -/
  stagedMode : Nat := 1
  /-- The last release awaits the reload of the control TCM by the boot ROM, R512; reset false. -/
  reload : Bool := false
  /-- The stop-safe condition of source 54 stands until a release, R295; reset false. -/
  stopSafe : Bool := false
  /-- The voter test of the last release failed: source 57's condition, R304; reset false. -/
  vtFailed : Bool := false
  /-- The address at which the cluster goes on after its next release, R511; reset none. -/
  entry : Option Nat := none
  /-- TIME of the last release that the boot ROM staged, R525; reset 0. -/
  releasedAt : Nat := 0
  /-- The debug module: data0, the error of abstract commands, the 8 words of the program buffer, R305; reset 0 (PRESUMED, log 158). -/
  data0 : Nat := 0
  cmderr : Nat := 0
  progbuf : Tbl Nat := []
  /-- A step has resumed the halted cluster since its halt: a deferred resynchronisation may proceed, R297; reset false. -/
  stepped : Bool := false
  /-- How often debug has stopped a core: the number under which the core words are free (the model's own field; reset 0, DESIGN CHOICE,
  log 158). -/
  stops : Nat := 0
  /-- The voted output of the last comparison, R293; reset none. -/
  voted : Option BusOut := none
deriving DecidableEq, Repr

/-! ### Host interface (11) -/

/-- How far an operation in flight is: fetched; accepted and waiting (a setpoint for its tick, a SNAP read for its Acquire deadline); handed
to the MGC; done and waiting for its place in the order of completions. -/
inductive OpStage where
  | fetched | accepted | mgc | done
deriving DecidableEq, Repr

/-- A descriptor in flight (R321): its fields, the SQ's head after its fetch, what its tenant might do when it was fetched (R326), its stage,
the TIME and order of its acceptance (R334), whether its slots 0 and 1 are approached by the ramp (R335), and its STATUS and RESULT. -/
structure HostOp where
  sq : Nat := 0
  opc : Nat := 0
  flags : Nat := 0
  tag : Nat := 0
  attick : Nat := 0
  addr : Nat := 0
  len : Nat := 0
  arg0 : Nat := 0
  args : List Nat := []
  sqHead : Nat := 0
  rights : Nat := 0
  qbase : Nat := 0
  qnum : Nat := 0
  wins : List (Nat × Nat) := []
  spmask : Nat := 0
  stage : OpStage := .fetched
  time : Nat := 0
  order : Nat := 0
  ramped : Bool := false
  status : Nat := 0
  result : Nat := 0
deriving DecidableEq, Repr

/-- A ring (R318 to R320): head, tail, phase, entries since the last signal, TIME of the first of them, and whether a write of its entries
has failed (R329). -/
structure RingState where
  head : Nat := 0
  tail : Nat := 0
  phase : Bool := true
  unsig : Nat := 0
  firstAt : Option Nat := none
  failed : Bool := false
deriving DecidableEq, Repr

/-- A tenant beside its registers. -/
structure TenantState where
  /-- Operations in flight, in fetch order, R331; reset none. -/
  ops : List HostOp := []
  /-- Rings: SQ 0 to 3, CQ 0 to 3 as 4 to 7, the event ring as 8; reset as RingState. -/
  rings : Tbl RingState := []
  /-- SQs whose next descriptor must wait for an earlier operation (FENCE, MGCMAX), by bit, R331; reset 0. -/
  waits : Nat := 0
  /-- The SQ served last, R332; reset 3, so that SQ 0 is first. -/
  lastSq : Nat := 3
  /-- The MSI-X table: 8 vectors of 4 words; reset 0, each vector masked (PRESUMED, log 32). -/
  vectors : Tbl Nat := []
  /-- The MSI-X pending bits, R328; reset 0. -/
  pba : Nat := 0
  /-- MSI-X Enable and Function Mask of the function's configuration space, R310, R328; reset 0 (PRESUMED, log 32). -/
  msixEnable : Bool := false
  functionMask : Bool := false
deriving DecidableEq, Repr

/-- A ramp of a setpoint slot (R335): the exact value in use in units of 2^−31, and the target. -/
structure SlotRamp where
  value : Rat
  target : Int
deriving DecidableEq, Repr

/-- The host interface beside its registers. -/
structure HstState where
  /-- Tenants 0 to 15; reset as TenantState. -/
  tenants : Tbl TenantState := []
  /-- The tenant whose turn it is, and the descriptors fetched in it, R332; reset tenant 0, 0. -/
  turn : Nat := 0
  used : Nat := 0
  /-- The number of acceptances so far, R334; reset 0. -/
  accepts : Nat := 0
  /-- TIME from which the dispatching tenant's silence counts, R335; reset none. -/
  staleFrom : Option Nat := none
  /-- Slots 0 and 1 that ramp, R335; reset none. -/
  ramps : Tbl (Option SlotRamp) := []
  /-- VF Enable and NumVFs of function 0's SR-IOV capability, R310, R311; reset 0 (PRESUMED, log 48). -/
  vfEnable : Bool := false
  numVfs : Nat := 0
  /-- The host asks the always-on domain for a wake (a doorbell in Kickstand), R486; reset false. -/
  wakeReq : Bool := false
deriving DecidableEq, Repr

/-! ### Memories and the Pannier pool (12) -/

/-- The memories beside their bytes and registers. -/
structure MemState where
  /-- The TIME at which the next step of the background test is due, R353; reset 0. -/
  nextStep : Nat := 0
  /-- The interval that the ageing monitor asks for, in µs, R354; reset none. -/
  asked : Option Nat := none
  /-- TIME of the latest wipe of the Hamper, while the main domain has been powered since, R357; reset none. -/
  wipedAt : Option Nat := none
  /-- The lifecycle state holds the Hamper closed, R357; reset false. -/
  hamperClosed : Bool := false
deriving DecidableEq, Repr

/-- A packet of a queue (R361): its producer, its length in bytes, its blocks not yet freed, in order. Its words lie in the pool: word 0 is
the length word. -/
structure Packet where
  prod : Nat
  len : Nat
  blocks : List Nat
deriving DecidableEq, Repr

/-- A packet being written (R361): its producer, the content words so far, its blocks, and its truncation (R363). -/
structure OpenPacket where
  prod : Nat
  words : Nat
  blocks : List Nat
  trunc : Bool
deriving DecidableEq, Repr

/-- One queue beside its registers. -/
structure QueueState where
  /-- Visible packets, head first; reset none. -/
  packets : List Packet := []
  /-- The packet being written; reset none. -/
  opened : Option OpenPacket := none
  /-- Words of the head packet already popped, its length word included; 0 at a packet boundary, R362; reset 0. -/
  pos : Nat := 0
deriving DecidableEq, Repr

/-- The pool beside its bytes and registers. -/
structure PoolState where
  /-- Owner tag of each block, R359; reset 0xFF, free. -/
  tags : Tbl Nat := []
  /-- The 64 queues; reset as QueueState. -/
  queues : Tbl QueueState := []
deriving DecidableEq, Repr

/-! ### Fault collector (13) -/

/-- A running escalation timer (R380): the TIME of the latching and the timer value in 0.1 ms. -/
structure EscTimer where
  start : Nat := 0
  tmo : Nat := 0
deriving DecidableEq, Repr

/-- The fault collector beside its registers. -/
structure FltState where
  /-- The escalation timers that run, by source (a value of 0: none), R380; reset none. -/
  timers : Tbl EscTimer := []
  /-- In Kickstand the timers stand since this TIME, R388; reset none. -/
  frozenAt : Option Nat := none
  /-- Sources whose rail pair is invalid now, R378; reset none. -/
  railBad : List Nat := []
  /-- The source whose pair an injection makes invalid, and the TIME until which it does, R386; reset none. -/
  railInj : Option (Nat × Nat) := none
  /-- TIME of each source's last report: ACT is 1 in that clock, R389; reset none. -/
  reportedAt : Tbl (Option Nat) := []
deriving DecidableEq, Repr

/-! ### Safety functions (14) -/

/-- One safety connection beside its registers. -/
structure SafConn where
  /-- PERMIT of the last accepted command, R403; reset false. -/
  permit : Bool := false
  /-- REDUCED of the last accepted command, R403; reset false. -/
  reduced : Bool := false
  /-- TIME of the last acceptance (the watchdog's start), R405; reset 0. -/
  lastAccept : Nat := 0
  /-- The device's own SEQ for status PDUs, R405; reset 0 (DESIGN CHOICE, log 12). -/
  txSeq : Nat := 0
deriving DecidableEq, Repr

/-- A change of limits or of selection waiting for its tick start (R400): the TIME of its event, the fields written, and whether set 1 is
selected after it. -/
structure SafChange where
  time : Nat
  fields : List (Fld × Nat)
  select : Bool
deriving DecidableEq, Repr

/-- The SAF block beside its registers. -/
structure SafState where
  /-- Connections 0 to 3; reset as SafConn. -/
  conns : Tbl SafConn := []
  /-- Changes of limits and of selection waiting for their tick start, oldest first, R400; reset none. -/
  changes : List SafChange := []
  /-- TIME since when the filtered SAFE_EN has had its level, R397, R399; reset 0. -/
  senSince : Nat := 0
  /-- Counts for which it had been open before the last device reset, R399; reset 0. -/
  openBefore : Nat := 0
  /-- Consecutive exceeding samples per input (SLC), R393; reset 0. -/
  slcRun : Tbl Nat := []
  /-- Consecutive exceeding DC-link samples (SLV), R393; reset 0. -/
  slvRun : Nat := 0
  /-- Eligible cells whose last unpredicted voltage exceeds the SLV limit, R393; reset none. -/
  slvOver : List Nat := []
  /-- Consecutive Acquire deadlines with the frequency out of band (SLF), R393; reset 0. -/
  slfRun : Nat := 0
  /-- Since when P has lain out of the SPD limits, R393; reset none. -/
  spdSince : Option Nat := none
deriving DecidableEq, Repr

/-! ### Revenue metering (15) -/

/-- A metering sample on its way through the decimation filter (R417): its sample instant and the path-2 gains it was taken at. -/
structure MeterDue where
  time : Nat
  gains : Nat
  sample : MeterSample
deriving DecidableEq, Repr

/-- One metering channel: V0 to V3 as 0 to 3, I0 to I3 as 4 to 7. -/
structure MeterChan where
  /-- The channel's latest samples s, newest first, at most 160, R424; reset none. -/
  raw : List Int := []
  /-- The same after the gain of the segment or of MTR_VCAL, newest first, at most 160, R423, R424; reset none. -/
  gained : List Rat := []
  /-- The same after that correction's delay and the user's gain, newest first, at most 160, R423; reset none. -/
  mid : List Rat := []
  /-- The corrected samples in Q1.31, newest first, at most 160, R423, R427; reset none. -/
  out : List Int := []
  /-- The sum of their squares in the present 200 ms window, R433; reset 0. -/
  winSq : Nat := 0
  /-- Samples in a row without a transition, of path 1 and path 2, R434; reset 0. -/
  idle1 : Nat := 0
  idle2 : Nat := 0
  /-- Samples delivered since the last gain change of path 2, at most 8, R419; reset 0. -/
  settle : Nat := 0
  /-- Samples in a row below UPTH since the last gain change, R421; reset 0. -/
  quiet : Nat := 0
deriving DecidableEq, Repr

/-- One element, or the total as element 3 (R426 to R433): p of the latest samples, newest first, at most 160, and the sums of p, q and S of
the present 200 ms window, in units of 2^−62. Reset 0. -/
structure MeterElem where
  ps : List Int := []
  sumP : Int := 0
  sumQ : Int := 0
  sumS : Int := 0
deriving DecidableEq, Repr

/-- One pulse output (R431, R432): its residue in units of 2^−44 count, the TIME at which the present pulse began, and the TIME from which
the next may begin. Reset 0, none, 0. -/
structure MeterPulse where
  residue : Nat := 0
  since : Option Nat := none
  freeAt : Nat := 0
deriving DecidableEq, Repr

/-- A write to MTR that waits for its sample boundary (R439). -/
inductive MeterWait where
  | field (f : Fld) (v : Nat)
  | clear (f : Fld) (mask : Nat)
  | snap
  | zero
  | save
deriving DecidableEq, Repr

/-- Metering beside its registers. -/
structure MtrState where
  /-- Samples in the decimation filter, oldest first, R417; reset none. -/
  due : List MeterDue := []
  chans : Tbl MeterChan := []
  elems : Tbl MeterElem := []
  /-- Sample instant of the last result, R417, R452; reset none. -/
  lastAt : Option Nat := none
  /-- Samples in the present 200 ms window, R433; reset 0. -/
  winCount : Nat := 0
  /-- TIME of the end of the window that the last result fell into, R433; reset 80,000,000, the first multiple. -/
  winEnd : Nat := 80000000
  /-- The 32 accumulators, 108 bits each, in units of 2^−44 count, by 8 × element + quantity, R428; reset 0. -/
  accs : Tbl Nat := []
  pulses : Tbl MeterPulse := []
  /-- Writes waiting for the next sample boundary, oldest first, R439; reset none. -/
  waiting : List MeterWait := []
  /-- The save that runs: the TIME of its start, the copy it goes to, and whether its timeout has been reported, R435; reset none. -/
  save : Option (Nat × Fin 2 × Bool) := none
  /-- The copy that holds the last complete save, R435; reset 1, so that the first save goes to copy 0. -/
  lastCopy : Fin 2 := 1
  /-- The number of saves made, R435; reset 0. -/
  saves : Nat := 0
  /-- TIME of the last periodic save, R435; reset 0. -/
  periodAt : Nat := 0
deriving DecidableEq, Repr

/-! ### Station network (16) -/

/-- The classes 1 to 4 of R443. -/
inductive NetClass where
  | ptp | safety | goose | sv
deriving DecidableEq, Repr

/-- A frame that R443 gave to a class: the subscription, stream or 0, its port, its bytes after redundancy handling, without FCS, and the TIME
of its arrival. -/
structure NetGiven where
  cls : NetClass
  index : Nat
  port : Nat
  bytes : List Nat
  time : Nat
deriving DecidableEq, Repr

/-- A master heard in Announce messages (R446): port, source, its comparison values, its interval in counts, TIME of its last Announce. -/
structure PtpMaster where
  port : Nat
  source : Nat
  rank : List Nat
  interval : Nat
  heard : Nat
deriving DecidableEq, Repr

/-- A two-step Sync that waits for its Follow_Up (R447): source, sequence, receive timestamp in 78.125 ps units, correction, TIME. -/
structure PtpSync where
  source : Nat
  seq : Nat
  stamp : Int
  correction : Int
  time : Nat
deriving DecidableEq, Repr

/-- The PTP engine at one port. Reset: nothing heard, nothing sent. -/
structure PtpPort where
  /-- TIME of the last valid Sync that the port could give, R447; reset none. -/
  lastValid : Option Nat := none
  /-- TIME at which 2 s without one are over; a Sync that arrives in that clock leaves it, R447, R454; reset none. -/
  due : Option Nat := none
  /-- A Sync waiting for its Follow_Up, R447; reset none. -/
  sync : Option PtpSync := none
  /-- Sequence of the next Pdelay_Req, R446; reset 0. -/
  delaySeq : Nat := 0
  /-- The transmit timestamp of the Pdelay_Req not answered yet, R446; reset none. -/
  sentAt : Option Int := none
  /-- The answer waiting for its follow-up: receive timestamp, request receipt timestamp and correction in 78.125 ps units; reset none. -/
  answer : Option (Int × Rat × Rat) := none
  /-- Mean path delay in 78.125 ps units, R447; reset none. -/
  delay : Option Rat := none
deriving DecidableEq, Repr

/-- One GOOSE subscription (R448): the last stNum and sqNum, none before the first message after enable or STALE, and the TIME at which its
timeAllowedToLive ends. -/
structure GooseSub where
  last : Option (Nat × Nat) := none
  expires : Option Nat := none
deriving DecidableEq, Repr

/-- A GOOSE publication under way (R449): the frame, resends so far, the present gap in ms, TIME of the next resend. -/
structure GoosePub where
  frame : List Nat
  count : Nat
  gap : Nat
  nextAt : Nat
deriving DecidableEq, Repr

/-- One subscribed stream (R450, R451) beside its registers. -/
structure SvStream where
  /-- e, the next sample expected; reset 0. -/
  expected : Nat := 0
  /-- The anchor: smpCnt and arrival; reset 0, 0. -/
  anchor : Nat := 0
  anchorAt : Nat := 0
  /-- Samples absent in a row, late in a row, and in order since the base of RESYNC; reset 0. -/
  absent : Nat := 0
  late : Nat := 0
  inOrder : Nat := 0
  /-- The last values and qualities, smpSynch and simulation bit; reset none. -/
  members : List (Nat × Nat) := []
  synch : Nat := 0
  simulated : Bool := false
  /-- ESEQ of the last entry, R450; reset 0. -/
  eseq : Nat := 0
deriving DecidableEq, Repr

/-- A frame waiting for its port (R444): its class of R444, 1 to 6, its kind, its bytes or fields, its bytes on the wire, and the TIME since
which it waits. -/
structure NetTx where
  port : Nat
  cls : Nat
  kind : Nat
  fields : List Int
  len : Nat
  time : Nat
deriving DecidableEq, Repr

/-- The station network beside its registers. -/
structure NetState where
  /-- Frames given to classes 1 to 4 and not yet taken, oldest first, R443; reset none. -/
  given : List NetGiven := []
  /-- Entries of duplicate discard: source, sequence number, TIME, newest first, at most 1,024, R440; reset none. -/
  seen : List (Nat × Nat × Nat) := []
  /-- Sequence number of the next frame sent with an RCT or HSR tag, R441; reset 0. -/
  redSeq : Nat := 0
  /-- The node table: sources of supervision frames, R440; reset none. -/
  nodes : List Nat := []
  /-- Masters heard, R446; reset none. -/
  masters : List PtpMaster := []
  ptpPorts : Tbl PtpPort := []
  /-- TIME of the last Pdelay_Req, R446; reset 0. -/
  delayAt : Nat := 0
  /-- Residence of forwarded two-step Syncs for their Follow_Up, by port of arrival, source, sequence: units of 2^−16 ns, R446; reset none. -/
  transit : List (List Nat × Int) := []
  subs : Tbl GooseSub := []
  pubs : Tbl (Option GoosePub) := []
  streams : Tbl SvStream := []
  /-- Bit n: stream n has entered LOST and not reached VALID since, R451; reset 0. -/
  lost : Nat := 0
  /-- Bit p: port p has lost its link and not regained it, R442; reset 0. -/
  down : Nat := 0
  /-- The transmit queue served last, R444; reset 3, so that TXQ0 is first. -/
  lastTx : Nat := 3
  /-- Frames waiting for their port, oldest first; those forwarded under HSR are the 16 KB buffer of each direction, R441, R444; reset none. -/
  tx : List NetTx := []
  /-- TIME at which each port is free for the next frame, R444; reset 0. -/
  busy : Tbl Nat := []
  /-- Sequence number of the next supervision frame, R440; reset 0. -/
  superSeq : Nat := 0
  /-- TIME of the last supervision frames, R440; reset 0. -/
  superAt : Nat := 0
  /-- Sample instant of the last frame of each published stream, R452; reset none. -/
  published : Tbl (Option Nat) := []
  /-- The station asks the always-on domain for a wake, R454; reset false. -/
  wakeReq : Bool := false
deriving DecidableEq, Repr

/-! ### Power, stores and clocks (18) -/

/-- The main domain's supply (R480, R483): off; powering up, to its power-on reset; on. -/
inductive MainPower where
  | off | starting | on
deriving DecidableEq, Repr

/-- Power and clocks beside their registers. The always-on domain's part outlives a reset of the main domain (R482). -/
structure PwrState where
  /-- The main domain, R483; reset on. -/
  main : MainPower := .on
  /-- The always-on domain is powered, R483; reset true. -/
  aon : Bool := true
  /-- VAUX is at or above 4.6 V, R487; reset true. -/
  vauxHigh : Bool := true
  /-- The power-up under way is fed from the Jug, and ends in KICKSTAND, R487; reset false. -/
  fromJug : Bool := false
  toKickstand : Bool := false
  /-- The wake cause recorded for the power-up under way, R487; reset 0. -/
  cause : Nat := 0
  /-- Wake causes raised and not judged yet, cause c as bit c − 1, R487; reset 0. -/
  raised : Nat := 0
  /-- TIME of the last wake that was admitted in RUN, and its causes, R488; reset 0, none. -/
  woken : Nat × Nat := (0, 0)
  /-- Entry into Kickstand has begun: it no longer waits for a save, R484; reset false. -/
  begun : Bool := false
  /-- A forced entry follows the exit under way, R499; reset false. -/
  thenEnter : Bool := false
  /-- TIME of the admitted wake, R487; reset none. -/
  exitFrom : Option Nat := none
  /-- Rails out of band, by bit, R479; reset 0. -/
  railBad : Nat := 0
  /-- Consecutive open samples of TAMP0 and TAMP1, R491; reset 0, 0. -/
  opens : Nat × Nat := (0, 0)
  /-- A tamper to be reported once the main domain is powered, R491; reset false. -/
  tampered : Bool := false
  /-- The usable energies of the last ten measurements, newest first, R495: Cup in 0.001 mJ, Jug in mJ; reset none. -/
  cups : List Nat := []
  jugs : List Nat := []
  /-- TIME of the last gauge measurement, R495; reset 0. -/
  gaugeAt : Nat := 0
  /-- PLLs that have lost lock and not regained it, by bit, R506; reset 0. -/
  pllLost : Nat := 0
  /-- The host engine stalls, its clock, output 6, being stopped, R507; reset false. -/
  stalled : Bool := false
  /-- PWR_TJ has been measured since power-on reset, R508; reset false. -/
  tjSeen : Bool := false
deriving DecidableEq, Repr

/-! ### Boot, lifecycle and ageing (19) -/

/-- The lifecycle record, the boot record, keys and plan levels, in MRAM (R511, R513, R518 to R521, R528). What a device is delivered with the
spec does not give: reset as BLANK with nothing written (DESIGN CHOICE, log 10). -/
structure LifeRecord where
  state : Nat := 0
  /-- BOOTORD: 0 QSPI, 1 host, 2 Peloton, R513. -/
  order : List Nat := [0, 1, 2]
  present : Nat := 0
  revoked : Nat := 0
  serial : Nat := 0
  pref : Nat := 0
  trial : Bool := false
  attempts : Nat := 0
  counters : List Nat := [0, 0, 0, 0]
  /-- Levels of the plans VCORE, background test, ADC calibration, R528. -/
  levels : List Nat := [0, 0, 0]
  /-- ADC_CAL, metering trim and NET_MAC: register fields by key, R511. -/
  trims : List (Nat × Nat) := []
  /-- The grade is -IB: the metering trim is certified and the boot ROM sets CALLOCK, R3, R425; delivered as -IB (DESIGN CHOICE, log 10). -/
  certified : Bool := true
  /-- The ageing baselines of the cells, R175. -/
  bases : Tbl (Option (Rat × Rat)) := []
deriving DecidableEq, Repr

/-- The image that runs (R511, R512, R525): format, SVN, source (0 QSPI, 1 host, 2 Peloton), slot, on trial and not confirmed yet, the
Tricycle's and the MGC's entry. -/
structure RunImage where
  fmt : Nat
  svn : Nat
  source : Nat
  slot : Nat
  trial : Bool
  tentry : Nat
  mentry : Nat
deriving DecidableEq, Repr

/-- The boot ROM, the image loader and the lifecycle beside their registers. -/
structure BootState where
  record : LifeRecord := {}
  /-- The boot of R511 is due, its voter test passed; reset true. -/
  due : Bool := true
  /-- The source of BOOTORD that waits for blocks, by its place, and TIME of its last block, R513; reset none. -/
  waiting : Option (Nat × Nat) := none
  /-- TIME at which every source had failed, R511; reset none. -/
  failedAt : Option Nat := none
  /-- The image that runs; reset none. -/
  image : Option RunImage := none
  /-- An IMAGE transfer: the bytes so far, R522; reset none. -/
  transfer : Option (List Byte) := none
  /-- Tokens held until the next power-on reset, R521; reset none. -/
  debugToken : Bool := false
  returnToken : Bool := false
  /-- TIME of the last ageing measurement, R527; reset 0. -/
  agedAt : Nat := 0
deriving DecidableEq, Repr

/-! ### The fabric -/

/-- A field of a write waiting for its tick start (R549): the TIME of the write, the field, its value. -/
structure Waiting where
  time : Nat
  fld : Fld
  value : Nat
deriving DecidableEq, Repr

/-- The fabric: what per-master rules keep, and the deferred writes. -/
structure BusState where
  /-- High-half snapshots of 64-bit pairs, by 32 × (address of _LO) + master, R346; reset 0. -/
  snaps : Tbl Nat := []
  /-- Writes to GRD, CEL, EDG, SPK_RPT_OFS and PEL_SUMOFS waiting for their tick start, oldest first, R549; reset none. -/
  waiting : List Waiting := []
  /-- The staged low half of GRD_BS_T0, R153; reset none. -/
  t0Lo : Option Nat := none
  /-- TIME of the latest access to each test region that has had one, R353; reset none. -/
  touched : Tbl (Option Nat) := []
  /-- The word the last read returned: the model's own field; reset 0. -/
  readData : Nat := 0
deriving DecidableEq, Repr

/-! ### The whole -/

/-- The state of the device. -/
structure State where
  /-- Every register field, by 32 × address + low bit; an unlisted field holds its reset value. -/
  regs : Tbl Nat := []
  /-- The bytes of the memories of R338, by address; an unlisted byte reads 0 (DESIGN CHOICE, log 5). -/
  mem : List Host.Cell := []
  cad : CadState := {}
  sys : SysState := {}
  adc : AdcState := {}
  cle : CleState := {}
  grd : GrdState := {}
  cel : CelState := {}
  edg : EdgState := {}
  dl : DlState := {}
  pwm : PwmState := {}
  trp : TrpState := {}
  spk : SpkState := {}
  pel : PelState := {}
  tri : TriState := {}
  hst : HstState := {}
  memt : MemState := {}
  pool : PoolState := {}
  flt : FltState := {}
  saf : SafState := {}
  mtr : MtrState := {}
  net : NetState := {}
  pwr : PwrState := {}
  boot : BootState := {}
  bus : BusState := {}
  /-- What the device has sent, oldest first: the model's own record. -/
  out : List Out := []
  /-- The counter of free values: the model's own field; reset 0 (DESIGN CHOICE, log 2). -/
  free : Nat := 0
  /-- The commands that wait, first in, first out; reset empty. -/
  pending : List Instr := []
deriving DecidableEq, Repr

/-- The state right after power-on reset: every register field at its table's reset value, memory with nothing listed, every block at
the defaults above, no command waiting. -/
def State.reset : State := {}

end Sys2Proof.Machine
end

