-- ==== Sys2Proof/Machine/Table.lean ====
section
/-!
DEFINITION. Sparse tables: reading, writing and the canonical form. What an unlisted key reads as is the argument `d`.
-/

namespace Sys2Proof.Machine

/-- The value at a key; `d` where the key is not listed. -/
def tblGet {V : Type} (d : V) : Tbl V → Nat → V
  | [], _ => d
  | (k, v) :: rest, i => if k = i then v else tblGet d rest i

/-- Every entry but those of one key. -/
def tblErase {V : Type} (t : Tbl V) (i : Nat) : Tbl V := t.filter (fun e => e.1 != i)

/-- An entry placed before the first greater key. -/
def tblInsert {V : Type} (i : Nat) (v : V) : Tbl V → Tbl V
  | [] => [(i, v)]
  | (k, w) :: rest => if i < k then (i, v) :: (k, w) :: rest else (k, w) :: tblInsert i v rest

/-- A write: the old entry goes, and the new one is placed unless it is what an unlisted key reads as. -/
def tblSet {V : Type} [DecidableEq V] (d : V) (t : Tbl V) (i : Nat) (v : V) : Tbl V :=
  if v = d then tblErase t i else tblInsert i v (tblErase t i)

/-- Keys strictly rising from above `lo`, no entry equal to what its key reads as unlisted. -/
def tblWfFrom {V : Type} [DecidableEq V] (d : Nat → V) : Option Nat → Tbl V → Bool
  | _, [] => true
  | lo, (k, v) :: rest =>
    (match lo with | none => true | some l => decide (l < k)) && decide (v ≠ d k) && tblWfFrom d (some k) rest

/-- The canonical form of a table. -/
def tblWf {V : Type} [DecidableEq V] (d : Nat → V) (t : Tbl V) : Bool := tblWfFrom d none t

/-- Update of one entry by a function. -/
def tblMod {V : Type} [DecidableEq V] (d : V) (t : Tbl V) (i : Nat) (f : V → V) : Tbl V :=
  tblSet d t i (f (tblGet d t i))

end Sys2Proof.Machine
end

