-- ==== Sys2Proof/Machine/Ops.lean ====
section
/-!
DEFINITION. The shared operations: registers, time, interrupts, the record of what is sent, urgent conversions, the PWM cut, the latch of
a trip source and the report of a fault.
-/

namespace Sys2Proof

/-! ### Frames on a line (R255) -/

/-- One step of the CRC-32C register on a byte, bit-reflected (R255). -/
def crcByte (crc : Nat) (b : Nat) : Nat :=
  (List.range 8).foldl (fun c _ => if c % 2 = 1 then (c / 2) ^^^ 0x82F63B78 else c / 2) (crc ^^^ b)

/-- The CRC-32C of a list of bytes. -/
def crc32c (bs : List Nat) : Nat := (bs.foldl crcByte 0xFFFFFFFF) ^^^ 0xFFFFFFFF

/-- The `n` bytes of a number, least significant first. -/
def bytesOfNat (v : Nat) : Nat → List Nat
  | 0 => []
  | n + 1 => v % 256 :: bytesOfNat (v / 256) n

/-- A frame of `n` characters: its start character, the bytes of its body filled up with zeros, the CRC-32C over them (R255, R460). -/
def frameOf (n start : Nat) (body : List Nat) : List Nat :=
  let b := (body ++ List.replicate (n - 5) 0).take (n - 5)
  start :: (b ++ bytesOfNat (crc32c b) 4)

/-- The control characters of a Spoke line as bytes (R254): IDLE, PSOF, RSOF, SSOF, BLOCK, ECHO. -/
def charIdle : Nat := 0xBC
def charPsof : Nat := 0xFB
def charRsof : Nat := 0xFD
def charSsof : Nat := 0x1C
def charBlock : Nat := 0xF7
def charEcho : Nat := 0x3C

end Sys2Proof

namespace Sys2Proof.Machine

/-- Counts per millisecond. -/
def countsPerMs : Nat := 400000

/-! ### Registers -/

/-- The value of a register field, of its width. -/
def State.get (s : State) (f : Fld) : Nat := tblGet (Reg.resetOfKey f.key) s.regs f.key % 2 ^ f.width

/-- A register field written with the low bits of `v`. -/
def State.set (s : State) (f : Fld) (v : Nat) : State :=
  { s with regs := tblSet (Reg.resetOfKey f.key) s.regs f.key (v % 2 ^ f.width) }

/-- A field is not 0. -/
def State.on (s : State) (f : Fld) : Bool := s.get f != 0

/-- Bit `i` of a field. -/
def State.bit (s : State) (f : Fld) (i : Nat) : Bool := (s.get f).testBit i

/-- A field with bit `i` put to `b`. -/
def State.putBit (s : State) (f : Fld) (i : Nat) (b : Bool) : State := s.set f (Sys2Proof.putBit (s.get f) i b)

/-- A field set to 1 or 0. -/
def State.setBool (s : State) (f : Fld) (b : Bool) : State := s.set f (if b then 1 else 0)

/-- A counter field counted on by `n`, stopping at its maximum (R347). -/
def State.count (s : State) (f : Fld) (n : Nat) : State := s.set f (satAdd (2 ^ f.width - 1) (s.get f) n)

/-- The two's complement value of a field. -/
def State.getInt (s : State) (f : Fld) : Int := signedOf f.width (s.get f)

/-- A field set to the low bits of an integer. -/
def State.setInt (s : State) (f : Fld) (v : Int) : State := s.set f (bitsOf f.width v)

/-- A 64-bit value of a _LO and _HI pair. -/
def State.get64 (s : State) (lo hi : Fld) : Nat := s.get hi * 0x100000000 + s.get lo

/-- A 64-bit value stored in a _LO and _HI pair. -/
def State.set64 (s : State) (lo hi : Fld) (v : Nat) : State := (s.set lo (v % 0x100000000)).set hi (v / 0x100000000)

/-- Every field of a list made active from its shadow copy. -/
def State.activate (s : State) (fs : List Fld) : State := fs.foldl (fun s f => s.set f (s.get f.shadow)) s

/-- Some shadow copy of a list differs from its active value. -/
def State.shadowDiffers (s : State) (fs : List Fld) : Bool := fs.any (fun f => s.get f.shadow != s.get f)

/-! ### Time, indices and the record -/

/-- TIME (R7). -/
def State.now (s : State) : Nat := s.cad.time

/-- The part word (R3): the part, its grade as certified, its stepping. -/
def State.partWord (s : State) : Nat :=
  s.get Reg.SYS_PART_ID_PART * 0x10000 + (if s.boot.record.certified then 1 else 2) * 0x1000 + s.get Reg.SYS_PART_ID_STEP * 0x100

/-- TICK (R10). -/
def State.tick (s : State) : Nat := s.get Reg.CAD_TICK_TICK

/-- An event due at `t` comes about: TIME is `t`, unless it has passed it; TIME is 64 bits (R7). -/
def State.reach (s : State) (t : Nat) : State :=
  { s with cad := { s.cad with time := if s.cad.time < t then t % 0x10000000000000000 else s.cad.time } }

/-- The clock ends: what follows falls in a later one. -/
def State.endClock (s : State) : State := s.reach (s.now + 1)

/-- One more entry in the record of what is sent. -/
def State.emit (s : State) (o : Out) : State := { s with out := s.out ++ [o] }

/-- A notice to the MGC. -/
def State.notice (s : State) (what arg : Nat) : State := s.emit (.mgcNotice what arg)

/-- The counter of free values, counted on: each use sees a fresh number. -/
def State.nextFree (s : State) : State := { s with free := s.free + 1 }

/-- Ticks run: RUN in CAD_CTRL is 1. -/
def State.running (s : State) : Bool := s.on Reg.CAD_CTRL_RUN

/-- A request made at `t` may act: RUN is 0, or the present tick started at least 40 counts after it (R30, R49, R549). -/
def State.requestDue (s : State) (t : Nat) : Bool := !s.running || decide (t + 40 ≤ s.cad.tickStart)

/-- The Voted mode (TRI_MODE). -/
def State.voted (s : State) : Bool := s.get Reg.TRI_MODE_MODE == 1

/-- At least one arm is ENABLED (R222). -/
def State.pulsesEnabled (s : State) : Bool := s.on Reg.TRP_PULSE_EN_EN

/-- The device is in Kickstand (STATE 2 of PWR_STAT). -/
def State.inKickstand (s : State) : Bool := s.get Reg.PWR_STAT_STATE == 2

/-- A master of the fabric whose clock is gated in Kickstand: the Tricycle's and the MGC (R485). -/
def State.gated (s : State) (m : Nat) : Bool := decide (m ≤ 3) && s.inKickstand

/-- Ticks are suspended: from the completion of the entry into Kickstand to that of the exit (R485, R487). -/
def State.ticksHeld (s : State) : Bool := s.get Reg.PWR_STAT_STATE == 2 || s.get Reg.PWR_STAT_STATE == 5

/-! ### The safety limit set in use (R395, R400) -/

/-- A field of the limit set in use whose lower value is the tighter. -/
def State.safLimit (s : State) (f : Nat → Fld) : Nat := if s.on Reg.SAF_STAT_SETUSE then min (s.get (f 0)) (s.get (f 1)) else s.get (f 0)

/-- FMIN of the limit set in use: the higher value is the tighter. -/
def State.safFmin (s : State) : Nat :=
  if s.on Reg.SAF_STAT_SETUSE then max (s.get (Reg.SAF_S_C_FMIN 0)) (s.get (Reg.SAF_S_C_FMIN 1)) else s.get (Reg.SAF_S_C_FMIN 0)

/-! ### Tricycle interrupts (R290) -/

/-- One core of the Tricycle. -/
def State.core (s : State) (x : Nat) : CoreState := tblGet {} s.tri.cores x

/-- One core of the Tricycle updated. -/
def State.modCore (s : State) (x : Nat) (f : CoreState → CoreState) : State :=
  { s with tri := { s.tri with cores := tblMod {} s.tri.cores x f } }

/-- The words of a core's state, by their place in the list of R298, `tcirqen` and `tcirqpend` apart. -/
def coreWords : Nat := 68

/-- Debug stops cores in a program this model does not run: their words and the privilege mode are as the program left them, alike in the
three cores of Voted mode (R306; a free value, log 158). -/
def State.stopCores (s : State) (xs : List Nat) (cause : Nat) : State :=
  let words (x : Nat) : Tbl Nat := (List.range coreWords).foldl (fun t k =>
    tblSet 0 t k (Config.coreWord s.tri.stops (if s.get Reg.TRI_MODE_MODE = 2 then x else 0) k).toNat) []
  let u := (Config.coreWord s.tri.stops 0 coreWords).toNat
  let s1 := xs.foldl (fun s x => s.modCore x (fun c => { c with
    halted := true, haltHeld := false, haltCause := cause, words := words x, priv := if u % 2 = 0 then 0 else 3 })) s
  { s1 with tri := { s1.tri with stops := s.tri.stops + 1 } }

/-- Source `n` of R290 becomes pending: in all three cores, which in Voted mode hold one value. -/
def State.irq (s : State) (n : Nat) : State :=
  [0, 1, 2].foldl (fun s x => s.modCore x (fun c => { c with irqpend := setBit c.irqpend n })) s

/-! ### Cells and ports -/

/-- The port mapped to a cell (R41), the lowest if several are. -/
def State.portOf (s : State) (cell : Nat) : Option Nat :=
  (List.range 96).find? (fun p => s.get (Reg.SYS_PORT_MAP_CELL p) == cell)

/-- The local cell a port serves, if any: mapped, and part of the converter (R51). -/
def State.cellOf (s : State) (port : Nat) : Option Nat :=
  let c := s.get (Reg.SYS_PORT_MAP_CELL port)
  if c < 96 ∧ s.get (Reg.SYS_CELL_CFG_EN c) = 1 then some c else none

/-- The enabled cells of an arm on this device. -/
def State.armCells (s : State) (arm : Nat) : List Nat :=
  (List.range 96).filter (fun c => s.get (Reg.SYS_CELL_CFG_EN c) == 1 && s.get (Reg.SYS_CELL_CFG_ARM c) == arm)

/-- An arm is full-bridge: every enabled cell of it on this device has two legs (R42, R186; DEDUCED, log 25). -/
def State.armFull (s : State) (arm : Nat) : Bool := (s.armCells arm).all (fun c => s.get (Reg.SYS_CELL_CFG_LEGS c) == 1)

/-! ### The sampling geometry (R54 to R59) -/

/-- S: the largest NSLOT of any pair of the active sampling set (R57). -/
def State.slotsMax (s : State) : Nat := (List.range 4).foldl (fun m p => max m (s.get (Reg.ADC_PAIR_SEQ_NSLOT p))) 0

/-- The sampling instants of a set, in counts from tick start: MODE, the two offsets and the period (R56). -/
def instantsOf (mode o0 o1 period : Nat) : List Nat :=
  match mode with
  | 0 => [o0]
  | 1 => [o0, (o0 + period / 2) % period]
  | _ => [o0, o1]

/-- The sampling instants in use: those of the active set, or the one at offset 0 that R58 falls back to. -/
def State.instants (s : State) : List Nat :=
  if s.adc.oneInstant then [0]
  else instantsOf (s.get Reg.ADC_CTRL_MODE) (s.get (Reg.ADC_INST_OFS 0)) (s.get (Reg.ADC_INST_OFS 1)) (s.get Reg.CAD_PERIOD_PERIOD)

/-- The number of arms of the committed topology (R40): 3, 3 or 6; 0 without a converter. -/
def State.arms (s : State) : Nat :=
  if s.get Reg.SYS_CONV_STAT_ACTIVE = 0 then 0
  else match s.get Reg.SYS_TOPO_TOPO with
    | 1 => 3
    | 2 => 3
    | 3 => 6
    | _ => 0

/-- The ports mapped to a cell of one of the arms of a mask. -/
def State.portsOfArms (s : State) (mask : Nat) : List Nat :=
  (List.range 96).filter (fun p => match s.cellOf p with
    | none => false
    | some c => mask.testBit (s.get (Reg.SYS_CELL_CFG_ARM c)))

/-- One Spoke port. -/
def State.port (s : State) (p : Nat) : PortState := tblGet {} s.spk.ports p

/-- One Spoke port updated. -/
def State.modPort (s : State) (p : Nat) (f : PortState → PortState) : State :=
  { s with spk := { s.spk with ports := tblMod {} s.spk.ports p f } }

/-! ### Urgent conversions (R61 to R64) -/

/-- A result word of R65. -/
def resultWord (nv ovr unsettled : Bool) (chan value : Nat) : Nat :=
  (if nv then 0x80000000 else 0) + (if ovr then 0x40000000 else 0) + (if unsettled then 0x20000000 else 0)
    + (chan % 32) * 0x1000000 + value % 0x1000000

/-- The multiplexer position of converter `c` in slot `s` of its pair's sequence (ADC_PAIR_SEQ). -/
def State.muxOf (s : State) (c slot : Nat) : Nat := (s.get (Reg.ADC_PAIR_SEQ_SLOT (c / 2)) >>> (4 * slot + 2 * (c % 2))) % 4

/-- The input lies in an active slot (R52, R54). -/
def State.inSlot (s : State) (n : Nat) : Bool :=
  (List.range (min 4 (s.get (Reg.ADC_PAIR_SEQ_NSLOT (n % 8 / 2))))).any (fun i => s.muxOf (n % 8) i == n / 8)

/-- A converter is disabled in CONV_EN or faulted in CONVFLT. -/
def State.convOut (s : State) (c : Nat) : Bool := !s.bit Reg.ADC_CTRL_CONV_EN c || s.bit Reg.ADC_STAT_CONVFLT c

/-- The raw and filtered words of an input are not valid now (R68). -/
def State.inputNv (s : State) (n : Nat) : Bool :=
  !s.adc.converted.testBit n || !s.inSlot n || s.convOut (n % 8) || s.adc.dropped.testBit n || s.inKickstand

/-- A stored result word with its NV as it stands now. -/
def withNv (w : Nat) (nv : Bool) : Nat := w % 0x80000000 + (if nv then 0x80000000 else 0)

/-- The raw, filtered and urgent result words as they read (R65, R68): NV as posted, or by a case that holds now; a filtered word is NV while
the latest sample of the input is (R72). -/
def State.rawWord (s : State) (n : Nat) : Nat :=
  withNv (s.get (Reg.ADC_RAW_RESULT n)) ((s.get (Reg.ADC_RAW_RESULT n)).testBit 31 || s.inputNv n)
def State.filtWord (s : State) (n : Nat) : Nat :=
  withNv (s.get (Reg.ADC_FILT_RESULT n)) ((s.get (Reg.ADC_FILT_RESULT n)).testBit 31 || s.adc.lastNv.testBit n || s.inputNv n)
def State.urgWord (s : State) (c : Nat) : Nat :=
  withNv (s.get (Reg.ADC_URG_RES_RESULT c)) ((s.get (Reg.ADC_URG_RES_RESULT c)).testBit 31 || s.convOut c)

/-- The urgent requests a converter holds. -/
def State.urgentOf (s : State) (c : Nat) : List UrgentReq := tblGet [] s.adc.urgent c

/-- A request is held until 100 ns after its sample instant (R63). -/
def UrgentReq.isHeld (r : UrgentReq) (now : Nat) : Bool := !r.sampled || decide (now < r.sampleAt + 40)

/-- An urgent request for an input made now: not served while the converter is disabled, its word then NV with OVR 0 (DESIGN CHOICE, log 118:
the rule gives NV, CHAN and VALUE); dropped and counted while two are held; else queued: the converter wakes, and a calibration step on it is
aborted (R55, R61, R63, R64). -/
def State.urgentRequest (s : State) (input : Nat) : State :=
  let c := input % 8
  if s.bit Reg.ADC_CTRL_CONV_EN c = false then
    s.set (Reg.ADC_URG_RES_RESULT c) (resultWord true false false input (s.get (Reg.ADC_URG_RES_RESULT c)))
  else if 2 ≤ ((s.urgentOf c).filter (fun r => r.isHeld s.now)).length then
    s.count Reg.ADC_URG_CNT_DROP 1
  else
    let r : UrgentReq := { input := input, made := s.now, sampleAt := 0, sampled := false, code := 0, ovr := false }
    State.putBit { s with adc := { s.adc with urgent := tblSet [] s.adc.urgent c (s.urgentOf c ++ [r]), awake := setBit s.adc.awake c } }
      Reg.ADC_STAT_CALBUSY c false

/-! ### The PWM outputs and the cut (R209 to R219) -/

/-- One PWM channel. -/
def State.chan (s : State) (n : Nat) : PwmChan := tblGet {} s.pwm.chans n

/-- One PWM channel updated. -/
def State.modChan (s : State) (n : Nat) (f : PwmChan → PwmChan) : State :=
  { s with pwm := { s.pwm with chans := tblMod {} s.pwm.chans n f } }

/-- Some trip source is latched: the trip network blocks pulses for R217 (R238). -/
def State.anyTrip (s : State) : Bool := s.on Reg.TRP_SRC_LO_SRC || s.on Reg.TRP_SRC_HI_SRC

/-- An input selected in TRIPSEL of channel `n` is active after filtering (R217). -/
def State.pwmInputCause (s : State) (n : Nat) : Bool :=
  (List.range 8).any (fun k => s.bit (Reg.PWM_TRIP_TRIPSEL n) k && s.bit Reg.PWM_TRIPIN_STAT_FILT k)

/-- A trip cause of channel `n` is active now (R217, TRIPACT). -/
def State.pwmCause (s : State) (n : Nat) : Bool :=
  s.pwmInputCause n || (s.on (Reg.PWM_TRIP_TNBLK n) && s.anyTrip)

/-- The length of a period in counter counts (R210). -/
def State.pwmPeriod (s : State) (n : Nat) : Nat :=
  if s.get (Reg.PWM_CHCTRL_MODE n) = 1 then 2 * s.get (Reg.PWM_PER_VALUE n) else s.get (Reg.PWM_PER_VALUE n)

/-- The counter of a channel now: its value and its direction (true: down), from TIME and the latest counter zero (R210). -/
def State.pwmCounter (s : State) (n : Nat) : Nat × Bool :=
  let c := s.chan n
  if c.run = false then (s.get (Reg.PWM_CNT_COUNT n), s.on (Reg.PWM_CNT_DIR n))
  else
    let t := ((s.now - c.zeroAt) / 2 ^ s.get (Reg.PWM_CHCTRL_CLKDIV n)) % s.pwmPeriod n
    if s.get (Reg.PWM_CHCTRL_MODE n) = 1 ∧ s.get (Reg.PWM_PER_VALUE n) < t then (s.pwmPeriod n - t, true) else (t, false)

/-- The time of an edge as a delay line gives it: on its 1/32 count once the lines are calibrated and its groups reach their targets, else on
the whole count (R207, R208). Line `l`: 2n and 2n + 1 of channel n, 12 of captures. -/
def State.onLine (s : State) (l t : Nat) : Nat :=
  if s.on Reg.EDG_STAT_DLRDY = true ∧ (List.range 5).all (fun g => !s.dl.bad.testBit (5 * l + g)) = true then t else t / 32 * 32

/-- The fraction of a captured timestamp: 0 until DLRDY and on a failed capture line, the last of the 13 (DESIGN CHOICE, log 112); else open
(R8, R207, R208; log 30). -/
def State.captureFraction (s : State) : Nat := s.onLine 12 (Config.captureFraction s.free).toNat

/-- An output pair driven towards (a, b) at TIME × 32 = `t`, each edge as its line gives it: a turn-off acts at once, a turn-on DT counts after
the partner's turn-off (R211). -/
def pwmDrive (c : PwmChan) (lineA lineB : Nat → Nat) (t dt : Nat) (a b : Bool) : PwmChan :=
  let c1 := { c with
    offA := if c.outA && !a then lineA t else c.offA
    offB := if c.outB && !b then lineB t else c.offB
    outA := c.outA && a
    outB := c.outB && b
    turnOn := none }
  if a && !c1.outA then
    if c1.offB + 32 * dt ≤ lineA t then { c1 with outA := true } else { c1 with turnOn := some (true, lineA (c1.offB + 32 * dt)) }
  else if b && !c1.outB then
    if c1.offA + 32 * dt ≤ lineB t then { c1 with outB := true } else { c1 with turnOn := some (false, lineB (c1.offA + 32 * dt)) }
  else c1

/-- The outputs TRIPST selects (R217). -/
def tripOutputs (tripst : Nat) : Bool × Bool :=
  match tripst with
  | 1 => (false, true)
  | 2 => (true, false)
  | _ => (false, false)

/-- The outputs of channel `n` driven at TIME × 32 = `t` as its state asks: low while disabled or in Kickstand, the trip state while cut, else the
waveform, A high or low as given (R209, R210, R217). -/
def State.pwmApply (s : State) (n t : Nat) (aHigh : Bool) : State :=
  let want := if s.bit Reg.PWM_CTRL_EN n = false ∨ s.inKickstand = true then (false, false)
    else if (s.chan n).cut then tripOutputs (s.get (Reg.PWM_TRIP_TRIPST n))
    else if (s.chan n).run then (aHigh, !aHigh) else (false, false)
  let dt := if s.bit Reg.PWM_CTRL_EN n then s.get (Reg.PWM_DT_DT n) else 0
  let c := pwmDrive (s.chan n) (s.onLine (2 * n)) (s.onLine (2 * n + 1)) t dt want.1 want.2
  let s1 := s.modChan n (fun _ => c)
  if c.outA = (s.chan n).outA ∧ c.outB = (s.chan n).outB then s1 else s1.emit (.pwm n c.outA c.outB)

/-- A is high at the present count (R210). -/
def State.pwmAHigh (s : State) (n : Nat) : Bool := decide ((s.pwmCounter n).1 < s.get (Reg.PWM_CMPA_CMPA n))

/-- The trip of channel `n` judged after a cause may have become active: a channel that is enabled and has a cause goes to its trip
state; with TRIPMODE 1 and an input cause TRIPF is set, else the cut of this period counts once (R217 to R219). -/
def State.pwmJudge (s : State) (n : Nat) : State :=
  if s.bit Reg.PWM_CTRL_EN n = false ∨ s.pwmCause n = false then s
  else
    let latched := s.get (Reg.PWM_TRIP_TRIPMODE n) = 1 ∧ s.pwmInputCause n = true
    let s1 := if latched then s.set (Reg.PWM_STAT_TRIPF n) 1 else s
    if (s.chan n).cut then s1
    else
      let s2 := if latched then s1 else (s1.set (Reg.PWM_STAT_CBCF n) 1).count (Reg.PWM_STAT_CBCCNT n) 1
      (s2.modChan n (fun c => { c with cut := true })).pwmApply n (32 * s.now) false

/-- Every channel judged. -/
def State.pwmJudgeAll (s : State) : State := (List.range 6).foldl (fun s n => s.pwmJudge n) s

/-! ### The latch of a trip source (R224, R230 to R239) -/

/-- The flag of a trip source. -/
def State.tripFlag (s : State) (src : Nat) : Bool :=
  if src < 32 then s.bit Reg.TRP_SRC_LO_SRC src else s.bit Reg.TRP_SRC_HI_SRC (src - 32)

/-- The flag of a trip source put to a value. -/
def State.putTripFlag (s : State) (src : Nat) (b : Bool) : State :=
  if src < 32 then s.putBit Reg.TRP_SRC_LO_SRC src b else s.putBit Reg.TRP_SRC_HI_SRC (src - 32) b

/-- The arms that a source blocks while its flag is set. -/
def State.tripArms (s : State) (src : Nat) : Nat := tblGet 0 s.trp.blocks src

/-- The trip network updated. -/
def State.modTrp (s : State) (f : TrpState → TrpState) : State := { s with trp := f s.trp }

/-- Bits of `a` that `b` lacks, of six. -/
def armsMinus (a b : Nat) : Nat := a &&& (63 - b % 64)

/-- A halt begins anew: no step has resumed it (R297). -/
def State.freshHalt (s : State) : State := { s with tri := { s.tri with stepped := false } }

/-- A debug halt held until every arm is BLOCKED takes effect once none is ENABLED (R307). -/
def State.releaseHeldHalts (s : State) : State :=
  if s.pulsesEnabled then s
  else
    match [0, 1, 2].filter (fun x => (s.core x).haltHeld) with
    | [] => s
    | x :: xs => ((s.stopCores (x :: xs) 3).set Reg.TRI_STAT_DBGHALT 1).freshHalt

/-- The kinds of the Peloton's frames (R460, R463); the last three are SERVICE frames whose payload the spec gives no layout for (log 35). -/
def laneTime : Nat := 1
def laneSummary : Nat := 2
def laneGrid : Nat := 3
def laneService : Nat := 4
def laneBlock : Nat := 5
def laneConfig : Nat := 16
def laneHello : Nat := 17
def laneImage : Nat := 18

/-- The kinds of ring frames: start character and length in bytes (R460). -/
def ringStart (kind : Nat) : Nat × Nat :=
  match kind with
  | 1 => (0xDC, 28)
  | 2 => (0xFB, 64)
  | 3 => (0xFD, 92)
  | 5 => (0xF7, 8)
  | _ => (0x1C, 64)

/-- The SEQ of the next ring frame of a kind, counted on; HELLO, CONFIG and image frames are SERVICE frames (R256, R463). -/
def State.laneSeq (s : State) (kind : Nat) : Nat × State :=
  let k := if 16 ≤ kind then laneService else kind
  let n := tblGet 0 s.pel.seqs k
  (n, { s with pel := { s.pel with seqs := tblSet 0 s.pel.seqs k ((n + 1) % 64) } })

/-- Something sent out of each lane that is UP. -/
def State.laneEmit (s : State) (f : Nat → Out) : State :=
  ([0, 1].filter (fun l => s.bit Reg.PEL_STAT_LANEUP l)).foldl (fun s l => s.emit (f l)) s

/-- N: the number of devices in MEMBERS (R461). -/
def State.memberCount (s : State) : Nat := popCount 8 (s.get Reg.PEL_CTRL_MEMBERS)

/-- The hop limit of a frame out of a lane (R461). -/
def State.hopLimit (s : State) (kind l : Nat) : Nat :=
  let n := s.memberCount
  if kind = laneBlock ∨ s.on Reg.PEL_STAT_RING = false then n - 1
  else if l = 0 then n / 2 else (n - 1) / 2

/-- A ring frame of this device sent out of each lane that is UP and whose hop limit is not 0 (R461), its body from byte 3 on given: VER and SEQ, ORIG with HOP 0, the body, the CRC
(R460). Before a version is in use VER is 1 (DESIGN CHOICE, log 35). -/
def State.laneSend (s : State) (kind : Nat) (body : List Nat) : State :=
  let r := s.laneSeq kind
  let k := ringStart kind
  let head := [64 * max 1 (s.get Reg.PEL_STAT_VER) + r.1, s.get Reg.PEL_STAT_INDEX]
  ([0, 1].filter (fun l => s.bit Reg.PEL_STAT_LANEUP l && s.hopLimit kind l != 0)).foldl (fun u l =>
    u.emit (.laneFrame l (frameOf k.2 k.1 (head ++ body)))) r.2

/-- The first character boundary of a lane at or after a TIME, in 78.125 ps units, to the nearest: characters of 8 ns begin at TIME multiples
of their length (R459, R468; DESIGN CHOICE, log 72). -/
def laneBoundary (t : Nat) : Nat := ((5 * t + 15) / 16 * 1024 + 5) / 10

/-- A SERVICE frame of 512 ns that starts now ends before the next TIME, SUMMARY or GRID frame that this device owes its lanes (R463). -/
def State.serviceFits (s : State) : Bool :=
  let leads := s.get Reg.PEL_STAT_ROLE == 1
  let inTick := if s.cad.inTick then
      [s.cad.tickStart + s.get Reg.PEL_SUMOFS_OFS] ++ (if leads then [s.cad.tickStart + s.get Reg.CAD_DL_ACQ_DL] else []) else []
  let next := match s.cad.nextTick with
    | none => []
    | some n => (if leads then [n] else []) ++ [n + s.get Reg.PEL_SUMOFS_OFS]
  (inTick ++ next).all (fun d => decide (d < s.now) || decide (s.now + 205 ≤ d))

/-- A lane is UP. -/
def State.anyLaneUp (s : State) : Bool := s.get Reg.PEL_STAT_LANEUP != 0

/-- HELLO, CONFIG or an image frame sent out of each lane that is UP: its SEQ and what it carries. -/
def State.tellNow (s : State) (kind : Nat) (fields : List Nat) : State :=
  let r := s.laneSeq kind
  r.2.laneEmit (fun l => .laneService l kind (r.1 :: fields))

/-- HELLO, CONFIG or an image frame: sent, or waiting where it may not start or others wait; an image frame waits for a lane to be UP
(R463, R513). -/
def State.laneTell (s : State) (kind : Nat) (fields : List Nat) : State :=
  if s.serviceFits && s.pel.services.isEmpty && (kind != laneImage || s.anyLaneUp) then s.tellNow kind fields
  else { s with pel := { s.pel with services := s.pel.services ++ [(kind, fields)] } }

/-- The oldest waiting SERVICE frame sent where it may start (R463). -/
def State.laneServe (s : State) : State :=
  match s.pel.services with
  | [] => s
  | e :: rest => if s.serviceFits && s.anyLaneUp then State.tellNow { s with pel := { s.pel with services := rest } } e.1 e.2 else s

/-- A block latched here by another source than 30 goes round the Peloton ring, naming the arms it blocks (R239, R474). -/
def State.pelotonBlock (s : State) (src arms : Nat) : State :=
  if s.on Reg.PEL_CTRL_EN && src != 30 then s.laneSend laneBlock [arms] else s

/-! ### The Spoke line (R253, R264, R273, R276, R284) -/

/-- The time of a character on a port in counts: 40 ns, 4 µs at 2.5 Mb/s (R253). Characters begin at TIME multiples of it (DESIGN CHOICE,
log 72). -/
def State.charTime (s : State) (p : Nat) : Nat := if (s.port p).slow then 1600 else 16

/-- The first character boundary of a port at or after a TIME. -/
def State.charAt (s : State) (p t : Nat) : Nat := (t + s.charTime p - 1) / s.charTime p * s.charTime p

/-- The spans of a port's line kept for echo slots and Plan frames about TIME `t`: of the tick that `t` lies in and the next while ticks go on, of
the millisecond at 2.5 Mb/s, else the echo slots of every 8,000 counts (R13, R264, R284). -/
def State.keptSpans (s : State) (p t : Nat) : List (Nat × Nat) :=
  if (s.port p).slow then
    let m := t / countsPerMs * countsPerMs
    [(m, m + 64 * 1600), (m + countsPerMs, m + countsPerMs + 64 * 1600)]
  else if s.running || s.cad.inTick then
    let per := s.get Reg.CAD_PERIOD_PERIOD
    let b := match s.cad.nextTick with
      | none => s.cad.tickStart
      | some n => if n ≤ t ∧ 0 < per then n + (t - n) / per * per else if s.cad.inTick then s.cad.tickStart else n
    let tick (b : Nat) : List (Nat × Nat) :=
      let f := b + s.get Reg.CAD_DL_PLAN_DL - 64
      [(s.charAt p b, s.charAt p b + 16), (f, f + 1024)]
    tick b ++ (if s.cad.nextTick.isSome then tick (b + per) else [])
  else
    let e := t / 8000 * 8000
    [(e, e + 16), (e + 8000, e + 8016)]

/-- The first place for a service frame from TIME `t` on: at a character boundary, ending at least one character before an echo slot or a
Plan frame, with an IDLE between frames (R273). A port that is sent no Plan frame is treated alike (DESIGN CHOICE, log 72). -/
def State.framePlace (s : State) (p : Nat) : Nat → Nat → Nat
  | 0, t => s.charAt p t
  | n + 1, t =>
    let c := s.charAt p t
    match (s.keptSpans p c).find? (fun k => decide (c < k.2 + s.charTime p) && decide (k.1 < c + 65 * s.charTime p)) with
    | none => c
    | some k => s.framePlace p n (max (c + 1) (k.2 + s.charTime p))

/-- The TIME from which a port's line is free for a service frame: after its frames and its block symbols, in Kickstand one frame in a
millisecond (R273, R276, R284). -/
def State.lineFrom (s : State) (p t : Nat) : Nat :=
  let x := s.port p
  let u := max t (max x.lineFree x.blockTill)
  if x.slow = true ∧ x.svcAt ≠ 0 ∧ u / countsPerMs ≤ x.svcAt / countsPerMs then (x.svcAt / countsPerMs + 1) * countsPerMs else u

/-- Where the next service frame of a port begins, from TIME `t` on. -/
def State.nextStart (s : State) (p t : Nat) : Nat := s.framePlace p 16 (s.lineFrom p t)

/-- A service frame placed on a port's line from TIME `t` on (R273). -/
def State.placeFrame (s : State) (p t : Nat) (bytes : List Nat) : State :=
  let b := s.nextStart p t
  let stop := b + 64 * s.charTime p
  (s.modPort p (fun x => { x with
    line := x.line.filter (fun e => decide (s.now < e.1 + 64 * s.charTime p)) ++ [(b, bytes)]
    lineFree := stop + s.charTime p, svcAt := b })).emit (.spokeFrame p b bytes)

/-- The TIME 100 µs after the last character of a service frame that begins at `b` (R283). -/
def State.afterFrame (s : State) (p b : Nat) : Nat := b + 64 * s.charTime p + 40000

/-- An abandoned service frame placed anew from TIME `u` on; the change of rate follows its RATE frame (R273, R283). -/
def State.placeAgain (s : State) (p u : Nat) (e : Nat × List Nat) : State :=
  let s1 := s.placeFrame p u e.2
  s1.modPort p (fun x => { x with
    rateAt := x.rateAt.map (fun r => if r.1 = s.afterFrame p e.1 then (s.afterFrame p x.svcAt, r.2) else r) })

/-- A port's line is taken from the next character on until TIME `u`: service frames still to end that lie in it or after it are abandoned and
sent again (R273). -/
def State.lineYield (s : State) (p u : Nat) : State :=
  let late := (s.port p).line.filter (fun e => decide (s.now < e.1 + 64 * s.charTime p))
  if late.any (fun e => decide (e.1 < u)) then
    let s1 := late.foldl (fun s e => s.emit (.spokeAbandoned p e.1)) (s.modPort p (fun x => { x with line := [], lineFree := u + s.charTime p }))
    late.foldl (fun s e => s.placeAgain p u e) s1
  else s

/-- Block symbols on ports: BLOCK in eight consecutive character slots, ahead of any frame (R235, R276). -/
def State.sendBlocks (s : State) (ports : List Nat) : State :=
  ports.foldl (fun s p =>
    let u := s.charAt p s.now + 8 * s.charTime p
    (s.modPort p (fun x => { x with blockTill := u })).lineYield p u) (s.emit (.blockSymbols ports))

/-- Plan frames in transmission on ports of newly blocked arms are abandoned for the block symbol: one whose plan data have not begun, and one
still on the line until 1,024 counts, 64 characters, after its start (R13, R21, R235). -/
def State.abandonPlans (s : State) (ports : List Nat) : State :=
  let line := if s.now < s.spk.planAt + 1024 then s.spk.planLine else 0
  let cut := ports.filter (fun p => s.spk.planPorts.testBit p || line.testBit p)
  if cut.isEmpty then s
  else State.emit { s with spk := { s.spk with
    planPorts := cut.foldl clearBit s.spk.planPorts, planLine := cut.foldl clearBit s.spk.planLine } } (.planAbandoned cut)

/-- A flag cleared in this clock whose source latches again in it stays set, and the clear counts as refused (R240). -/
def State.undoClear (s : State) (src : Nat) : State :=
  match tblGet none s.trp.cleared src with
  | none => s
  | some (t, arms, c25) =>
    if t = s.now then
      State.count ({ s.putTripFlag src true with trp := { s.trp with
        blocks := tblSet 0 s.trp.blocks src arms, cleared := tblErase s.trp.cleared src
        cause25 := if src = 25 then s.trp.cause25 ||| c25 else s.trp.cause25 } }) Reg.TRP_CLR_REF_COUNT 1
    else s

/-- The arms that a source blocked before this clock. -/
def State.blockedBefore (s : State) (src : Nat) : Nat :=
  match tblGet none s.trp.latched src with
  | none => s.tripArms src
  | some (t, a) => if t = s.now then a else s.tripArms src

/-- Arms of a mask enabled in this clock: the request is refused by the block latched in it (R223, check 7). -/
def State.refuseEnabled (s : State) (arms : Nat) : State :=
  (List.range 6).foldl (fun s a =>
    if arms.testBit a && tblGet none s.trp.enabledAt a == some s.now && s.bit Reg.TRP_PULSE_EN_EN a then
      (s.putBit Reg.TRP_PULSE_STAT_REFUSED a true).set Reg.TRP_PULSE_STAT_ERR 7
    else s) s

/-- TRP_FIRST at a latch: recorded where every flag was 0; of several sources latched in one clock the lowest number (R233). -/
def State.noteFirst (s : State) (src : Nat) : State :=
  if s.anyTrip = false then
    (((s.set Reg.TRP_FIRST_SRC src).set Reg.TRP_FIRST_VALID 1).set Reg.TRP_FIRST_TICK s.tick).set64
      Reg.TRP_FIRST_TS_LO_TIME Reg.TRP_FIRST_TS_HI_TIME s.now
  else if s.on Reg.TRP_FIRST_VALID && s.get64 Reg.TRP_FIRST_TS_LO_TIME Reg.TRP_FIRST_TS_HI_TIME == s.now
      && decide (src < s.get Reg.TRP_FIRST_SRC) then s.set Reg.TRP_FIRST_SRC src
  else s

/-- A trip source latches for the arms of a mask. A first latch sets the flag, takes its place in TRP_FIRST, and raises
interrupt 6; a further latch only adds arms. The arms newly named become BLOCKED and get their block symbols; channels with TNBLK are
cut; the plans of arms that were ENABLED yield (R236); the Peloton is told (R224, R232, R233, R235, R238 to R240). -/
def State.tripLatch (u : State) (src arms : Nat) : State :=
  let s := u.undoClear src
  let added := armsMinus arms (s.tripArms src)
  let first := !s.tripFlag src
  let s1 := if first then ((s.noteFirst src).putTripFlag src true).irq 6 else s
  let s2 := (s1.refuseEnabled arms).modTrp (fun t => { t with
    latched := tblSet none t.latched src (some (s.now, s.blockedBefore src))
    blocks := tblSet 0 t.blocks src (s.tripArms src ||| (arms % 64)) })
  let s3 : State := { s2 with edg := { s2.edg with offArms := s2.edg.offArms ||| (s2.get Reg.TRP_PULSE_EN_EN &&& (arms % 64)) } }
  let s4 := s3.set Reg.TRP_PULSE_EN_EN (armsMinus (s3.get Reg.TRP_PULSE_EN_EN) arms)
  let ports := s4.portsOfArms added
  let s5 := if added = 0 then s4 else ((s4.abandonPlans ports).sendBlocks ports).pelotonBlock src added
  (if first then s5.pwmJudgeAll else s5).releaseHeldHalts

/-! ### The report of a fault (R375 to R380) -/

/-- The class of a fault source: 0 reserved, 1 Note, 2 Recoverable, 3 Serious, 4 Fatal (R375, R389). -/
def faultClass (n : Nat) : Nat := (Reg.resetAt (Reg.FLT_CLS_CLASS (n / 8)).addr 0 >>> (4 * (n % 8))) % 16

/-- Bit of a source in one of the per-source arrays. -/
def State.fltBit (s : State) (f : Nat → Fld) (n : Nat) : Bool := s.bit (f (n / 32)) (n % 32)

/-- Bit of a source put to a value. -/
def State.putFltBit (s : State) (f : Nat → Fld) (n : Nat) (b : Bool) : State := s.putBit (f (n / 32)) (n % 32) b

/-- The timer value that a class takes at a latching; a Fatal fault has none (R376). -/
def State.escTimeout (s : State) (cls : Nat) : Nat :=
  match cls with
  | 1 => s.get Reg.FLT_ESC0_TMO_N
  | 2 => s.get Reg.FLT_ESC1_TMO_R
  | 3 => s.get Reg.FLT_ESC1_TMO_S
  | _ => 0

/-- The counter of a class in FLT_CNT. -/
def fltCounter (cls : Nat) : Fld :=
  match cls with
  | 1 => Reg.FLT_CNT_NOTE
  | 2 => Reg.FLT_CNT_REC
  | 3 => Reg.FLT_CNT_SERIOUS
  | _ => Reg.FLT_CNT_FATAL

/-- The bits of word `j` of the per-source arrays whose source has class `c`. -/
def classMask (c j : Nat) : Nat :=
  (List.range 32).foldl (fun m b => if faultClass (32 * j + b) = c then setBit m b else m) 0

/-- The status bits of word `j` that hold FAULT_N low: Serious and Fatal sources, and Recoverable ones with ESCD (R383). -/
def State.pinHolders (s : State) (j : Nat) : Nat :=
  s.get (Reg.FLT_SRC_SRC j) &&& (classMask 3 j ||| classMask 4 j ||| (classMask 2 j &&& s.get (Reg.FLT_ESCD_ESCD j)))

/-- FAULT_N is driven high: the main domain is out of power-on reset and no status bit holds it low (R383, R481). -/
def State.faultNHigh (s : State) : Bool := s.pwr.main == .on && (List.range 8).all (fun j => s.pinHolders j == 0)

/-- The pin follows a change of the driven level; while the level driven does not change, the level read back stays as it is (R383). -/
def State.pinFollow (s : State) (before : Bool) : State :=
  if s.faultNHigh = before then s else (s.setBool Reg.FLT_STAT_PIN s.faultNHigh).emit (.faultN s.faultNHigh)

/-- FAULT_N over a reset: low in it, and after it as the status bits have it (R383). -/
def State.pinReset (s : State) : State :=
  let s1 := (s.emit (.faultN false)).setBool Reg.FLT_STAT_PIN s.faultNHigh
  if s.faultNHigh then s1.emit (.faultN true) else s1

/-- The codes of notices to the MGC. -/
def noticeFault : Nat := 1
def noticeQueue : Nat := 2
def noticePower : Nat := 3
def noticeHost : Nat := 4

/-- The result field of core `x` in TRI_LBIST. -/
def lbistFld (x : Nat) : Fld := ⟨Reg.TRI_LBIST_RES_A.addr, 2 * x, 2⟩

/-- Every core held in reset: a running core test is abandoned, its result 0; no resynchronisation, takeout, halt or voter test goes on
(R295, R302, R376). -/
def State.holdCores (s : State) : State :=
  let s1 := [0, 1, 2].foldl (fun s x =>
    (if (s.core x).testSince.isSome then s.set (lbistFld x) 0 else s).modCore x (fun c => { c with
      testSince := none, rsAt := none, halted := false, haltHeld := false })) s
  (({ s1 with tri := { s1.tri with takeout := none, testing := none } } : State).set Reg.TRI_STAT_DBGHALT 0).set Reg.TRI_STAT_RSPEND 0

/-- The block reaction: trip source 28 latches for every arm, and the Tricycle cores are held in reset with STATE STOPPED; a cluster held
by a failed voter test keeps VTFAIL (R376). -/
def State.blockReaction (s : State) : State :=
  let s1 := (s.tripLatch 28 63).holdCores
  if s1.get Reg.TRI_STAT_STATE = 5 then s1 else s1.set Reg.TRI_STAT_STATE 3

/-- Interrupt 7 and the notice to the MGC. -/
def State.faultNotice (s : State) (src : Nat) : State := (s.irq 7).notice noticeFault src

/-- How a latching is recorded in FLT_FIRST: forced, and the access that raised it if one did. -/
structure FaultOrigin where
  forced : Bool := false
  master : Nat := 0
  type : Nat := 3
  addr : Option Nat := none

/-- A latching of a class and source is the one that FLT_FIRST takes: none is held, or one of this clock, of lower class, or of the same class
and a higher number (R379). -/
def State.capturesFirst (s : State) (cls src : Nat) : Bool :=
  decide (s.get Reg.FLT_CTRL_CAPMIN ≤ cls) && (!s.on Reg.FLT_FIRST_VALID
    || (s.get64 Reg.FLT_FIRST_TS_LO_VALUE Reg.FLT_FIRST_TS_HI_VALUE == s.now % 0x10000000000000000
      && (decide (s.get Reg.FLT_FIRST_CLASS < cls) || (s.get Reg.FLT_FIRST_CLASS == cls && decide (src < s.get Reg.FLT_FIRST_SRC)))))

/-- A source reports a fault. A reserved source never latches; of a source whose bit is set only ACT shows the report; else the bit is set, INFO
and the class counter updated, the first error captured from class CAPMIN, the reaction of the class taken and its timer started
(R375 to R380). -/
def State.faultFrom (u : State) (src info : Nat) (o : FaultOrigin) : State :=
  let cls := faultClass src
  if cls = 0 then u
  else
  let s : State := { u with flt := { u.flt with reportedAt := tblSet none u.flt.reportedAt src (some u.now) } }
  if s.fltBit Reg.FLT_SRC_SRC src = true then s
  else
    let info' := if o.forced then 0 else info
    let s1 := ((s.putFltBit Reg.FLT_SRC_SRC src true).set (Reg.FLT_INFO_INFO src) info').count (fltCounter cls) 1
    let s2 := if s.capturesFirst cls src then
        ((((((((s1.set Reg.FLT_FIRST_VALID 1).set Reg.FLT_FIRST_CLASS cls).setBool Reg.FLT_FIRST_FORCED o.forced).set
          Reg.FLT_FIRST_TYPE o.type).set Reg.FLT_FIRST_MASTER o.master).set Reg.FLT_FIRST_SRC src).set
          Reg.FLT_FIRST_ADDR_VALUE (o.addr.getD info')).set64 Reg.FLT_FIRST_TS_LO_VALUE Reg.FLT_FIRST_TS_HI_VALUE s1.now)
      else s1
    let s3 := { s2 with flt := { s2.flt with
      timers := tblSet {} s2.flt.timers src ⟨s2.now, s2.escTimeout cls⟩ } }
    let s4 := if 2 ≤ cls then s3.faultNotice src else s3
    let s5 := s4.pinFollow s.faultNHigh
    if cls = 4 then s5.blockReaction else s5

/-- An armed injection of checker `chk` on the unit `arg` (R386). -/
def State.injected (s : State) (chk arg : Nat) : Bool :=
  s.on Reg.FLT_INJ_CTRL_ARM && s.get Reg.FLT_INJ_CTRL_CHK == chk && s.get Reg.FLT_INJ_ARG_ARG == arg

/-- The injection has taken place: ARM reads 0, DONE is set (R386). -/
def State.injectionDone (s : State) : State := (s.set Reg.FLT_INJ_CTRL_ARM 0).set Reg.FLT_INJ_CTRL_DONE 1

/-- A source reports a fault that no access raised. -/
def State.fault (s : State) (src info : Nat) : State := s.faultFrom src info {}

/-- A read by the CLE of a word of its own memories; its master number is open (log 51). -/
def cleOrigin (word : Nat) : FaultOrigin := { master := Config.cleMaster.toNat, type := 0, addr := some word }

/-- A read of a word of a CLE memory meets the injection armed for it: corrected and counted, or counted and reported by source 30 with
the access (R379, R386). -/
def State.cleEcc (s : State) (chk word : Nat) (o : FaultOrigin) : State :=
  if s.injected chk word then
    let s1 := s.injectionDone
    if s.get Reg.FLT_INJ_CTRL_NBIT = 2 then (s1.count Reg.MEM_ECC_CNT_UNCORR 1).faultFrom 30 word o
    else s1.count Reg.MEM_ECC_CNT_CORR 1
  else s

end Sys2Proof.Machine
end

