-- ==== Sys2Proof/Machine/Numeric.lean ====
section
/-!
DEFINITION. Exact values and the words that hold them: roots and angles, the per-unit scale of R48, raw result words, time in seconds.
A root, a sine, a cosine or an arc tangent is its value to within 2^−58: the spec states the value and no word length (DESIGN CHOICE, log 8).
-/

namespace Sys2Proof.Machine

/-! ### Roots and angles -/

/-- The largest r with r² ≤ n. -/
def rootFloor (n : Nat) : Nat :=
  (List.range (n.log2 / 2 + 1)).foldr (fun k r => if (r + 2 ^ k) ^ 2 ≤ n then r + 2 ^ k else r) 0

/-- √x of a number of 0 or more; exact where the root has at most 60 binary places. -/
def sqrtOf (x : Rat) : Rat := mkRat (rootFloor (x * 2 ^ 120).floor.toNat) (2 ^ 60)

/-- π in units of 2^−60. -/
def piScaled : Int := 3622009729038561421

/-- π. -/
def piRat : Rat := mkRat piScaled (2 ^ 60)

/-- The product of two numbers in units of 2^−60, rounded down. -/
def mulScaled (a b : Int) : Int := a * b / 2 ^ 60

/-- The sine series of an angle up to π/4 in radians, in units of 2^−60. -/
def sinSeries (t : Int) : Int :=
  let t2 := mulScaled t t
  ((List.range 10).foldl (fun (p : Int × Int) k =>
    let term := -(mulScaled p.2 t2) / (((2 * k + 2) * (2 * k + 3) : Nat) : Int)
    (p.1 + term, term)) (t, t)).1

/-- The cosine series of an angle up to π/4 in radians, in units of 2^−60. -/
def cosSeries (t : Int) : Int :=
  let t2 := mulScaled t t
  ((List.range 10).foldl (fun (p : Int × Int) k =>
    let term := -(mulScaled p.2 t2) / (((2 * k + 1) * (2 * k + 2) : Nat) : Int)
    (p.1 + term, term)) (2 ^ 60, 2 ^ 60)).1

/-- Cosine and sine of an angle in half-turns, in units of 2^−60, from the series about the nearest quarter turn; exact at the quarter turns. -/
def cosSinScaled (x : Rat) : Int × Int :=
  let q := (2 * x + 1 / 2).floor
  let t := ((x - mkRat q 2) * (piScaled : Rat)).floor
  let c := cosSeries t
  let d := sinSeries t
  match (q % 4).toNat with
  | 0 => (c, d)
  | 1 => (-d, c)
  | 2 => (-c, -d)
  | _ => (d, -c)

/-- The cosine and the sine of an angle in half-turns. -/
def cosHalf (x : Rat) : Rat := mkRat (cosSinScaled x).1 (2 ^ 60)
def sinHalf (x : Rat) : Rat := mkRat (cosSinScaled x).2 (2 ^ 60)

/-- Half an angle, by its tangent. -/
def halfTan (x : Rat) : Rat := x / (1 + sqrtOf (1 + x * x))

/-- The arc tangent of a number from 0 to 1, in radians: four times that of a quarter of the angle, by its series. -/
def atanUnit (x : Rat) : Rat :=
  let z := (halfTan (halfTan x) * 2 ^ 60).floor
  let z2 := mulScaled z z
  4 * mkRat ((List.range 15).foldl (fun (p : Int × Int) k => (p.1 + p.2 / ((2 * k + 1 : Nat) : Int), -(mulScaled p.2 z2))) (0, z)).1 (2 ^ 60)

/-- atan2(y, x) in radians; the angle of a vector of length 0 is open (log 8). -/
def atan2Rad (y x : Rat) : Rat :=
  let ax := if x < 0 then -x else x
  let ay := if y < 0 then -y else y
  if ax = 0 ∧ ay = 0 then Config.angleOfZero
  else
    let a := if ay ≤ ax then atanUnit (ay / ax) else piRat / 2 - atanUnit (ax / ay)
    let b := if x < 0 then piRat - a else a
    if y < 0 then -b else b

/-! ### Words -/

/-- An exact value as an integer: itself where it is one, else the integer below or above it (log 7). -/
def intOf (x : Rat) : Int := if x.den = 1 then x.num else x.floor + (if Config.roundUp x then 1 else 0)

/-- An integer held in a word of `w` bits in two's complement; a value outside the format is open (log 7). -/
def wordOfInt (w : Nat) (x : Rat) : Nat :=
  let i := intOf x
  bitsOf w (if -(2 ^ (w - 1) : Int) ≤ i ∧ i < (2 ^ (w - 1) : Int) then i else Config.outOfRange x)

/-- A per-unit quantity at the scale of R48: 1.0 pu is 0x2000_0000. -/
def puWord (x : Rat) : Nat := wordOfInt 32 (x * 0x20000000)

/-- The per-unit value of a word at the scale of R48. -/
def puOf (w : Nat) : Rat := mkRat (signedOf 32 w) 0x20000000

/-- An angle in half-turns as a word, wrapped. -/
def angleWord (x : Rat) : Nat := bitsOf 32 (intOf (x * 0x80000000))

/-- An angle in half-turns wrapped into [−1, 1). -/
def wrapHalf (x : Rat) : Rat := x - 2 * (((x + 1) / 2).floor : Rat)

/-- A value held between two bounds. -/
def clampRat (x lo hi : Rat) : Rat := max lo (min x hi)

/-- The absolute value. -/
def absRat (x : Rat) : Rat := if x < 0 then -x else x

/-- +1 or −1, 0 for 0. -/
def signRat (x : Rat) : Int := if 0 < x then 1 else if x < 0 then -1 else 0

/-- The value of a result word (R65) as a fraction of full scale. -/
def rawFraction (w : Nat) : Rat := mkRat (signedOf 24 (w % 0x1000000)) 0x800000

/-- The NV and OVR bits of a result word (R65). -/
def wordNv (w : Nat) : Bool := w.testBit 31
def wordOvr (w : Nat) : Bool := w.testBit 30

/-- f_nom in Hz. -/
def State.fnom (s : State) : Nat := if s.on Reg.SYS_TOPO_FNOM then 60 else 50

/-- CAD_PERIOD in seconds. -/
def State.periodSeconds (s : State) : Rat := mkRat (s.get Reg.CAD_PERIOD_PERIOD) 400000000

/-- Counts as seconds. -/
def secondsOf (counts : Nat) : Rat := mkRat counts 400000000

/-- The half-turns an angle advances at `w` pu over an interval of counts: 2 × f_nom × ω × T. -/
def State.advance (s : State) (w : Rat) (counts : Int) : Rat := 2 * (s.fnom : Rat) * w * mkRat counts 400000000

/-- A quotient; by 0 it is open (log 24). -/
def ratio (x y : Rat) : Rat := if y = 0 then Config.overZero x else x / y

end Sys2Proof.Machine
end

