-- ==== Sys2Proof/Machine/Cause.lean ====
section
/-!
DEFINITION. The causes of fault sources that last (R389, column Cause, While): whether each is present now, and ACT (R377, R384).
-/

namespace Sys2Proof.Machine

/-- An arm of the committed topology whose bypassed cells, as the last evaluation counted them, are more than its K; the K of another arm has
no effect (R40, R44). -/
def State.armAboveK (s : State) (a : Nat) : Bool :=
  decide (a < s.arms) && decide (s.get (Reg.SYS_ARM_CFG_K a) < s.get (Reg.SYS_ARM_STAT_BYPASSED a))

/-- Some cell's BYPFAIL is 1 (R179). -/
def State.anyBypFail (s : State) : Bool := s.spk.ports.any (fun e => e.2.bypFail)

/-- The rail pair of a source is invalid now: broken, or by an injection (R378, R386). -/
def State.pairBad (s : State) (n : Nat) : Bool :=
  s.flt.railBad.contains n || s.flt.railInj.any (fun x => x.1 == n && decide (s.now < x.2))

/-- The lasting condition behind a source holds now (R389). -/
def State.faultWhile (s : State) (n : Nat) : Bool :=
  if n = 0 then !s.flt.railBad.isEmpty || s.flt.railInj.any (fun x => decide (s.now < x.2))
  else if n = 1 then s.get Reg.FLT_STAT_PIN != (if s.faultNHigh then 1 else 0)
  else if n = 2 then s.pwr.pllLost.testBit 0
  else if n = 3 then s.pwr.pllLost.testBit 1 || s.pwr.pllLost.testBit 2
  else if n = 4 then s.on Reg.PWR_STAT_EWACT
  else if n = 5 then s.pwr.railBad != 0
  else if n = 6 then decide (1250 < s.getInt Reg.PWR_TJ_TJ)
  else if n = 8 then s.get Reg.MEM_HAMPER_HSTATE == 4
  else if n = 17 then s.on Reg.CAD_STAT_HOLDBLK
  else if 20 ≤ n ∧ n ≤ 27 then s.bit Reg.ADC_STAT_CONVFLT (n - 20)
  else if n = 32 then s.get Reg.GRD_STAT_MODE == 6
  else if n = 39 then (List.range 6).any (fun a => s.armAboveK a)
  else if n = 47 then s.anyBypFail
  else if n = 48 then s.on Reg.EDG_STAT_DLFLT
  else if n = 51 then (List.range 96).any (fun p => s.on (Reg.SPK_PSTAT_VERERR p))
  else if n = 81 then (List.range 4).any (fun c => s.get (Reg.SAF_C_STAT_CSTATE c) == 1 && s.on (Reg.SAF_C_STAT_EVER c))
  else if n = 83 then s.on Reg.MTR_STAT_CHFLT
  else if n = 85 then s.net.down != 0
  else if n = 87 then s.net.lost != 0
  else if n = 89 then s.pel.leaderLost
  else if n = 90 then s.pel.devs.any (fun e => e.2.refused != 0)
  else if n = 54 then s.tri.stopSafe
  else if n = 57 then s.tri.vtFailed
  else if 96 ≤ n ∧ n ≤ 191 then s.bit (Reg.SPK_LOST_PORT ((n - 96) / 32)) ((n - 96) % 32)
  else false

/-- ACT of a source: its condition lasts, it reports in this clock, it is forced, or its rail pair is invalid (R377, R378, R387, R389). -/
def State.faultAct (s : State) (n : Nat) : Bool :=
  s.faultWhile n || tblGet none s.flt.reportedAt n == some s.now || s.fltBit Reg.FLT_FORCE_FORCE n || s.pairBad n

/-- The INFO word of a lasting cause (R389), of several the lowest. -/
def State.whileInfo (s : State) (n : Nat) : Nat :=
  let low (k : Nat) (p : Nat → Bool) : Nat := ((List.range k).find? p).getD 0
  if n = 0 then low 256 (fun i => s.flt.railBad.contains i)
  else if n = 3 then low 3 (fun i => decide (1 ≤ i) && s.pwr.pllLost.testBit i)
  else if n = 5 then low 4 (fun i => s.pwr.railBad.testBit i)
  else if n = 81 then low 4 (fun c => s.get (Reg.SAF_C_STAT_CSTATE c) == 1 && s.on (Reg.SAF_C_STAT_EVER c))
  else 0

/-- The INFO word of a source that latches by its pair alone: 0 where R389 gives INFO 0; else the spec names none (log 133). -/
def railInfo (src : Nat) : Nat :=
  if src ∈ [0, 1, 2, 4, 6, 7, 8, 19, 33, 34, 35, 37, 48, 54, 58, 70, 84, 86, 89] ∨ 192 ≤ src then 0 else (Config.railInfo src).toNat

/-- A rail pair has been invalid for four clocks: its source and source 0 report, and FLT_RAIL takes the first such source (R378). -/
def State.railInvalid (s : State) (src : Nat) : State :=
  let s1 := if s.get Reg.FLT_RAIL_VALID = 0 then (s.set Reg.FLT_RAIL_SRC src).set Reg.FLT_RAIL_VALID 1 else s
  (s1.fault src (railInfo src)).fault 0 src

end Sys2Proof.Machine
end

