-- ==== Sys2Proof/Machine/Access.lean ====
section
/-!
DEFINITION. Register writes field by field: the fields of a register's table row, reserved encodings, and writes that wait for their tick
start (R6, R345, R549).
-/

namespace Sys2Proof.Machine

/-- The fields of the register at an address, if one is there. -/
def fieldsAt (addr : Nat) : List FieldRow :=
  match Reg.find addr with
  | none => []
  | some (r, _) => r.fields

/-- The field a table row describes, at its register's address. -/
def FieldRow.fld (r : FieldRow) (addr : Nat) : Fld := ⟨addr, r.lo, r.width⟩

/-- The part of a written word that a field takes. -/
def FieldRow.part (r : FieldRow) (w : Nat) : Nat := (w >>> r.lo) % 2 ^ r.width

/-- A value the table does not call reserved. -/
def FieldRow.allows (r : FieldRow) (v : Nat) : Bool :=
  r.legal.isEmpty || r.legal.any (fun p => decide (p.1 ≤ v) && decide (v ≤ p.2))

/-- Software may write the field. -/
def FieldRow.isRW (r : FieldRow) : Bool := r.acc == .RW

/-- Every RW field of the register takes a value the table allows. -/
def wordAllowed (addr w : Nat) : Bool := (fieldsAt addr).all (fun r => !r.isRW || r.allows (r.part w))

/-- Every RW field of a register stored at once. -/
def State.storeRW (s : State) (addr w : Nat) : State :=
  (fieldsAt addr).foldl (fun s r => if r.isRW then s.set (r.fld addr) (r.part w) else s) s

/-- Every RW field whose value the table allows stored at once. -/
def State.storeAllowed (s : State) (addr w : Nat) : State :=
  (fieldsAt addr).foldl (fun s r => if r.isRW && r.allows (r.part w) then s.set (r.fld addr) (r.part w) else s) s

/-- Every W1C field written with ones loses those bits. -/
def State.clearOnes (s : State) (addr w : Nat) : State :=
  (fieldsAt addr).foldl (fun s r => if r.acc == .W1C then
    s.set (r.fld addr) (s.get (r.fld addr) - (s.get (r.fld addr) &&& r.part w)) else s) s

/-! ### Writes that wait (R549) -/

/-- The value a field will hold once every earlier write to it has taken effect. -/
def State.ahead (s : State) (f : Fld) : Nat :=
  match (s.bus.waiting.filter (fun w => w.fld == f)).getLast? with
  | some w => w.value
  | none => s.get f

/-- A field's new value joins the writes that wait. -/
def State.await (s : State) (f : Fld) (v : Nat) : State :=
  { s with bus := { s.bus with waiting := s.bus.waiting ++ [⟨s.now, f, v % 2 ^ f.width⟩] } }

/-- The RW fields of a register, with the parts of a word, as a list. -/
def rwParts (addr w : Nat) : List (Fld × Nat) :=
  ((fieldsAt addr).filter FieldRow.isRW).map (fun r => (r.fld addr, r.part w))

/-- The same, without the fields whose value the table calls reserved. -/
def allowedParts (addr w : Nat) : List (Fld × Nat) :=
  ((fieldsAt addr).filter (fun r => r.isRW && r.allows (r.part w))).map (fun r => (r.fld addr, r.part w))

/-- Every field of a list awaited. -/
def State.awaitAll (s : State) (fs : List (Fld × Nat)) : State := fs.foldl (fun s p => s.await p.1 p.2) s

/-- The writes that wait and whose tick start has come, or every one while RUN is 0 (R549). -/
def State.dueWrites (s : State) : List Waiting := s.bus.waiting.filter (fun w => s.requestDue w.time)

/-- The writes whose tick start has not come. -/
def State.laterWrites (s : State) : List Waiting := s.bus.waiting.filter (fun w => !s.requestDue w.time)

end Sys2Proof.Machine
end

