-- ==== Sys2Proof/Machine/Memory.lean ====
section
/-!
DEFINITION. The memories (R338, R344, R351 to R358): the map, bytes and words, access violations, ECC as injected, the background test, the
Hamper.
-/

namespace Sys2Proof.Machine

/-! ### The map (R338) -/

/-- The regions of the address space. -/
inductive Region where
  | rom | tcm | sram | dp | hamper | pool | mram | regs | unassigned
deriving DecidableEq, Repr

/-- The region of an address. -/
def regionOf (a : Nat) : Region :=
  if a ≤ 0xFFFF then .rom
  else if 0x01000000 ≤ a ∧ a ≤ 0x010FFFFF then .tcm
  else if 0x10000000 ≤ a ∧ a ≤ 0x10DFFFFF then .sram
  else if 0x11000000 ≤ a ∧ a ≤ 0x1107FFFF then .dp
  else if 0x12000000 ≤ a ∧ a ≤ 0x1203FFFF then .hamper
  else if 0x13000000 ≤ a ∧ a ≤ 0x1303FFFF then .pool
  else if 0x14000000 ≤ a ∧ a ≤ 0x141FFFFF then .mram
  else if 0x40000000 ≤ a ∧ a ≤ 0x4017FFFF then .regs
  else .unassigned

/-! ### Bytes and words -/

/-- The byte at an address; an unlisted byte reads 0 (DESIGN CHOICE, log 5). -/
def State.byteAt (s : State) (a : Nat) : Byte := tblGet (0 : Byte) s.mem a

/-- The canonical form of the memory: addresses strictly rising, no entry equal to what an unlisted byte reads as. -/
def Memory.wf (m : List Host.Cell) : Bool := tblWf (fun _ => (0 : Byte)) m

/-- A byte written. -/
def State.setByte (s : State) (a : Nat) (b : Byte) : State := { s with mem := tblSet (0 : Byte) s.mem a b }

/-- `n` bytes from an address, least significant first, as a number. -/
def State.bytesAt (s : State) (a : Nat) : Nat → Nat
  | 0 => 0
  | n + 1 => (s.byteAt a).toNat + 256 * s.bytesAt (a + 1) n

/-- A number written as `n` bytes from an address, least significant first. -/
def State.setBytes (s : State) (a : Nat) : Nat → Nat → State
  | 0, _ => s
  | n + 1, v => (s.setByte a (BitVec.ofNat 8 v)).setBytes (a + 1) n (v / 256)

/-- The 32-bit word at an address. -/
def State.wordAt (s : State) (a : Nat) : Nat := s.bytesAt a 4

/-- A 32-bit word written. -/
def State.setWord (s : State) (a v : Nat) : State := s.setBytes a 4 v

/-! ### Access violations (R342) -/

/-- The TYPE code of an access. -/
def kindCode (k : AccessKind) : Nat :=
  match k with
  | .read => 0
  | .write => 1
  | .fetch => 2

/-- An access that is not permitted: for masters 0 to 12 it counts, and with VALID 0 it is recorded and a Note fault raised (R342). -/
def State.violate (s : State) (master : Nat) (kind : AccessKind) (addr : Nat) : State :=
  if 12 < master then s
  else
    let s1 := s.count Reg.MEM_VIOL_CNT_COUNT 1
    if s.on Reg.MEM_VIOL_INFO_VALID then s1
    else
      let s2 := (((s1.set Reg.MEM_VIOL_INFO_VALID 1).set Reg.MEM_VIOL_INFO_MASTER master).set Reg.MEM_VIOL_INFO_TYPE
        (kindCode kind)).set Reg.MEM_VIOL_ADDR_ADDR addr
      s2.faultFrom 66 master { master := master, type := kindCode kind, addr := some addr }

/-- The word that a read returns: the model's own record. -/
def State.answer (s : State) (w : Nat) : State := { s with bus := { s.bus with readData := w } }

/-! ### ECC (R352), as injected (R386) -/

/-- The ECC checker of a region in FLT_INJ_CTRL; 0 where it has none. -/
def eccChecker (r : Region) : Nat :=
  match r with
  | .tcm => 1 | .sram => 2 | .dp => 3 | .hamper => 4 | .pool => 5 | .mram => 6
  | _ => 0

/-- ECC_ERROR at the read of the word that holds an address: an injected error is corrected and counted, or counted and reported with the
access; true where it was not correctable (R352). The boot ROM has parity: an injected error is always reported. -/
def State.eccCheck (s : State) (master : Nat) (kind : AccessKind) (a : Nat) : State × Bool :=
  let chk := eccChecker (regionOf a)
  let w := a / 4 * 4
  let o : FaultOrigin := { master := master, type := kindCode kind, addr := some a }
  if regionOf a = .rom ∧ s.injected 9 (s.get Reg.FLT_INJ_ARG_ARG) = true ∧ s.get Reg.FLT_INJ_ARG_ARG / 4 * 4 = w then
    (s.injectionDone.faultFrom 67 w o, true)
  else if chk ≠ 0 ∧ s.injected chk w = true then
    let s1 := s.injectionDone
    if s.get Reg.FLT_INJ_CTRL_NBIT = 2 then
      ((s1.count Reg.MEM_ECC_CNT_UNCORR 1).faultFrom 67 w o, true)
    else (s1.count Reg.MEM_ECC_CNT_CORR 1, false)
  else (s, false)

/-- MEM_ECC_CNT_READ: both counts, cleared by the read (R347). -/
def doMemEccCntRead (s : State) : State :=
  let w := s.get Reg.MEM_ECC_CNT_CORR * 65536 + s.get Reg.MEM_ECC_CNT_UNCORR
  ((s.set Reg.MEM_ECC_CNT_CORR 0).set Reg.MEM_ECC_CNT_UNCORR 0).answer w

def execMemEccCntRead (s : State) : Host.Outcome State Fault Refusal := .next (doMemEccCntRead s)

/-! ### Background test (R353 to R355) -/

/-- The first address of a test region: TCM, shared SRAM, dual-port window, Hamper and pool in address order. -/
def testAddress (r : Nat) : Nat :=
  if r < 4096 then 0x01000000 + 256 * r
  else if r < 61440 then 0x10000000 + 256 * (r - 4096)
  else if r < 63488 then 0x11000000 + 256 * (r - 61440)
  else if r < 64512 then 0x12000000 + 256 * (r - 63488)
  else 0x13000000 + 256 * (r - 64512)

/-- The test region of an address. -/
def testRegion (a : Nat) : Option Nat :=
  match regionOf a with
  | .tcm => some ((a - 0x01000000) / 256)
  | .sram => some (4096 + (a - 0x10000000) / 256)
  | .dp => some (61440 + (a - 0x11000000) / 256)
  | .hamper => some (63488 + (a - 0x12000000) / 256)
  | .pool => some (64512 + (a - 0x13000000) / 256)
  | _ => none

/-- An access to a region noted (R353). -/
def State.touch (s : State) (a : Nat) : State :=
  match testRegion a with
  | none => s
  | some r => { s with bus := { s.bus with touched := tblSet none s.bus.touched r (some s.now) } }

/-- A command of this block has accessed the region in the previous 1,024 fabric cycles, 512 counts (R353). -/
def State.lately (s : State) (r : Nat) : Bool :=
  match tblGet none s.bus.touched r with
  | none => false
  | some t => decide (s.now < t + 512)

/-- The walk goes on with the next region; a pass ends after the last (R354). -/
def State.nextRegion (s : State) : State :=
  let r := s.get Reg.MEM_BT_STAT_REGION
  let s1 := s.set Reg.MEM_BT_STAT_REGION ((r + 1) % 65536)
  if r = 65535 then s1.count Reg.MEM_BT_CNT_PASSES 1 else s1

/-- A step may be taken: BTEN is 1, and not in Kickstand. -/
def State.testRuns (s : State) : Bool := s.on Reg.MEM_CTRL_BTEN && !s.inKickstand

/-- BUSY: a step has fallen due and its command has not ended it (R353; DESIGN CHOICE, log 101). -/
def State.testBusy (s : State) : Bool := s.testRuns && decide (s.memt.nextStep < s.now)

/-- The next step falls due one interval in use later. -/
def State.testNext (s : State) : State :=
  { s with memt := { s.memt with nextStep := s.now + 400 * s.get Reg.MEM_BT_USE_INT } }

/-- The Hamper is open to accesses (R357). -/
def State.hamperOpen (s : State) : Bool := s.get Reg.MEM_HAMPER_HSTATE == 0

/-- The syndromes of a region's words checked as they are copied (R355). -/
def State.eccRegion (s : State) (a : Nat) : State :=
  (List.range 64).foldl (fun s i => (s.eccCheck 11 .read (a + 4 * i)).1) s

/-- A Hamper that is not OPEN is skipped: the walk stands at the region after it (R353). -/
def State.skipHamper (s : State) : State :=
  if regionOf (testAddress (s.get Reg.MEM_BT_STAT_REGION)) = .hamper ∧ s.hamperOpen = false then s.set Reg.MEM_BT_STAT_REGION 64512 else s

/-- BACKGROUND_TEST_STEP: the step that is due, past a Hamper that is not OPEN: deferred where the region is under access, by what the command
brings of the cores' programs or by the commands of this block; else tested, with FAIL, the region's address and a Serious fault at a
difference (R353 to R355). -/
def doBackgroundTestStep (underAccess differs : Bool) (s : State) : State :=
  if s.testRuns = false then s
  else
    let s0 := (s.reach s.memt.nextStep).skipHamper
    let r := s0.get Reg.MEM_BT_STAT_REGION
    let a := testAddress r
    if underAccess || s0.lately r then (s0.count Reg.MEM_BT_CNT_DEFER 1).testNext
    else
      let s1 := s0.eccRegion a
      let s2 := if differs then
          let f := if s1.on Reg.MEM_BT_STAT_FAIL then s1 else s1.set Reg.MEM_BT_FAIL_ADDR a
          (f.set Reg.MEM_BT_STAT_FAIL 1).fault 68 r
        else s1
      s2.nextRegion.testNext

def execBackgroundTestStep (underAccess differs : Bool) (s : State) : Host.Outcome State Fault Refusal :=
  .next (doBackgroundTestStep underAccess differs s)

/-- BACKGROUND_TEST_STEP_TIMEOUT: the step that was due has not ended within 10 µs: it is ended by its write-back and counts as deferred; the
region is tried again (R353). -/
def doBackgroundTestStepTimeout (s : State) : State :=
  if s.testRuns = false then s
  else ((s.reach (s.memt.nextStep + 4000)).count Reg.MEM_BT_CNT_DEFER 1).testNext

def execBackgroundTestStepTimeout (s : State) : Host.Outcome State Fault Refusal := .next (doBackgroundTestStepTimeout s)

/-! ### The Hamper (R356, R357) -/

/-- Every byte of the Hamper cleared. -/
def State.clearHamper (s : State) : State :=
  { s with mem := s.mem.filter (fun e => decide (e.1 < 0x12000000) || decide (0x1203FFFF < e.1)) }

/-- A wipe of the Hamper for a cause: every cell cleared, WIPECNT counts, HSTATE WIPING (R356, R357). -/
def State.wipeHamper (s : State) (cause : Nat) : State :=
  let s1 := ((s.clearHamper.count Reg.MEM_HAMPER_WIPECNT 1).set Reg.MEM_HAMPER_CAUSE cause).set Reg.MEM_HAMPER_HSTATE 1
  { s1 with memt := { s1.memt with wipedAt := some s.now } }

/-- HSTATE as it reads: a wipe's clear takes its 10 µs (the bound of R357; DESIGN CHOICE, log 53), then the read-back runs: VERIFY. -/
def State.hamperState (s : State) : Nat :=
  if s.get Reg.MEM_HAMPER_HSTATE = 1 ∧ (s.memt.wipedAt.all (fun t => decide (t + 4000 ≤ s.now))) = true then 2
  else s.get Reg.MEM_HAMPER_HSTATE

/-- HAMPER_WIPE: causes 1 to 3; no other is produced. -/
def doHamperWipe (cause : Nat) (s : State) : State := if 1 ≤ cause ∧ cause ≤ 3 then s.wipeHamper cause else s

def execHamperWipe (cause : Fin 8) (s : State) : Host.Outcome State Fault Refusal := .next (doHamperWipe cause.val s)

/-- HAMPER_VERIFY_COMPLETE: the read-back after a wipe, with the main domain powered, ends: OPEN where every word read 0, CLOSED where the lifecycle state holds it so, FAILED with a
Fatal fault otherwise (R357). -/
def doHamperVerifyComplete (allZero : Bool) (s : State) : State :=
  if s.get Reg.MEM_HAMPER_HSTATE ≠ 1 ∨ s.pwr.main ≠ .on then s
  else
    let s0 := match s.memt.wipedAt with
      | none => s
      | some t => s.reach (t + 4000)
    let s1 : State := { s0 with memt := { s0.memt with wipedAt := none } }
    if allZero then s1.set Reg.MEM_HAMPER_HSTATE (if s.memt.hamperClosed then 3 else 0)
    else (s1.set Reg.MEM_HAMPER_HSTATE 4).fault 8 0

def execHamperVerifyComplete (allZero : Bool) (s : State) : Host.Outcome State Fault Refusal :=
  .next (doHamperVerifyComplete allZero s)

/-! ### Register writes (R373) -/

/-- A write to a MEM register: a reserved interval leaves MEM_BT_INT; the interval in use is the lesser of it and what ageing asks for
(R354, R373). -/
def State.btUse (s : State) : State :=
  s.set Reg.MEM_BT_USE_INT (match s.memt.asked with
    | none => s.get Reg.MEM_BT_INT_INT
    | some i => min i (s.get Reg.MEM_BT_INT_INT))

end Sys2Proof.Machine
end

