-- ==== Sys2Proof/Machine/Fault.lean ====
section
/-!
DEFINITION. The fault collector (R375 to R390): report, invalid rail pair, escalation, the read-back of FAULT_N, acknowledgement, clearing,
forcing, injection and the lock of its timers.
-/

namespace Sys2Proof.Machine

/-! ### Reports -/

/-- How a report is captured: with its access where the source is one that an access raises (R379). -/
def reportOrigin (src : Nat) (access : Option ReportedAccess) : FaultOrigin :=
  if src = 30 ∨ src = 66 ∨ src = 67 ∨ src = 69 then
    match access with
    | some a => { master := a.master.val, type := kindCode a.kind, addr := some a.addr.toNat }
    | none => {}
  else {}

/-- FAULT_REPORT: a source reports (R377); the source's INFO word, and the access that raised it, come with the report. -/
def doFaultReport (src info : Nat) (access : Option ReportedAccess) (s : State) : State := s.faultFrom src info (reportOrigin src access)

def execFaultReport (src : Fin 256) (info : Word) (access : Option ReportedAccess) (s : State) : Host.Outcome State Fault Refusal :=
  .next (doFaultReport src.val info.toNat access s)

/-- RAIL_PAIR_INVALID: the pair of a source has been invalid for four clocks. `stays` says that it stays invalid; the command with
`stays` false for a pair that was held invalid says that it has become valid again. A reserved source has no pair. -/
def doRailPairInvalid (src : Nat) (stays : Bool) (s : State) : State :=
  if faultClass src = 0 then s
  else if s.flt.railBad.contains src then
    if stays then s else { s with flt := { s.flt with railBad := s.flt.railBad.filter (fun x => x != src) } }
  else
    let s1 : State := if stays then { s with flt := { s.flt with railBad := src :: s.flt.railBad } } else s
    s1.railInvalid src

def execRailPairInvalid (src : Fin 256) (stays : Bool) (s : State) : Host.Outcome State Fault Refusal :=
  .next (doRailPairInvalid src.val stays s)

/-! ### Escalation (R380) -/

/-- The running timer of a source. -/
def State.escTimer (s : State) (src : Nat) : EscTimer := tblGet {} s.flt.timers src

/-- A source's timer stopped. -/
def State.stopTimer (s : State) (src : Nat) : State :=
  { s with flt := { s.flt with timers := tblErase s.flt.timers src } }

/-- The reaction added at an expiry, that of the next class (R376). -/
def State.escalate (s : State) (src : Nat) : State :=
  match faultClass src with
  | 1 => s.faultNotice src
  | 2 => s
  | 3 => s.blockReaction
  | _ => s

/-- ESCALATION_EXPIRY: the timer of a latched, unhandled source expires: ESCD is set and the reaction of the next class is added, once per
latching. Nothing where no timer runs: handled, cleared, a timer value of 0, or the timers frozen in Kickstand (R376, R380, R388). The expiry closes its
clock, so that an acknowledgement or a clear of the same clock stands before it (R385; DESIGN CHOICE, log 15). -/
def doEscalationExpiry (src : Nat) (s : State) : State :=
  let t := s.escTimer src
  if t.tmo = 0 ∨ s.fltBit Reg.FLT_SRC_SRC src = false ∨ s.flt.frozenAt ≠ none then s
  else
    let s1 := ((s.reach (t.start + 40000 * t.tmo)).stopTimer src).putFltBit Reg.FLT_ESCD_ESCD src true
    ((s1.pinFollow s.faultNHigh).escalate src).endClock

def execEscalationExpiry (src : Fin 256) (s : State) : Host.Outcome State Fault Refusal :=
  .next (doEscalationExpiry src.val s)

/-- FAULT_N_READBACK_MISMATCH: the pin has been read back at `level` for 1 µs; while that differs from the driven level source 1 reports
(R383). -/
def doFaultNReadbackMismatch (level : Bool) (s : State) : State :=
  let s1 := s.setBool Reg.FLT_STAT_PIN level
  if level = s.faultNHigh then s1 else s1.fault 1 0

def execFaultNReadbackMismatch (level : Bool) (s : State) : Host.Outcome State Fault Refusal :=
  .next (doFaultNReadbackMismatch level s)

/-! ### Acknowledging and clearing (R380, R384, R385) -/

/-- One latched source handled: its bit in FLT_ACK is set and its timer stops. -/
def State.ackOne (s : State) (src : Nat) : State :=
  if s.fltBit Reg.FLT_SRC_SRC src then (s.putFltBit Reg.FLT_ACK_ACK src true).stopTimer src else s

/-- FLT_ACK_WRITE: every bit written 1 that is latched is handled (R380, R385). -/
def doFltAckWrite (j v : Nat) (s : State) : State :=
  (bitList 32 v).foldl (fun s b => s.ackOne (32 * j + b)) s

def execFltAckWrite (j : Fin 8) (v : Word) (s : State) : Host.Outcome State Fault Refusal :=
  .next (doFltAckWrite j.val v.toNat s)

/-- One bit of a clearing write: refused and counted while ACT is 1, else the status, ACK, ESCD and the timer go (R384). -/
def State.clearOne (s : State) (src : Nat) : State :=
  if s.fltBit Reg.FLT_SRC_SRC src = false then s
  else if s.faultAct src then s.count Reg.FLT_CLR_REF_COUNT 1
  else
    (((s.putFltBit Reg.FLT_SRC_SRC src false).putFltBit Reg.FLT_ACK_ACK src false).putFltBit
      Reg.FLT_ESCD_ESCD src false).stopTimer src

/-- FLT_SRC_CLEAR: a write to FLT_SRC, judged bit by bit; FAULT_N follows what is left (R383, R384). It closes its clock: a report or a force
of the same clock stands before it, and it is refused (R385; DESIGN CHOICE, log 15). -/
def doFltSrcClear (j v : Nat) (s : State) : State :=
  (State.pinFollow ((bitList 32 v).foldl (fun s b => s.clearOne (32 * j + b)) s) s.faultNHigh).endClock

def execFltSrcClear (j : Fin 8) (v : Word) (s : State) : Host.Outcome State Fault Refusal :=
  .next (doFltSrcClear j.val v.toNat s)

/-! ### Forcing and injection (R386, R387) -/

/-- The bits of `v` whose source is in use. -/
def usedBits (j v : Nat) : Nat :=
  (List.range 32).foldl (fun m b => if faultClass (32 * j + b) = 0 then m else putBit m b (v.testBit b)) 0

/-- FLT_FORCE_WRITE: the force bits of sources in use take the value written; a source newly forced reports, its latching recorded as
forced by the writing master (R379, R387). -/
def doFltForceWrite (master j v : Nat) (s : State) : State :=
  let fresh := (bitList 32 (usedBits j v)).filter (fun b => !s.fltBit Reg.FLT_FORCE_FORCE (32 * j + b))
  let s1 := s.set (Reg.FLT_FORCE_FORCE j) (usedBits j v)
  fresh.foldl (fun s b => s.faultFrom (32 * j + b) 0 { forced := true, master := master, type := 3, addr := some 0 }) s1

def execFltForceWrite (master : Fin 32) (j : Fin 8) (v : Word) (s : State) : Host.Outcome State Fault Refusal :=
  .next (doFltForceWrite master.val j.val v.toNat s)

/-- A write to FLT_INJ_CTRL that sets ARM is ignored: ARM reads 1 already, or it names a reserved checker, a reserved NBIT for an ECC
checker, for checker 15 a source not in use, or for the voter a cluster not in TRIPLEX (R386). -/
def State.armIgnored (s : State) (v : Nat) : Bool :=
  let chk := v % 32
  let nbit := v / 256 % 4
  s.on Reg.FLT_INJ_CTRL_ARM || chk == 0 || decide (16 < chk)
    || (decide (chk ≤ 8) && (nbit == 0 || nbit == 3))
    || (chk == 15 && (decide (255 < s.get Reg.FLT_INJ_ARG_ARG) || faultClass (s.get Reg.FLT_INJ_ARG_ARG) == 0))
    || (chk == 13 && s.get Reg.TRI_STAT_STATE != 1)

/-- The fields of a write to FLT_INJ_CTRL but ARM and CANCEL: a reserved CHK or NBIT leaves its field, 1 in DONE clears it (R345, R386). -/
def State.injFields (s : State) (v : Nat) : State :=
  let chk := v % 32
  let nbit := v / 256 % 4
  let s1 := if 1 ≤ chk ∧ chk ≤ 16 then s.set Reg.FLT_INJ_CTRL_CHK chk else s
  let s2 := if nbit = 1 ∨ nbit = 2 then s1.set Reg.FLT_INJ_CTRL_NBIT nbit else s1
  if v.testBit 29 then s2.set Reg.FLT_INJ_CTRL_DONE 0 else s2

/-- An armed rail-pair injection takes place at the collector's next sample: the pair is invalid for 8 clocks, and found so after four (R378,
R386). -/
def State.injectRail (s : State) : State :=
  if s.on Reg.FLT_INJ_CTRL_ARM ∧ s.get Reg.FLT_INJ_CTRL_CHK = 15 then
    let s1 := s.injectionDone
    let src := s.get Reg.FLT_INJ_ARG_ARG
    (State.reach { s1 with flt := { s1.flt with railInj := some (src, s.now + 8) } } (s.now + 4)).railInvalid src
  else s

/-- ARM: a write to FLT_INJ_CTRL with ARM set (R386). A CANCEL in the same write disarms again. -/
def doArm (v : Nat) (s : State) : State :=
  if s.armIgnored v then s
  else
    let s1 := (s.injFields v).set Reg.FLT_INJ_CTRL_ARM 1
    if v.testBit 30 then s1.set Reg.FLT_INJ_CTRL_ARM 0 else s1.injectRail

def execArm (v : Word) (s : State) : Host.Outcome State Fault Refusal := .next (doArm v.toNat s)

/-- CANCEL: the injection is disarmed (R386). -/
def doCancel (s : State) : State := s.set Reg.FLT_INJ_CTRL_ARM 0

def execCancel (s : State) : Host.Outcome State Fault Refusal := .next (doCancel s)

/-- FLT_LOCK: LOCK in FLT_CTRL is set (R381). -/
def doFltLock (s : State) : State := s.set Reg.FLT_CTRL_LOCK 1

def execFltLock (s : State) : Host.Outcome State Fault Refusal := .next (doFltLock s)

/-! ### Other register writes of the block, for the fabric -/

/-- A timer field written: with LOCK set only a lowering from a value not 0 to another not 0 takes effect (R381). -/
def State.escWrite (s : State) (f : Fld) (v : Nat) : State :=
  let v' := v % 2 ^ f.width
  if s.on Reg.FLT_CTRL_LOCK ∧ ¬(s.get f ≠ 0 ∧ v' ≠ 0 ∧ v' < s.get f) then s else s.set f v'

/-- FLT_STAT as it reads: the numbers of sources with status set per class and the highest reaction in force (R376). -/
def State.fltStat (s : State) : Nat :=
  let n (c : Nat) := (List.range 8).foldl (fun k j => k + popCount 32 (s.get (Reg.FLT_SRC_SRC j) &&& classMask c j)) 0
  let e (c : Nat) := (List.range 8).any (fun j => s.get (Reg.FLT_ESCD_ESCD j) &&& classMask c j != 0)
  let level := if n 4 ≠ 0 ∨ e 3 then 3 else if n 3 ≠ 0 ∨ e 2 then 2 else if n 2 ≠ 0 ∨ e 1 then 1 else 0
  min 255 (n 1) * 0x1000000 + min 255 (n 2) * 0x10000 + min 255 (n 3) * 0x100 + min 15 (n 4) * 16
    + s.get Reg.FLT_STAT_PIN * 4 + level

/-- FLT_ACT of word `j` as it reads. -/
def State.fltAct (s : State) (j : Nat) : Nat :=
  (List.range 32).foldl (fun m b => if faultClass (32 * j + b) ≠ 0 ∧ s.faultAct (32 * j + b) then setBit m b else m) 0

end Sys2Proof.Machine
end

