-- ==== Sys2Proof/Machine/Grid.lean ====
section
/-!
DEFINITION. The grid functions (R112 to R154): the angle observer, the evaluation at the Acquire deadline, modes, the virtual machine,
Freewheel, black start, tone and impedance, islanding and ride-through.
What the spec states no arithmetic for (the steps of the two loops, roundings) is an uninterpreted constant of Config (log 7, 20).
-/

namespace Sys2Proof.Machine

/-- The grid functions updated. -/
def State.modGrd (s : State) (f : GrdState → GrdState) : State := { s with grd := f s.grd }

/-! ### Words published in the CLE input map -/

/-- A word of the CLE input map that is fixed at the Acquire deadline (R93). -/
def State.inWord (s : State) (a : Nat) : Nat := (tblGet (0 : Word) s.cle.inMap a).toNat

/-- A word of the CLE input map written. -/
def State.setInWord (s : State) (a v : Nat) : State :=
  { s with cle := { s.cle with inMap := tblSet (0 : Word) s.cle.inMap a (BitVec.ofNat 32 v) } }

/-- The measured P in pu (0x089, R115). -/
def State.measuredP (s : State) : Rat := puOf (s.inWord 0x089)

/-- PEXP in pu (R243, R248). -/
def State.pexp (s : State) : Rat := mkRat (s.get Reg.TRP_HL_PEXP_LIMIT) 1000

/-! ### Settings in use -/

/-- The frequency band in use in pu: GRD_FBAND, the hard limit TRP_HL_FREQ and the safety limit set intersected, the hard limit where that
is empty (R243, R395). -/
def State.freqBand (s : State) : Rat × Rat :=
  let lo := max (max (s.get Reg.GRD_FBAND_FMIN) (s.get Reg.TRP_HL_FREQ_FMIN)) s.safFmin
  let hi := min (min (s.get Reg.GRD_FBAND_FMAX) (s.get Reg.TRP_HL_FREQ_FMAX)) (s.safLimit Reg.SAF_S_C_FMAX)
  let b := if hi < lo then (s.get Reg.TRP_HL_FREQ_FMIN, s.get Reg.TRP_HL_FREQ_FMAX) else (lo, hi)
  (mkRat b.1 (100 * s.fnom), mkRat b.2 (100 * s.fnom))

/-- PSET in use: at most PEXP of the hard limit and of the safety limit set, at least −PIMP (R243, R395). -/
def State.psetUse (s : State) : Rat :=
  clampRat (puOf (s.get Reg.GRD_PSET_VALUE)) (-(mkRat (s.safLimit Reg.SAF_S_D_PIMP) 1000))
    (min s.pexp (mkRat (s.safLimit Reg.SAF_S_B_PEXP) 1000))

/-- FSET, VSET, QSET and IMAX in pu. -/
def State.fset (s : State) : Rat := puOf (s.get Reg.GRD_FSET_VALUE)
def State.vset (s : State) : Rat := puOf (s.get Reg.GRD_VSET_VALUE)
def State.qset (s : State) : Rat := puOf (s.get Reg.GRD_QSET_VALUE)
def State.imax (s : State) : Rat := puOf (s.get Reg.GRD_IMAX_VALUE)

/-- KQ and RF as fractions (0.01 %). -/
def State.kq (s : State) : Rat := mkRat (s.get Reg.GRD_VSM_DROOP_KQ) 10000
def State.rf (s : State) : Rat := mkRat (s.get Reg.GRD_VSM_DROOP_RF) 10000

/-- The device is a Peloton follower: its grid functions do not act (R117). -/
def State.isFollower (s : State) : Bool := s.get Reg.PEL_STAT_ROLE == 2

/-! ### Samples (R112, R113, R118) -/

/-- A triple of input words as phase quantities in pu: scaled by SCALE in 0.01 pu. -/
def State.triple (s : State) (a b c scale : Nat) : Rat × Rat × Rat :=
  let v n := rawFraction (s.rawWord n) * mkRat scale 100
  (v a, v b, v c)

/-- The phase voltages: from line-to-line inputs when LL is 1, without zero sequence (R112). -/
def State.phaseVolts (s : State) : Rat × Rat × Rat :=
  let v := s.triple (s.get Reg.GRD_VIN_A) (s.get Reg.GRD_VIN_B) (s.get Reg.GRD_VIN_C) (s.get Reg.GRD_VIN_SCALE)
  if s.on Reg.GRD_VIN_LL then ((v.1 - v.2.2) / 3, (v.2.1 - v.1) / 3, (v.2.2 - v.2.1) / 3) else v

/-- The converter phase currents; with TWO, ic := −ia − ib (R112). -/
def State.phaseAmps (s : State) : Rat × Rat × Rat :=
  let i := s.triple (s.get Reg.GRD_IIN_A) (s.get Reg.GRD_IIN_B) (s.get Reg.GRD_IIN_C) (s.get Reg.GRD_IIN_SCALE)
  if s.on Reg.GRD_IIN_TWO then (i.1, i.2.1, -i.1 - i.2.1) else i

/-- The GRD_ZIN current set, or GRD_IIN when SAME is 1 (R112). -/
def State.zinAmps (s : State) : Rat × Rat × Rat :=
  if s.on Reg.GRD_ZIN_SAME then s.phaseAmps
  else s.triple (s.get Reg.GRD_ZIN_A) (s.get Reg.GRD_ZIN_B) (s.get Reg.GRD_ZIN_C) (s.get Reg.GRD_ZIN_SCALE)

/-- √3. -/
def root3 : Rat := sqrtOf 3

/-- The Clarke transform of a triple: α = (2a − b − c) / 3, β = (b − c) / √3. -/
def clarke (v : Rat × Rat × Rat) : Rat × Rat := ((2 * v.1 - v.2.1 - v.2.2) / 3, (v.2.1 - v.2.2) / root3)

/-- P and Q in pu from the phase voltages and the phase currents, positive for export, a lagging current giving positive Q. The spec gives
their signs; that they are formed from the latest samples, a positive current being one out of the converter, is DEDUCED (R115, R116;
log 20). -/
def powerP (v i : Rat × Rat × Rat) : Rat := 2 / 3 * (v.1 * i.1 + v.2.1 * i.2.1 + v.2.2 * i.2.2)
def powerQ (v i : Rat × Rat × Rat) : Rat := (clarke v).2 * (clarke i).1 - (clarke v).1 * (clarke i).2

/-- U² = vα² + vβ², exactly (R118). -/
def uSquared (v : Rat × Rat × Rat) : Rat :=
  (2 * v.1 - v.2.1 - v.2.2) ^ 2 / 9 + (v.2.1 - v.2.2) ^ 2 / 3

/-- The smaller of a kept value and a new one. -/
def keepMin (o : Option Rat) (x : Rat) : Option Rat := some (match o with | none => x | some y => min x y)

/-- Positive and negative sequence vectors (α, β) from the SOGI components of the three phases (R113). -/
def sequencesOf (a b c : Rat × Rat) : (Rat × Rat) × (Rat × Rat) :=
  let v := clarke (a.1, b.1, c.1)
  let q := clarke (a.2, b.2, c.2)
  (((v.1 - q.2) / 2, (q.1 + v.2) / 2), ((v.1 + q.2) / 2, (v.2 - q.1) / 2))

/-- A vector turned by −θ half-turns. -/
def rotate (v : Rat × Rat) (th : Rat) : Rat × Rat :=
  (v.1 * cosHalf th + v.2 * sinHalf th, v.2 * cosHalf th - v.1 * sinHalf th)

/-- The tracking error ε = atan2(Vq+, Vd+) in the observer's own frame, in radians. -/
def Observer.error (o : Observer) : Rat :=
  let d := rotate o.pos o.th
  atan2Rad d.2 d.1

/-- The observer's gains: K in 1/64, GAMMA in 1/8, BW in Hz. -/
def State.obsGains (s : State) : Rat × Rat × Nat :=
  (mkRat (s.get Reg.GRD_OBS_CFG_K) 64, mkRat (s.get Reg.GRD_OBS_CFG_GAMMA) 8, s.get Reg.GRD_OBS_CFG_BW)

/-- One step of a SOGI, v′' = ω (K (v − v′) − qv′), qv′' = ω v′, by the trapezoidal rule over an interval of counts between two samples
(R113). The equations are those of the family (PRESUMED, log 20). -/
def sogiStep (k w : Rat) (fnom dt : Nat) (v0 v1 : Rat) (x : Rat × Rat) : Rat × Rat :=
  let h := piRat * (fnom : Rat) * w * mkRat dt 400000000
  let y := ((1 - h * k - h * h) * x.1 - 2 * h * x.2 + h * k * (v0 + v1)) / (1 + h * k + h * h)
  (y, x.2 + h * (x.1 + y))

/-- SOGI components turned forward by an interval at frequency `w`: in phase A cos φ, in quadrature A sin φ. -/
def turned (w : Rat) (fnom : Nat) (dt : Nat) (x : Rat × Rat) : Rat × Rat :=
  let a := 2 * (fnom : Rat) * w * mkRat dt 400000000
  (x.1 * cosHalf a - x.2 * sinHalf a, x.1 * sinHalf a + x.2 * cosHalf a)

/-- The two sequences at TIME `t`, each phase's components turned forward from its own last sample. -/
def Observer.separate (o : Observer) (fnom t : Nat) : Observer :=
  let q := sequencesOf (turned o.w fnom (t - o.lastT.1) o.a) (turned o.w fnom (t - o.lastT.2.1) o.b) (turned o.w fnom (t - o.lastT.2.2) o.c)
  { o with pos := q.1, neg := q.2 }

/-- One step of an observer on phase voltages `v` with the sample TIMEs `ts`: the three SOGIs, each over its own interval, the
frequency-locked loop, the sequence separation and the phase-locked loop at the latest of the TIMEs (R113). -/
def State.observerStep (s : State) (o : Observer) (v : Rat × Rat × Rat) (ts : Nat × Nat × Nat) : Observer :=
  let g := s.obsGains
  let f := s.fnom
  let t := max ts.1 (max ts.2.1 ts.2.2)
  let dt := t - o.at_
  let x := sogiStep g.1 o.w f (ts.1 - o.lastT.1) o.lastV.1 v.1 o.a
  let y := sogiStep g.1 o.w f (ts.2.1 - o.lastT.2.1) o.lastV.2.1 v.2.1 o.b
  let z := sogiStep g.1 o.w f (ts.2.2 - o.lastT.2.2) o.lastV.2.2 v.2.2 o.c
  let w := Config.fll g.2.1 f dt o.w (v.1 - x.1, v.2.1 - y.1, v.2.2 - z.1) (x.2, y.2, z.2)
  let o1 : Observer := { o with a := x, b := y, c := z, w := w, lastV := v, prevV := o.lastV, lastT := ts, prevT := o.lastT, at_ := t }
  let o2 := o1.separate f t
  let p := Config.pll g.2.2 f dt o2.pos w o.th o.integ
  { o2 with th := wrapHalf p.1, integ := p.2 }

/-- The observer's own prediction of the phase voltages at given TIMEs (R113). -/
def State.observerPredicts (s : State) (o : Observer) (ts : Nat × Nat × Nat) : Rat × Rat × Rat :=
  let p (x : Rat × Rat) (t0 t : Nat) : Rat := (turned o.w s.fnom (t - t0) x).1
  (p o.a o.lastT.1 ts.1, p o.b o.lastT.2.1 ts.2.1, p o.c o.lastT.2.2 ts.2.2)

/-- The compensated EMF e = v − Z_f × i (R132): per phase R times the current plus X times the current set turned forward by a quarter
period, which a set without zero sequence gives from its own phases (DEDUCED, log 20). -/
def State.compensated (s : State) (v : Rat × Rat × Rat) : Rat × Rat × Rat :=
  let z := s.grd.zFrozen
  let i := s.zinAmps
  let j := ((i.2.2 - i.2.1) / root3, (i.1 - i.2.2) / root3, (i.2.1 - i.1) / root3)
  (v.1 - z.1 * i.1 - z.2 * j.1, v.2.1 - z.1 * i.2.1 - z.2 * j.2.1, v.2.2 - z.1 * i.2.2 - z.2 * j.2.2)

/-- The three voltage words as last posted. -/
def State.voltWords (s : State) : List Nat :=
  [s.rawWord (s.get Reg.GRD_VIN_A), s.rawWord (s.get Reg.GRD_VIN_B), s.rawWord (s.get Reg.GRD_VIN_C)]

/-- The voltage inputs that satisfy a test, A, B, C as bits 0 to 2. -/
def State.voltMask (s : State) (p : Nat → Bool) : Nat :=
  (if p (s.get Reg.GRD_VIN_A) then 1 else 0) + (if p (s.get Reg.GRD_VIN_B) then 2 else 0) + (if p (s.get Reg.GRD_VIN_C) then 4 else 0)

/-- The squared 1.05 × VSCALE that a sample with OVR counts as in the overvoltage test (R148). -/
def State.ovrSquared (s : State) : Rat := (mkRat (21 * s.get Reg.GRD_VIN_SCALE) 2000) ^ 2

/-- NV voltage words noted for the evaluation, each by its input (R119, R125). -/
def State.noteNv (s : State) : State :=
  let m := s.voltMask (fun n => wordNv (s.rawWord n))
  if m = 0 then s else s.modGrd (fun g => { g with sawNv := true, sawBad := true, nvSeen := g.nvSeen ||| m })

/-- What a sample adds for the evaluation: U_min, the overvoltage form of it, NV and OVR marks (R118, R119, R148). -/
def State.noteSample (s : State) : State :=
  let nv := s.voltWords.any wordNv
  let ovr := s.voltWords.any wordOvr
  let u := uSquared s.phaseVolts
  s.noteNv.modGrd (fun g => { g with
    sawBad := g.sawBad || ovr
    sawOvr := g.sawOvr || ovr
    uMin2 := if nv then g.uMin2 else keepMin g.uMin2 u
    ovMin2 := if nv then g.ovMin2 else keepMin g.ovMin2 (if ovr then s.ovrSquared else u) })

/-- An input posts sequenced samples: it lies in an active slot and its converter is enabled. -/
def State.inputPosts (s : State) (n : Nat) : Bool := s.inSlot n && s.bit Reg.ADC_CTRL_CONV_EN (n % 8)

/-- A history cut after its first entry at least `win` counts old. -/
def trimHist (now win : Nat) : List (Nat × Rat) → List (Nat × Rat)
  | [] => []
  | e :: rest => if e.1 + win ≤ now then [e] else e :: trimHist now win rest

/-- ω_obs kept for ROCOF. -/
def State.keepFrequency (s : State) : State :=
  s.modGrd (fun g => { g with wHist := (s.now, g.obs.w) :: trimHist s.now (s.get Reg.GRD_OBS_CFG_ROCW * countsPerMs) g.wHist })

/-- The sample TIMEs of a step: per phase that of its input; with LL, where a phase voltage comes from two inputs, the latest for all; for an
input that posts none, the latest. -/
def State.stepTimes (s : State) : Nat × Nat × Nat :=
  let m := s.voltMask s.inputPosts
  let q := s.grd.sampT
  let own (i t : Nat) : Nat := if m.testBit i then t else 0
  let last := max (own 0 q.1) (max (own 1 q.2.1) (own 2 q.2.2))
  let at_ (i t : Nat) : Nat := if s.on Reg.GRD_VIN_LL || !m.testBit i then last else t
  (at_ 0 q.1, at_ 1 q.2.1, at_ 2 q.2.2)

/-- OBSERVER_STEP: the last of the voltage inputs that post has posted its sequenced sample (R113). With an NV or OVR word the step runs on
the observer's own prediction. In FREEWHEEL the shadow observer takes the same step on the compensated EMF (R132). -/
def State.observe (s : State) : State :=
  let ts := s.stepTimes
  let bad := s.voltWords.any (fun w => wordNv w || wordOvr w)
  let v := if bad then s.observerPredicts s.grd.obs ts else s.phaseVolts
  let e := s.compensated v
  let s1 := s.noteSample
  let s2 := (s1.modGrd (fun g => { g with obs := s.observerStep g.obs v ts, posted := 0 })).keepFrequency
  if s.get Reg.GRD_STAT_MODE = 4 then
    s2.modGrd (fun g => { g with shadow := s.observerStep g.shadow e ts, eMin2 := keepMin g.eMin2 (uSquared e) })
  else s2

/-- The inputs of the six channels that the tone is correlated with: GRD_VIN, and GRD_ZIN or GRD_IIN when SAME is 1 (R112, R141), with
their SCALE. -/
def State.toneChannels (s : State) : List (Nat × Nat) :=
  let sv := s.get Reg.GRD_VIN_SCALE
  let cur : List (Nat × Nat) := if s.on Reg.GRD_ZIN_SAME then
      let si := s.get Reg.GRD_IIN_SCALE
      [(s.get Reg.GRD_IIN_A, si), (s.get Reg.GRD_IIN_B, si), (s.get Reg.GRD_IIN_C, si)]
    else
      let si := s.get Reg.GRD_ZIN_SCALE
      [(s.get Reg.GRD_ZIN_A, si), (s.get Reg.GRD_ZIN_B, si), (s.get Reg.GRD_ZIN_C, si)]
  [(s.get Reg.GRD_VIN_A, sv), (s.get Reg.GRD_VIN_B, sv), (s.get Reg.GRD_VIN_C, sv)] ++ cur

/-- The tone's phase at TIME `t`, in half-turns (R140). -/
def State.tonePhase (s : State) (t : Nat) : Rat := wrapHalf (20 * (s.get Reg.GRD_TONE_FREQ : Rat) * secondsOf t)

/-- A sample at TIME `t` of an input correlated with the tone, single-bin, in every channel the input serves; a word that is NV is left out
(R141; DEDUCED, log 69). -/
def State.toneSample (s : State) (input t : Nat) : State :=
  let w := s.rawWord input
  if s.on Reg.GRD_CTRL_TONEEN = false ∨ wordNv w = true ∨ t < s.grd.toneAt then s
  else
    let phi := s.tonePhase t
    let add := fun (m : Tbl (Rat × Rat × Nat)) (k : Nat) =>
      let ch := s.toneChannels.getD k (32, 0)
      let x := rawFraction w * mkRat ch.2 100
      if ch.1 = input then tblMod (0, 0, 0) m k (fun p => (p.1 + x * cosHalf phi, p.2.1 - x * sinHalf phi, p.2.2 + 1)) else m
    s.modGrd (fun g => { g with toneSum := (List.range 6).foldl add g.toneSum })

/-- A sequenced sample of an input, taken at TIME `t`, has posted: the tone is correlated with it, and once every voltage input that posts has
posted, the observer takes its step (R113, R141). -/
def State.gridSample (s0 : State) (input t : Nat) : State :=
  if s0.on Reg.GRD_CTRL_EN = false ∨ s0.isFollower then s0
  else
    let s := s0.toneSample input t
    let m := s.voltMask (fun n => n == input)
    if m = 0 then s
    else
      let s1 := s.modGrd (fun g => { g with
        posted := g.posted ||| m
        sampT := (if m.testBit 0 then t else g.sampT.1, if m.testBit 1 then t else g.sampT.2.1, if m.testBit 2 then t else g.sampT.2.2) })
      if s1.grd.posted &&& s1.voltMask s1.inputPosts = s1.voltMask s1.inputPosts then s1.observe else s1

/-! ### Modes -/

/-- MODE changed: interrupt 5 (R290); GRD_EVT_TICK records the tick of a change. The shadow observer runs only in FREEWHEEL: SHADOW clears when that ends (R132;
DEDUCED, log 124). -/
def State.setMode (s : State) (m : Nat) : State :=
  if s.get Reg.GRD_STAT_MODE = m then s
  else
    let s1 := ((s.set Reg.GRD_STAT_MODE m).set Reg.GRD_EVT_TICK_TICK s.tick).irq 5
    if s.get Reg.GRD_STAT_MODE = 4 then s1.set Reg.GRD_STAT_SHADOW 0 else s1

/-- GRID_FUNCTION_TRIP: MODE becomes TRIPPED, CAUSE is recorded, trip source 26 latches and a Serious fault is raised (R125). Of several
causes found in the tick of the trip CAUSE keeps the lowest (R123). -/
def State.gridTrip (s : State) (cause : Nat) : State :=
  if s.get Reg.GRD_STAT_MODE = 0 then s
  else if s.get Reg.GRD_STAT_MODE = 6 then
    if s.get Reg.GRD_EVT_TICK_TICK = s.tick % 0x100000000 ∧ cause < s.get Reg.GRD_STAT_CAUSE then s.set Reg.GRD_STAT_CAUSE cause else s
  else
    ((((s.setMode 6).set Reg.GRD_STAT_CAUSE cause).set Reg.GRD_STAT_BSPH 0).tripLatch 26 63).fault 32 cause

/-- TIME of the reference point of the present tick (R115). -/
def State.refPoint (s : State) : Nat :=
  s.cad.tickStart + s.get Reg.GRD_REFPT_OFS % max 1 (s.get Reg.CAD_PERIOD_PERIOD)

/-- θ_obs at the reference point, by extrapolation at the present frequency (R115). -/
def State.obsTheta (s : State) : Rat :=
  wrapHalf (s.grd.obs.th + s.advance s.grd.obs.w ((s.refPoint : Int) - (s.grd.obs.at_ : Int)))

/-- The shadow angle at the reference point. -/
def State.shadowTheta (s : State) : Rat :=
  wrapHalf (s.grd.shadow.th + s.advance s.grd.shadow.w ((s.refPoint : Int) - (s.grd.shadow.at_ : Int)))

/-- The magnitude of a vector. -/
def magnitude (v : Rat × Rat) : Rat := sqrtOf (v.1 ^ 2 + v.2 ^ 2)

/-- The positive-sequence magnitude √(Vd² + Vq²). -/
def State.posMag (s : State) : Rat := magnitude s.grd.obs.pos

/-- The negative-sequence magnitude. -/
def State.negMag (s : State) : Rat := magnitude s.grd.obs.neg

/-- The rotor set, its frequency held in the band in use (R243). -/
def State.setRotor (s : State) (th w : Rat) : State :=
  s.modGrd (fun g => { g with rotorTh := wrapHalf th, rotorW := clampRat w s.freqBand.1 s.freqBand.2 })

/-- The rotor takes the observer's angle and frequency (R128, R129, R133). -/
def State.rotorTracks (s : State) : State := s.setRotor s.obsTheta s.grd.obs.w

/-- Entry to FORM from SYNC or FOLLOW (R128). -/
def State.enterForm (s : State) : State :=
  ((s.setMode 3).rotorTracks).modGrd (fun g => { g with rotorE := s.posMag, bsTail := false })

/-- Entry to FORM from FREEWHEEL: the rotor keeps its state and E := VSET (R128). -/
def State.freewheelToForm (s : State) : State := (s.setMode 3).modGrd (fun g => { g with rotorE := s.vset, bsTail := false })

/-- Entry to FREEWHEEL: the rotor goes on from the last good evaluation; Z_f is frozen (R130, R132). The shadow observer starts as a copy of
the main one (DESIGN CHOICE, log 152). -/
def State.enterFreewheel (s : State) : State :=
  let roc := mkRat (s.get Reg.GRD_FW_CFG_FWROC) (10 * s.fnom)
  let g := s.grd.lastGood.getD ⟨s.refPoint, s.obsTheta, s.grd.obs.w, 0⟩
  let th := g.th + s.advance g.w ((s.refPoint : Int) - (g.at_ : Int))
  let z := if s.on Reg.GRD_STAT_ZVALID then (puOf (s.get Reg.GRD_Z_R_VALUE), puOf (s.get Reg.GRD_Z_X_VALUE)) else (0, 0)
  (((((s.setMode 4).setRotor th g.w).modGrd (fun x => { x with
    rho := clampRat g.rocof (-roc) roc, freeAt := s.now, entryAt := some s.now, aligned := false, zFrozen := z
    shadow := x.obs, shadowGood := 0, shadowBad := 0 })).set Reg.GRD_STAT_SHADOW 0).count Reg.GRD_FW_CNT_ENTRY 1).fault 33 0

/-! ### Ride-through (R148 to R151) -/

/-- V_RT² for the undervoltage and for the overvoltage test, where a sample with OVR counts as 1.05 × VSCALE (R148). -/
def State.vrt2 (s : State) : Rat × Rat :=
  if s.on Reg.GRD_CTRL_RTSEL then (s.posMag ^ 2, if s.grd.sawOvr then max (s.posMag ^ 2) s.ovrSquared else s.posMag ^ 2)
  else (s.grd.uMin2.getD 0, s.grd.ovMin2.getD 0)

/-- A threshold in units of 1/`den` pu, squared. -/
def sq (n den : Nat) : Rat := (mkRat n den) ^ 2

/-- The boundary V(t) of a curve in 0.001 pu, `t` in ms (R149). A time below the one before it is read as that one. -/
def curveAt (pts : List (Nat × Nat)) (t : Rat) : Rat :=
  let go := fun (acc : (Nat × Nat) × Rat) (p : Nat × Nat) =>
    let t0 := acc.1.1
    let t1 := max t0 p.1
    ((t1, p.2),
      if t < (t0 : Rat) then acc.2
      else if (t1 : Rat) ≤ t then (p.2 : Rat)
      else (acc.1.2 : Rat) + ((p.2 : Rat) - (acc.1.2 : Rat)) * (t - (t0 : Rat)) / ((t1 : Rat) - (t0 : Rat)))
  match pts with
  | [] => 0
  | p :: rest => (rest.foldl go (p, (p.2 : Rat))).2

/-- The undervoltage and overvoltage curves. -/
def State.uvCurve (s : State) : List (Nat × Nat) :=
  (List.range 16).map (fun i => (s.get (Reg.GRD_RT_UV_T i), s.get (Reg.GRD_RT_UV_V i)))
def State.ovCurve (s : State) : List (Nat × Nat) :=
  (List.range 16).map (fun i => (s.get (Reg.GRD_RT_OV_T i), s.get (Reg.GRD_RT_OV_V i)))

/-- The mean of a list. -/
def meanOf (l : List Rat) : Option Rat := if l.isEmpty then none else some (l.foldl (· + ·) 0 / (l.length : Rat))

/-- Ride-through entry and the start or break of recovery (R148). -/
def State.rideThrough (s : State) : State :=
  let v := s.vrt2
  let uv := decide (v.1 < sq (s.get Reg.GRD_RT_CFG_UVENT) 100)
  let ov := decide (sq (s.get Reg.GRD_RT_CFG_OVENT) 100 < v.2)
  let was := s.get Reg.GRD_STAT_RT
  let rt := if uv then 1 else if ov then 2 else was
  let s1 := if rt ≠ 0 ∧ was = 0 then
      let pre := (meanOf ((s.grd.posHist.filter (fun e => decide (s.now ≤ e.1 + 50 * countsPerMs))).map (·.2))).getD Config.vPreNone
      s.modGrd (fun g => { g with rtAt := s.now, vPre := pre, recSince := none, rampFrom := none })
    else s
  let ok := if rt = 1 then decide (sq (s.get Reg.GRD_RT_CFG_UVENT + 2) 100 ≤ v.1)
    else decide (2 ≤ s.get Reg.GRD_RT_CFG_OVENT) && decide (v.2 ≤ sq (s.get Reg.GRD_RT_CFG_OVENT - 2) 100)
  let s2 := s1.set Reg.GRD_STAT_RT rt
  if rt = 0 then s2
  else s2.modGrd (fun g => { g with
    recSince := if ok then some (g.recSince.getD s.now) else none
    rampFrom := if ok then some (g.rampFrom.getD s.now) else none })

/-- RT returns to 0 once recovery has held without break for HOLD, as the last evaluation found it (R148). -/
def State.rtHold (s : State) : State :=
  match s.grd.recSince with
  | none => s
  | some t =>
    if s.get Reg.GRD_STAT_RT ≠ 0 ∧ t + s.get Reg.GRD_RT_TIM_HOLD * countsPerMs ≤ s.cel.acqAt then
      (s.set Reg.GRD_STAT_RT 0).modGrd (fun g => { g with recSince := none })
    else s

/-- The cause of a curve test that trips, if one does (R150). -/
def State.curveTrip (s : State) : Option Nat :=
  let t := mkRat (s.now - s.grd.rtAt) countsPerMs
  let m := s.get Reg.GRD_STAT_MODE
  if m = 0 ∨ m = 6 then none
  else if s.get Reg.GRD_STAT_RT = 1 ∧ s.vrt2.1 < (curveAt s.uvCurve t / 1000) ^ 2 then some 1
  else if s.get Reg.GRD_STAT_RT = 2 ∧ (curveAt s.ovCurve t / 1000) ^ 2 < s.vrt2.2 then some 2
  else none

/-- The current references: IQRT, IQ2RT and IDLIM in pu (R151). -/
def State.rtCurrents (s : State) : Rat × Rat × Rat :=
  let im := s.imax
  let rt := s.get Reg.GRD_STAT_RT
  let q := if rt = 0 then 0 else min (mkRat (s.get Reg.GRD_RT_CFG_K) 10 * absRat (s.grd.vPre - s.posMag)) im
  let q2 := if rt = 0 then 0 else min (mkRat (s.get Reg.GRD_RT_CFG_K2) 10 * s.negMag) (im - q)
  let d0 := if rt = 0 then im else sqrtOf (im ^ 2 - q ^ 2)
  let d := match s.grd.rampFrom with
    | none => d0
    | some t => min d0 (mkRat (s.get Reg.GRD_RT_TIM_PRAMP) 100 * secondsOf (s.now - t))
  (if rt = 2 then -q else q, q2, d)

/-- The ramp ends once its bound reaches IMAX, outside ride-through (R151). -/
def State.rampEnd (s : State) : State :=
  match s.grd.rampFrom with
  | none => s
  | some t =>
    if s.get Reg.GRD_STAT_RT = 0 ∧ s.imax ≤ mkRat (s.get Reg.GRD_RT_TIM_PRAMP) 100 * secondsOf (s.now - t) then
      s.modGrd (fun g => { g with rampFrom := none })
    else s

/-! ### Classification and counts (R119, R120, R121) -/

/-- U_min of the samples since the last evaluation is at least a threshold in 0.01 pu. -/
def State.uAtLeast (s : State) (th : Nat) : Bool :=
  match s.grd.uMin2 with
  | none => false
  | some u => decide (sq th 100 ≤ u)

/-- Low: U_min below VLOSS, or a voltage word NV; without a sample too (log 22). -/
def State.evalLow (s : State) : Bool := s.grd.sawNv || !s.uAtLeast (s.get Reg.GRD_OBS_LIM_VLOSS)

/-- Astray: |ε| above LOSSBAND. -/
def State.evalAstray (s : State) : Bool :=
  decide (mkRat (s.get Reg.GRD_OBS_LIM_LOSSBAND) 100 < absRat s.grd.obs.error)

/-- Good (R119). -/
def State.evalGood (s : State) : Bool :=
  s.uAtLeast (s.get Reg.GRD_OBS_LIM_VMIN) && decide (absRat s.grd.obs.error ≤ mkRat (s.get Reg.GRD_OBS_LIM_ERRBAND) 100)
    && decide (s.freqBand.1 ≤ s.grd.obs.w) && decide (s.grd.obs.w ≤ s.freqBand.2) && !s.grd.sawBad

/-- The SOGI components of a phase set from its last two samples: a sinusoid of frequency `w` through both (R121; DEDUCED, log 20). -/
def seedPhase (w : Rat) (fnom dt : Nat) (v0 v1 : Rat) : Rat × Rat :=
  let a := 2 * (fnom : Rat) * w * mkRat dt 400000000
  (v1, if sinHalf a = 0 then Config.reseedOpen v0 v1 else (v0 - v1 * cosHalf a) / sinHalf a)

/-- The observer re-seeded at the first evaluation with U_min ≥ VMIN in LOST (R121). -/
def State.reseed (s : State) : State :=
  let o := s.grd.obs
  let m := s.get Reg.GRD_STAT_MODE
  let w := if m = 4 ∨ m = 3 ∨ m = 5 then s.grd.rotorW else 1
  let v := clarke o.lastV
  let f := s.fnom
  let o1 : Observer := { o with
    w := w, th := atan2Rad v.2 v.1 / piRat, integ := 0
    a := seedPhase w f (o.lastT.1 - o.prevT.1) o.prevV.1 o.lastV.1
    b := seedPhase w f (o.lastT.2.1 - o.prevT.2.1) o.prevV.2.1 o.lastV.2.1
    c := seedPhase w f (o.lastT.2.2 - o.prevT.2.2) o.prevV.2.2 o.lastV.2.2 }
  (s.modGrd (fun g => { g with reseeded := true, obs := o1.separate f o.at_ })).keepFrequency

/-- ROCOF in pu/s: against ω_obs as it stood ROCW ago (R113). -/
def State.rocof (s : State) : Rat :=
  let win := s.get Reg.GRD_OBS_CFG_ROCW * countsPerMs
  match s.grd.wHist.find? (fun e => decide (e.1 + win ≤ s.now)) with
  | none => Config.earlyRocof s.grd.obs.w
  | some e => (s.grd.obs.w - e.2) / mkRat (s.get Reg.GRD_OBS_CFG_ROCW) 1000

/-- The runs of NV evaluations of the three inputs go on or end, and source 36 reports each input whose run has reached LOSS_N (R125, R389;
DESIGN CHOICE, log 154: at every evaluation from then on). -/
def State.nvStep (s : State) : State :=
  let m := s.grd.nvSeen
  let r := s.grd.nvRuns
  let go := fun (i x : Nat) => if m.testBit i then x + 1 else 0
  let q := (go 0 r.1, go 1 r.2.1, go 2 r.2.2)
  let s1 := s.modGrd (fun g => { g with nvRuns := q, nvSeen := 0 })
  [(q.1, s.get Reg.GRD_VIN_A), (q.2.1, s.get Reg.GRD_VIN_B), (q.2.2, s.get Reg.GRD_VIN_C)].foldl (fun s e =>
    if 0 < e.1 ∧ s.get Reg.GRD_FW_CFG_LOSS_N ≤ e.1 then s.fault 36 e.2 else s) s1

/-- Step 1: the evaluation is classified and the counts of R120, R125, R135 and R138 go on. -/
def State.classify (s : State) : State :=
  let lost := s.get Reg.GRD_STAT_OBS = 2
  let reseedNow := decide lost && !s.grd.reseeded && s.uAtLeast (s.get Reg.GRD_OBS_LIM_VMIN)
  let s0 := if reseedNow then s.reseed else s
  let good := s.evalGood && !reseedNow && (!decide lost || s.grd.reseeded)
  let bad := s.evalLow || s.evalAstray
  let roc := s0.rocof
  let hand := s.uAtLeast (s.get Reg.GRD_BS_HAND_VHAND)
    && decide (absRat (s.grd.obs.w - s.fset) * (s.fnom : Rat) ≤ mkRat (s.get Reg.GRD_BS_HAND_FBAND) 100)
  let s1 := s0.modGrd (fun g => { g with
    goods := if good then g.goods + 1 else 0
    bads := if bad then g.bads + 1 else 0
    lastWasGood := good
    lastGood := if good then some ⟨s.refPoint, s0.obsTheta, s0.grd.obs.w, roc⟩ else g.lastGood
    lowSince := if s.evalLow then some (g.lowSince.getD s.now) else none
    bsGood := if s.get Reg.GRD_STAT_BSPH = 2 ∧ hand then g.bsGood + 1 else 0 })
  s1.nvStep

/-- The rotor's angle at this tick's reference point if it goes on at its present frequency. -/
def State.rotorAhead (s : State) : Rat := s.grd.rotorTh + s.advance s.grd.rotorW (s.get Reg.CAD_PERIOD_PERIOD)

/-- |Δθ| ≤ REJANG between the rotor and an angle, both at this tick's reference point (R133). -/
def State.nearAngle (s : State) (th : Rat) : Bool :=
  decide (absRat (wrapHalf (s.rotorAhead - th)) * 180 ≤ mkRat (s.get Reg.GRD_FW_CFG_REJANG) 10)

/-- In a good evaluation in FREEWHEEL: |Δθ| ≤ REJANG has been reached (R133). -/
def State.alignStep (s : State) : State :=
  if s.get Reg.GRD_STAT_MODE = 4 ∧ s.grd.lastWasGood = true ∧ s.nearAngle s.obsTheta = true then
    s.modGrd (fun g => { g with aligned := true })
  else s

/-- OBS has completed its good evaluations: LOCK_N in SEARCH, REJOIN_N in LOST, in FREEWHEEL with the angle aligned (R120, R133). -/
def State.lockDue (s : State) : Bool :=
  (s.get Reg.GRD_STAT_OBS == 0 && decide (s.get Reg.GRD_OBS_CNT_LOCK_N ≤ s.grd.goods))
    || (s.get Reg.GRD_STAT_OBS == 2 && decide (s.get Reg.GRD_OBS_CNT_REJOIN_N ≤ s.grd.goods)
      && (s.get Reg.GRD_STAT_MODE != 4 || s.grd.aligned))

/-- OBS is to become LOST: LOSS_N evaluations low or astray (R120). -/
def State.lossDue (s : State) : Bool :=
  s.get Reg.GRD_STAT_OBS == 1 && decide (s.get Reg.GRD_FW_CFG_LOSS_N ≤ s.grd.bads)

/-- OBS after the counts of an evaluation (R120). -/
def State.observerMoves (s : State) : State :=
  if s.lockDue then s.set Reg.GRD_STAT_OBS 1
  else if s.lossDue then (s.set Reg.GRD_STAT_OBS 2).modGrd (fun g => { g with reseeded := false, goods := 0 })
  else s

/-- SHADOW is set after eight consecutive good shadow evaluations (R132). -/
def State.shadowLock (s : State) : State :=
  if s.get Reg.GRD_STAT_MODE = 4 ∧ 8 ≤ s.grd.shadowGood then s.set Reg.GRD_STAT_SHADOW 1 else s

/-- The shadow's conditions counted: eight evaluations that meet both set SHADOW, LOSS_N that fail one clear it (R132). -/
def State.shadowCount (s : State) : State :=
  if s.get Reg.GRD_STAT_MODE ≠ 4 then s
  else
    let big := match s.grd.eMin2 with
      | none => false
      | some e => decide (sq (s.get Reg.GRD_FW_CFG_VREACQ) 100 ≤ e)
    let ok := big && decide (absRat s.grd.shadow.error ≤ mkRat (s.get Reg.GRD_OBS_LIM_ERRBAND) 100)
    let s1 := s.modGrd (fun g => { g with
      shadowGood := if ok then g.shadowGood + 1 else 0
      shadowBad := if ok then 0 else g.shadowBad + 1 })
    if s.get Reg.GRD_FW_CFG_LOSS_N ≤ s1.grd.shadowBad then s1.set Reg.GRD_STAT_SHADOW 0 else s1.shadowLock

/-! ### Islanding (R144 to R146) -/

/-- A passive test's condition (R144): 0 ROCOF, 1 vector shift, 2 voltage window, 3 frequency window. -/
def State.testHolds (s : State) (k : Nat) : Bool :=
  let o := s.grd.obs
  match k with
  | 0 => decide (mkRat (s.get Reg.GRD_ISL_ROC_THR) 100 < absRat s.rocof * (s.fnom : Rat))
  | 1 =>
    let v := clarke o.lastV
    let d := rotate v o.th
    decide (mkRat (s.get Reg.GRD_ISL_VS_THR) 10 < absRat (atan2Rad d.2 d.1) * 180 / piRat)
  | 2 => decide (s.posMag ^ 2 < sq (s.get Reg.GRD_ISL_VWIN_VLO) 100) || decide (sq (s.get Reg.GRD_ISL_VWIN_VHI) 100 < s.posMag ^ 2)
  | _ =>
    let f := o.w * (s.fnom : Rat)
    decide (f < (s.fnom : Rat) - mkRat (s.get Reg.GRD_ISL_FWIN_FLO) 100)
      || decide ((s.fnom : Rat) + mkRat (s.get Reg.GRD_ISL_FWIN_FHI) 100 < f)

/-- The passive tests are suspended at this evaluation (R144). -/
def State.testsSuspended (s : State) : Bool :=
  s.get Reg.GRD_STAT_OBS != 1 || s.get Reg.GRD_STAT_RT != 0 || decide (s.now < s.grd.suspendedTo)

/-- The passive tests' timers after an evaluation (R144). -/
def State.passiveTimers (s : State) : State :=
  let cause := s.get Reg.GRD_STAT_OBS != 1 || s.get Reg.GRD_STAT_RT != 0
  let s0 := s.modGrd (fun g => { g with
    suspendedTo := if g.suspended && !cause then s.now + 100 * countsPerMs else g.suspendedTo
    suspended := cause })
  [0, 1, 2, 3].foldl (fun s k =>
    let t := if s0.testsSuspended || !s0.testHolds k then none
      else some ((tblGet none s.grd.testSince k).getD s0.now)
    s.modGrd (fun g => { g with testSince := tblSet none g.testSince k t })) s0

/-- ISLANDING_ACTION: a met test sets its bit and trips, asks for the transfer to FORM in FOLLOW or FREEWHEEL, or flags (R146). `k` numbers the
test as GRD_ISL_STAT does. The transfer takes its place among the transitions of the evaluation (R123). -/
def State.islandingAction (s : State) (k : Nat) : State :=
  let s1 := s.putBit Reg.GRD_ISL_STAT_TEST k true
  match s.get Reg.GRD_CTRL_ISLACT with
  | 0 => s1.gridTrip (k + 3)
  | 1 => if s.get Reg.GRD_STAT_MODE = 2 ∨ s.get Reg.GRD_STAT_MODE = 4 then s1.modGrd (fun g => { g with transfer := true }) else s1
  | _ => s1

/-- The active tests on a window completed since the last evaluation (R145). -/
def State.activeTests (s : State) : State :=
  match s.grd.toneDue with
  | none => s
  | some t =>
    let s0 := s.modGrd (fun g => { g with toneDue := none })
    if s.grd.zEver = false then s0
    else
      let zopen := t.opens
      let xcap := !t.opens && decide (t.x ≤ mkRat (signedOf 8 (s.get Reg.GRD_Z_LIM_XMIN)) 100)
      let s1 := if zopen && s.bit Reg.GRD_ISL_EN_TEST 4 then s0.islandingAction 4 else s0
      if xcap && s.bit Reg.GRD_ISL_EN_TEST 5 then s1.islandingAction 5 else s1

/-- The time of a passive test in counts; the vector shift is met at its second consecutive evaluation (R144). -/
def State.testTime (s : State) (k : Nat) : Nat :=
  match k with
  | 0 => s.get Reg.GRD_ISL_ROC_TIME * countsPerMs
  | 1 => 1
  | 2 => s.get Reg.GRD_ISL_VWIN_TIME * countsPerMs
  | _ => s.get Reg.GRD_ISL_FWIN_TIME * countsPerMs

/-- An enabled passive test whose condition has held for its time at the last evaluation is met (R144). -/
def State.testDue (s : State) (k : Nat) : Bool :=
  match tblGet none s.grd.testSince k with
  | none => false
  | some t => s.bit Reg.GRD_ISL_EN_TEST k && decide (t + s.testTime k ≤ s.cel.acqAt)

/-- A passive test that is met acts, once at an evaluation (R146). -/
def State.passiveTest (s : State) (k : Nat) : State :=
  if s.testDue k ∧ s.grd.testMet.testBit k = false then
    (s.islandingAction k).modGrd (fun g => { g with testMet := setBit g.testMet k })
  else s

/-- The passive tests of an evaluation (R144, R146). -/
def State.passiveTests (s : State) : State :=
  [0, 1, 2, 3].foldl (fun s k => s.passiveTest k) ((s.passiveTimers).modGrd (fun g => { g with testMet := 0 }))

/-! ### Mode transitions (R122, R123) -/

/-- REJOIN: OBS locked again in FREEWHEEL ends it in FOLLOW (R133). -/
def State.rejoinStep (s : State) : State :=
  if s.get Reg.GRD_STAT_MODE = 4 ∧ s.get Reg.GRD_STAT_OBS = 1 then
    ((s.setMode 2).count Reg.GRD_FW_CNT_REJOIN 1).modGrd (fun g => { g with rejoinAt := some s.now })
  else s

/-- The transfer to FORM that an islanding test asks for (R146). -/
def State.transferStep (s : State) : State :=
  let s1 := s.modGrd (fun g => { g with transfer := false })
  if s.grd.transfer = false then s
  else if s.get Reg.GRD_STAT_MODE = 2 then s1.enterForm
  else if s.get Reg.GRD_STAT_MODE = 4 then s1.freewheelToForm
  else s1

/-- FREEWHEEL has lasted TMO at the last evaluation: FORM with a Note fault, or a trip with CAUSE 9 (R125, R134). -/
def State.freewheelOver (s : State) : State :=
  if s.get Reg.GRD_STAT_MODE = 4 ∧ s.grd.freeAt + s.get Reg.GRD_FW_TMO_TMO * countsPerMs ≤ s.cel.acqAt then
    (if s.get Reg.GRD_CTRL_FWACT = 0 then s.freewheelToForm.fault 34 0 else s.gridTrip 9)
  else s

/-- SYNC ends where OBS is locked: FORM or FOLLOW (R122, R128). -/
def State.syncEnds (s : State) : State :=
  if s.get Reg.GRD_STAT_MODE = 1 ∧ s.get Reg.GRD_STAT_OBS = 1 then (if s.on Reg.GRD_CTRL_FORM then s.enterForm else s.setMode 2) else s

/-- FOLLOW ends where OBS is lost: FREEWHEEL, or SYNC while pulses are blocked (R122, R130). -/
def State.followEnds (s : State) : State :=
  if s.get Reg.GRD_STAT_MODE = 2 ∧ s.get Reg.GRD_STAT_OBS = 2 then (if s.pulsesEnabled then s.enterFreewheel else s.setMode 1) else s

/-- HANDOVER: NGOOD good evaluations in RAMP: MODE becomes FORM with the rotor unchanged (R138). -/
def State.handoverStep (s : State) : State :=
  if s.get Reg.GRD_STAT_MODE = 5 ∧ s.get Reg.GRD_STAT_BSPH = 2 ∧ s.get Reg.GRD_BS_HAND_NGOOD ≤ s.grd.bsGood then
    ((s.setMode 3).set Reg.GRD_STAT_BSPH 0).modGrd (fun g => { g with bsTail := true })
  else s

/-- The end of TMO from the black-start request (R139). -/
def State.bsOverAt (s : State) : Nat := s.grd.bsAt + s.get Reg.GRD_BS_F0_TMO * 100 * countsPerMs

/-- No handover within TMO of the request, as the last evaluation found it: a trip with CAUSE 10 (R139). -/
def State.blackstartOver (s : State) : State :=
  if s.get Reg.GRD_STAT_MODE = 5 ∧ s.bsOverAt ≤ s.cel.acqAt then s.gridTrip 10 else s

/-- The transitions of black start: the timeout, a trip, before a live bus in ALIGN; a handover within TMO (R123, R138, R139). -/
def State.blackStartMoves (s : State) : State :=
  if s.bsOverAt < s.cel.acqAt ∨ (s.get Reg.GRD_STAT_BSPH = 1 ∧ s.bsOverAt ≤ s.cel.acqAt) then s.blackstartOver
  else if s.get Reg.GRD_STAT_MODE = 5 ∧ s.get Reg.GRD_STAT_BSPH = 1 ∧ s.uAtLeast (s.get Reg.GRD_OBS_LIM_VMIN) then
    (((s.setMode 1).set Reg.GRD_STAT_BSPH 0).set Reg.GRD_STAT_BSABT 1).fault 35 0
  else
    let s1 := s.handoverStep
    if s1.get Reg.GRD_STAT_MODE = 5 then s1.blackstartOver else s1

/-- A transition that software requests: FORM set or withdrawn (R122). -/
def State.formMoves (s : State) : State :=
  let m := s.get Reg.GRD_STAT_MODE
  if m = 2 ∧ s.on Reg.GRD_CTRL_FORM then s.enterForm
  else if m = 3 ∧ s.on Reg.GRD_CTRL_FORM = false ∧ s.get Reg.GRD_STAT_OBS = 1 then s.setMode 2
  else s

/-- The first of two steps that changes MODE. -/
def orElse (f g : State → State) (s : State) : State :=
  let s1 := f s
  if s1.get Reg.GRD_STAT_MODE = s.get Reg.GRD_STAT_MODE then g s1 else s1

/-- Step 4: one transition of MODE at an evaluation, in the order of R123: a trip (made already, where MODE is no longer `m`); rejoin;
transfer to FORM by islanding; Freewheel timeout; then those the rule does not place (DESIGN CHOICE, log 126): pulses blocked, OBS locked or
lost, black start; last what software requests. -/
def State.modeStep (s : State) (m : Nat) : State :=
  if s.get Reg.GRD_STAT_MODE ≠ m then s
  else
    let blocked (s : State) : State := if s.get Reg.GRD_STAT_MODE = 4 ∧ s.pulsesEnabled = false then s.setMode 1 else s
    [State.transferStep, State.freewheelOver, blocked, State.syncEnds, State.followEnds, State.blackStartMoves,
      State.formMoves].foldl orElse State.rejoinStep s

/-! ### Rotor (R126 to R138) -/

/-- The rotor moved on by a tick at frequency `w`, held in the band in use (R127, R131). -/
def State.rotorRuns (s : State) (w : Rat) : State :=
  let w' := clampRat w s.freqBand.1 s.freqBand.2
  s.setRotor (s.grd.rotorTh + s.advance w' (s.get Reg.CAD_PERIOD_PERIOD)) w'

/-- The virtual machine's p_ref (R127). -/
def State.pRef (s : State) : Rat := s.psetUse + (s.fset - s.grd.rotorW) / s.rf

/-- One evaluation of the virtual machine (R127); after a handover E moves towards its droop value at VRAMP (R138). -/
def State.vsmStep (s : State) : State :=
  let p := powerP s.phaseVolts s.phaseAmps
  let q := powerQ s.phaseVolts s.phaseAmps
  let wd := if s.get Reg.GRD_STAT_OBS = 1 then s.grd.obs.w else s.fset
  let h := mkRat (s.get Reg.GRD_VSM_HD_H) 100
  let d := mkRat (s.get Reg.GRD_VSM_HD_D) 10
  let w := s.grd.rotorW + s.periodSeconds / (2 * h) * (s.pRef - p - d * (s.grd.rotorW - wd))
  let target := s.vset + s.kq * (s.qset - q)
  let move := mkRat (s.get Reg.GRD_BS_RAMP_VRAMP) 1000 * s.periodSeconds
  let e := if s.grd.bsTail then s.grd.rotorE + clampRat (target - s.grd.rotorE) (-move) move else target
  (s.rotorRuns w).modGrd (fun g => { g with rotorE := e, bsTail := g.bsTail && decide (e ≠ target) })

/-- Steering towards an angle and frequency, one evaluation: outside REJANG the rotor slews, inside it takes the angle (R133). -/
def State.steerTo (s : State) (th w : Rat) : State :=
  if s.nearAngle th then s.setRotor th w
  else s.rotorRuns (w - (signRat (wrapHalf (s.rotorAhead - th)) : Rat) * mkRat (s.get Reg.GRD_FW_TMO_SLEW) (1000 * s.fnom))

/-- The rotor in FREEWHEEL: towards the shadow while SHADOW is 1 and OBS is LOST; once aligned, with the observer; towards the observer in a
good evaluation; else coasting (R131 to R133). -/
def State.freewheelStep (s : State) : State :=
  if s.on Reg.GRD_STAT_SHADOW ∧ s.get Reg.GRD_STAT_OBS = 2 then s.steerTo s.shadowTheta s.grd.shadow.w
  else if s.grd.aligned then s.rotorTracks
  else if s.grd.lastWasGood then s.steerTo s.obsTheta s.grd.obs.w
  else s.rotorRuns (s.grd.rotorW + s.grd.rho * s.periodSeconds)

/-- ANG of GRD_BS_ANG in half-turns (R136). -/
def State.bsAngle (s : State) : Rat := mkRat (s.get Reg.GRD_BS_ANG_ANG) 65536

/-- T0 of GRD_BS_T0. -/
def State.bsT0 (s : State) : Nat := s.get64 Reg.GRD_BS_T0_LO_T0 Reg.GRD_BS_T0_HI_T0

/-- The end of ALIGN: the later of request + TALIGN and T0, where T0 is not 0 (R136). -/
def State.alignEndAt (s : State) (req : Nat) : Nat :=
  max (req + s.get Reg.GRD_BS_ANG_TALIGN * countsPerMs) s.bsT0

/-- RAMP begins once TIME has reached the end of ALIGN, from F0 and ANG with E 0 (R136, R137). -/
def State.alignEnds (s : State) : State :=
  if s.get Reg.GRD_STAT_MODE = 5 ∧ s.get Reg.GRD_STAT_BSPH = 1 ∧ s.alignEndAt s.grd.bsAt ≤ s.now then
    (s.set Reg.GRD_STAT_BSPH 2).modGrd (fun g => { g with
      rotorTh := wrapHalf s.bsAngle, rotorW := mkRat (s.get Reg.GRD_BS_F0_F0) (100 * s.fnom), rotorE := 0, bsGood := 0 })
  else s

/-- The rotor in BLACKSTART: in ALIGN it stands at ANG with frequency 0 (R136), in RAMP it moves from F0 (R137), held in the band in use as in
every mode (R243; DEDUCED, log 125). -/
def State.blackStartStep (s0 : State) : State :=
  let s := s0.alignEnds
  if s.get Reg.GRD_STAT_BSPH = 2 then
    let df := mkRat (s.get Reg.GRD_BS_RAMP_FRAMP) (100 * s.fnom) * s.periodSeconds
    let dv := mkRat (s.get Reg.GRD_BS_RAMP_VRAMP) 1000 * s.periodSeconds
    let w := clampRat (s.grd.rotorW + clampRat (s.fset - s.grd.rotorW) (-df) df) s.freqBand.1 s.freqBand.2
    let e := s.grd.rotorE + clampRat (s.vset - s.grd.rotorE) (-dv) dv
    s.modGrd (fun g => { g with
      rotorTh := wrapHalf (g.rotorTh + s.advance w (s.get Reg.CAD_PERIOD_PERIOD)), rotorW := w, rotorE := e })
  else s.modGrd (fun g => { g with rotorTh := wrapHalf s.bsAngle, rotorW := 0, rotorE := 0 })

/-- Step 5: the rotor of the mode (R127, R129, R131, R136), `m` being MODE before the transitions. At the evaluation in which FREEWHEEL, or FORM
from SYNC or FOLLOW, is entered the rotor stands as the entry has set it, at this tick's reference point (R128, R130); where FORM is entered from FREEWHEEL it goes
on, with E VSET (R128). -/
def State.rotorUpdate (s : State) (m : Nat) : State :=
  match s.get Reg.GRD_STAT_MODE with
  | 3 => if m = 1 ∨ m = 2 then s else if m = 4 then s.vsmStep.modGrd (fun g => { g with rotorE := s.grd.rotorE }) else s.vsmStep
  | 4 => if m = 4 then s.freewheelStep else s
  | 5 => s.blackStartStep
  | 0 => s
  | _ => s.rotorTracks

/-- The base angle and frequency: the observer's in SYNC and FOLLOW, the rotor's otherwise (R115). -/
def State.baseAngle (s : State) : Rat × Rat :=
  let m := s.get Reg.GRD_STAT_MODE
  if m = 1 ∨ m = 2 then (s.obsTheta, s.grd.obs.w) else (s.grd.rotorTh, s.grd.rotorW)

/-- A(ω) in half-turns, by linear interpolation in the table (R126). -/
def State.advanceTable (s : State) (w : Rat) : Rat :=
  let e i := mkRat (signedOf 16 (s.get (Reg.GRD_PADV_ADV i))) 65536
  let x := (w - mkRat 84 100) * 100
  if x ≤ 0 then e 0
  else if 31 ≤ x then e 31
  else
    let i := x.floor.toNat
    e i + (e (i + 1) - e i) * (x - (i : Rat))

/-- The phase advance applied (R126). -/
def State.phaseAdvance (s : State) : Rat :=
  let m := s.get Reg.GRD_STAT_MODE
  if m = 2 ∨ m = 4 then
    let lim := mkRat (s.get Reg.GRD_MLIM_MLIM) 10000
    s.advanceTable s.baseAngle.2 * clampRat ((s.edg.m - lim) / (1 - lim)) 0 1
  else 0

/-- The excess of P over 1.1 × PEXP followed in time (R248). -/
def State.exportWatch (s : State) : State :=
  let hi := decide (mkRat 11 10 * s.pexp < s.measuredP)
  { s with trp := { s.trp with pexpSince := if hi then some (s.trp.pexpSince.getD s.now) else none } }

/-- Step 6: the words of R115 latched; with EN 0 every word but the mode word reads 0 (R116). -/
def State.publish (s : State) : State :=
  let adv := if s.on Reg.GRD_CTRL_EN then s.phaseAdvance else 0
  let s0 := s.setBool Reg.GRD_STAT_ADV (decide (adv ≠ 0))
  let mode := s0.get Reg.GRD_STAT_MODE + 16 * s0.get Reg.GRD_STAT_OBS + 64 * s0.get Reg.GRD_STAT_BSPH
    + 256 * s0.get Reg.GRD_STAT_RT + 1024 * s0.get Reg.GRD_STAT_ADV
  if s.on Reg.GRD_CTRL_EN = false then
    (((List.range 0x14).foldl (fun s i => s.setInWord (0x080 + i) 0) s0).setInWord 0x091 mode).exportWatch
  else
    let b := s.baseAngle
    let th := b.1 + adv
    let o := s.grd.obs
    let turn := s.advance o.w ((s.refPoint : Int) - (o.at_ : Int))
    let dq := rotate o.pos (th - turn)
    let dn := rotate o.neg (turn - th)
    let v := s.phaseVolts
    let i := s.phaseAmps
    let c := s.rtCurrents
    let m := s.get Reg.GRD_STAT_MODE
    let vrt := if s.on Reg.GRD_CTRL_RTSEL then s.posMag else sqrtOf (s.grd.uMin2.getD 0)
    let ws : List Nat := [angleWord th, puWord b.2, puWord dq.1, puWord dq.2, puWord dn.1, puWord dn.2, angleWord s.obsTheta,
      puWord s.grd.rotorW, if m = 3 ∨ m = 5 then puWord s.grd.rotorE else 0,
      puWord (powerP v i), puWord (powerQ v i), puWord c.1, puWord c.2.1, puWord c.2.2,
      s.get Reg.GRD_IMAX_VALUE, puWord s.rocof, angleWord adv, mode, puWord s.grd.pref, puWord vrt]
    (((List.range 0x14).foldl (fun s i => s.setInWord (0x080 + i) (ws.getD i 0)) s0).exportWatch)

/-- Step 1: classes, counts, OBS, the alignment in FREEWHEEL and the shadow (R119, R120, R132, R133). An input that posts nothing has an NV
word all the same (R68). -/
def State.observerEvaluates (s : State) : State := s.noteNv.classify.shadowCount.alignStep.observerMoves

/-- Step 3: the curve tests of step 2, then the islanding tests (R144, R145, R150). -/
def State.gridTests (s : State) : State :=
  (match s.curveTrip with | none => s | some c => s.gridTrip c).passiveTests.activeTests

/-- EVALUATION: the six steps of R114 at the Acquire deadline, each on the results of those before it. A Peloton follower's grid functions do
not act (R117); with EN 0 only the words are published (R116). -/
def State.evaluate (s : State) : State :=
  if s.isFollower then s
  else if s.on Reg.GRD_CTRL_EN = false then s.publish
  else
    let m := s.get Reg.GRD_STAT_MODE
    let s3 := s.observerEvaluates.rideThrough.rtHold.gridTests
    let s4 := s3.modeStep m
    let s5 := (s4.modGrd (fun g => { g with pref := s4.pRef, transfer := false })).rotorUpdate m
    (s5.publish.rampEnd).modGrd (fun g => { g with
      uMin2 := none, ovMin2 := none, eMin2 := none, sawNv := false, sawBad := false, sawOvr := false
      posHist := (s.now, s5.posMag) :: trimHist s.now (50 * countsPerMs) g.posHist })

/-! ### Commands -/

/-- The grid functions act: not on a Peloton follower (R117). A device that ceases to be one goes on in the MODE it has (DESIGN CHOICE,
log 153). -/
def State.grdActs (s : State) (f : State → State) : State := if s.isFollower then s else f s

/-- GRD_RESTART: TRIPPED goes to SYNC with OBS := SEARCH (R122, R125). -/
def doGrdRestart (s : State) : State :=
  if s.get Reg.GRD_STAT_MODE = 6 then
    ((s.setMode 1).set Reg.GRD_STAT_OBS 0).modGrd (fun g => { g with goods := 0, bads := 0 })
  else s

def execGrdRestart (s : State) : Host.Outcome State Fault Refusal := .next (s.grdActs doGrdRestart)

/-- A dead bus: every evaluation of the previous 100 ms was low (R135). -/
def State.deadBus (s : State) : Bool :=
  match s.grd.lowSince with
  | none => false
  | some t => decide (t + 100 * countsPerMs ≤ s.now)

/-- BSREQ: accepted into ALIGN in SYNC on a dead bus with a start time not passed; else BSREF is set (R135, R136). -/
def doBsreq (s : State) : State :=
  if s.get Reg.GRD_STAT_MODE = 1 ∧ s.deadBus = true ∧ s.now ≤ s.alignEndAt s.now then
    ((s.setMode 5).set Reg.GRD_STAT_BSPH 1).modGrd (fun g => { g with
      bsAt := s.now, bsGood := 0, rotorE := 0, rotorW := 0, rotorTh := wrapHalf s.bsAngle })
  else (s.set Reg.GRD_STAT_BSREF 1).fault 35 0

def execBsreq (s : State) : Host.Outcome State Fault Refusal := .next (s.grdActs doBsreq)

/-! The transitions below belong to an evaluation, which makes them in the order of R114 and R123 (log 127). The command carries its transition
out where the last evaluation's counts call for it and it has not been made. -/

/-- OBSERVER_LOCKED: OBS becomes LOCKED; SYNC goes to FOLLOW or FORM (R120, R122). -/
def doObserverLocked (s : State) : State :=
  if s.on Reg.GRD_CTRL_EN ∧ s.lockDue = true then (s.set Reg.GRD_STAT_OBS 1).syncEnds else s

def execObserverLocked (s : State) : Host.Outcome State Fault Refusal := .next (s.grdActs doObserverLocked)

/-- OBSERVER_LOST: LOSS_N evaluations low or astray: OBS becomes LOST; FOLLOW goes to FREEWHEEL, or to SYNC while pulses are blocked
(R120, R122, R130). -/
def doObserverLost (s : State) : State :=
  if s.on Reg.GRD_CTRL_EN ∧ s.lossDue = true then s.observerMoves.followEnds else s

def execObserverLost (s : State) : Host.Outcome State Fault Refusal := .next (s.grdActs doObserverLost)

/-- REJOIN: REJOIN_N good evaluations with the angle aligned end FREEWHEEL in FOLLOW (R133). -/
def doRejoin (s : State) : State :=
  if s.get Reg.GRD_STAT_MODE = 4 ∧ s.lockDue = true then (s.set Reg.GRD_STAT_OBS 1).rejoinStep else s

def execRejoin (s : State) : Host.Outcome State Fault Refusal := .next (s.grdActs doRejoin)

/-- SHADOW_LOCK: eight consecutive good shadow evaluations set SHADOW (R132). -/
def doShadowLock (s : State) : State := s.shadowLock

def execShadowLock (s : State) : Host.Outcome State Fault Refusal := .next (s.grdActs doShadowLock)

/-- FREEWHEEL_TIMEOUT: FREEWHEEL has lasted TMO: FORM with a Note fault, or a trip with CAUSE 9; a rejoin that is due goes first (R123, R125,
R134). -/
def doFreewheelTimeout (s : State) : State := if s.lockDue then s else s.freewheelOver

def execFreewheelTimeout (s : State) : Host.Outcome State Fault Refusal := .next (s.grdActs doFreewheelTimeout)

/-- ALIGN_END: RAMP begins at the end of ALIGN, from F0 and ANG with E 0 (R136, R137). -/
def doAlignEnd (s : State) : State :=
  if s.get Reg.GRD_STAT_MODE = 5 ∧ s.get Reg.GRD_STAT_BSPH = 1 then (s.reach (s.alignEndAt s.grd.bsAt)).alignEnds else s

def execAlignEnd (s : State) : Host.Outcome State Fault Refusal := .next (s.grdActs doAlignEnd)

/-- HANDOVER: NGOOD good evaluations in RAMP: MODE becomes FORM with the rotor unchanged (R138). -/
def doHandover (s : State) : State := s.handoverStep

def execHandover (s : State) : Host.Outcome State Fault Refusal := .next (s.grdActs doHandover)

/-- BLACKSTART_TIMEOUT: no handover within TMO of the request: a trip with CAUSE 10 (R139). -/
def doBlackstartTimeout (s : State) : State := s.blackstartOver

def execBlackstartTimeout (s : State) : Host.Outcome State Fault Refusal := .next (s.grdActs doBlackstartTimeout)

/-- WEAK: ZVALID is 1 and SCR below SCRMIN, as they stand (R143). -/
def State.weakNow (s : State) : Bool :=
  s.on Reg.GRD_STAT_ZVALID && decide (s.get Reg.GRD_Z_STAT_SCR < 10 * s.get Reg.GRD_Z_LIM_SCRMIN)

/-- A complex quotient. -/
def cdiv (v i : Rat × Rat) : Rat × Rat :=
  let n := i.1 ^ 2 + i.2 ^ 2
  if n = 0 then Config.zToneZero v else ((v.1 * i.1 + v.2 * i.2) / n, (v.2 * i.1 - v.1 * i.2) / n)

/-- The estimate of a window from its correlations, in pu: R and X of Z_f, IRAT, and whether it is flagged by ZOPEN (R141, R142). -/
def State.toneEstimate (s : State) (v i : Rat × Rat) : ToneResult :=
  let z := cdiv v i
  let amp := magnitude i
  let irat := match meanOf s.grd.iTones with
    | none => Config.iratFirst amp
    | some m => if m = 0 then Config.iratFirst amp else amp / m
  { r := z.1, x := z.2 * mkRat s.fnom (10 * s.get Reg.GRD_TONE_FREQ), irat := irat
    opens := decide (irat < mkRat (s.get Reg.GRD_Z_LIM_ZIMIN) 100) }

/-- The mean of a channel's correlation over its samples; 0 without one. -/
def State.toneMean (s : State) (k : Nat) : Rat × Rat :=
  let p := tblGet (0, 0, 0) s.grd.toneSum k
  if p.2.2 = 0 then (0, 0) else (p.1 / (p.2.2 : Rat), p.2.1 / (p.2.2 : Rat))

/-- A complex product. -/
def cmul (x y : Rat × Rat) : Rat × Rat := (x.1 * y.1 - x.2 * y.2, x.1 * y.2 + x.2 * y.1)

/-- The positive-sequence phasor of three channels from their means, each with its weight. -/
def State.tonePhasor (s : State) (k : Nat) (ws : List (Rat × Rat)) : Rat × Rat :=
  (List.range 3).foldl (fun p i =>
    let z := cmul (ws.getD i (0, 0)) (s.toneMean (k + i))
    (p.1 + z.1, p.2 + z.2)) (0, 0)

/-- The weights 2/3 (1, a, a²) of three phases, a = −1/2 + j √3/2. -/
def phaseWeights : List (Rat × Rat) := [(2 / 3, 0), (-1 / 3, root3 / 3), (-1 / 3, -root3 / 3)]

/-- The difference of two weights. -/
def weightLess (i j : Nat) : Rat × Rat :=
  let x := phaseWeights.getD i (0, 0)
  let y := phaseWeights.getD j (0, 0)
  (x.1 - y.1, x.2 - y.2)

/-- V_tone and I_tone: of the phase voltages, from line-to-line inputs when LL is 1, and of the currents, with ic := −ia − ib when TWO is 1
(R112, R141). -/
def State.toneVolts (s : State) : Rat × Rat :=
  if s.on Reg.GRD_VIN_LL then
    s.tonePhasor 0 ([weightLess 0 1, weightLess 1 2, weightLess 2 0].map (fun w => (w.1 / 3, w.2 / 3)))
  else s.tonePhasor 0 phaseWeights
def State.toneAmps (s : State) : Rat × Rat :=
  if s.on Reg.GRD_ZIN_SAME ∧ s.on Reg.GRD_IIN_TWO then s.tonePhasor 3 [weightLess 0 2, weightLess 1 2, (0, 0)]
  else s.tonePhasor 3 phaseWeights

/-- What a correlator's own rounding adds to a part of a phasor: at most one unit of the 24-bit word, since R141 gives the correlators no word
length (DESIGN CHOICE, log 132). -/
def toneRound (x : Int) : Rat := (clampInt x (-1) 1 : Rat) / 8388608
def rounded (p : Rat × Rat) (re im : Int) : Rat × Rat := (p.1 + toneRound re, p.2 + toneRound im)

/-- TONE_WINDOW_END: the window's correlations, with the correlators' rounding as operands, give the estimate, used at the next evaluation; the
next window begins (R141 to R143). -/
def doToneWindowEnd (vRe vIm iRe iIm : Int) (s : State) : State :=
  if s.on Reg.GRD_CTRL_TONEEN = false ∨ s.on Reg.GRD_CTRL_EN = false ∨ s.isFollower then s
  else
    let due := s.grd.toneAt + 40000000
    let amps := rounded s.toneAmps iRe iIm
    let amp := magnitude amps
    let t := s.toneEstimate (rounded s.toneVolts vRe vIm) amps
    let s1 := ((s.reach due).modGrd (fun g => { g with
      toneAt := due, toneSum := [], windows := g.windows + 1, toneDue := some t
      iTones := if t.opens then g.iTones else (amp :: g.iTones).take 8 })).set Reg.GRD_Z_STAT_NEST (s.get Reg.GRD_Z_STAT_NEST + 1)
    let s2 := (s1.set Reg.GRD_Z_STAT_IRAT (min 255 (intOf (t.irat * 100)).toNat)).setBool Reg.GRD_STAT_ZOPEN t.opens
    let valid := !t.opens && decide (8 ≤ s1.grd.windows)
    let s3 := (s2.setBool Reg.GRD_STAT_ZVALID valid).modGrd (fun g => { g with zEver := g.zEver || valid })
    if t.opens then s3.set Reg.GRD_Z_STAT_SCR 0
    else ((s3.set Reg.GRD_Z_R_VALUE (puWord t.r)).set Reg.GRD_Z_X_VALUE (puWord t.x)).set Reg.GRD_Z_STAT_SCR
      (min 65535 (intOf (ratio 100 (magnitude (t.r, t.x)))).toNat)

def execToneWindowEnd (vRe vIm iRe iIm : Int) (s : State) : Host.Outcome State Fault Refusal :=
  .next (doToneWindowEnd vRe vIm iRe iIm s)

/-- PASSIVE_TEST_TIMER_EXPIRY: an enabled passive test whose condition has held for its time at the last evaluation is met, and acts (R144,
R146). -/
def doPassiveTestTimerExpiry (k : Nat) (s : State) : State :=
  if s.on Reg.GRD_CTRL_EN ∧ s.testDue k = true then ((s.modGrd (fun g => { g with transfer := false })).passiveTest k).transferStep else s

def execPassiveTestTimerExpiry (k : Fin 4) (s : State) : Host.Outcome State Fault Refusal :=
  .next (s.grdActs (doPassiveTestTimerExpiry k.val))

/-- RT_HOLD_EXPIRY: recovery has held without break for HOLD: RT returns to 0 (R148). -/
def doRtHoldExpiry (s : State) : State := s.rtHold

def execRtHoldExpiry (s : State) : Host.Outcome State Fault Refusal := .next (s.grdActs doRtHoldExpiry)

/-! ### Register writes (R140, R153) -/

/-- CFGERR of GRD set, with its Note fault (R125). -/
def State.grdCfgErr (s : State) : State := (s.set Reg.GRD_STAT_CFGERR 1).fault 37 0

/-- A value of a field as a write to its register would leave it: the written part, or what waits or stands where the field lies in
another register. -/
def State.would (s : State) (ps : List (Fld × Nat)) (f : Fld) : Nat :=
  match ps.find? (fun p => p.1 == f) with
  | some p => p.2
  | none => s.ahead f

/-- The crossed settings that a write to GRD may not make (R153). -/
def State.grdCrossed (s : State) (ps : List (Fld × Nat)) : Bool :=
  decide (s.would ps Reg.GRD_OBS_LIM_VMIN ≤ s.would ps Reg.GRD_OBS_LIM_VLOSS)
    || decide (s.would ps Reg.GRD_OBS_LIM_LOSSBAND ≤ s.would ps Reg.GRD_OBS_LIM_ERRBAND)
    || decide (s.would ps Reg.GRD_FBAND_FMAX ≤ s.would ps Reg.GRD_FBAND_FMIN)

/-- A tone frequency R140 does not take: outside 60 to 300, or a multiple of f_nom. -/
def State.badTone (s : State) (f : Nat) : Bool := decide (f < 60) || decide (300 < f) || (10 * f) % s.fnom == 0

/-- The RW fields of a write to GRD: judged at the write; what passes waits for its tick start (R140, R153). -/
def State.grdFields (s : State) (addr v : Nat) : State :=
  let ps := rwParts addr v
  if addr = Reg.GRD_BS_T0_LO_T0.addr then { s with bus := { s.bus with t0Lo := some v } }
  else if addr = Reg.GRD_BS_T0_HI_T0.addr then
    let lo := s.bus.t0Lo.getD (s.ahead Reg.GRD_BS_T0_LO_T0)
    State.await (({ s with bus := { s.bus with t0Lo := none } } : State).await Reg.GRD_BS_T0_LO_T0 lo) Reg.GRD_BS_T0_HI_T0 v
  else if addr = Reg.GRD_TONE_FREQ.addr then
    let amp := (v >>> 16) % 256
    let f := v % 512
    if amp < 20 ∨ 200 < amp then s.grdCfgErr
    else
      let s1 := s.await Reg.GRD_TONE_AMP amp
      if s.badTone f then s1.grdCfgErr else s1.await Reg.GRD_TONE_FREQ f
  else if wordAllowed addr v = false ∨ s.grdCrossed ps = true then s.grdCfgErr
  else s.awaitAll ps

/-! ### What follows a waiting write that takes effect -/

/-- The tone's windows begin anew at the next TIME multiple of 40,000,000 (R141). -/
def State.toneBegins (s : State) : State :=
  s.modGrd (fun g => { g with toneSum := [], toneAt := (s.now + 39999999) / 40000000 * 40000000 })

/-- EN in GRD_CTRL has gone from 0 to 1: SYNC, OBS SEARCH, the observer seeded at f_nom with θ_obs 0 now, no history; the tone's windows
begin (R120, R122, R141). -/
def State.grdStarts (s : State) : State :=
  let t3 := (s.now, s.now, s.now)
  (((s.setMode 1).set Reg.GRD_STAT_OBS 0).toneBegins).modGrd (fun g => { g with
    obs := { lastT := t3, prevT := t3, at_ := s.now }, goods := 0, bads := 0, nvSeen := 0, nvRuns := (0, 0, 0), lowSince := none, lastGood := none
    reseeded := false, posted := 0, wHist := [], posHist := [], uMin2 := none, ovMin2 := none, sawNv := false, sawBad := false, sawOvr := false })

/-- EN in GRD_CTRL has gone to 0: OFF, and every arm is blocked if one is enabled (R122, R124). -/
def State.grdStops (s : State) : State :=
  let s1 := ((((s.setMode 0).set Reg.GRD_STAT_OBS 0).set Reg.GRD_STAT_BSPH 0).set Reg.GRD_STAT_RT 0).modGrd (fun g => { g with
    recSince := none, rampFrom := none, toneDue := none, toneSum := [] })
  if s.pulsesEnabled then s1.tripLatch 26 63 else s1

/-- The value a write to a counter of GRD_FW_CNT leaves: an event counted in the clock of the write is added to it (R154). -/
def State.fwCount (s : State) (w : Waiting) : Nat :=
  if (w.fld = Reg.GRD_FW_CNT_ENTRY ∧ s.grd.entryAt = some w.time) ∨ (w.fld = Reg.GRD_FW_CNT_REJOIN ∧ s.grd.rejoinAt = some w.time) then
    satAdd 0xFFFF w.value 1
  else w.value

/-- One waiting field takes effect, with what follows at once from it: EN and TONEEN of GRD_CTRL, CARRYEN of EDG_CTRL (R122, R142,
R205). -/
def State.takeEffect (s : State) (w : Waiting) : State :=
  let s1 := s.set w.fld (s.fwCount w)
  if w.fld = Reg.GRD_CTRL_EN then
    s1.grdActs (fun x => if s.get w.fld = 0 ∧ w.value ≠ 0 then x.grdStarts else if s.get w.fld ≠ 0 ∧ w.value = 0 then x.grdStops else x)
  else if w.fld = Reg.GRD_CTRL_TONEEN then
    (if w.value = 0 then (s1.set Reg.GRD_STAT_ZVALID 0).modGrd (fun g => { g with windows := 0, toneSum := [] })
    else if s.get w.fld = 0 then (s1.toneBegins).modGrd (fun g => { g with windows := 0 }) else s1)
  else if w.fld = Reg.EDG_CTRL_CARRYEN ∧ w.value = 0 then
    (List.range 96).foldl (fun s c => (s.set (Reg.EDG_CARRY_LEG1 c) 0).set (Reg.EDG_CARRY_LEG2 c) 0)
      ((List.range 6).foldl (fun s a =>
        { s with cel := { s.cel with arms := tblMod {} s.cel.arms a (fun x => { x with carry := 0 }) } }) s1)
  else s1

/-- DEFERRED_WRITE_EFFECT: every waiting write whose tick start has come takes effect, oldest first (R549). -/
def doDeferredWriteEffect (s : State) : State :=
  let s0 : State := { s with bus := { s.bus with waiting := s.laterWrites } }
  s.dueWrites.foldl (fun s w => s.takeEffect w) s0

def execDeferredWriteEffect (s : State) : Host.Outcome State Fault Refusal := .next (doDeferredWriteEffect s)

/-- While RUN is 0 a write takes effect within one clock (R549). -/
def State.settle (s : State) : State := if s.running then s else doDeferredWriteEffect s

/-- GRD_REGISTER_WRITE: the status bits written 1 clear; the RW fields are judged and wait; RESTART and BSREQ act at once. -/
def doGrdRegisterWrite (offset v : Nat) (s : State) : State :=
  let addr := 0x40070000 + offset
  let s1 := ((s.clearOnes addr v).grdFields addr v).settle
  if addr = Reg.GRD_CTRL_EN.addr then
    let s2 := if v.testBit 5 then s1.grdActs doGrdRestart else s1
    if v.testBit 4 then s2.grdActs doBsreq else s2
  else s1

def execGrdRegisterWrite (offset : Fin 16384) (v : Word) (s : State) : Host.Outcome State Fault Refusal :=
  .next (doGrdRegisterWrite offset.val v.toNat s)

end Sys2Proof.Machine
end

