-- ==== Sys2Proof/Machine/Cell.lean ====
section
/-!
DEFINITION. Cell energy (R155 to R182): eligibility, keys, the sort, the insertion set, arm summaries, MPPT, state of charge, gate timing,
ageing, bypass and rejoin.
-/

namespace Sys2Proof.Machine

/-! ### Cells, arms and their links -/

/-- One cell's control state. -/
def State.cell (s : State) (c : Nat) : CellState := tblGet {} s.cel.cells c

/-- One cell's control state updated. -/
def State.modCell (s : State) (c : Nat) (f : CellState → CellState) : State :=
  { s with cel := { s.cel with cells := tblMod {} s.cel.cells c f } }

/-- One arm's state. -/
def State.arm (s : State) (a : Nat) : ArmState := tblGet {} s.cel.arms a

/-- One arm's state updated. -/
def State.modArm (s : State) (a : Nat) (f : ArmState → ArmState) : State :=
  { s with cel := { s.cel with arms := tblMod {} s.cel.arms a f } }

/-- The MPPT context of a cell updated. -/
def State.modMppt (s : State) (c : Nat) (f : Mppt → Mppt) : State := s.modCell c (fun x => { x with mppt := f x.mppt })

/-- The arm of a cell. -/
def State.cellArm (s : State) (c : Nat) : Nat := s.get (Reg.SYS_CELL_CFG_ARM c)

/-- VNOM of a cell in 0.1 V. -/
def State.vnom (s : State) (c : Nat) : Nat := s.get (Reg.SYS_CELL_CFG_VNOM c)

/-- A cell is part of the converter: EN in SYS_CELL_CFG. -/
def State.cellOn (s : State) (c : Nat) : Bool := s.on (Reg.SYS_CELL_CFG_EN c)

/-- The port that serves a cell; the state of a cell without one is that of a port never trained. -/
def State.cellPort (s : State) (c : Nat) : PortState :=
  match s.portOf c with
  | some p => s.port p
  | none => {}

/-- LOST of a port (SPK_LOST). -/
def State.portLost (s : State) (p : Nat) : Bool := s.bit (Reg.SPK_LOST_PORT (p / 32)) (p % 32)

/-- A cell is declared lost, or is to be at this Acquire deadline: MISSN has reached 3 (R279). -/
def State.cellLost (s : State) (c : Nat) : Bool :=
  match s.portOf c with
  | some p => s.portLost p || s.get (Reg.SPK_PSTAT_MISSN p) == 3
  | none => false

/-- The unit on a port agrees with the configured kind and bridge, or serves no enabled cell (R43). It is judged as things stand: after a
commit that changes KIND or LEGS of an admitted cell it is not admitted while they differ, without a fault (DESIGN CHOICE, log 117: the rule
checks when the unit reports). -/
def State.unitAgrees (s : State) (p : Nat) : Bool :=
  match s.cellOf p with
  | none => true
  | some c =>
    s.get (Reg.SPK_PSTAT_KIND p) == s.get (Reg.SYS_CELL_CFG_KIND c) && s.get (Reg.SPK_PSTAT_LEGS p) == s.get (Reg.SYS_CELL_CFG_LEGS c)

/-- The unit on a port is admitted: its kind and bridge agree with the configuration, and its delay is not too long (R43, R267). -/
def State.portAdmitted (s : State) (p : Nat) : Bool := (s.port p).admitted && s.unitAgrees p && !s.on (Reg.SPK_PSTAT_DLYLONG p)

/-- A cell is admitted. -/
def State.cellAdmitted (s : State) (c : Nat) : Bool :=
  match s.portOf c with
  | some p => s.portAdmitted p
  | none => false

/-- A link is in operation: READY or OPERATE (R269). -/
def State.linkUp (s : State) (p : Nat) : Bool :=
  s.get (Reg.SPK_PSTAT_LSTATE p) == 4 || s.get (Reg.SPK_PSTAT_LSTATE p) == 5

/-- The arm of a cell is ENABLED (R222). -/
def State.cellPulses (s : State) (c : Nat) : Bool := s.bit Reg.TRP_PULSE_EN_EN (s.cellArm c)

/-- The cause for which a cell is to be bypassed now and is not yet, the lowest of R177; 0 where there is none. -/
def State.dueCause (s : State) (c : Nat) : Nat :=
  if s.cellOn c = false then 0
  else if s.cel.bypDue.testBit c then 1
  else if s.cellLost c then 2
  else if (s.cellPort c).data.fault ∧ s.on Reg.CEL_CTRL_AUTOBYP then 3
  else if s.cellAdmitted c = false then 4
  else if (s.cell c).over10 ∧ s.on Reg.CEL_CTRL_AUTOBYP then 5
  else 0

/-- A cell is bypassed, or is to be: it counts under R44 and is not eligible. -/
def State.isBypassed (s : State) (c : Nat) : Bool :=
  (s.cellPort c).bypCause != 0 || s.dueCause c != 0 || s.cellLost c

/-- A cell is eligible: enabled, admitted, not bypassed and not declared lost (R156). -/
def State.eligible (s : State) (c : Nat) : Bool := s.cellOn c && s.cellAdmitted c && !s.isBypassed c

/-- The eligible local cells of an arm. -/
def State.eligCells (s : State) (a : Nat) : List Nat := (s.armCells a).filter (fun c => s.eligible c)

/-! ### Scales -/

/-- V_ph in V (R47). -/
def State.vph (s : State) : Rat := (s.get Reg.SYS_BASE_V_VALUE : Rat) * sqrtOf (2 / 3)

/-- I_base in A (R47). -/
def State.ibase (s : State) : Rat :=
  (1000 * s.get Reg.SYS_BASE_S_VALUE : Rat) * sqrtOf (2 / 3) / (s.get Reg.SYS_BASE_V_VALUE : Rat)

/-- The current of an arm in pu from the latest raw result of its input, inverted when INV is 1 (R157). The full scale is FS of the
comparator on the input (DEDUCED, log 23). -/
def State.armCurrent (s : State) (a : Nat) : Rat :=
  let n := s.get (Reg.CEL_ARM_CFG_IIN a)
  let fs := if n < 16 then mkRat (s.get (Reg.TRP_CMP_THR_FS n)) 100 else Config.inputScale n
  let i := rawFraction (s.rawWord n) * fs
  if s.on (Reg.CEL_ARM_CFG_INV a) then -i else i

/-- The word of an arm's current input is NV or OVR. -/
def State.armCurrentBad (s : State) (a : Nat) : Bool :=
  let w := s.rawWord (s.get (Reg.CEL_ARM_CFG_IIN a))
  wordNv w || wordOvr w

/-! ### Keys (R155) -/

/-- S: the state of charge used for balancing, as a fraction: the integrated value while SOCIMPL is 1, else the reported (R172). -/
def State.balanceSoc (s : State) (c : Nat) : Rat :=
  let k := s.cell c
  if s.on Reg.CEL_CTRL_SOCCHK ∧ s.get (Reg.CEL_BAT_CAP_AH c) ≠ 0 ∧ s.on (Reg.CEL_CELL_STAT_SOCIMPL c) then k.soci / 10000
  else mkRat k.socRep 10000

/-- The value whose 2^30-fold is the key: energy, energy against VREF for PV, state of charge, or the mix. -/
def State.keyValue (s : State) (c : Nat) : Rat :=
  let v : Rat := (s.cellPort c).data.vcap
  let vn : Rat := s.vnom c
  let e := (ratio v vn) ^ 2
  let kind := s.get (Reg.SYS_CELL_CFG_KIND c)
  let st := s.get (Reg.CEL_MPPT_STATE c)
  match kind with
  | 1 =>
    let vref := if s.on Reg.CEL_CTRL_MPPTEN ∧ (st = 2 ∨ st = 3) then (s.cell c).mppt.vref else vn
    (ratio v vref) ^ 2
  | 2 =>
    match s.get (Reg.CEL_ARM_CFG_KEYSEL (s.cellArm c)) with
    | 1 => s.balanceSoc c
    | 2 =>
      let m := s.get (Reg.CEL_ARM_AUX_MIXW (s.cellArm c))
      ((m : Rat) * e + ((256 - m : Nat) : Rat) * s.balanceSoc c) / 256
    | _ => e
  | _ => e

/-- A key: the value × 2^30, truncated and saturated. -/
def keyOf (x : Rat) : Nat := min 0xFFFFFFFF (x * 0x40000000).floor.toNat

/-- KEY_COMPUTATION: the key of every enabled cell. -/
def State.computeKeys (s : State) : State :=
  (List.range 96).foldl (fun s' c => if s.cellOn c then s'.set (Reg.CEL_KEY_KEY c) (keyOf (s.keyValue c)) else s') s

/-! ### Cell flags at the Acquire deadline (R172, R176, R177) -/

/-- The ageing value A of a cell, 0 until the baselines exist. -/
def State.ageOf (s : State) (c : Nat) : Rat := (s.cell c).age

/-- TLIM in °C: TMAX − DERT × A (R174). -/
def State.tlim (s : State) (c : Nat) : Rat :=
  (s.get Reg.CEL_AGE_REF_TMAX : Rat) - (s.get Reg.CEL_AGE_CFG_DERT : Rat) * s.ageOf c

/-- ILIM: 1 − DERI × A (R174). -/
def State.ilim (s : State) (c : Nat) : Rat := 1 - mkRat (s.get Reg.CEL_AGE_CFG_DERI) 100 * s.ageOf c

/-- One cell's fault flag and temperature judged: FAULT and HOT, the faults of R176 and R177 once per onset. -/
def State.cellFlags (s : State) (c : Nat) : State :=
  let d := (s.cellPort c).data
  let t : Rat := mkRat d.temp 10
  let hot := decide (s.tlim c < t)
  let above := decide (s.tlim c + 10 < t)
  let wasFault := s.on (Reg.CEL_CELL_STAT_FAULT c)
  let wasOver := (s.cell c).over10
  let s1 := ((s.setBool (Reg.CEL_CELL_STAT_FAULT c) d.fault).setBool (Reg.CEL_CELL_STAT_HOT c) hot).modCell c
    (fun x => { x with over10 := above })
  let s2 := if d.fault && !wasFault && !s.on Reg.CEL_CTRL_AUTOBYP then s1.fault 46 c else s1
  if above && !wasOver then s2.fault 45 c else s2

/-- SOCIMPL set with its Note fault, once per excursion (R172). -/
def State.setSocImpl (s : State) (c : Nat) : State :=
  if s.on (Reg.CEL_CELL_STAT_SOCIMPL c) then s else (s.set (Reg.CEL_CELL_STAT_SOCIMPL c) 1).fault 42 c

/-- SOCI set and shown, saturating at 0 and 10,000 (CEL_BAT). -/
def State.setSoci (s : State) (c : Nat) (v : Rat) : State :=
  (s.modCell c (fun x => { x with soci := clampRat v 0 10000 })).set (Reg.CEL_BAT_SOCI c) (intOf (clampRat v 0 10000)).toNat

/-- A window's start values: SOCI takes the reported value where the cell is plausible (R171). -/
def State.socStartValues (s : State) (c : Nat) : State :=
  let k := s.cell c
  let s1 := s.setSoci c (if s.on (Reg.CEL_CELL_STAT_SOCIMPL c) then k.soci else (k.socRep : Rat))
  s1.modCell c (fun x => { x with socRef := ((x.socRep : Rat), x.soci), socAwait := false })

/-- A battery cell's tick: the integration of R171 and the range test of R172 on a good Report. The window of an admission takes its start
values from the first good Report in range after it (DESIGN CHOICE, log 123). -/
def State.socTick (s : State) (c : Nat) : State :=
  if s.get (Reg.SYS_CELL_CFG_KIND c) ≠ 2 then s
  else
    let p := s.cellPort c
    let k := s.cell c
    let cap := s.get (Reg.CEL_BAT_CAP_AH c)
    let check := s.on Reg.CEL_CTRL_SOCCHK && cap != 0
    let bad := p.good && (!p.data.socv || decide (10000 < p.data.soc))
    let s1 := s.modCell c (fun x => { x with
      socRep := if p.good && !bad then p.data.soc else x.socRep
      socInRange := x.socInRange && !bad })
    let s2 := if k.socAwait && p.good && !bad then s1.socStartValues c
      else if cap = 0 then s1
      else s1.setSoci c (k.soci + 10000 * (p.data.isrc : Rat) * s.periodSeconds / (3600 * (cap : Rat)))
    if check && bad then s2.setSocImpl c else s2

/-- A cell's tick of the ageing means: its strength code, and its on-state voltage where current and temperature qualify (R174). -/
def State.ageTick (s : State) (c : Nat) : State :=
  let p := s.cellPort c
  let iref := mkRat (s.get Reg.CEL_AGE_REF_IREF) 200
  let i := absRat (s.armCurrent (s.cellArm c))
  let ver := match s.portOf c with | some q => s.get (Reg.SPK_PSTAT_VER q) | none => 0
  let near := decide (absRat (i - iref) ≤ iref / 10)
    && decide (absRat (mkRat p.data.temp 10 - (s.get Reg.CEL_AGE_REF_TREF : Rat)) ≤ 5)
  let q := p.good && near && decide (2 ≤ ver)
  s.modCell c (fun x => { x with
    codeSum := (x.codeSum.1 + s.get (Reg.CEL_HEALTH_CODE c), x.codeSum.2 + 1)
    vonSum := if q then (x.vonSum.1 + p.data.von, x.vonSum.2 + 1) else x.vonSum })

/-! ### MPPT (R164 to R170) -/

/-- VCELL × VNOM in 0.1 V, VCELL the lower of the hard limit and the safety limit set (R243, R395). -/
def State.vrefCap (s : State) (c : Nat) : Rat :=
  mkRat (min (s.get Reg.TRP_HL_VCELL_LIMIT) (s.safLimit Reg.SAF_S_A_VCELL)) 1000 * (s.vnom c : Rat)

/-- The range of VREF in 0.1 V: VLO to VHI of VNOM, and at most VCELL × VNOM (R166, R243). -/
def State.vrefRange (s : State) (c : Nat) : Rat × Rat :=
  let vn : Rat := s.vnom c
  let cap := s.vrefCap c
  (min (mkRat (s.get Reg.CEL_MPPT_LIM_VLO) 100 * vn) cap, min (mkRat (s.get Reg.CEL_MPPT_LIM_VHI) 100 * vn) cap)

/-- VREF set, held in its range, and shown. -/
def State.setVref (s : State) (c : Nat) (v : Rat) : State :=
  let r := s.vrefRange c
  let v' := clampRat v r.1 r.2
  (s.modMppt c (fun m => { m with vref := v' })).set (Reg.CEL_MPPT_VREF c) (min 65535 (intOf v').toNat)

/-- VOC set and shown. -/
def State.setVoc (s : State) (c : Nat) (v : Rat) : State :=
  (s.modMppt c (fun m => { m with voc := v })).set (Reg.CEL_MPPT_VP_VOC c) (min 65535 (intOf v).toNat)

/-- SMAX and SMIN in 0.1 V. -/
def State.smax (s : State) (c : Nat) : Rat := mkRat (s.get Reg.CEL_MPPT_CFG_SMAX) 1000 * (s.vnom c : Rat)
def State.smin (s : State) (c : Nat) : Rat := mkRat (s.get Reg.CEL_MPPT_CFG_SMIN) 1000 * (s.vnom c : Rat)

/-- The number of contexts in SCAN. -/
def State.scanning (s : State) : Nat := ((List.range 96).filter (fun c => s.get (Reg.CEL_MPPT_STATE c) == 3)).length

/-- STATE of a context set, and SCANNING with it. -/
def State.setMpptState (s : State) (c st : Nat) : State :=
  let s1 := s.set (Reg.CEL_MPPT_STATE c) st
  s1.set Reg.CEL_STAT_SCANNING s1.scanning

/-- A fresh interval of R167. -/
def State.newInterval (s : State) (c : Nat) : State :=
  s.modMppt c (fun m => { m with ticks := 0, sums := (0, 0, 0), usable := true })

/-- Entry to VOC: VOCOK and VOCEST clear, the 100 ms run starts (R165, R166). A scan in progress is abandoned (R170). -/
def State.enterVoc (s : State) (c : Nat) : State :=
  let st := s.get (Reg.CEL_MPPT_STATE c)
  let s1 := if st = 3 then s.setVref c (s.cell c).mppt.preScan.1 else s
  ((((s1.setMpptState c 1).set (Reg.CEL_MPPT_VOCOK c) 0).set (Reg.CEL_MPPT_VOCEST c) 0).modMppt c (fun m => { m with
    vocAt := s.now, vocRun := []
    leftClear := if st = 2 ∨ st = 3 then s.get (Reg.CEL_MPPT_NOHIST c) == 0 else m.leftClear }))

/-- VOC_CAPTURE: the mean of the last 100 ms becomes VOC where the spread is at most 0.5 % of VNOM; a predicted value starts the run
anew (R165). -/
def State.vocCapture (s : State) (c : Nat) : State :=
  let p := s.cellPort c
  let run := if p.good then (s.now, p.data.vcap.toNat) :: (s.cell c).mppt.vocRun.filter (fun e => e.1 != s.now) else []
  let win := run.filter (fun e => decide (s.now ≤ e.1 + 100 * countsPerMs))
  let long := run.any (fun e => decide (e.1 + 100 * countsPerMs ≤ s.now))
  let lo := win.foldl (fun m e => min m e.2) 65535
  let hi := win.foldl (fun m e => max m e.2) 0
  let keep := win ++ (run.filter (fun e => !decide (s.now ≤ e.1 + 100 * countsPerMs))).take 1
  let s1 := s.modMppt c (fun m => { m with vocRun := keep })
  if long && decide (200 * (hi - lo) ≤ s.vnom c) then
    (s1.setVoc c (mkRat (win.foldl (fun a e => a + e.2) 0) win.length)).set (Reg.CEL_MPPT_VOCOK c) 1
  else s1

/-- First use of a context (R166): VREF at 0.78 VOC, step SMAX, up, no history. -/
def State.firstUse (s : State) (c : Nat) : State :=
  let s1 := if s.on (Reg.CEL_MPPT_VOCOK c) then s
    else (s.setVoc c ((s.cellPort c).data.vcap : Rat)).set (Reg.CEL_MPPT_VOCEST c) 1
  let s2 := s1.setVref c (mkRat 78 100 * (s1.cell c).mppt.voc)
  ((s2.set (Reg.CEL_MPPT_NVALID c) 0).set (Reg.CEL_MPPT_NOHIST c) 1).modMppt c (fun m => { m with
    step := s.smax c, up := true, run := 0, prev := none, usedAt := s.now, scanEnd := none })

/-- TIME at which a context's next scan falls due: SCANPER, and c × SCANPER / 96 more, after its first use; SCANPER after the last scan's end;
none while SCANPER is 0 (R169). -/
def State.scanDue (s : State) (c : Nat) : Option Nat :=
  let per := s.get Reg.CEL_MPPT_SCAN_SCANPER * 400000000
  if per = 0 then none
  else match (s.cell c).mppt.scanEnd with
    | some t => some (t + per)
    | none => some ((s.cell c).mppt.usedAt + per + (c * per + 95) / 96)

/-- VOC is left for TRACK: with the earlier history after less than 1 s, else with a first use (R166). -/
def State.leaveVoc (s : State) (c : Nat) : State :=
  let m := (s.cell c).mppt
  let s1 := if s.now < m.vocAt + 400000000 ∧ m.leftClear = true then s else s.firstUse c
  (s1.setMpptState c 2).newInterval c

/-- The sums of an interval in TRACK or SCAN after a tick (R167). -/
def State.mpptCollect (s : State) (c : Nat) : State :=
  let p := s.cellPort c
  let n := s.get Reg.CEL_MPPT_CFG_TSTEP
  s.modMppt c (fun m => { m with
    ticks := m.ticks + 1
    usable := m.usable && p.good
    sums := if n < 2 * (m.ticks + 1) ∧ m.ticks + 1 ≤ n then (m.sums.1 + p.data.vcap, m.sums.2.1 + p.data.isrc, m.sums.2.2 + 1)
      else m.sums })

/-- A context out of use: the history of an earlier TRACK is not resumed (R164, R166). -/
def State.mpptOff (s : State) (c : Nat) : State :=
  if s.get (Reg.CEL_MPPT_STATE c) = 0 then s else (s.setMpptState c 0).modMppt c (fun m => { m with leftClear := false })

/-- VREF never above VCELL × VNOM, however VCELL has changed (R243). -/
def State.boundVref (s : State) (c : Nat) : State :=
  let m := (s.cell c).mppt.vref
  let cap := s.vrefCap c
  if cap < m then (s.modMppt c (fun x => { x with vref := cap })).set (Reg.CEL_MPPT_VREF c) (min 65535 (intOf cap).toNat) else s

/-- The state of a context at an Acquire deadline (R164, R166, R170). -/
def State.mpptTick (s0 : State) (c : Nat) : State :=
  let s := s0.boundVref c
  let st := s.get (Reg.CEL_MPPT_STATE c)
  let load := s.eligible c && s.cellPulses c
  if s.get (Reg.SYS_CELL_CFG_KIND c) ≠ 1 ∨ s.cellOn c = false ∨ s.on Reg.CEL_CTRL_MPPTEN = false then
    s.mpptOff c
  else if st = 0 then (let s1 := s.enterVoc c; if load then s1.leaveVoc c else s1.vocCapture c)
  else if st = 1 then (let s1 := s.vocCapture c; if load then s1.leaveVoc c else s1)
  else if st = 4 then (if (s.cellPort c).data.bypClosed || !s.cellLost c then s.enterVoc c else s)
  else if load then s.mpptCollect c
  else if s.cellLost c then
    (let s1 := if st = 3 then s.setVref c (s.cell c).mppt.preScan.1 else s
     (s1.setMpptState c 4).modMppt c (fun m => { m with leftClear := s.get (Reg.CEL_MPPT_NOHIST c) == 0 }))
  else s.enterVoc c

/-- The measured point of an interval: the means of V and I in 0.1 V and 0.1 A. -/
def Mppt.point (m : Mppt) : Option (Rat × Rat) :=
  if m.sums.2.2 = 0 then none else some (mkRat m.sums.1 m.sums.2.2, mkRat m.sums.2.1 m.sums.2.2)

/-- The point is usable: no prediction in the interval, the cell eligible throughout, I at least IMIN (R167). -/
def State.usablePoint (s : State) (c : Nat) : Option (Rat × Rat) :=
  let m := (s.cell c).mppt
  match m.point with
  | none => none
  | some p => if m.usable && decide ((s.get Reg.CEL_MPPT_LIM_IMIN : Rat) ≤ p.2) then some p else none

/-- The move of an update: +1, −1 or 0 (R167). -/
def State.mpptMove (s : State) (c : Nat) (v i vp ip : Rat) : Int :=
  let dv := v - vp
  let di := i - ip
  let tol := mkRat (s.get Reg.CEL_MPPT_LIM_ICTOL) 1000
  if absRat dv < mkRat (s.vnom c) 1000 then (if absRat di ≤ tol * i then 0 else signRat di)
  else
    let y := ratio i v
    let g := ratio (di / dv + y) y
    if tol < g then 1 else if g < -tol then -1 else 0

/-- The power estimate in CEL_MPPT_VP: 10 W units, saturating (R168). -/
def State.setPower (s : State) (c : Nat) (p : Rat) : State :=
  s.set (Reg.CEL_MPPT_VP_POWER c) (min 65535 (max 0 (intOf (p / 1000))).toNat)

/-- A usable point taken for the power estimate (R168). -/
def State.takePoint (s : State) (c : Nat) (v i : Rat) : State :=
  (s.modMppt c (fun m => { m with lastPoint := some (v, i) })).setPower c (v * i)

/-- An update in TRACK (R167). -/
def State.trackUpdate (s : State) (c : Nat) : State :=
  match s.usablePoint c with
  | none => s.modMppt c (fun m => { m with prev := none })
  | some (v, i) =>
    let m := (s.cell c).mppt
    let dir : Int := if m.up then 1 else -1
    let s0 := (s.takePoint c v i).modMppt c (fun m => { m with trackPoint := some (v, i), prev := some (v, i) })
    match m.prev with
    | none => s0.setVref c (m.vref + m.step * (dir : Rat))
    | some (vp, ip) =>
      let mv := s.mpptMove c v i vp ip
      let half := max (m.step / 2) (s.smin c)
      let run := if mv = 0 then 0 else if mv = dir then m.run + 1 else 1
      let step := if mv = 0 then half else if mv ≠ dir then half
        else if run = 4 then min (2 * m.step) (s.smax c) else m.step
      let nv := min 3 (s.get (Reg.CEL_MPPT_NVALID c) + 1)
      let s1 := (s0.modMppt c (fun m => { m with step := step, run := run, up := if mv = 0 then m.up else decide (0 < mv) })).set
        (Reg.CEL_MPPT_NVALID c) nv
      let s2 := s1.setVref c (m.vref + step * (mv : Rat))
      if nv = 3 then s2.set (Reg.CEL_MPPT_NOHIST c) 0 else s2

/-- The VREF of scan point `k`: evenly from VHI down to VLO (R169). -/
def State.scanPoint (s : State) (c k : Nat) : Rat :=
  let n := s.get Reg.CEL_MPPT_SCAN_SCANN
  let lo := mkRat (s.get Reg.CEL_MPPT_LIM_VLO) 100 * (s.vnom c : Rat)
  let hi := mkRat (s.get Reg.CEL_MPPT_LIM_VHI) 100 * (s.vnom c : Rat)
  hi - (hi - lo) * mkRat k (n - 1)

/-- The end of a scan: the point of greatest power, unless it is less than 1 % above the power before (R169). -/
def State.scanEnd (s : State) (c : Nat) : State :=
  let m := (s.cell c).mppt
  let v := match m.scanBest with
    | none => m.preScan.1
    | some b => if b.1 < mkRat 101 100 * m.preScan.2 then m.preScan.1 else b.2
  ((s.setVref c v).setMpptState c 2).modMppt c (fun m => { m with
    step := s.smax c, run := 0, prev := none, scanEnd := some s.now })

/-- A scan point measured; a usable one gives the power estimate too (R168, R169). -/
def State.scanUpdate (s : State) (c : Nat) : State :=
  let m := (s.cell c).mppt
  let s1 := match s.usablePoint c with
    | none => s
    | some (v, i) =>
      let better := match m.scanBest with | none => true | some b => decide (b.1 < v * i)
      (s.takePoint c v i).modMppt c (fun m => if better then { m with scanBest := some (v * i, m.vref) } else m)
  if s.get Reg.CEL_MPPT_SCAN_SCANN ≤ m.scanAt + 1 then s1.scanEnd c
  else (s1.modMppt c (fun m => { m with scanAt := m.scanAt + 1 })).setVref c (s.scanPoint c (m.scanAt + 1))

/-- MPPT_UPDATE: TSTEP ticks have passed since the last update: an update in TRACK, a point in SCAN (R167, R169). -/
def doMpptUpdate (c : Nat) (s : State) : State :=
  let st := s.get (Reg.CEL_MPPT_STATE c)
  if (s.cell c).mppt.ticks < s.get Reg.CEL_MPPT_CFG_TSTEP then s
  else if st = 2 then (s.trackUpdate c).newInterval c
  else if st = 3 then (s.scanUpdate c).newInterval c
  else s

def execMpptUpdate (c : Fin 96) (s : State) : Host.Outcome State Fault Refusal := .next (doMpptUpdate c.val s)

/-- MPPT_SCAN_START: a due scan starts once NOHIST is 0 and fewer than SCANMAX contexts are in SCAN (R169). -/
def doMpptScanStart (c : Nat) (s : State) : State :=
  match s.scanDue c with
  | none => s
  | some t =>
    if s.get (Reg.CEL_MPPT_STATE c) = 2 ∧ s.on (Reg.CEL_MPPT_NOHIST c) = false ∧ s.scanning < s.get Reg.CEL_MPPT_SCAN_SCANMAX then
      let m := (s.cell c).mppt
      let pow := match m.trackPoint with | none => 0 | some p => p.1 * p.2
      (((((s.reach t).setMpptState c 3).modMppt c (fun m => { m with
        scanAt := 0, scanBest := none, preScan := (m.vref, pow) })).setVref c (s.scanPoint c 0))).newInterval c
    else s

def execMpptScanStart (c : Fin 96) (s : State) : Host.Outcome State Fault Refusal := .next (doMpptScanStart c.val s)

/-! ### State of charge (R171, R172) -/

/-- A new window starts now (R171). -/
def State.socWindowStart (s : State) (c : Nat) : State :=
  (s.modCell c (fun x => { x with socStart := some s.now, socInRange := true })).socStartValues c

/-- SOC_WINDOW_END: ΔS_rep and ΔSOCI compared over the window; the next window starts (R171, R172). -/
def doSocWindowEnd (c : Nat) (s : State) : State :=
  match (s.cell c).socStart with
  | none => s
  | some t =>
    if s.get (Reg.SYS_CELL_CFG_KIND c) ≠ 2 then s
    else
      let s0 := s.reach (t + s.get Reg.CEL_SOC_CFG_SOCWIN * 400000000)
      let k := s.cell c
      if k.socAwait then s0.modCell c (fun x => { x with socStart := some s0.now, socInRange := true }) else
      let check := s.on Reg.CEL_CTRL_SOCCHK && s.get (Reg.CEL_BAT_CAP_AH c) != 0
      let d := absRat (((k.socRep : Rat) - k.socRef.1) - (k.soci - k.socRef.2))
      let tol : Rat := s.get Reg.CEL_SOC_CFG_SOCTOL
      let s1 := if check && decide (tol < d) then s0.setSocImpl c
        else if check && decide (2 * d ≤ tol) && k.socInRange then s0.set (Reg.CEL_CELL_STAT_SOCIMPL c) 0 else s0
      s1.socWindowStart c

def execSocWindowEnd (c : Fin 96) (s : State) : Host.Outcome State Fault Refusal := .next (doSocWindowEnd c.val s)

/-! ### Gate timing (R173) -/

/-- The bounds of the strength code in use: CODEMIN and CODEMAX, at most CODECAP (R173, R243). -/
def State.codeRange (s : State) : Nat × Nat :=
  let cap := s.get Reg.TRP_HL_DVDT_CODECAP
  (min (s.get Reg.CEL_GATE_CFG_CODEMIN) cap, min (s.get Reg.CEL_GATE_CFG_CODEMAX) cap)

/-- The time a cell reported, in 0.1 ns, by TGSEL; none without a valid one (R173, R261). -/
def State.switchTime (s : State) (c : Nat) : Option Rat :=
  let d := (s.cellPort c).data
  if d.tvalid && (s.cellPort c).good then
    some (match s.get Reg.CEL_GATE_CFG_TGSEL with
      | 0 => (d.ton : Rat)
      | 2 => mkRat (d.ton + d.toff) 2
      | _ => (d.toff : Rat))
  else none

/-- The strength code of a cell's next plan, and its run of updates with the code held at a bound: without a valid measurement the code stays;
with GATEEN 0 it is CODEINIT (R173). No code is above CODECAP (R243). -/
def State.newCode (s : State) (c : Nat) : Nat × Nat :=
  let r := s.codeRange
  let cap := s.get Reg.TRP_HL_DVDT_CODECAP
  let code := s.get (Reg.CEL_HEALTH_CODE c)
  let run := (s.cell c).satRun
  if s.on Reg.CEL_CTRL_GATEEN = false then (r.1, run)
  else
    match s.switchTime c with
    | none => (min code cap, run)
    | some t =>
      let e := t - (s.get Reg.CEL_GATE_CFG_TARGET : Rat)
      let tol : Rat := 10 * s.get Reg.CEL_GATE_CFG_TOL
      let new := if tol < e then min (code + 1) r.2 else if e < -tol then max (code - 1) r.1 else code
      let held := (decide (tol < e) && code == r.2) || (decide (e < -tol) && code == r.1)
      (min new cap, if held then run + 1 else 0)

/-- GATE_TIMING_UPDATE: in the Plan phase of a tick that is not a hold tick every eligible cell takes its new code; with GATEEN 0 every code is
CODEINIT (R173). -/
def State.gateUpdate (s : State) : State :=
  (List.range 96).foldl (fun s' c =>
    if s.eligible c || !s.on Reg.CEL_CTRL_GATEEN then
      (s'.set (Reg.CEL_HEALTH_CODE c) (s.newCode c).1).modCell c (fun x => { x with satRun := (s.newCode c).2 })
    else s') s

/-- GATESAT: the code has stood at a bound for 1,000 consecutive updates: the flag and a Note fault; the count starts anew (R173). -/
def doGatesat (c : Nat) (s : State) : State :=
  if 1000 ≤ (s.cell c).satRun then
    ((s.modCell c (fun x => { x with satRun := 0 })).set (Reg.CEL_CELL_STAT_GATESAT c) 1).fault 43 c
  else s

def execGatesat (c : Fin 96) (s : State) : Host.Outcome State Fault Refusal := .next (doGatesat c.val s)

/-! ### Ageing (R174, R175) -/

/-- A mean of a sum and a number. -/
def meanPair (p : Nat × Nat) : Option Rat := if p.2 = 0 then none else some (mkRat p.1 p.2)

/-- The ageing estimate from the hour's means (R174). -/
def State.ageEstimate (s : State) (cbar von : Rat) (base : Rat × Rat) : Rat :=
  let dc := ratio (cbar - base.1) (mkRat (s.get Reg.CEL_AGE_CFG_CEOL) 10)
  let dv := ratio (von - base.2) (base.2 * mkRat (s.get Reg.CEL_AGE_CFG_VEOL) 100)
  clampRat (max dc dv) 0 1

/-- A cell's hour ended: baselines where they are due, then A (R174, R175). -/
def State.ageHour (s : State) (c : Nat) : State :=
  let k := s.cell c
  let von := match meanPair k.vonSum with | some v => some v | none => k.vonMean
  let cbar := (meanPair k.codeSum).getD (s.get (Reg.CEL_HEALTH_CODE c) : Rat)
  let base := match k.base, meanPair k.vonSum with
    | none, some v => if k.hourFull then some (cbar, v) else none
    | b, _ => b
  let age := match base, von with
    | some b, some v => if s.on Reg.CEL_CTRL_AGEEN then s.ageEstimate cbar v b else k.age
    | _, _ => 0
  let s1 := s.modCell c (fun x => { x with
    codeSum := (0, 0), vonSum := (0, 0), vonMean := von, base := base, hourFull := true, age := age })
  let s2 := (s1.set (Reg.CEL_HEALTH_AGE c) (min 65535 (intOf (age * 65536)).toNat)).set (Reg.CEL_HEALTH_C0 c)
    (match base with | none => 0 | some b => min 15 (intOf b.1).toNat)
  if age = 1 ∧ s.on (Reg.CEL_CELL_STAT_AGED c) = false then (s2.set (Reg.CEL_CELL_STAT_AGED c) 1).fault 44 c
  else if age < 1 then s2.set (Reg.CEL_CELL_STAT_AGED c) 0 else s2

/-- AGEING_HOUR_END: the hour ends at the next TIME multiple of 1,440,000,000,000 counts (R174). -/
def doAgeingHourEnd (s : State) : State :=
  let due := (s.cel.hourAt / 1440000000000 + 1) * 1440000000000
  let s0 := s.reach due
  (List.range 96).foldl (fun s c => if s.cellOn c then s.ageHour c else s) { s0 with cel := { s0.cel with hourAt := due } }

def execAgeingHourEnd (s : State) : Host.Outcome State Fault Refusal := .next (doAgeingHourEnd s)

/-- BASELINE: the baselines are taken from the hour in progress (R175). -/
def doBaseline (s : State) : State :=
  (List.range 96).foldl (fun s c =>
    let k := s.cell c
    match meanPair k.codeSum, meanPair k.vonSum with
    | some cb, some v => (s.modCell c (fun x => { x with base := some (cb, v) })).set (Reg.CEL_HEALTH_C0 c) (min 15 (intOf cb).toNat)
    | _, _ => s) s

def execBaseline (s : State) : Host.Outcome State Fault Refusal := .next (doBaseline s)

/-- What admission starts for a cell: the code at CODEINIT, the battery window, an hour that is not complete (R171, R173, R175). -/
def State.cellStarts (s : State) (c : Nat) : State :=
  (s.set (Reg.CEL_HEALTH_CODE c) s.codeRange.1).modCell c (fun x => { x with
    hourFull := false, satRun := 0, socStart := some s.now, socInRange := true, socAwait := true })

/-- Cells of the committed set whose unit was admitted while it carried none start as at admission (R171, R173; DEDUCED, log 156). -/
def State.admitCommitted (s : State) : State :=
  (List.range 96).foldl (fun s c =>
    match s.portOf c with
    | none => s
    | some p => if s.cellOn c ∧ (s.port p).admitted = true ∧ (s.cell c).socStart = none then s.cellStarts c else s) s

/-- A cell unit admitted at training: its cell starts, and it stays bypassed with cause 6 (R43, R171, R173, R175, R177). -/
def State.admitCell (s : State) (p : Nat) : State :=
  let s1 := s.modPort p (fun x => { x with
    admitted := true, bypCause := if x.bypCause = 0 ∨ x.bypCause = 4 then 6 else x.bypCause })
  match s.cellOf p with
  | none => s1
  | some c => s1.cellStarts c

/-- The DC-link check begins anew: the latest raw word of the input, and no run of exceeding words (R231, R246). -/
def State.dcLinkAnew (s : State) : State :=
  let w := s.rawWord (s.get Reg.TRP_HL_VDC_IN)
  s.modTrp (fun t => { t with vdcRun := 0, vdcWord := if wordNv w then none else some w })

/-! ### The bypassed count (R44, R45) -/

/-- The local cells of an arm that count as bypassed. -/
def State.localBypassed (s : State) (a : Nat) : Nat := ((s.armCells a).filter (fun c => s.isBypassed c)).length

/-- The device with index `d` is heard. -/
def State.heard (s : State) (d : Nat) : Bool := s.bit Reg.PEL_STAT_HEARD d

/-- Another device of the Peloton. -/
def State.pelDev (s : State) (d : Nat) : PelDevice := tblGet {} s.pel.devs d

/-- The other devices of the Peloton that this one counts with: those with a CONFIG. -/
def State.others (s : State) : List Nat :=
  (List.range 8).filter (fun d => s.on Reg.PEL_CTRL_EN && d != s.get Reg.PEL_STAT_INDEX && (s.pelDev d).config.isSome)

/-- The enabled cells of an arm on another device, from its last CONFIG (R464). -/
def PelDevice.cellsOf (d : PelDevice) (a : Nat) : Nat :=
  match d.config with
  | none => 0
  | some k => (k.cells.filter (fun e => e.2.2 == a)).length

/-- This device's own SUMMARY of the tick, where it counts with others (R471). -/
def State.ownSummary (s : State) : Option Summary :=
  if s.others.isEmpty then none else (s.pelDev (s.get Reg.PEL_STAT_INDEX)).summary

/-- The bypassed count of an arm across the Peloton: every value from the summaries of the tick, this device's own included; an unheard
device's enabled cells count as lost (R44, R471, R473). -/
def State.bypassedCount (s : State) (a : Nat) : Nat :=
  s.others.foldl (fun n d =>
    n + (if s.heard d then (match (s.pelDev d).summary with | none => 0 | some m => m.byp.getD a 0) else (s.pelDev d).cellsOf a))
    (match s.ownSummary with | none => s.localBypassed a | some m => m.byp.getD a 0)

/-- One arm's count judged: EXHAUST and a Note at k, a block and a Serious fault above it for as long as
it lasts (R44). -/
def State.judgeArm (s : State) (a : Nat) : State :=
  let n := s.bypassedCount a
  let k := s.get (Reg.SYS_ARM_CFG_K a)
  let x := s.arm a
  let s1 := ((s.set (Reg.SYS_ARM_STAT_BYPASSED a) n).setBool (Reg.SYS_ARM_STAT_EXHAUST a) (decide (k ≤ n))).modArm a
    (fun x => { x with atK := n == k })
  let s2 := if n = k ∧ x.atK = false then s1.fault 38 a else s1
  if k < n then (s2.tripLatch 27 63).fault 39 a else s2

/-- An arm outside the topology counts nothing (R40). -/
def State.restArm (s : State) (a : Nat) : State :=
  ((s.set (Reg.SYS_ARM_STAT_BYPASSED a) 0).set (Reg.SYS_ARM_STAT_EXHAUST a) 0).modArm a (fun x => { x with atK := false })

/-- BYPASSED_COUNT_EVALUATION: every arm of the topology, once all bypasses and rejoins of the deadline have been decided (R45; DESIGN CHOICE,
log 121: the rule orders neither before the other). -/
def State.judgeArms (s : State) : State :=
  (List.range 6).foldl (fun s a => if a < s.arms then s.judgeArm a else s.restArm a) s

/-! ### Arm summaries (R162) -/

/-- The mean key of the eligible local cells of an arm. -/
def State.meanKey (s : State) (a : Nat) : Option Rat := meanOf ((s.eligCells a).map (fun c => (s.get (Reg.CEL_KEY_KEY c) : Rat)))

/-- Σ cell voltage of the eligible local cells of an arm, in 0.1 V. -/
def State.sumVolts (s : State) (a : Nat) : Int := (s.eligCells a).foldl (fun v c => v + (s.cellPort c).data.vcap) 0

/-- The eight words of an arm. -/
def State.armSummary (s : State) (a : Nat) : List Nat :=
  let cs := s.eligCells a
  let keys := cs.map (fun c => s.get (Reg.CEL_KEY_KEY c))
  let half (x : Rat) := bitsOf 32 (intOf (x / 2))
  let pow := cs.foldl (fun p c => p + (match (s.cell c).mppt.lastPoint with | none => 0 | some q => q.1 * q.2)) (0 : Rat)
  let bats := cs.filter (fun c => s.get (Reg.SYS_CELL_CFG_KIND c) == 2)
  let nohist := (cs.filter (fun c => s.get (Reg.SYS_CELL_CFG_KIND c) == 1 && s.on (Reg.CEL_MPPT_NOHIST c))).length
  let hot := (cs.filter (fun c => s.on (Reg.CEL_CELL_STAT_HOT c))).length
  [half ((s.meanKey a).getD (Config.ofNone 0)),
   puWord (ratio (mkRat (s.sumVolts a) 10) s.vph),
   puWord (ratio (pow / 100) (1000 * s.get Reg.SYS_BASE_S_VALUE : Rat)),
   puWord (match cs with | [] => Config.ofNone 1 | c :: r => r.foldl (fun m d => min m (s.ilim d)) (s.ilim c)),
   nohist * 65536 + hot * 256 + cs.length,
   puWord ((meanOf (bats.map (fun c => s.balanceSoc c))).getD 0),
   match keys with | [] => half (Config.ofNone 2) | k :: r => r.foldl min k / 2,
   match keys with | [] => half (Config.ofNone 3) | k :: r => r.foldl max k / 2]

/-- ARM_SUMMARIES: eight words per arm at 0x400 + 8 × arm; 0x430 to 0x43F read 0. -/
def State.postSummaries (s : State) : State :=
  (List.range 6).foldl (fun s' a =>
    (List.range 8).foldl (fun s' i => s'.setInWord (0x400 + 8 * a + i) ((s.armSummary a).getD i 0)) s') s

/-! ### The sort and the insertion set (R156 to R160) -/

/-- The priority of a cell: its key while its arm charges, the complement while it discharges (R156). -/
def State.priority (s : State) (a c : Nat) : Nat :=
  let k := s.get (Reg.CEL_KEY_KEY c)
  if s.get (Reg.CEL_ARM_STAT_DIR a) = 0 then k else 0xFFFFFFFF - k

/-- `c` comes before `d` in the sort: by priority then number, or by number alone with SORTEN 0 (R156, R159). -/
def State.before (s : State) (a c d : Nat) : Bool :=
  if s.on Reg.CEL_CTRL_SORTEN = false then decide (c < d)
  else decide (s.priority a c < s.priority a d) || (s.priority a c == s.priority a d && decide (c < d))

/-- An ordered insertion. -/
def sortInsert (le : Nat → Nat → Bool) (x : Nat) : List Nat → List Nat
  | [] => [x]
  | y :: r => if le x y then x :: y :: r else y :: sortInsert le x r

/-- A list sorted. -/
def sortBy (le : Nat → Nat → Bool) (l : List Nat) : List Nat := l.foldr (sortInsert le) []

/-- SORT: the eligible cells of an arm, best first (R156). -/
def State.sorted (s : State) (a : Nat) : List Nat := sortBy (s.before a) (s.eligCells a)

/-- ELIG of every cell as this sort finds it (R156). -/
def State.markEligible (s : State) : State :=
  (List.range 96).foldl (fun s' c => s'.setBool (Reg.CEL_CELL_STAT_ELIG c) (s.eligible c)) s

/-- The direction of an arm for the tick, from its current and the sign of its level (R157). -/
def State.armDirection (s : State) (a : Nat) (sign : Int) : State :=
  let i := s.armCurrent a
  let idb := mkRat (s.get (Reg.CEL_ARM_AUX_IDB a)) 1000
  let c := i * (sign : Rat)
  if s.cel.firstPlan then s.set (Reg.CEL_ARM_STAT_DIR a) 0
  else if absRat i < idb ∨ s.armCurrentBad a = true then s
  else if 0 < c then s.set (Reg.CEL_ARM_STAT_DIR a) 0
  else if c < 0 then s.set (Reg.CEL_ARM_STAT_DIR a) 1
  else s

/-- A cell is HOT. -/
def State.hot (s : State) (c : Nat) : Bool := s.on (Reg.CEL_CELL_STAT_HOT c)

/-- The swap loop of R158: exchanges of the best cell outside with the worst inside, neither HOT; the set and the swaps made. -/
def State.swapLoop (s : State) (a : Nat) (order : List Nat) : Nat → List Nat → Nat → List Nat × Nat
  | 0, set, n => (set, n)
  | fuel + 1, set, n =>
    let b := order.find? (fun c => !set.contains c && !s.hot c)
    let w := order.reverse.find? (fun c => set.contains c && !s.hot c)
    match b, w with
    | some b, some w =>
      if (s.priority a w : Int) - (s.priority a b : Int) ≤ ((s.get (Reg.CEL_ARM_CFG_HYST a) * 16384 : Nat) : Int) then (set, n)
      else s.swapLoop a order fuel (b :: set.filter (fun c => c != w)) (n + 1)
    | _, _ => (set, n)

/-- The insertion set for a local count `n`, from the set of the last dispatched plan (R158, R159). -/
def State.insertion (s : State) (a n : Nat) : List Nat × Nat :=
  let order := s.sorted a
  let p := (s.arm a).lastSet.filter (fun c => order.contains c)
  let base :=
    if p.length < n then p ++ (order.filter (fun c => !p.contains c)).take (n - p.length)
    else
      let drop := (order.reverse.filter (fun c => p.contains c)).take (p.length - n)
      p.filter (fun c => !drop.contains c)
  if s.on Reg.CEL_CTRL_SORTEN then s.swapLoop a order (s.get (Reg.CEL_ARM_CFG_SWAPMAX a)) base 0 else (base, 0)

/-- A short tick: NSHORT counts; a Note fault at the first after a tick that was not short (R158). -/
def State.shortTick (s : State) (a : Nat) (short : Bool) : State :=
  let was := (s.arm a).short
  let s1 := s.modArm a (fun x => { x with short := short })
  if short then
    let s2 := s1.count (Reg.CEL_ARM_STAT_NSHORT a) 1
    if was then s2 else s2.fault 41 a
  else s1

/-- The duty correction Δd of a cell under phase-shifted carrier (R161). -/
def State.dutyCorrection (s : State) (a c : Nat) : Rat :=
  let kbar := ((s.meanKey a).getD 0) / 0x40000000
  let k := mkRat (s.get (Reg.CEL_KEY_KEY c)) 0x40000000
  let dir : Rat := if s.get (Reg.CEL_ARM_STAT_DIR a) = 0 then -1 else 1
  let b := mkRat (s.get (Reg.CEL_ARM_AUX_DBAL a)) 1000
  clampRat (mkRat (s.get (Reg.CEL_ARM_AUX_KBAL a)) 16 * (kbar - k) * dir) (-b) b

/-! ### Bypass and rejoin (R177 to R180) -/

/-- CEL_BYP_REQ: the cells of a word are to be bypassed at the next Acquire deadline (R177, R178). -/
def doCelBypReq (j v : Nat) (s : State) : State := { s with cel := { s.cel with bypReq := s.cel.bypReq ||| ((v % 0x100000000) <<< (32 * j)) } }

def execCelBypReq (j : Fin 3) (v : Word) (s : State) : Host.Outcome State Fault Refusal := .next (doCelBypReq j.val v.toNat s)

/-- CEL_RJ_REQ: the cells of a word ask for rejoin, judged at the next Acquire deadline (R180). -/
def doCelRjReq (j v : Nat) (s : State) : State := { s with cel := { s.cel with rjReq := s.cel.rjReq ||| ((v % 0x100000000) <<< (32 * j)) } }

def execCelRjReq (j : Fin 3) (v : Word) (s : State) : Host.Outcome State Fault Refusal := .next (doCelRjReq j.val v.toNat s)

/-- A cell's rejoin request of this Acquire deadline used up. A bypass request of the deadline stays until the next one, so that a rejoin of
the same deadline is refused (R180). -/
def State.clearRjDue (s : State) (c : Nat) : State := { s with cel := { s.cel with rjDue := clearBit s.cel.rjDue c } }

/-- A cell bypassed for a cause: BYPCAUSE keeps the first (R177). -/
def State.bypassCell (s : State) (c cause : Nat) : State :=
  match s.portOf c with
  | none => s
  | some p => s.modPort p (fun x => { x with bypCause := if x.bypCause = 0 then cause else x.bypCause })

/-- BYPASS_CONFIRM_TIMEOUT: more than 8 ticks after the Plan frame that commanded the bypass, with no BYPCLOSED and the link in operation
since: BYPFAIL, a Serious fault, and trip source 27 for every arm (R179, R231). -/
def doBypassConfirmTimeout (c : Nat) (s : State) : State :=
  match s.portOf c with
  | none => s
  | some p =>
    match (s.port p).bypSent with
    | none => s
    | some t =>
      if (s.tick + 0x100000000 - t) % 0x100000000 ≤ 8 ∨ (s.port p).closedSeen = true ∨ (s.port p).bypCause = 0
          ∨ s.linkUp p = false then s
      else ((s.modPort p (fun x => { x with bypFail := true, bypSent := none })).tripLatch 27 63).fault 47 c

def execBypassConfirmTimeout (c : Fin 96) (s : State) : Host.Outcome State Fault Refusal :=
  .next (doBypassConfirmTimeout c.val s)

/-- V / VNOM of a cell. -/
def State.relVolts (s : State) (c : Nat) : Rat := ratio ((s.cellPort c).data.vcap : Rat) (s.vnom c : Rat)

/-- The voltage band of a rejoin: applied while pulses are enabled and another local cell of the arm is eligible; without a good Report
the request is refused (R180). -/
def State.rejoinBand (s : State) (c : Nat) : Bool :=
  if s.cellPulses c = false then true
  else if (s.cellPort c).good = false then false
  else match meanOf (((s.eligCells (s.cellArm c)).filter (fun d => d != c)).map (fun d => s.relVolts d)) with
    | none => true
    | some m =>
      decide (mkRat (s.get Reg.CEL_BYP_CFG_RJLO) 100 * m ≤ s.relVolts c)
        && decide (s.relVolts c ≤ mkRat (s.get Reg.CEL_BYP_CFG_RJHI) 100 * m)

/-- The request of a cell is accepted (R180). A bypass due at the same deadline is taken instead. -/
def State.rejoinAccepted (s : State) (c : Nat) : Bool :=
  match s.portOf c with
  | none => false
  | some p =>
    s.cellOn c && s.cellAdmitted c && s.linkUp p && !(s.port p).data.fault && !(s.port p).bypFail && s.rejoinBand c
      && !((s.cell c).over10 && s.on Reg.CEL_CTRL_AUTOBYP) && !s.cel.bypDue.testBit c && s.get (Reg.SPK_PSTAT_MISSN p) != 3

/-- A rejoin request due at the Acquire deadline: accepted, every cause, LOST and the bypass go and READY becomes OPERATE; refused, RJREF is
set (R180, R269). -/
def State.judgeRejoin (s : State) (c : Nat) : State :=
  if s.cel.rjDue.testBit c = false then s
  else
    let s0 := s.clearRjDue c
    match s.portOf c with
    | none => s0.set (Reg.CEL_CELL_STAT_RJREF c) 1
    | some p =>
      if s.rejoinAccepted c then
        let s1 := (s0.modPort p (fun x => { x with bypCause := 0, bypSent := none })).putBit (Reg.SPK_LOST_PORT (p / 32)) (p % 32) false
        if s1.get (Reg.SPK_PSTAT_LSTATE p) = 4 then (s1.set (Reg.SPK_PSTAT_LSTATE p) 5).count Reg.SPK_STAT_NOPER 1 else s1
      else s0.set (Reg.CEL_CELL_STAT_RJREF c) 1

/-! ### The Acquire deadline's cell steps -/

/-- A bypass decided at an Acquire deadline is recorded; the cell's Plan frames carry BYPASS from this tick (R177, R178). -/
def State.decideBypass (s : State) (c : Nat) : State := if s.dueCause c = 0 then s else s.bypassCell c (s.dueCause c)

/-- Flags, bypasses, rejoins, state of charge, ageing means, contexts, keys, bypassed counts and summaries of a tick. A bypass and a rejoin
are decided before the steps that ask which cells are eligible (R178, R180). -/
def State.cellsAcquire (s : State) : State :=
  let s0 : State := { s with cel := { s.cel with
    bypDue := s.cel.bypReq, bypReq := 0, rjDue := s.cel.rjReq, rjReq := 0 } }
  let each (f : State → Nat → State) (s : State) : State := (List.range 96).foldl f s
  let s1 := each (fun s c => if s.cellOn c then s.cellFlags c else s) s0
  let s2 := each (fun s c => s.judgeRejoin c) (each (fun s c => s.decideBypass c) s1)
  let s3 := each (fun s c => if s.cellOn c then ((s.socTick c).ageTick c).mpptTick c else s.mpptOff c) s2
  (s3.computeKeys.judgeArms).postSummaries

/-- TIME is that of the last Acquire deadline: a request made in its clock is judged with it. -/
def State.atAcquire (s : State) : Bool := s.now == s.cel.acqAt

/-- BYPASS_DECISION: a bypass decided at an Acquire deadline is recorded, one requested in its clock too; the counts and summaries follow
(R45, R162, R177, R178). -/
def doBypassDecision (c : Nat) (s : State) : State :=
  let s0 : State := if s.atAcquire ∧ s.cel.bypReq.testBit c = true then
      { s with cel := { s.cel with bypReq := clearBit s.cel.bypReq c, bypDue := setBit s.cel.bypDue c } } else s
  if s0.dueCause c = 0 then s0
  else
    let s1 := s0.decideBypass c
    if s.atAcquire then s1.judgeArms.postSummaries else s1

def execBypassDecision (c : Fin 96) (s : State) : Host.Outcome State Fault Refusal := .next (doBypassDecision c.val s)

/-- REJOIN_JUDGEMENT: a request due at the Acquire deadline is judged, one made in its clock too; where it is accepted the context, the counts and
the summaries follow (R45, R162, R166, R180, R269). -/
def doRejoinJudgement (c : Nat) (s : State) : State :=
  let s0 : State := if s.atAcquire ∧ s.cel.rjReq.testBit c = true then
      { s with cel := { s.cel with rjReq := clearBit s.cel.rjReq c, rjDue := setBit s.cel.rjDue c } } else s
  if s0.cel.rjDue.testBit c = false ∨ s0.rejoinAccepted c = false then s0.judgeRejoin c
  else (((s0.judgeRejoin c).mpptTick c).judgeArms).postSummaries

def execRejoinJudgement (c : Fin 96) (s : State) : Host.Outcome State Fault Refusal := .next (doRejoinJudgement c.val s)

/-! ### Register writes (R182) -/

/-- The crossed settings that a write to CEL may not make. -/
def State.celCrossed (s : State) (ps : List (Fld × Nat)) : Bool :=
  decide (s.would ps Reg.CEL_MPPT_CFG_SMAX < s.would ps Reg.CEL_MPPT_CFG_SMIN)
    || decide (s.would ps Reg.CEL_MPPT_LIM_VHI ≤ s.would ps Reg.CEL_MPPT_LIM_VLO)
    || decide (s.would ps Reg.CEL_GATE_CFG_CODEMAX < s.would ps Reg.CEL_GATE_CFG_CODEMIN)
    || decide (s.would ps Reg.CEL_BYP_CFG_RJHI ≤ s.would ps Reg.CEL_BYP_CFG_RJLO)

/-- 1 written to BYPFAIL clears it while the cell's arm is blocked (CEL_CELL_STAT, R181). -/
def State.clearBypFail (s : State) (addr v : Nat) : State :=
  if (Reg.CEL_CELL_STAT_BYPFAIL 0).addr ≤ addr then
    let c := (addr - (Reg.CEL_CELL_STAT_BYPFAIL 0).addr) / 4
    match s.portOf c with
    | none => s
    | some p => if c < 96 ∧ v.testBit 7 = true ∧ s.cellPulses c = false then s.modPort p (fun x => { x with bypFail := false }) else s
  else s

/-- CEL_REGISTER_WRITE: status bits clear, the RW fields are judged and wait for their tick start; the WO bits act at once (R182). -/
def doCelRegisterWrite (offset v : Nat) (s : State) : State :=
  let addr := 0x40080000 + offset
  let s0 := (s.clearOnes addr v).clearBypFail addr v
  let ps := rwParts addr v
  let s1 := if wordAllowed addr v = false ∨ s.celCrossed ps = true then s0.set Reg.CEL_STAT_CFGERR 1 else s0.awaitAll ps
  let s2 := s1.settle
  if offset = 0 ∧ v.testBit 6 then doBaseline s2
  else if 0xA0 ≤ offset ∧ offset ≤ 0xA8 then doCelBypReq ((offset - 0xA0) / 4) v s2
  else if 0xB0 ≤ offset ∧ offset ≤ 0xB8 then doCelRjReq ((offset - 0xB0) / 4) v s2
  else s2

def execCelRegisterWrite (offset : Fin 16384) (v : Word) (s : State) : Host.Outcome State Fault Refusal :=
  .next (doCelRegisterWrite offset.val v.toNat s)

end Sys2Proof.Machine
end

