-- ==== Sys2Proof/Machine/Edge.lean ====
section
/-!
DEFINITION. The edge scheduler (R183 to R208): references, modulation, exact crossings, window opening, minimum pulse, carries, what a
dispatch keeps; the delay lines. Edge times are offsets from a in units of 78.125 ps, 32 to the count.
-/

namespace Sys2Proof.Machine

/-! ### What an arm shares across the Peloton (R163, R471) -/

/-- The devices an arm lies on, by index: eligible cells, mean key as a fraction of 1.0, available voltage in pu. Alone, this device's
own values; in a Peloton the values of the summaries (R186, R188, R471). -/
def State.shares (s : State) (a : Nat) : List (Nat × Nat × Rat × Rat) :=
  let own := s.get Reg.PEL_STAT_INDEX
  let local_ : Nat × Nat × Rat × Rat :=
    (own, (s.eligCells a).length, ((s.meanKey a).getD 0) / 0x40000000, puOf (s.inWord (0x401 + 8 * a)))
  let of (d : Nat) (m : Summary) : Nat × Nat × Rat × Rat :=
    (d, m.elig.getD a 0, mkRat (m.meanKey.getD a 0 * 256) 0x40000000, ratio (mkRat (m.volts.getD a 0) 10) s.vph)
  if s.others.isEmpty then [local_]
  else (List.range 8).filterMap (fun d =>
    if d = own then some (match s.ownSummary with | none => local_ | some m => of d m)
    else if s.others.contains d ∧ s.heard d = true then ((s.pelDev d).summary).map (of d)
    else none)

/-- A device that shares an arm has sent no summary since its admission: the arm's plans are incomplete (R471). -/
def State.summaryLacks (s : State) (a : Nat) : Bool :=
  s.others.any (fun d => s.heard d && (s.pelDev d).summary.isNone && (s.pelDev d).cellsOf a != 0)

/-- N_e: the eligible cells of an arm across the Peloton. -/
def State.eligTotal (s : State) (a : Nat) : Nat := (s.shares a).foldl (fun n d => n + d.2.1) 0

/-- V_av of an arm in pu (R186). -/
def State.availVolts (s : State) (a : Nat) : Rat := (s.shares a).foldl (fun v d => v + d.2.2.2) 0

/-- One round of the division by largest remainder: one more to each device with room, in order of remainder, while any are left. -/
def shareRound (order : List Nat) (caps : List Nat) : Nat → List Nat → List Nat × Nat :=
  fun left got => order.foldl (fun (p : List Nat × Nat) i =>
    if p.2 = 0 ∨ caps.getD i 0 ≤ p.1.getD i 0 then p else (p.1.set i (p.1.getD i 0 + 1), p.2 - 1)) (got, left)

/-- Rounds until none is left or there is no room. -/
def shareRounds (order caps : List Nat) : Nat → Nat → List Nat → List Nat
  | 0, _, got => got
  | fuel + 1, left, got =>
    let p := shareRound order caps left got
    if p.2 = 0 ∨ p.2 = left then p.1 else shareRounds order caps fuel p.2 p.1

/-- The division of n among the devices of an arm (R163): weights, largest remainder, ties to the lower index, none above its c_d. -/
def State.divide (s : State) (a n : Nat) : List Nat :=
  let ds := s.shares a
  let total := s.eligTotal a
  let kArm := ratio (ds.foldl (fun k d => k + (d.2.1 : Rat) * d.2.2.1) 0) (total : Rat)
  let dir : Rat := if s.get (Reg.CEL_ARM_STAT_DIR a) = 0 then -1 else 1
  let g := mkRat (s.get Reg.CEL_CTRL_GDEV) 16
  let ws := ds.map (fun d => (d.2.1 : Rat) * clampRat (1 + g * (kArm - d.2.2.1) * dir) (1 / 2) (3 / 2))
  let sum := ws.foldl (· + ·) 0
  let quotas := ws.map (fun w => (n : Rat) * w / sum)
  let caps := ds.map (fun d => d.2.1)
  let first := (quotas.zip caps).map (fun p => min p.1.floor.toNat p.2)
  let order := sortBy (fun i j =>
    let r k := quotas.getD k 0 - ((quotas.getD k 0).floor : Rat)
    decide (r j < r i) || (r i == r j && decide (i < j))) (List.range ds.length)
  if total = 0 then ds.map (fun _ => 0)
  else shareRounds order caps (n + 1) (n - first.foldl (· + ·) 0) first

/-- This device's share of n; alone, n itself. -/
def State.localCount (s : State) (a n : Nat) : Nat :=
  if s.others.isEmpty then n
  else ((((s.shares a).zip (s.divide a n)).find? (fun p => p.1.1 == s.get Reg.PEL_STAT_INDEX)).map (·.2)).getD 0

/-- This device carries the fractional pulse: the lowest-indexed device with an eligible cell outside its set (R191). -/
def State.carriesPulse (s : State) (a n : Nat) : Bool :=
  s.others.isEmpty
    || (((s.shares a).zip (s.divide a n)).find? (fun p => decide (p.2 < p.1.2.1))).map (·.1.1) == some (s.get Reg.PEL_STAT_INDEX)

/-! ### References (R184 to R186) -/

/-- TIME of a for the plan being built: the start of the next tick plus CAD_APPLY_DLY (R183). -/
def State.planStart (s : State) : Nat :=
  s.cad.nextTick.getD (s.cad.tickStart + s.get Reg.CAD_PERIOD_PERIOD) + s.get Reg.CAD_APPLY_DLY_DLY

/-- The application interval's length in 78.125 ps units. -/
def State.planLength (s : State) : Int := 32 * (s.get Reg.CAD_PERIOD_PERIOD : Int)

/-- The tone of phase 0, 1 or 2 at the midpoint of the application interval, in pu (R140, R186). -/
def State.tone (s : State) (x : Nat) : Rat :=
  if s.on Reg.GRD_CTRL_TONEEN = false ∨ s.isFollower = true then 0
  else
    let t := ((s.planStart : Nat) : Rat) / 400000000 + mkRat (s.get Reg.CAD_PERIOD_PERIOD) 800000000
    let phi : Rat := if x = 0 then 0 else if x = 1 then -(2 / 3) else 2 / 3
    mkRat (s.get Reg.GRD_TONE_AMP) 10000 * cosHalf (20 * (s.get Reg.GRD_TONE_FREQ : Rat) * t + phi)

/-- The tone added to an arm, by topology (R186). -/
def State.armTone (s : State) (a : Nat) : Rat :=
  match s.get Reg.SYS_TOPO_TOPO with
  | 1 => s.tone a
  | 2 => s.tone a - s.tone ((a + 1) % 3)
  | _ => if a % 2 = 0 then -s.tone (a / 2) else s.tone (a / 2)

/-- A word of the output map as last committed (R95). -/
def State.outWord (s : State) (a : Nat) : Nat := (tblGet (0 : Word) s.cle.outMap a).toNat

/-- A duty word: a Q1.31 fraction (R185). -/
def dutyOf (w : Nat) : Rat := mkRat (signedOf 32 w) 0x80000000

/-- The arm voltage reference with its tone, before the clamp (R186). -/
def State.armRef (s : State) (a : Nat) : Rat := puOf (s.outWord (0x200 + a)) + s.armTone a

/-- The bounds of an arm's reference: those of its available voltage. -/
def State.refBounds (s : State) (a : Nat) : Rat × Rat :=
  let v := s.availVolts a
  if s.armFull a then (-v, v) else (0, v)

/-- The greatest modulation over the arm's enabled cells under MOD 0 (R186). -/
def State.dutySpread (s : State) (a : Nat) : Rat :=
  (s.armCells a).foldl (fun m c =>
    let d1 := dutyOf (s.outWord (4 * c))
    let d2 := dutyOf (s.outWord (4 * c + 1))
    max m (if s.armFull a then absRat (d1 - d2) else absRat (2 * d1 - 1))) 0

/-- M of an arm (R186). -/
def State.armM (s : State) (a : Nat) : Rat :=
  let v := s.availVolts a
  if v = 0 then 2
  else if s.get (Reg.EDG_ARM_CFG_MOD a) = 0 then s.dutySpread a
  else if s.armFull a then absRat (s.armRef a) / v
  else absRat (2 * s.armRef a / v - 1)

/-- The sign of the level planned for an arm (R157, R190): that of the clamped reference; under MOD 0, that of the sum of the duty
differences (DEDUCED, log 25); +1 for a half-bridge arm and for 0. -/
def State.levelSign (s : State) (a : Nat) : Int :=
  if s.armFull a = false then 1
  else
    let v := if s.get (Reg.EDG_ARM_CFG_MOD a) = 0 then
        (s.eligCells a).foldl (fun x c => x + (dutyOf (s.outWord (4 * c)) - dutyOf (s.outWord (4 * c + 1)))) 0
      else clampRat (s.armRef a) (s.refBounds a).1 (s.refBounds a).2
    if v < 0 then -1 else 1

/-! ### Carriers (R187 to R189) -/

/-- A list put in order. -/
def insertSort {α : Type} (le : α → α → Bool) : List α → List α
  | [] => []
  | x :: r =>
    let rec put : List α → List α
      | [] => [x]
      | y :: t => if le x y then x :: y :: t else y :: put t
    put (insertSort le r)


/-- The carrier's value at a position in its period (R187). -/
def triangle (x : Rat) : Rat := if x < 1 / 2 then 2 * x else 2 - 2 * x

/-- The fractional part. -/
def fracRat (x : Rat) : Rat := x - (x.floor : Rat)

/-- The exact times in (0, P) at which a carrier of period `tc` stands at position `x`; at a it stands at position `p0`, unwrapped. -/
def crossTimes (p0 tc len x : Rat) : List Rat :=
  let k0 := (p0 - x).ceil
  ((List.range 4).map (fun i => ((k0 + (i : Int) : Int) : Rat) + x - p0)).filterMap (fun y =>
    let t := tc * y
    if 0 < t ∧ t < len then some t else none)

/-- The state a carrier leg wants at a, and its exact crossings after a, in order. -/
def carrierLeg (p0 tc len d : Rat) : LegPos × List (Rat × LegPos) :=
  if d ≤ 0 then (.lower, [])
  else if mkRat 0x7FFFFFFF 0x80000000 ≤ d then (.upper, [])
  else
    let downs := (crossTimes p0 tc len (d / 2)).map (fun t => (t, LegPos.lower))
    let ups := (crossTimes p0 tc len (1 - d / 2)).map (fun t => (t, LegPos.upper))
    let x0 := fracRat p0
    let at_ : LegPos := if triangle x0 < d ∨ x0 = 1 - d / 2 then .upper else .lower
    (at_, insertSort (fun e f => decide (e.1 ≤ f.1)) (downs ++ ups))

/-- T_C of an arm in 78.125 ps units. -/
def State.carrierPeriod (s : State) (a : Nat) : Rat := (s.get (Reg.EDG_ARM_CFG_CARPER a) : Rat) * (s.planLength : Rat) / 2

/-- The carrier's position at a, without wrapping: (a − A_C) / T_C + φ. A_C is the tick anchor plus CAD_APPLY_DLY (R187). -/
def State.carrierAt (s : State) (a : Nat) (phi : Rat) : Rat :=
  let ac : Int := (s.cad.anchor : Int) + (s.get Reg.CAD_APPLY_DLY_DLY : Int)
  ((32 * ((s.planStart : Int) - ac) : Int) : Rat) / s.carrierPeriod a + phi

/-- The rank of a cell among the eligible cells of its arm, across the Peloton (R188). -/
def State.carrierRank (s : State) (a c : Nat) : Nat :=
  ((s.shares a).filter (fun d => decide (d.1 < s.get Reg.PEL_STAT_INDEX) && !s.others.isEmpty)).foldl (fun n d => n + d.2.1) 0
    + ((s.eligCells a).filter (fun d => decide (d < c))).length

/-- Duties of legs 1 and 2 and carrier phase of an eligible cell under MOD 0 or 1 (R184, R185, R188). -/
def State.cellDuties (s : State) (a c : Nat) : Rat × Rat × Rat :=
  if s.get (Reg.EDG_ARM_CFG_MOD a) = 0 then
    (dutyOf (s.outWord (4 * c)), dutyOf (s.outWord (4 * c + 1)), mkRat (s.outWord (4 * c + 2)) 0x100000000)
  else
    let m := ratio (clampRat (s.armRef a) (s.refBounds a).1 (s.refBounds a).2) (s.availVolts a)
    let j : Rat := s.carrierRank a c
    let ne : Rat := s.eligTotal a
    if s.get (Reg.SYS_CELL_CFG_LEGS c) = 1 then ((1 + m) / 2, (1 - m) / 2, if s.armFull a then j / (2 * ne) else j / ne)
    else (m, 0, j / ne)

/-! ### The edges of a leg (R193 to R205) -/

/-- An edge under construction: its time, the state it leads to, and whether R201 has moved it. -/
structure WorkEdge where
  t : Int
  dst : LegPos
  moved : Bool := false
deriving DecidableEq, Repr

/-- A leg under construction: its edges, and how many were moved and removed. -/
structure LegWork where
  edges : List WorkEdge := []
  moved : Nat := 0
  removed : Nat := 0
deriving DecidableEq, Repr

/-- What a leg's construction uses: the state the last plan left, P and DT in 78.125 ps units, MINPW, the windows, and the last edge of the
previous plan as an offset from a. -/
structure LegSetting where
  init : LegPos
  len : Int
  dt : Int
  minpw : Int
  wins : List (Int × Int)
  last : Option Int
deriving DecidableEq, Repr

/-- Step 3: exact times to the grid, halves to the even multiple, kept in the interval; an edge at a where the leg is to leave the state it
stands in. A leg has at most four edges: where the edge at a would be a fifth, the leg stands as it stood until its first crossing that
changes it (R190, R193, R194, R198; DEDUCED, log 26). -/
def quantised (k : LegSetting) (want : LegPos) (cross : List (Rat × LegPos)) : List WorkEdge :=
  let es : List WorkEdge := cross.map (fun e => ⟨min (roundHalfEven e.1.num e.1.den) (k.len - 1), e.2, false⟩)
  if want = k.init then es
  else if es.length < 4 then ⟨0, want, false⟩ :: es
  else match es with
    | [] => []
    | e :: r => if e.dst = k.init then r else e :: r

/-- Step 4: edges that the dead time would delay, earlier by DT, not before a nor before the edge in front (R196; DEDUCED, log 26).
`sgn` is the sign of the leg current, 0 where no compensation applies. -/
def compensate (sgn : Int) (dt : Int) : LegPos → Int → List WorkEdge → List WorkEdge
  | _, _, [] => []
  | from_, prev, e :: r =>
    let acts := (decide (0 < sgn) && from_ == .upper && e.dst == .lower) || (decide (sgn < 0) && from_ == .lower && e.dst == .upper)
    let t := if acts then max prev (e.t - dt) else e.t
    ⟨t, e.dst, false⟩ :: compensate sgn dt e.dst t r

/-- The upper switch's time in the interval. -/
def upperTime (len : Int) : LegPos → Int → List WorkEdge → Int
  | st, t0, [] => if st = .upper then len - t0 else 0
  | st, t0, e :: r => (if st = .upper then e.t - t0 else 0) + upperTime len e.dst e.t r

/-- An edge lies in a window: its transition span meets it (R195, R200). -/
def inWindow (dt t : Int) (w : Int × Int) : Bool := decide (t < w.2) && decide (w.1 < t + dt)

/-- Two consecutive edges removed. Where the first starts the leg from off, the leg still reaches the second's state, at the first's time
(R203: a leg ends its interval in the state it was given; DEDUCED, log 26). -/
def LegWork.drop (k : LegSetting) (l : LegWork) (i : Nat) : LegWork :=
  match l.edges[i]?, l.edges[i + 1]? with
  | some e, some f =>
    if i = 0 ∧ k.init = .off then
      { l with edges := ({ e with dst := f.dst } :: l.edges.drop 2), removed := l.removed + 1 }
    else { l with edges := (l.edges.eraseIdx (i + 1)).eraseIdx i, removed := l.removed + 2 }
  | _, _ => l

/-- The edges that lie in a window. -/
def LegWork.inside (k : LegSetting) (l : LegWork) (w : Int × Int) : List Nat :=
  (List.range l.edges.length).filter (fun i => match l.edges[i]? with | none => false | some e => inWindow k.dt e.t w)

/-- R204: while two or more edges lie in a window, the earliest pair goes. -/
def LegWork.pairs (k : LegSetting) (w : Int × Int) : Nat → LegWork → LegWork
  | 0, l => l
  | fuel + 1, l =>
    match l.inside k w with
    | i :: _ :: _ => LegWork.pairs k w fuel (l.drop k i)
    | _ => l

/-- Where an edge alone in a window goes (R201, R203). -/
def windowTarget (k : LegSetting) (lead : Bool) (w : Int × Int) : Int :=
  let t := if lead then (if w.1 - k.dt < 0 then w.2 else w.1 - k.dt)
    else (if k.len ≤ w.2 + k.dt then w.1 - k.dt else w.2)
  clampInt t 0 (k.len - 1)

/-- The open ranges a shifted companion `j` may not enter: outside the interval, windows, and less than MINPW from another edge (R202). -/
def LegWork.barred (k : LegSetting) (l : LegWork) (j : Nat) : List (Int × Int) :=
  let gap := max k.minpw 1
  (k.wins.map (fun w => (w.1 - k.dt, w.2)))
    ++ ((List.range l.edges.length).filter (fun i => i != j)).filterMap (fun i =>
      (l.edges[i]?).map (fun e => (e.t - gap, e.t + gap)))

/-- How far a companion at `t` follows a shift `d` (R202). -/
def companionShift (len t d : Int) (bars : List (Int × Int)) : Int :=
  if bars.any (fun b => decide (b.1 < t) && decide (t < b.2)) then 0
  else if d < 0 then
    bars.foldl (fun m b => if b.2 ≤ t then max m (b.2 - t) else m) (max d (-t))
  else
    bars.foldl (fun m b => if t ≤ b.1 then min m (b.1 - t) else m) (min d (len - 1 - t))

/-- R202: the companion of edge `i`, moved by `d`, follows it, unless it lies in a window itself or R201 has moved it. -/
def LegWork.companion (k : LegSetting) (l : LegWork) (i : Nat) (lead : Bool) (d : Int) : LegWork :=
  if lead = false ∧ i = 0 then l
  else
    let j := if lead then i + 1 else i - 1
    match l.edges[j]? with
    | none => l
    | some e =>
      if e.moved || k.wins.any (inWindow k.dt e.t) then l
      else
        let m := companionShift k.len e.t d (l.barred k j)
        if m = 0 then l else { l with edges := l.edges.set j { e with t := e.t + m }, moved := l.moved + 1 }

/-- R201, R203: the edge that lies alone in a window. -/
def LegWork.alone (k : LegSetting) (w : Int × Int) (l : LegWork) : LegWork :=
  match l.inside k w with
  | [i] =>
    match l.edges[i]? with
    | none => l
    | some e =>
      let lead := e.dst == LegPos.upper
      let t := windowTarget k lead w
      let hitsPrev := decide (t < e.t) && decide (0 < i) && (match l.edges[i - 1]? with | none => false | some p => decide (t ≤ p.t))
      let hitsNext := decide (e.t < t) && (match l.edges[i + 1]? with | none => false | some n => decide (n.t ≤ t))
      if hitsPrev then l.drop k (i - 1)
      else if hitsNext then l.drop k i
      else if t = e.t then l
      else LegWork.companion k { l with edges := l.edges.set i ⟨t, e.dst, true⟩, moved := l.moved + 1 } i lead (t - e.t)
  | _ => l

/-- Step 5: every window opened, earliest first. -/
def LegWork.openWindows (k : LegSetting) (l : LegWork) : LegWork :=
  k.wins.foldl (fun l w => (LegWork.pairs k w l.edges.length l).alone k w) l

/-- The first pulse between two edges shorter than MINPW; a pulse of no width is one (R197, R258). -/
def LegWork.shortPulse (k : LegSetting) (l : LegWork) : Option Nat :=
  (List.range (l.edges.length - 1)).find? (fun i =>
    match l.edges[i]?, l.edges[i + 1]? with
    | some e, some f => decide (f.t - e.t < max k.minpw 1)
    | _, _ => false)

/-- R197: short pulses removed, the earliest first, each removal checked again. -/
def LegWork.minPulses (k : LegSetting) : Nat → LegWork → LegWork
  | 0, l => l
  | fuel + 1, l =>
    match l.shortPulse k with
    | none => l
    | some i => LegWork.minPulses k fuel (l.drop k i)

/-- A position in a window moved to the window's end. -/
def pastWindows (k : LegSetting) (t : Int) : Int := k.wins.foldl (fun t w => if inWindow k.dt t w then w.2 else t) t

/-- R197: the first edge against the last edge of the previous dispatched plan. -/
def LegWork.firstEdge (k : LegSetting) : Nat → LegWork → LegWork
  | 0, l => l
  | fuel + 1, l =>
    match k.last, l.edges with
    | some p, [e] =>
      if e.t - p < k.minpw then { l with edges := [{ e with t := pastWindows k (p + k.minpw) }], moved := l.moved } else l
    | some p, e :: _ :: _ => if e.t - p < k.minpw then LegWork.firstEdge k fuel (l.drop k 0) else l
    | _, _ => l

/-- Steps 3 to 7 of R193 for one leg: its plan, its counts, and its remainder (R205). -/
def buildLeg (k : LegSetting) (sgn : Int) (want : LegPos) (cross : List (Rat × LegPos)) : LegPlan × LegWork × Int :=
  let e4 := compensate sgn k.dt k.init 0 (quantised k want cross)
  let l5 := LegWork.openWindows k { edges := e4 }
  let l6 := (LegWork.minPulses k l5.edges.length l5)
  let l7 := LegWork.firstEdge k l6.edges.length l6
  ({ init := k.init, edges := l7.edges.map (fun e => (e.t, e.dst)) }, l7,
    upperTime k.len k.init 0 e4 - upperTime k.len k.init 0 l7.edges)

/-! ### Windows and what the last plan left (R197, R198, R200) -/

/-- Overlapping windows of an ordered list merged. -/
def mergeWindows : List (Int × Int) → List (Int × Int)
  | [] => []
  | w :: r =>
    match mergeWindows r with
    | [] => [w]
    | v :: r' => if v.1 < w.2 then (w.1, max w.2 v.2) :: r' else w :: v :: r'

/-- The windows of the sampling instants of the ticks around the application interval, as offsets from a (R59, R200). -/
def State.windows (s : State) : List (Int × Int) :=
  if s.slotsMax = 0 then []
  else
    let g : Int := s.get Reg.EDG_TIMING_GUARD
    let dly : Int := s.get Reg.CAD_APPLY_DLY_DLY
    let p : Int := s.get Reg.CAD_PERIOD_PERIOD
    let ws := (List.range 5).flatMap (fun n => s.instants.map (fun o =>
      let t : Int := ((n : Int) - 1) * p - dly + (o : Int)
      (32 * (t - g), 32 * (t + 40 * ((s.slotsMax : Int) - 1) + g))))
    mergeWindows (insertSort (fun x y => decide (x.1 ≤ y.1)) ws)

/-- The plan last dispatched to a cell; none where its arm has been blocked since (R198, R236). -/
def State.lastPlan (s : State) (c : Nat) : Option CellPlan :=
  if s.edg.offArms.testBit (s.cellArm c) then none else tblGet none s.edg.sent c

/-- The state in which a leg plan leaves its leg. -/
def LegPlan.final (l : LegPlan) : LegPos := match l.edges.getLast? with | none => l.init | some e => e.2

/-- The leg's setting for the plan being built. -/
def State.legSetting (s : State) (c : Nat) (second : Bool) : LegSetting :=
  let last := (s.lastPlan c).map (fun p => (p.start, if second then p.leg2 else p.leg1))
  { init := match last with | none => .off | some l => l.2.final
    len := s.planLength
    dt := 32 * (s.get (Reg.EDG_CELL_DT_DT c) : Int)
    minpw := 32 * (s.get Reg.EDG_TIMING_MINPW : Int)
    wins := s.windows
    last := match last with
      | none => none
      | some l => (l.2.edges.getLast?).map (fun e => 32 * ((l.1 : Int) - (s.planStart : Int)) + e.1) }

/-- The sign of the arm current where dead-time compensation applies, else 0 (R196). A word with NV or OVR compensates nothing (DEDUCED,
log 26). -/
def State.compSign (s : State) (a : Nat) : Int :=
  let i := s.armCurrent a
  if s.on Reg.EDG_CTRL_DTCOMP = false ∨ s.armCurrentBad a = true ∨ absRat i < mkRat (s.get (Reg.CEL_ARM_AUX_IDB a)) 1000 then 0
  else signRat i

/-! ### The plans of an arm (R183, R190, R191) -/

/-- The carry of a leg in 78.125 ps units. -/
def State.carry1 (s : State) (c : Nat) : Int := s.getInt (Reg.EDG_CARRY_LEG1 c)
def State.carry2 (s : State) (c : Nat) : Int := s.getInt (Reg.EDG_CARRY_LEG2 c)

/-- A cell's plan from its two legs' wants and crossings. -/
def State.buildCell (s : State) (a c : Nat) (l1 l2 : LegPos × List (Rat × LegPos)) : BuiltCell × Nat × Nat :=
  let sgn := s.compSign a
  let b1 := buildLeg (s.legSetting c false) sgn l1.1 l1.2
  let two := s.get (Reg.SYS_CELL_CFG_LEGS c) = 1
  let b2 := buildLeg (s.legSetting c true) (-sgn) l2.1 l2.2
  let plan : CellPlan :=
    { start := s.planStart, leg1 := b1.1, leg2 := if two then b2.1 else {}
      dt := s.get (Reg.EDG_CELL_DT_DT c), code := (s.newCode c).1 }
  ({ plan := plan, rem1 := b1.2.2, rem2 := if two then b2.2.2 else 0 },
    b1.2.1.moved + (if two then b2.2.1.moved else 0), b1.2.1.removed + (if two then b2.2.1.removed else 0))

/-- The legs of a cell under phase-shifted carrier (R187 to R189). -/
def State.carrierLegs (s : State) (a c : Nat) : (LegPos × List (Rat × LegPos)) × (LegPos × List (Rat × LegPos)) :=
  let d := s.cellDuties a c
  let dd := s.dutyCorrection a c
  let len : Rat := s.planLength
  let tc := s.carrierPeriod a
  let leg (phi x : Rat) := carrierLeg (s.carrierAt a phi) tc len (clampRat x 0 1)
  if s.get (Reg.SYS_CELL_CFG_LEGS c) = 1 then
    (leg d.2.2 (d.1 + dd / 2 + (s.carry1 c : Rat) / len), leg (d.2.2 - 1 / 2) (d.2.1 - dd / 2 + (s.carry2 c : Rat) / len))
  else (leg d.2.2 (d.1 + dd + (s.carry1 c : Rat) / len), (.off, []))

/-- The legs of a cell under nearest level, inserted or not (R190). -/
def State.levelLegs (s : State) (c : Nat) (sign : Int) (inserted : Bool) : LegPos × LegPos :=
  if s.get (Reg.SYS_CELL_CFG_LEGS c) = 1 then
    (if inserted then (if sign < 0 then (.lower, .upper) else (.upper, .lower)) else (.lower, .lower))
  else (if inserted then .upper else .lower, .off)

/-- The fractional pulse of width `w`, centred on a + P/2 (R191). -/
def pulseLeg (len w : Rat) : LegPos × List (Rat × LegPos) :=
  if w ≤ 0 then (.lower, [])
  else if len ≤ w then (.upper, [])
  else (.lower, [((len - w) / 2, .upper), ((len + w) / 2, .lower)])

/-- The level count of an arm and the discarded fraction, from the clamped reference (R190). -/
def State.levelCount (s : State) (a : Nat) : Nat × Rat :=
  let ne := s.eligTotal a
  if ne = 0 then (0, 0)
  else
    let v := clampRat (s.armRef a) (s.refBounds a).1 (s.refBounds a).2
    let x := if s.availVolts a = 0 then ratio (absRat v) 0 else absRat v * (ne : Rat) / s.availVolts a
    if s.on (Reg.EDG_ARM_CFG_FRAC a) then (x.floor.toNat, x - (x.floor : Rat))
    else ((roundHalfEven x.num x.den).toNat, 0)

/-- Every cell plan of a list kept as built, with the arm's counts. -/
def State.keepBuilt (s : State) (a : Nat) (b : BuiltArm) (cells : List (Nat × BuiltCell × Nat × Nat)) : State :=
  let s1 := cells.foldl (fun s p =>
    ({ s with edg := { s.edg with built := tblSet none s.edg.built p.1 (some p.2.1) } } : State)) s
  let b' := { b with
    moved := cells.foldl (fun n p => n + p.2.2.1) 0
    removed := cells.foldl (fun n p => n + p.2.2.2) 0 }
  { s1 with edg := { s1.edg with builtArms := tblSet none s1.edg.builtArms a (some b') } }

/-- An arm's plan under MOD 0 or 1. -/
def State.planCarrier (s : State) (a : Nat) : State :=
  let v := s.armRef a
  let r := s.refBounds a
  let mode := s.get (Reg.EDG_ARM_CFG_MOD a)
  let cells := (s.eligCells a).map (fun c =>
    let l := s.carrierLegs a c
    (c, s.buildCell a c l.1 l.2))
  s.keepBuilt a { mode := mode, m := s.armM a, limit := mode != 0 && clampRat v r.1 r.2 != v } cells

/-- An arm's plan under MOD 2: level count, insertion set, fractional pulse (R158, R190, R191). -/
def State.planLevel (s : State) (a : Nat) : State :=
  let v := s.armRef a
  let r := s.refBounds a
  let nf := s.levelCount a
  let none_ := s.eligTotal a = 0
  let n := s.localCount a nf.1
  let elig := s.eligCells a
  let ins := s.insertion a (min n elig.length)
  let short := if none_ then decide (v ≠ 0) else decide (elig.length < n)
  let s1 := s.shortTick a short
  let sign := s.levelSign a
  let frac := s.on (Reg.EDG_ARM_CFG_FRAC a) && !none_
  let pick := if frac && s.carriesPulse a nf.1 then (s.sorted a).find? (fun c => !ins.1.contains c) else none
  let len : Rat := s.planLength
  let pulse := pulseLeg len (nf.2 * len + ((s.arm a).carry : Rat))
  let cells := elig.map (fun c =>
    let l := s.levelLegs c sign (ins.1.contains c)
    let two := s.get (Reg.SYS_CELL_CFG_LEGS c) = 1
    if pick = some c then
      (if two ∧ sign < 0 then (c, s.buildCell a c (l.1, []) pulse) else (c, s.buildCell a c pulse (l.2, [])))
    else (c, s.buildCell a c (l.1, []) (l.2, [])))
  s1.keepBuilt a { mode := 2, m := s.armM a, limit := clampRat v r.1 r.2 != v, n := nf.1, set := ins.1, swaps := ins.2,
                   carried := pick.isSome } cells

/-- An arm whose null plan is dispatched: its carries are 0 and the sort sees an empty previous set (R158, R198, R236). -/
def State.armOff (s : State) (a : Nat) : State :=
  (s.armCells a).foldl (fun s c => (s.set (Reg.EDG_CARRY_LEG1 c) 0).set (Reg.EDG_CARRY_LEG2 c) 0)
    (s.modArm a (fun x => { x with carry := 0, lastSet := [] }))

/-- One arm at the Solve deadline: the direction of the tick, then its plan where it is ENABLED; a BLOCKED arm has the null plan, no carry
and an empty previous set (R157, R183, R198, R236). -/
def State.planArm (s : State) (a : Nat) : State :=
  let off := s.edg.offArms.testBit a || !s.bit Reg.TRP_PULSE_EN_EN a
  let s0 := if off then s.armOff a else s
  let notShort (s : State) : State := s.modArm a (fun x => { x with short := false })
  if s.bit Reg.TRP_PULSE_EN_EN a = false then notShort (s0.armDirection a 1)
  else
    let s1 := s0.armDirection a (s0.levelSign a)
    let s2 := if s1.get (Reg.EDG_ARM_CFG_MOD a) = 2 then s1.planLevel a else notShort (s1.planCarrier a)
    if s2.summaryLacks a then { s2 with edg := { s2.edg with incomplete := true } } else s2

/-- SORT and PLAN_BUILD at a Solve deadline whose run has ended: every arm; the plans are complete 160 counts later, 440 with an arm under
MOD 2 (R156, R183, R192). -/
def State.solvePlans (s : State) : State :=
  let s1 := s.markEligible
  let slow := (List.range s.arms).any (fun a => s.get (Reg.EDG_ARM_CFG_MOD a) == 2)
  let s2 : State := { s1 with edg := { s1.edg with
    built := [], builtArms := [], incomplete := false, readyAt := s1.now + (if slow then 440 else 160) } }
  let s3 := (List.range s.arms).foldl (fun s a => s.planArm a) s2
  { s3 with cel := { s3.cel with firstPlan := false } }

/-! ### Dispatch (R198, R199, R205, R236) -/

/-- A carry held within ±CARRYMAX: the carry, and whether anything was discarded (R205). -/
def State.boundCarry (s : State) (x : Int) : Int × Bool :=
  let m : Int := 32 * (s.get Reg.EDG_CARRYMAX_CARRYMAX : Int)
  (clampInt x (-m) m, decide (clampInt x (-m) m ≠ x))

/-- A discarded carry counted. -/
def State.countDrop (s : State) (b : Bool) : State := if b then s.count Reg.EDG_CARRY_DROP_COUNT 1 else s

/-- The carries that a dispatched plan of a cell leaves (R189, R205). -/
def State.cellCarries (s : State) (mode c : Nat) (b : BuiltCell) : State :=
  if mode = 2 ∨ s.on Reg.EDG_CTRL_CARRYEN = false then
    (s.set (Reg.EDG_CARRY_LEG1 c) 0).set (Reg.EDG_CARRY_LEG2 c) 0
  else
    let c1 := s.boundCarry b.rem1
    let c2 := s.boundCarry b.rem2
    (((s.setInt (Reg.EDG_CARRY_LEG1 c) c1.1).setInt (Reg.EDG_CARRY_LEG2 c) c2.1).countDrop c1.2).countDrop c2.2

/-- The arm carry that a dispatched plan under MOD 2 leaves (R191, R205). -/
def State.armCarry (s : State) (a : Nat) (b : BuiltArm) (total : Int) : State :=
  let old := if b.carried then 0 else (s.arm a).carry
  if b.mode ≠ 2 then s
  else if s.on Reg.EDG_CTRL_CARRYEN = false then s.modArm a (fun x => { x with carry := 0 })
  else if s.on (Reg.EDG_ARM_CFG_FRAC a) = false then
    (s.modArm a (fun x => { x with carry := 0 })).countDrop (decide (old + total ≠ 0))
  else
    let c := s.boundCarry (old + total)
    (s.modArm a (fun x => { x with carry := c.1 })).countDrop c.2

/-- The status of an arm after its plan has been dispatched (R158, R186, R205). -/
def State.armStatus (s : State) (a : Nat) (b : BuiltArm) : State :=
  let m := (intOf (b.m * 16384)).toNat
  let s1 := (((s.setBool (Reg.EDG_ARM_STAT_LIMIT a) b.limit).set (Reg.EDG_ARM_STAT_N a) (if b.mode = 2 then min b.n 511 else 0)).set
    (Reg.EDG_ARM_STAT_M a) (min 0xFFFF m))
  let s2 := (s1.count Reg.EDG_WIN_CNT_MOVED b.moved).count Reg.EDG_WIN_CNT_REMOVED b.removed
  if b.mode = 2 then
    ((s2.modArm a (fun x => { x with lastSet := b.set })).set (Reg.CEL_ARM_STAT_NINS a) (min 255 b.set.length)).set
      (Reg.CEL_ARM_STAT_SWAPS a) (min 255 b.swaps)
  else s2

/-- An arm may be dispatched: ENABLED, and not blocked since the last dispatch (R236). -/
def State.armGoes (s : State) (a : Nat) : Bool := s.bit Reg.TRP_PULSE_EN_EN a && !s.edg.offArms.testBit a

/-- The directions of a tick whose run was aborted: from the tick's currents, the level being that of the plans that go on (R157; DEDUCED,
log 155). -/
def State.holdDirections (s : State) : State :=
  let s1 := (List.range s.arms).foldl (fun s a => s.armDirection a (if s.bit Reg.TRP_PULSE_EN_EN a then s.levelSign a else 1)) s
  { s1 with cel := { s1.cel with firstPlan := false } }

/-- The port stands in OPERATE, or did before a loss of alignment (R269, R281). -/
def State.operates (s : State) (p : Nat) : Bool :=
  s.get (Reg.SPK_PSTAT_LSTATE p) == 5 || (s.get (Reg.SPK_PSTAT_LSTATE p) == 6 && (match (s.port p).lossAt with | some (_, o) => o | none => false))

/-- The frame to a port carries BLOCKED: its cell's arm is blocked, or d is being re-formed after Kickstand (R259, R276, R283). -/
def State.frameBlocked (s : State) (p : Nat) : Bool :=
  match s.cellOf p with
  | none => false
  | some c => !s.cellPulses c || (s.operates p && !(s.port p).formed)

/-- The frame to a port carries BYPASS: no cell, a cell bypassed, lost or not admitted, or a link not taken to OPERATE (R259, R269). A unit held
bypassed because its port carried no cell, and given one by a commit, is eligible at once where BYPCAUSE is 0 (R51; DESIGN CHOICE, log 122). -/
def State.frameBypass (s : State) (p : Nat) : Bool :=
  match s.cellOf p with
  | none => true
  | some c => !s.eligible c || !s.operates p

/-- The plan dispatched to a cell, as its frame carries it: the null plan where the frame is BLOCKED or BYPASS or the arm does not go; else the
plan built, or the last one again, with its BYPASS. Of a hold frame's CMD, BLOCKED is that of the arm as it stands, since frames of ENABLED arms
never carry it; dead time and code repeat too where the cell is blocked or bypassed (R198, R199, R236, R258, R259, R276; DESIGN CHOICE, log 72,
142). The code sent is at most CODECAP (R243). -/
def State.cellDispatch (s : State) (hold : Bool) (c : Nat) : CellPlan :=
  let port := s.portOf c
  let blocked := match port with
    | none => !s.cellPulses c
    | some p => s.frameBlocked p
  let bypass := match port with
    | none => !s.eligible c
    | some p => s.frameBypass p
  let cap := s.get Reg.TRP_HL_DVDT_CODECAP
  let last := if hold then tblGet none s.edg.sent c else none
  let fresh : CellPlan := { start := s.planStart, dt := s.get (Reg.EDG_CELL_DT_DT c), code := min (s.get (Reg.CEL_HEALTH_CODE c)) cap,
                            blocked := blocked, bypass := bypass }
  let bare := match last with | none => fresh | some p => { fresh with dt := p.dt, code := p.code }
  if s.armGoes (s.cellArm c) = false ∨ blocked = true ∨ bypass = true then bare
  else if hold then
    match last with
    | none => bare
    | some p => { p with start := s.planStart, blocked := false }
  else
    match tblGet none s.edg.built c with
    | none => bare
    | some b => { b.plan with code := min b.plan.code cap }

/-- The end of the last blanking window that a plan can open, in 1/32 counts (R227). -/
def CellPlan.windowsEnd (p : CellPlan) : Int :=
  (p.leg1.edges ++ p.leg2.edges).foldl (fun m e => max m (32 * ((p.start : Int) + (p.dt : Int) + 255) + e.1)) 0

/-- The dispatched plans whose windows may still count in this tick (R227, R228; DESIGN CHOICE, log 129: the rules do not say how long
a dispatched plan counts). -/
def State.pastPlans (s : State) : List (Nat × CellPlan) :=
  let last := (List.range 96).filterMap (fun c => (tblGet none s.edg.sent c).map (fun p => (c, p)))
  (last ++ s.edg.prior).filter (fun e => decide (32 * (s.cad.tickStart : Int) < e.2.windowsEnd))

/-- The edge scheduler's part of a dispatch: every enabled cell's plan becomes the last dispatched one; a plan that is not a hold leaves
its carries and its status; an arm that does not go is off (R198, R199, R205, R236). -/
def State.dispatchEdges (s : State) (hold : Bool) : State :=
  let cells := (List.range 96).filter (fun c => s.cellOn c)
  let sent := cells.foldl (fun t c => tblSet none t c (some (s.cellDispatch hold c))) ([] : Tbl (Option CellPlan))
  let goes (a : Nat) := s.armGoes a && !hold
  let s1 := if hold then s else
    (List.range 6).foldl (fun s' a =>
      match tblGet none s.edg.builtArms a with
      | none => ((s'.set (Reg.EDG_ARM_STAT_LIMIT a) 0).set (Reg.EDG_ARM_STAT_N a) 0).set (Reg.EDG_ARM_STAT_M a) 0
      | some b =>
        if goes a then
          let bs := (s.armCells a).filterMap (fun c => (tblGet none s.edg.built c).map (fun (x : BuiltCell) => (c, x)))
          let total : Int := bs.foldl (fun (t : Int) (p : Nat × BuiltCell) => t + p.2.rem1 - p.2.rem2) 0
          ((bs.foldl (fun s'' p => s''.cellCarries b.mode p.1 p.2) s').armCarry a b total).armStatus a b
        else s') s
  let m := (List.range 6).foldl (fun m a => match tblGet none s.edg.builtArms a with
    | none => m | some b => if goes a then max m b.m else m) (0 : Rat)
  let s2 := if hold then s1 else s1.set Reg.EDG_STAT_MMAX (min 0xFFFF (intOf (m * 16384)).toNat)
  let s2 := (List.range 6).foldl (fun s' a => if s.armGoes a then s' else s'.armOff a) s2
  { s2 with edg := { s2.edg with
    built := [], builtArms := [], prior := s.pastPlans, sent := sent, offArms := 0, m := if hold then s.edg.m else m } }

/-! ### Delay lines (R206 to R208) -/

/-- A delay line's group out of the path, and a group's trim. -/
def State.dlOut (s : State) (line : Nat) : Nat := tblGet 0 s.dl.outs line
def State.dlTrim (s : State) (g : Nat) : Nat := tblGet 0 s.dl.trims g

/-- The groups of the 13 lines. -/
def dlGroups : Nat := 65

/-- The trim summary of EDG_DLCAL_STAT, and DLRDY and DLFLT. -/
def State.dlSummary (s : State) : State :=
  let ts := (List.range dlGroups).map (fun g => s.dlTrim g)
  let s1 := ((s.set Reg.EDG_DLCAL_STAT_TMAX (ts.foldl max 0)).set Reg.EDG_DLCAL_STAT_TMIN (ts.foldl min 63)).set
    Reg.EDG_DLCAL_STAT_TMEAN (min 16383 (intOf (mkRat ((256 * ts.foldl (fun x y => x + y) 0 : Nat) : Int) dlGroups)).toNat)
  let s2 := if (List.range dlGroups).all (fun g => s.dl.done.testBit g) then s1.set Reg.EDG_STAT_DLRDY 1 else s1
  s2.setBool Reg.EDG_STAT_DLFLT (s.dl.bad != 0)

/-- DL_CAL_STEP: the group out of a line's path, measured as a ring: its trim steps by one towards the target; at the target it waits for
its swap and counts as calibrated; with the trim at an end and still off, DLFLT and a Recoverable fault (R206 to R208). No step while
CALEN is 0. -/
def doDlCalStep (line : Nat) (r : TrimResult) (s : State) : State :=
  if s.on Reg.EDG_CTRL_CALEN = false then s
  else
    let g := 5 * line + s.dlOut line
    let t := s.dlTrim g
    let wasBad := s.dl.bad
    let stuck := (r = .stepUp ∧ t = 63) ∨ (r = .stepDown ∧ t = 0)
    let t' := match r with | .inBand => t | .stepUp => min 63 (t + 1) | .stepDown => t - 1
    let dl := { s.dl with
      trims := tblSet 0 s.dl.trims g t'
      done := if r = .inBand then setBit s.dl.done g else s.dl.done
      swapDue := if r = .inBand then setBit s.dl.swapDue line else s.dl.swapDue
      bad := if r = .inBand then clearBit s.dl.bad g else if stuck then setBit s.dl.bad g else s.dl.bad }
    let s1 := State.dlSummary { s with dl := dl }
    if stuck ∧ wasBad = 0 then s1.fault 48 0 else s1

def execDlCalStep (line : Fin 13) (r : TrimResult) (s : State) : Host.Outcome State Fault Refusal :=
  .next (doDlCalStep line.val r s)

/-- DL_GROUP_SWAP: a group within its target goes into the path for the group that follows it in rotation (R206). -/
def doDlGroupSwap (line : Nat) (s : State) : State :=
  if s.dl.swapDue.testBit line then
    { s with dl := { s.dl with
      outs := tblSet 0 s.dl.outs line ((s.dlOut line + 1) % 5), swapDue := clearBit s.dl.swapDue line } }
  else s

def execDlGroupSwap (line : Fin 13) (s : State) : Host.Outcome State Fault Refusal := .next (doDlGroupSwap line.val s)

/-! ### Registers (R220) -/

/-- A field of a write to EDG that the table calls reserved. -/
def anyReserved (addr v : Nat) : Bool := (fieldsAt addr).any (fun r => r.isRW && !r.allows (r.part v))

/-- EDG_REGISTER_WRITE: CFGERR clears by 1; fields with a reserved value stay and set CFGERR; the others wait for their tick start
(R220). -/
def doEdgRegisterWrite (offset v : Nat) (s : State) : State :=
  let addr := 0x40090000 + offset
  let s1 := s.clearOnes addr v
  let s2 := if anyReserved addr v then s1.set Reg.EDG_STAT_CFGERR 1 else s1
  (s2.awaitAll (allowedParts addr v)).settle

def execEdgRegisterWrite (offset : Fin 16384) (v : Word) (s : State) : Host.Outcome State Fault Refusal :=
  .next (doEdgRegisterWrite offset.val v.toNat s)

/-- EDG_WIN_CNT_READ: both counts read and cleared (R205, R347). -/
def doEdgWinCntRead (s : State) : State :=
  let w := s.get Reg.EDG_WIN_CNT_REMOVED * 65536 + s.get Reg.EDG_WIN_CNT_MOVED
  let s1 := (s.set Reg.EDG_WIN_CNT_REMOVED 0).set Reg.EDG_WIN_CNT_MOVED 0
  { s1 with bus := { s1.bus with readData := w } }

def execEdgWinCntRead (s : State) : Host.Outcome State Fault Refusal := .next (doEdgWinCntRead s)

end Sys2Proof.Machine
end

