-- ==== Sys2Proof/Machine/Pwm.lean ====
section
/-!
DEFINITION. Local PWM (R209 to R221): counters and their events, dead time, triggers, trip inputs, the cut.
-/

namespace Sys2Proof.Machine

/-! ### The waveform -/

/-- The fraction of a whole count that places an edge of channel `n`: CMPA's with CLKDIV 0 (R210). -/
def State.pwmFrac (s : State) (n : Nat) : Nat := if s.get (Reg.PWM_CHCTRL_CLKDIV n) = 0 then s.get (Reg.PWM_CMPA_FRAC n) else 0

/-- The level of output A at the count in which the counter stands (R210): a count equal to CMPA while counting down is not yet below it. -/
def State.pwmWave (s : State) (n : Nat) : State := s.pwmApply n (32 * s.now + s.pwmFrac n) (s.pwmAHigh n)

/-- The shadow copies of PER, CMPA, CMPB and DT of a channel become active (R212). -/
def State.pwmLoad (s : State) (n : Nat) : State :=
  s.activate [Reg.PWM_PER_VALUE n, Reg.PWM_CMPA_FRAC n, Reg.PWM_CMPA_CMPA n, Reg.PWM_CMPB_VALUE n, Reg.PWM_DT_DT n]

/-- A restart point (R217, R218): a cut ends where no cause is active and TRIPF is 0; with a cause active the period that starts is cut. -/
def State.pwmRestart (s : State) (n : Nat) : State :=
  if s.bit Reg.PWM_CTRL_EN n = false then s
  else if s.pwmCause n then
    if (s.chan n).cut = false then s.pwmJudge n
    else if s.get (Reg.PWM_TRIP_TRIPMODE n) = 1 ∧ s.pwmInputCause n = true then s.pwmJudge n
    else (s.set (Reg.PWM_STAT_CBCF n) 1).count (Reg.PWM_STAT_CBCCNT n) 1
  else if s.on (Reg.PWM_STAT_TRIPF n) then s
  else s.modChan n (fun c => { c with cut := false })

/-! ### Events (R213 to R215) -/

/-- The flag of an event, its occurrence counted, and the interrupt at every ETPS-th one (R214). -/
def State.pwmCountEvent (s : State) (n e : Nat) : State :=
  let s1 := (s.putBit (Reg.PWM_STAT_EVTF n) e true).modChan n (fun c => { c with evAfter := tblSet 0 c.evAfter e (s.now + 1) })
  if s.bit (Reg.PWM_EVT_IEN n) e then
    let k := (s.chan n).evCount + 1
    if s.get (Reg.PWM_EVT_ETPS n) ≤ k then (s1.modChan n (fun c => { c with evCount := 0 })).irq (8 + n)
    else s1.modChan n (fun c => { c with evCount := k })
  else s1

/-- The trigger of an event, other than a synchronisation: an urgent conversion of TRGCH (R215). -/
def State.pwmConvert (s : State) (n e : Nat) : State :=
  if s.get (Reg.PWM_EVT_TRGSEL n) = e ∧ s.get (Reg.PWM_EVT_TRGACT n) = 1 then s.urgentRequest (s.get (Reg.PWM_EVT_TRGCH n)) else s

/-- The event of channel `n` is a synchronisation trigger (R215). -/
def State.pwmSyncs (s : State) (n e : Nat) : Bool := s.get (Reg.PWM_EVT_TRGSEL n) == e && s.get (Reg.PWM_EVT_TRGACT n) == 2

/-- A counter stands at 0 and counts upwards: the counter-zero event, with its load and its restart point (R212 to R217). -/
def State.pwmZero (s : State) (n : Nat) : State :=
  let s1 := s.modChan n (fun c => { c with run := true, waitTick := false, zeroAt := s.now })
  let s2 := if s1.get (Reg.PWM_CHCTRL_LOAD n) = 2 then s1 else s1.pwmLoad n
  ((s2.pwmRestart n).pwmWave n).pwmCountEvent n 0

/-- The counter of a channel has been set to 0 in this clock: one clock holds one counter-zero event. -/
def State.pwmAtZero (s : State) (n : Nat) : Bool := (s.chan n).run && (s.chan n).zeroAt == s.now

/-- A synchronisation trigger sets the counter of every enabled channel with SYNCIN to 0; one that waits for its tick start waits on (R213). -/
def State.pwmSync (s : State) : State :=
  (List.range 6).foldl (fun s n =>
    if s.bit Reg.PWM_CTRL_EN n && s.on (Reg.PWM_CHCTRL_SYNCIN n) && !s.pwmAtZero n && !(s.chan n).waitTick then s.pwmZero n else s) s

/-- A counter zero with the synchronisation it may cause: by this channel, or by one that a synchronisation has set to 0. -/
def State.pwmZeroSync (s : State) (n : Nat) : State :=
  let s1 := s.pwmZero n
  if s.pwmSyncs n 0 then s1.pwmSync else s1

/-- The conversions that the counter zeros of this clock ask for, in channel order (R215); `before` is the state before them. -/
def State.pwmConvertZeros (s before : State) : State :=
  (List.range 6).foldl (fun s' n => if s.pwmAtZero n && !before.pwmAtZero n then s'.pwmConvert n 0 else s') s

/-- A tick start sets the counter of every enabled channel with TSYNC to 0, and starts those that wait for it (R213, R215). -/
def State.pwmTick (s : State) : State :=
  ((List.range 6).foldl (fun s n =>
    if s.bit Reg.PWM_CTRL_EN n && (s.on (Reg.PWM_CHCTRL_TSYNC n) || (s.chan n).waitTick) && !s.pwmAtZero n then s.pwmZeroSync n else s)
    s).pwmConvertZeros s

/-- The counts of the divided clock into a period at which an event occurs; none where it does not (R214). -/
def State.pwmEventAt (s : State) (n e : Nat) : Option Nat :=
  let p := s.get (Reg.PWM_PER_VALUE n)
  let a := s.get (Reg.PWM_CMPA_CMPA n)
  let b := s.get (Reg.PWM_CMPB_VALUE n)
  let updown := s.get (Reg.PWM_CHCTRL_MODE n) = 1
  let up (x : Nat) : Option Nat := if x < p ∨ (updown ∧ x = p) then some x else none
  let down (x : Nat) : Option Nat := if updown ∧ 0 < x ∧ x < p then some (2 * p - x) else none
  match e with
  | 0 => some 0
  | 1 => some (if updown then p else p - 1)
  | 2 => up a
  | 3 => down a
  | 4 => up b
  | 5 => down b
  | _ => none

/-- TIME of the next occurrence of an event of a running channel, after the last one taken. -/
def State.pwmNext (s : State) (n e : Nat) : Option Nat :=
  let c := s.chan n
  if c.run = false ∨ s.bit Reg.PWM_CTRL_EN n = false then none
  else
    (s.pwmEventAt n e).map (fun x =>
      let div := 2 ^ s.get (Reg.PWM_CHCTRL_CLKDIV n)
      let first := c.zeroAt + div * x
      let from_ := max c.zeroAt (tblGet 0 c.evAfter e)
      if from_ ≤ first then first
      else
        let per := div * s.pwmPeriod n
        first + per * ((from_ - first + per - 1) / per))

/-- The period event (R212, R217): a load with LOAD 1 and a restart point with RSTPT in up-down mode. A period loaded here applies to the way
down (DESIGN CHOICE, log 27). -/
def State.pwmTop (s : State) (n : Nat) : State :=
  if s.get (Reg.PWM_CHCTRL_MODE n) ≠ 1 then s
  else
    let s1 := if s.get (Reg.PWM_CHCTRL_LOAD n) = 1 then
        let s' := s.pwmLoad n
        s'.modChan n (fun c => { c with zeroAt := s.now - s'.get (Reg.PWM_PER_VALUE n) * 2 ^ s.get (Reg.PWM_CHCTRL_CLKDIV n) })
      else s
    if s.on (Reg.PWM_TRIP_RSTPT n) then s1.pwmRestart n else s1

/-- The waveform after an event other than counter zero: after CMPA down the counter falls below CMPA one count of its clock later; so it does
after CMPA up where CMPA is PER in up-down mode, whose counter turns there (R210). -/
def State.pwmAfter (s : State) (n e : Nat) : State :=
  let later (u : State) : State := u.pwmApply n (32 * (s.now + 2 ^ s.get (Reg.PWM_CHCTRL_CLKDIV n)) + s.pwmFrac n) true
  if e = 3 then later s
  else if e = 2 ∧ s.get (Reg.PWM_CHCTRL_MODE n) = 1 ∧ s.get (Reg.PWM_CMPA_CMPA n) = s.get (Reg.PWM_PER_VALUE n) then later (s.pwmWave n)
  else s.pwmWave n

/-- PWM_COUNTER_EVENT: the next occurrence of an event of a running channel: its loads, restart point, edge, flag, interrupt and trigger
(R212 to R217). -/
def doPwmCounterEvent (n e : Nat) (s : State) : State :=
  match s.pwmNext n e with
  | none => s
  | some t =>
    let s0 := s.reach t
    if e = 0 then (s0.pwmZeroSync n).pwmConvertZeros s0
    else
      let s1 := if e = 1 then s0.pwmTop n else s0
      let s2 := ((s1.pwmAfter n e).pwmCountEvent n e).pwmConvert n e
      if s0.pwmSyncs n e then s2.pwmSync.pwmConvertZeros s2 else s2

def execPwmCounterEvent (n : Fin 6) (e : Fin 6) (s : State) : Host.Outcome State Fault Refusal :=
  .next (doPwmCounterEvent n.val e.val s)

/-- PWM_DEADTIME_END: a turn-on that waited for its dead time takes place (R211). -/
def doPwmDeadtimeEnd (n : Nat) (s : State) : State :=
  match (s.chan n).turnOn with
  | none => s
  | some (isA, t) =>
    let s1 := (s.reach (t / 32)).modChan n (fun c => { c with
      turnOn := none, outA := c.outA || isA, outB := c.outB || !isA })
    s1.emit (.pwm n (s1.chan n).outA (s1.chan n).outB)

def execPwmDeadtimeEnd (n : Fin 6) (s : State) : Host.Outcome State Fault Refusal := .next (doPwmDeadtimeEnd n.val s)

/-! ### Enables (R209, R213, R218) -/

/-- One channel enabled or disabled: enabling starts its counter from 0, at the next tick start with TSYNC; a trip that TRIPF still holds, or a
cause active now, puts it in its trip state; disabling drives both outputs low and keeps TRIPF and CBCF (R213, R217, R218). -/
def State.pwmEnable (s : State) (n : Nat) (en : Bool) : State :=
  if s.bit Reg.PWM_CTRL_EN n = en then s
  else if en then
    let s1 := (s.putBit Reg.PWM_CTRL_EN n true).modChan n (fun c => { c with cut := s.on (Reg.PWM_STAT_TRIPF n) })
    if s.on (Reg.PWM_CHCTRL_TSYNC n) then
      ((s1.modChan n (fun c => { c with waitTick := true })).pwmApply n (32 * s.now) false).pwmJudge n
    else (s1.pwmZeroSync n).pwmConvertZeros s1
  else
    let cnt := s.pwmCounter n
    let s1 := ((s.putBit Reg.PWM_CTRL_EN n false).set (Reg.PWM_CNT_COUNT n) cnt.1).setBool (Reg.PWM_CNT_DIR n) cnt.2
    (s1.modChan n (fun c => { c with run := false, waitTick := false, cut := false })).pwmApply n (32 * s.now) false

/-- PWM_CTRL_WRITE. -/
def doPwmCtrlWrite (v : Nat) (s : State) : State := (List.range 6).foldl (fun s n => s.pwmEnable n (v.testBit n)) s

def execPwmCtrlWrite (v : Word) (s : State) : Host.Outcome State Fault Refusal := .next (doPwmCtrlWrite v.toNat s)

/-! ### Trip inputs (R216 to R219) -/

/-- The input at a pin level is active (POL). -/
def State.tripInActive (s : State) (k : Nat) (level : Bool) : Bool := level == s.on (Reg.PWM_TRIPIN_CFG_POL k)

/-- TRIP_IN[k] has become active after filtering: source 16 + k latches while EN is 1, and the channels that select it are cut (R217,
R231). -/
def State.tripInOnset (s : State) (k : Nat) : State :=
  let s1 := if s.on (Reg.TRP_TIN_CFG_EN k) then s.tripLatch (16 + k) (s.get (Reg.TRP_TIN_CFG_ARMS k)) else s
  s1.pwmJudgeAll

/-- The filtered state of an input set. -/
def State.setFilt (s : State) (k : Nat) (active : Bool) : State :=
  if s.bit Reg.PWM_TRIPIN_STAT_FILT k = active then s
  else
    let s1 := s.putBit Reg.PWM_TRIPIN_STAT_FILT k active
    if active then s1.tripInOnset k else s1

/-- The run of agreeing samples of an input set. -/
def State.setTripRun (s : State) (k r : Nat) : State := { s with pwm := { s.pwm with runs := tblSet 0 s.pwm.runs k r } }

/-- TRIP_INPUT_CHANGE: the pin of input `k` stands at a level for a number of samples. RAW shows the last sample; the filtered state follows
at once with FLEN 0, else once FLEN consecutive samples agree (R216). -/
def doTripInputChange (k : Nat) (level : Bool) (samples : Nat) (s : State) : State :=
  let active := s.tripInActive k level
  let same := s.pwm.pins.testBit k == level
  let s0 : State := { s with pwm := { s.pwm with pins := putBit s.pwm.pins k level } }
  let s1 := if samples = 0 then s0 else s0.putBit Reg.PWM_TRIPIN_STAT_RAW k active
  let flen := s.get (Reg.PWM_TRIPIN_CFG_FLEN k)
  if flen = 0 then (s1.setTripRun k 0).setFilt k active
  else if s.bit Reg.PWM_TRIPIN_STAT_FILT k = active then s1.setTripRun k 0
  else
    let r := (if same then tblGet 0 s.pwm.runs k else 0) + samples
    if flen ≤ r then (s1.setTripRun k 0).setFilt k active else s1.setTripRun k r

def execTripInputChange (k : Fin 8) (level : Bool) (samples : Nat) (s : State) : Host.Outcome State Fault Refusal :=
  .next (doTripInputChange k.val level samples s)

/-- TRIPF_CLEAR: refused while a cause is active; else TRIPF clears and the waveform resumes at the next restart point (R219). -/
def doTripfClear (n : Nat) (s : State) : State := if s.pwmCause n then s else s.set (Reg.PWM_STAT_TRIPF n) 0

def execTripfClear (n : Fin 6) (s : State) : Host.Outcome State Fault Refusal := .next (doTripfClear n.val s)

/-- The status word of a channel, with TRIPACT as it is now. -/
def State.pwmStat (s : State) (n : Nat) : Nat :=
  s.get (Reg.PWM_STAT_CBCCNT n) * 65536 + (if s.pwmCause n then 1024 else 0) + s.get (Reg.PWM_STAT_TRIPF n) * 512
    + s.get (Reg.PWM_STAT_CBCF n) * 256 + s.get (Reg.PWM_STAT_EVTF n)

/-- PWM_CHN_STAT_READ: the status, and CBCCNT cleared by the read (R221, R347). -/
def doPwmChnStatRead (n : Nat) (s : State) : State :=
  let w := s.pwmStat n
  let s1 := s.set (Reg.PWM_STAT_CBCCNT n) 0
  { s1 with bus := { s1.bus with readData := w } }

def execPwmChnStatRead (n : Fin 6) (s : State) : Host.Outcome State Fault Refusal := .next (doPwmChnStatRead n.val s)

/-! ### Register writes (R212, R216, R219, R221) -/

/-- The shadowed fields of a channel's registers. -/
def pwmShadowed (addr : Nat) : Bool :=
  decide (0x400A0100 ≤ addr) && decide (addr < 0x400A0280) && decide (0x4 ≤ addr % 0x40) && decide (addr % 0x40 ≤ 0x10)

/-- PER takes no 0, and in up mode no 1 (PWM_CHn_PER). -/
def State.perAllowed (s : State) (n v : Nat) : Bool := decide (v ≠ 0) && (s.get (Reg.PWM_CHCTRL_MODE n) == 1 || v != 1)

/-- A write to a PWM register without a row of its own: fields with a reserved value stay; the shadowed ones wait for their load, or act at
once with LOAD 2; a trip input's filter starts a run afresh (R212, R216, R221). -/
def State.pwmRegisterWrite (s : State) (addr v : Nat) : State :=
  let n := (addr - 0x400A0100) / 0x40
  if pwmShadowed addr then
    if addr % 0x40 = 4 ∧ s.perAllowed n (v % 65536) = false then s
    else
      let s1 := (rwParts addr v).foldl (fun s p => s.set p.1.shadow p.2) s
      if s.get (Reg.PWM_CHCTRL_LOAD n) = 2 then (s1.pwmLoad n).pwmWave n else s1
  else
    let s1 := (allowedParts addr v).foldl (fun s p => s.set p.1 p.2) s
    if 0x400A0010 ≤ addr ∧ addr < 0x400A0030 then
      let k := (addr - 0x400A0010) / 4
      let s2 := if s.get (Reg.PWM_TRIPIN_CFG_FLEN k) ≠ s1.get (Reg.PWM_TRIPIN_CFG_FLEN k)
          ∨ s.get (Reg.PWM_TRIPIN_CFG_FDIV k) ≠ s1.get (Reg.PWM_TRIPIN_CFG_FDIV k) then s1.setTripRun k 0 else s1
      doTripInputChange k (s2.pwm.pins.testBit k) 0 s2
    else if addr = (Reg.PWM_STAT_TRIPF n).addr then
      let s2 := s1.clearOnes addr (v % 512)
      if v.testBit 9 then doTripfClear n s2 else s2
    else if addr = (Reg.PWM_TRIP_TRIPSEL n).addr then
      let s2 := s1.pwmJudge n
      if (s2.chan n).cut then s2.pwmApply n (32 * s.now) false else s2
    else if addr = (Reg.PWM_CHCTRL_LOAD n).addr ∧ s1.get (Reg.PWM_CHCTRL_LOAD n) = 2 then (s1.pwmLoad n).pwmWave n
    else s1

end Sys2Proof.Machine
end

