-- ==== Sys2Proof/Machine/Trip.lean ====
section
/-!
DEFINITION. Comparators, the trip network and the hard limits (R222 to R251).
-/

namespace Sys2Proof.Machine

/-! ### Comparators (R225, R226) -/

/-- V(code) in units of 0.1 µV (R225). -/
def dacVolts (code : Int) : Int := (code - 512) * 48828

/-- L of the hard-limit clamp, from the lower of IARM and the safety limit ILIM (R226, R395). -/
def State.clampL (s : State) (n : Nat) : Nat :=
  512 * min (s.get Reg.TRP_HL_IARM_LIMIT) (s.safLimit Reg.SAF_S_A_ILIM) / (10 * s.get (Reg.TRP_CMP_THR_FS n))

/-- The thresholds in use, LO′ and HI′ (R226): clamped for KIND 1, as written otherwise. -/
def State.thresholds (s : State) (n : Nat) : Int × Int :=
  let lo : Int := s.get (Reg.TRP_CMP_THR_LO n)
  let hi : Int := s.get (Reg.TRP_CMP_THR_HI n)
  if s.get (Reg.TRP_CMP_CFG_KIND n) = 1 then
    let l : Int := s.clampL n
    (max 0 (max lo (512 - l)), min 1023 (min hi (512 + l)))
  else (lo, hi)

/-- The output of comparator `n` at a level, from the output before (R225). -/
def State.comparatorAt (s : State) (n : Nat) (level : Int) (was : Bool) : Bool :=
  let t := s.thresholds n
  let h := min (s.get (Reg.TRP_CMP_CFG_HYS n) : Int) ((t.2 - t.1) / 2)
  if t.2 < t.1 then true
  else if dacVolts t.2 < level ∨ level < dacVolts t.1 then true
  else if level ≤ dacVolts (t.2 - h) ∧ dacVolts (t.1 + h) ≤ level then false
  else was

/-! ### Blanking (R227, R228) -/

/-- The blanking windows that a dispatched plan opens, in 1/32 counts of TIME. -/
def CellPlan.blankSpans (p : CellPlan) (blank : Nat) : List (Int × Int) :=
  (p.leg1.edges ++ p.leg2.edges).map (fun e =>
    let t : Int := 32 * ((p.start : Int) + (p.dt : Int)) + e.1
    (t, t + 32 * (blank : Int)))

/-- The windows of comparator `n` from the plans dispatched, merged and in order. -/
def State.blankSpans (s : State) (n : Nat) : List (Int × Int) :=
  let blank := s.get (Reg.TRP_CMP_CFG_BLANK n)
  let picked (c : Nat) : Bool := s.cellOn c && s.bit (Reg.TRP_CMP_CFG_BLKSRC n) (s.cellArm c)
  let last := (List.range 96).flatMap (fun c => match tblGet none s.edg.sent c with
    | none => []
    | some p => if picked c then p.blankSpans blank else [])
  let before := s.edg.prior.flatMap (fun e => if picked e.1 then e.2.blankSpans blank else [])
  mergeWindows (insertSort (fun x y => decide (x.1 ≤ y.1)) (before ++ last))

/-- The part of a window that lies in this tick, up to a time. -/
def State.spanInTick (s : State) (upTo : Int) (w : Int × Int) : Int :=
  max 0 (min w.2 upTo - max w.1 (32 * (s.cad.tickStart : Int)))

/-- How long windows of comparator `n` have been open in this tick, in 1/32 counts. -/
def State.blankedFor (s : State) (n : Nat) : Int :=
  (s.blankSpans n).foldl (fun t w => t + s.spanInTick (32 * (s.now : Int)) w) 0

/-- Blanking of the comparator is capped for the rest of the tick (R228). -/
def State.blankCapped (s : State) (n : Nat) : Bool :=
  s.trp.capped.testBit n || decide (32 * (s.get Reg.TRP_CTRL_BLKCAP : Int) ≤ s.blankedFor n)

/-- The comparator is blanked now (R227, R228); BLKCAP 0 turns blanking off. -/
def State.blanked (s : State) (n : Nat) : Bool :=
  s.get Reg.TRP_CTRL_BLKCAP != 0 && !s.blankCapped n
    && (s.blankSpans n).any (fun w => decide (w.1 ≤ 32 * (s.now : Int)) && decide (32 * (s.now : Int) < w.2))

/-- The cap reached in this tick: recorded in BLKOVF (R228). -/
def State.noteCap (s : State) (n : Nat) : State :=
  if s.get Reg.TRP_CTRL_BLKCAP ≠ 0 ∧ s.blankCapped n = true ∧ s.trp.capped.testBit n = false then
    ({ s with trp := { s.trp with capped := setBit s.trp.capped n } } : State).putBit Reg.TRP_CMP_STAT_BLKOVF n true
  else s

/-- An out output that is not blanked latches source n; each latching with CAPEN asks for one urgent conversion, none where a clear of
the same clock is undone (R229, R230, R240). KIND 0 never latches. -/
def State.comparatorLatch (s : State) (n : Nat) : State :=
  let s0 := s.noteCap n
  if s0.bit Reg.TRP_CMP_STAT_OUT n = false ∨ s0.get (Reg.TRP_CMP_CFG_KIND n) = 0 ∨ s0.blanked n = true then s0
  else
    let first := !(s0.undoClear n).tripFlag n
    let s1 := s0.tripLatch n (s0.get (Reg.TRP_CMP_CFG_ARMS n))
    if first && s0.on (Reg.TRP_CMP_CFG_CAPEN n) then s1.urgentRequest n else s1

/-- The output of a comparator judged anew at the level it holds; in Kickstand the comparators are powered down. -/
def State.comparatorJudge (s : State) (n : Nat) : State :=
  if s.inKickstand then s
  else
    let out := s.comparatorAt n (tblGet 0 s.trp.level n) (s.bit Reg.TRP_CMP_STAT_OUT n)
    (s.putBit Reg.TRP_CMP_STAT_OUT n out).comparatorLatch n

/-- The level at a comparator's input changes. -/
def State.comparatorLevel (s : State) (n : Nat) (level : Int) : State :=
  ({ s with trp := { s.trp with level := tblSet 0 s.trp.level n level } } : State).comparatorJudge n

/-- COMPARATOR_OUT: the input of a comparator leaves its band (R225, R229 to R232). -/
def doComparatorOut (n : Nat) (level : Int) (s : State) : State := s.comparatorLevel n level

def execComparatorOut (n : Fin 16) (level : Int) (s : State) : Host.Outcome State Fault Refusal :=
  .next (doComparatorOut n.val level s)

/-- COMPARATOR_IN: the input returns into its band; an output that is in no longer latches, and a flag with LATCH 1 goes at the next tick
start (R225, R229). -/
def doComparatorIn (n : Nat) (level : Int) (s : State) : State := s.comparatorLevel n level

def execComparatorIn (n : Fin 16) (level : Int) (s : State) : Host.Outcome State Fault Refusal :=
  .next (doComparatorIn n.val level s)

/-- The least whole count not before a time in 1/32 counts. -/
def countAfter (t : Int) : Nat := ((t + 31) / 32).toNat

/-- BLANKING_WINDOW_CLOSE: the next window of a comparator to end has ended; an output still out and no longer blanked latches (R229). -/
def doBlankingWindowClose (n : Nat) (s : State) : State :=
  match (s.blankSpans n).find? (fun w => decide (32 * (s.now : Int) < w.2)) with
  | none => s
  | some w => (s.reach (countAfter w.2)).comparatorLatch n

def execBlankingWindowClose (n : Fin 16) (s : State) : Host.Outcome State Fault Refusal := .next (doBlankingWindowClose n.val s)

/-- The time at which windows of this tick, in order, have been open for a number of 1/32 counts in total. -/
def capTime (start : Int) : Int → List (Int × Int) → Option Int
  | _, [] => none
  | left, w :: r =>
    let a := max w.1 start
    if left ≤ max 0 (w.2 - a) then some (a + left) else capTime start (left - max 0 (w.2 - a)) r

/-- BLANKING_CAP_REACHED: the windows of a comparator have been open for BLKCAP counts in this tick: no more blanking in the tick, BLKOVF,
and an output still out latches (R228, R229). -/
def doBlankingCapReached (n : Nat) (s : State) : State :=
  let cap := s.get Reg.TRP_CTRL_BLKCAP
  match capTime (32 * (s.cad.tickStart : Int)) (32 * (cap : Int)) (s.blankSpans n) with
  | none => s
  | some t =>
    if cap = 0 ∨ (s.cad.nextTick.any (fun x => decide (32 * (x : Int) ≤ t))) = true then s
    else (s.reach (countAfter t)).comparatorLatch n

def execBlankingCapReached (n : Fin 16) (s : State) : Host.Outcome State Fault Refusal := .next (doBlankingCapReached n.val s)

/-! ### Activity (R231) -/

/-- Some status bit of the fault collector stands for the block reaction: a Fatal fault, or one escalated to it (R231, source 28, R376). -/
def State.blockFault (s : State) : Bool :=
  (List.range 8).any (fun j =>
    (s.get (Reg.FLT_SRC_SRC j) &&& (classMask 4 j ||| (classMask 3 j &&& s.get (Reg.FLT_ESCD_ESCD j)))) != 0)

/-- The safety functions that demand now, by bit: 0 with SAFE_EN open or an enabled connection without PERMIT, 1 to 4 by their monitors in
Voted mode while enabled in FEN (R391, R393, R398, R407). -/
def State.demactNow (s : State) : Nat :=
  let conn (c : Nat) : SafConn := tblGet {} s.saf.conns c
  let f0 := !s.on Reg.SAF_STAT_SENLVL
    || (List.range 4).any (fun c => s.get (Reg.SAF_C_STAT_CSTATE c) != 0 && !(conn c).permit)
  let f1 := (List.range 16).any (fun n => s.bit Reg.SAF_IIN_IN n && decide (2 ≤ tblGet 0 s.saf.slcRun n))
  let f2 := !s.saf.slvOver.isEmpty || (s.get Reg.SYS_TOPO_TOPO == 3 && decide (2 ≤ s.saf.slvRun))
  let f3 := decide (2 ≤ s.saf.slfRun)
  let f4 := match s.saf.spdSince with
    | none => false
    | some t => decide (t + 400000 * s.safLimit Reg.SAF_S_D_TDIR ≤ s.now)
  let b (v : Bool) (i : Nat) : Nat := if v && s.voted && s.bit Reg.SAF_CTRL_FEN i then 2 ^ i else 0
  (if f0 then 1 else 0) + b f1 1 + b f2 2 + b f3 3 + b f4 4

/-- The estimate dv/dt = V / t is above DVDT: V in 0.1 V, t in 0.1 ns, so V / t is in kV/µs; a time of 0 is above any (R247). -/
def State.dvdtAbove (s : State) (vcap : Int) (t : Nat) : Bool :=
  t = 0 || decide ((s.get Reg.TRP_HL_DVDT_DVDT * t : Nat) < 10 * vcap)

/-- The last unpredicted voltage of a cell is above VCELL × VNOM (R231, R245). -/
def State.cellAbove (s : State) (c : Nat) : Bool :=
  match tblGet none s.trp.cellV c with
  | none => false
  | some v => decide (((s.get Reg.TRP_HL_VCELL_LIMIT * s.vnom c : Nat) : Int) < 1000 * v)

/-- A raw word of the DC-link input exceeds: above VDCMAX × V_DC, or OVR (R246). -/
def State.vdcExceeds (s : State) (word : Nat) : Bool :=
  wordOvr word || decide (mkRat (s.get Reg.TRP_HL_VDC_VDCMAX) 1000 < rawFraction word * mkRat (s.get Reg.TRP_HL_VDC_FS) 100)

/-- A source is active, by the limits as they stand (R231; DEDUCED, log 130). -/
def State.tripActive (s : State) (src : Nat) : Bool :=
  if src < 16 then s.bit Reg.TRP_CMP_STAT_OUT src
  else if src < 24 then s.bit Reg.PWM_TRIPIN_STAT_FILT (src - 16)
  else if src = 24 then s.on Reg.CAD_STAT_HOLDBLK
  else if src = 25 then
    (s.trp.cause25.testBit 0 && !s.running) || (s.trp.cause25.testBit 1 && !s.on Reg.CLE_CTRL_EN)
  else if src = 26 then s.get Reg.GRD_STAT_MODE == 6 || !s.on Reg.GRD_CTRL_EN
  else if src = 27 then (List.range 6).any (fun a => s.armAboveK a) || s.anyBypFail
  else if src = 28 then s.blockFault
  else if src = 29 then s.demactNow != 0
  else if src = 30 then s.pel.noLeader || s.pel.devs.any (fun e => e.2.blkArms != 0)
  else if src = 32 then (List.range 96).any (fun c => s.cellOn c && s.cellAbove c)
  else if src = 33 then s.get Reg.SYS_TOPO_TOPO == 3 && (match s.trp.vdcWord with | none => false | some w => s.vdcExceeds w)
  else if src = 34 then s.spk.ports.any (fun e => (s.cellOf e.1).isSome && match e.2.dvdtLast with | none => false | some (v, t) => s.dvdtAbove v t)
  else if src = 35 then decide (s.pexp < s.measuredP)
  else false

/-- The activity word of sources 0 to 31 or 32 to 63, as TRP_ACT_LO and TRP_ACT_HI read. -/
def State.actWord (s : State) (hi : Bool) : Nat :=
  (List.range 32).foldl (fun w i => if s.tripActive (if hi then 32 + i else i) then setBit w i else w) 0

/-! ### Enabling, blocking and clearing (R223, R231, R240) -/

/-- The first failed check of an enable request for arm `a`; 0 where none fails (R223). A block latched in the same clock fails check 7; check
5 is of the flags before it. -/
def State.enableCheck (s : State) (a : Nat) : Nat :=
  if s.arms ≤ a then 1
  else if s.running = false ∨ s.on Reg.CLE_CTRL_EN = false then 2
  else if s.on Reg.TRP_HL_LOCK_LOCK = false then 3
  else if ((List.range 16).any (fun n => s.get (Reg.TRP_CMP_CFG_KIND n) == 1 && s.bit (Reg.TRP_CMP_CFG_ARMS n) a)) = false then 4
  else if ((List.range 36).any (fun i => s.tripFlag i && (s.blockedBefore i).testBit a)) = true then 5
  else if s.on Reg.SAF_STAT_STARTOK = false then 6
  else if ((List.range 36).any (fun i => s.tripFlag i && (s.tripArms i).testBit a)) = true then 7
  else 0

/-- One arm's request judged: an arm already ENABLED is not judged. -/
def State.enableArm (s : State) (a : Nat) : State :=
  if s.bit Reg.TRP_PULSE_EN_EN a then s
  else if s.enableCheck a = 0 then
    (s.putBit Reg.TRP_PULSE_EN_EN a true).modTrp (fun t => { t with enabledAt := tblSet none t.enabledAt a (some s.now) })
  else (s.putBit Reg.TRP_PULSE_STAT_REFUSED a true).set Reg.TRP_PULSE_STAT_ERR (s.enableCheck a)

/-- PULSE_ENABLE_REQUEST: each arm of the mask is judged (R223); in Kickstand the write is ignored (R239, R485), and in SCRAPPED
TRP does not serve (R511). -/
def doPulseEnableRequest (arms : Nat) (s : State) : State :=
  if s.inKickstand || s.get Reg.LCS_STATE_STATE == 5 then s else (List.range 6).foldl (fun s a => if arms.testBit a then s.enableArm a else s) s

def execPulseEnableRequest (arms : BitVec 6) (s : State) : Host.Outcome State Fault Refusal :=
  .next (doPulseEnableRequest arms.toNat s)

/-- TRP_BLK_REQ: source 31 latches for the arms written; none written, no effect (R231). -/
def doTrpBlkReq (arms : Nat) (s : State) : State := if arms = 0 then s else s.tripLatch 31 arms

def execTrpBlkReq (arms : BitVec 6) (s : State) : Host.Outcome State Fault Refusal := .next (doTrpBlkReq arms.toNat s)

/-- A source flag cleared, with the arms it blocked. -/
def State.dropTripFlag (s : State) (src : Nat) : State :=
  (s.putTripFlag src false).modTrp (fun t => { t with
    blocks := tblSet 0 t.blocks src 0, latched := tblErase t.latched src, cause25 := if src = 25 then 0 else t.cause25 })

/-- The source has latched in this clock. -/
def State.latchedNow (s : State) (src : Nat) : Bool :=
  match tblGet none s.trp.latched src with
  | none => false
  | some (t, _) => t == s.now

/-- One flag written 1: cleared where its source is inactive and has not latched in the same clock, else the refusal counts (R240). The flag
of source 25 is not cleared until RUN and CLE EN are both 1 (R231). -/
def State.clearTripFlag (s : State) (src : Nat) : State :=
  if s.tripFlag src = false then s
  else if s.tripActive src || s.latchedNow src || (src == 25 && !(s.running && s.on Reg.CLE_CTRL_EN)) then s.count Reg.TRP_CLR_REF_COUNT 1
  else (s.dropTripFlag src).modTrp (fun t => { t with cleared := tblSet none t.cleared src (some (s.now, s.tripArms src, s.trp.cause25)) })

/-- TRIP_FLAG_CLEAR: a write to TRP_SRC_LO or TRP_SRC_HI, judged flag by flag (R240). -/
def doTripFlagClear (hi : Bool) (v : Nat) (s : State) : State :=
  (List.range (if hi then 4 else 32)).foldl (fun s i =>
    if v.testBit i then s.clearTripFlag (if hi then 32 + i else i) else s) s

def execTripFlagClear (hi : Bool) (v : Word) (s : State) : Host.Outcome State Fault Refusal :=
  .next (doTripFlagClear hi v.toNat s)

/-- At a tick start: the flags of sources 0 to 23 with LATCH 1 whose source is inactive clear themselves (R229, TRP_TIN_CFG); the caps of
blanking end (R228). -/
def State.tripTick (s : State) : State :=
  let s1 : State := { s with trp := { s.trp with capped := 0 } }
  (List.range 24).foldl (fun s i =>
    let latch := if i < 16 then s.on (Reg.TRP_CMP_CFG_LATCH i) else s.on (Reg.TRP_TIN_CFG_LATCH (i - 16))
    let s' := if i < 16 then s.comparatorLatch i else s
    if latch && s'.tripFlag i && !s'.tripActive i then s'.dropTripFlag i else s') s1

/-! ### Limits judged on values (R245 to R248) -/

/-- CELL_VOLTAGE_LIMIT_CHECK: the voltages reported are kept; an eligible cell with a Report of this tick above VCELL × VNOM latches source 32
for its arm (R245). -/
def State.checkCellVolts (s : State) : State :=
  let reported (c : Nat) : Bool := s.cellOn c && (s.cellPort c).good
  let s1 := s.modTrp (fun t => { t with cellV := (List.range 96).foldl (fun m c =>
    if reported c then tblSet none m c (some (s.cellPort c).data.vcap) else m) t.cellV })
  (List.range 96).foldl (fun s' c =>
    if reported c && s1.cellAbove c && s.eligible c then s'.tripLatch 32 (2 ^ s.cellArm c) else s') s1

/-- DC_LINK_LIMIT_CHECK: a raw word of the DC-link input under TOPO 3; two consecutive exceeding words latch source 33; an NV word neither
exceeds nor breaks a run (R246). -/
def State.checkDcLink (s : State) (input word : Nat) : State :=
  if s.get Reg.SYS_TOPO_TOPO ≠ 3 ∨ s.get Reg.TRP_HL_VDC_IN ≠ input ∨ wordNv word = true then s
  else
    let run := if s.vdcExceeds word then s.trp.vdcRun + 1 else 0
    let s1 := s.modTrp (fun t => { t with vdcRun := run, vdcWord := some word })
    if 2 ≤ run then s1.tripLatch 33 63 else s1

/-- DVDT_CHECK: a Report's valid turn-on and turn-off times; eight consecutive estimates above DVDT latch source 34 for the cell's arm
(R247). -/
def State.checkDvdt (s : State) (p : Nat) (d : CellData) : State :=
  match s.cellOf p with
  | none => s
  | some c =>
    [d.ton, d.toff].foldl (fun s t =>
      let hi := s.dvdtAbove d.vcap t
      let run := if hi then (s.port p).dvdtRun + 1 else 0
      let s1 := s.modPort p (fun x => { x with dvdtRun := run, dvdtLast := some (d.vcap, t) })
      if 8 ≤ run then s1.tripLatch 34 (2 ^ s.cellArm c) else s1) s

/-- EXPORT_LIMIT_TIMEOUT: P has exceeded 1.1 × PEXP for 200 ms (R248). -/
def doExportLimitTimeout (s : State) : State :=
  match s.trp.pexpSince with
  | none => s
  | some t => (s.reach (t + 200 * countsPerMs)).tripLatch 35 63

def execExportLimitTimeout (s : State) : Host.Outcome State Fault Refusal := .next (doExportLimitTimeout s)

/-! ### Hard limits (R241, R242) -/

/-- One refused hard-limit field. -/
def State.hlReject (s : State) : State := s.count Reg.TRP_HL_LOCK_HLREJ 1

/-- A field whose lower value is the tighter one, written after LOCK. -/
def State.tightenLow (s : State) (f : Fld) (v : Nat) : State := if v ≤ s.get f then s.set f v else s.hlReject

/-- A field that takes no other value after LOCK. -/
def State.fixedField (s : State) (f : Fld) (v : Nat) : State := if v = s.get f then s else s.hlReject

/-- The address of a hard-limit register. -/
def hardLimitAddr (r : Sys2Proof.HardLimitReg) : Nat :=
  match r with
  | .iarm => Reg.TRP_HL_IARM_LIMIT.addr
  | .vcell => Reg.TRP_HL_VCELL_LIMIT.addr
  | .pexp => Reg.TRP_HL_PEXP_LIMIT.addr
  | .vdc => Reg.TRP_HL_VDC_VDCMAX.addr
  | .freq => Reg.TRP_HL_FREQ_FMAX.addr
  | .dvdt => Reg.TRP_HL_DVDT_DVDT.addr

/-- The frequency limits written after LOCK: a loosening field stays and counts; a band that would be empty leaves both as they are and
counts (R241, R242). -/
def State.lockedFreq (s : State) (v : Nat) : State :=
  let maxNow := s.get Reg.TRP_HL_FREQ_FMAX
  let minNow := s.get Reg.TRP_HL_FREQ_FMIN
  let hi := v / 65536 % 65536
  let lo := v % 65536
  let hi' := if hi ≤ maxNow then hi else maxNow
  let lo' := if minNow ≤ lo then lo else minNow
  let s1 := if maxNow < hi then s.hlReject else s
  let s2 := if lo < minNow then s1.hlReject else s1
  if hi' ≤ lo' then s2.hlReject else (s2.set Reg.TRP_HL_FREQ_FMAX hi').set Reg.TRP_HL_FREQ_FMIN lo'

/-- A write to a hard-limit register after LOCK, field by field. -/
def State.lockedLimit (s : State) (r : Sys2Proof.HardLimitReg) (v : Nat) : State :=
  match r with
  | .iarm => s.tightenLow Reg.TRP_HL_IARM_LIMIT (v % 65536)
  | .vcell => s.tightenLow Reg.TRP_HL_VCELL_LIMIT (v % 65536)
  | .pexp => s.tightenLow Reg.TRP_HL_PEXP_LIMIT (v % 65536)
  | .vdc => ((s.tightenLow Reg.TRP_HL_VDC_VDCMAX (v % 65536)).fixedField Reg.TRP_HL_VDC_IN (v / 65536 % 32)).fixedField
      Reg.TRP_HL_VDC_FS (v / 2 ^ 22 % 1024)
  | .freq => s.lockedFreq v
  | .dvdt => (s.tightenLow Reg.TRP_HL_DVDT_DVDT (v / 65536 % 65536)).tightenLow Reg.TRP_HL_DVDT_CODECAP (v % 16)

/-- Every comparator judged anew. -/
def State.comparatorJudgeAll (s : State) : State := (List.range 16).foldl (fun s n => s.comparatorJudge n) s

/-- HARD_LIMIT_WRITE: freely before LOCK, tighter only after it; a reserved value leaves the register; FMIN stays below FMAX (R241, R242,
R251). The comparators follow the thresholds in use; another DC-link input begins its check anew. -/
def doHardLimitWrite (r : Sys2Proof.HardLimitReg) (v : Nat) (s : State) : State :=
  let addr := hardLimitAddr r
  if wordAllowed addr v = false then s
  else
    let s1 :=
      if s.on Reg.TRP_HL_LOCK_LOCK then s.lockedLimit r v
      else if r = .freq ∧ v / 65536 % 65536 ≤ v % 65536 then s.hlReject
      else s.storeRW addr v
    (if s1.get Reg.TRP_HL_VDC_IN = s.get Reg.TRP_HL_VDC_IN then s1 else s1.dcLinkAnew).comparatorJudgeAll

def execHardLimitWrite (r : Sys2Proof.HardLimitReg) (v : Word) (s : State) : Host.Outcome State Fault Refusal :=
  .next (doHardLimitWrite r v.toNat s)

/-- HL_LOCK: LOCK is set, until the next power-on reset (R241). -/
def doHlLock (s : State) : State := s.set Reg.TRP_HL_LOCK_LOCK 1

def execHlLock (s : State) : Host.Outcome State Fault Refusal := .next (doHlLock s)

/-- TRP_HL_LOCK_READ: the word, and HLREJ cleared by the read (R251, R347). -/
def doTrpHlLockRead (s : State) : State :=
  let w := s.get Reg.TRP_HL_LOCK_HLREJ * 65536 + s.get Reg.TRP_HL_LOCK_LOCK
  let s1 := s.set Reg.TRP_HL_LOCK_HLREJ 0
  { s1 with bus := { s1.bus with readData := w } }

def execTrpHlLockRead (s : State) : Host.Outcome State Fault Refusal := .next (doTrpHlLockRead s)

/-! ### Register writes (R251) -/

/-- A write to a TRP register without a row of its own: a reserved value, or LO ≥ HI, leaves the register; a comparator is judged anew,
every one that is out where BLKCAP may end its blanking; an input enabled while active latches (R229, R231, R251). -/
def State.trpRegisterWrite (s : State) (addr v : Nat) : State :=
  let s0 := s.clearOnes addr v
  let thr := decide (0x400B0140 ≤ addr) && decide (addr < 0x400B0180)
  if wordAllowed addr v = false ∨ (thr = true ∧ v / 4096 % 1024 ≤ v % 1024) then s0
  else
    let s1 := s0.storeRW addr v
    if addr = Reg.TRP_CTRL_BLKCAP.addr then (List.range 16).foldl (fun s n => s.comparatorLatch n) s1
    else if 0x400B0100 ≤ addr ∧ addr < 0x400B0180 then s1.comparatorJudge (addr / 4 % 16)
    else if 0x400B0180 ≤ addr ∧ addr < 0x400B01A0 then
      let k := (addr - 0x400B0180) / 4
      if s.on (Reg.TRP_TIN_CFG_EN k) = false ∧ s1.on (Reg.TRP_TIN_CFG_EN k) = true ∧ s1.bit Reg.PWM_TRIPIN_STAT_FILT k = true then
        s1.tripLatch (16 + k) (s1.get (Reg.TRP_TIN_CFG_ARMS k))
      else s1
    else s1

end Sys2Proof.Machine
end

