-- ==== Sys2Proof/Machine/Overrun.lean ====
section
/-!
DEFINITION. The answer to an overrun of Solve or Plan (R18, R21).
-/

namespace Sys2Proof.Machine

/-- An overrun of Solve or Plan is answered, once in a tick, CAD_OVR_TICK naming the tick: below HOLDLIM the tick is a hold tick, HOLDCNT counts and a Note fault is raised; else all
pulses are blocked, HOLDBLK is set and a Serious fault is raised (R18, R21). -/
def State.noteOverrun (s0 : State) : State :=
  let s := s0.set Reg.CAD_OVR_TICK_TICK s0.tick
  if s.cad.overrun then s
  else if s.get Reg.CAD_STAT_HOLDCNT < s.get Reg.CAD_CTRL_HOLDLIM then
    let s1 : State := { s with cad := { s.cad with overrun := true, holdTick := true } }
    (s1.count Reg.CAD_STAT_HOLDCNT 1).fault 16 s1.tick
  else
    let s1 : State := { s with cad := { s.cad with overrun := true } }
    ((s1.tripLatch 24 63).set Reg.CAD_STAT_HOLDBLK 1).fault 17 s1.tick

end Sys2Proof.Machine
end

