-- ==== Sys2Proof/Machine/CleArith.lean ====
section
/-!
DEFINITION. The arithmetic of the control engine (R79 to R87) on exact integers: Q1.31 words in units of 2^−31, Q9.62 accumulators in units
of 2^−62, rounding (R85), saturation, the flags and conditions (R84).
-/

namespace Sys2Proof.Machine

/-! ### Registers of the engine -/

/-- W[d] as a signed number of 2^−31. -/
def State.wInt (s : State) (d : Nat) : Int := (tblGet (0 : Word) s.cle.w d).toInt

/-- W[d] as an unsigned number. -/
def State.wNat (s : State) (d : Nat) : Nat := (tblGet (0 : Word) s.cle.w d).toNat

/-- W[d] written. -/
def State.setW (s : State) (d : Nat) (v : Word) : State :=
  { s with cle := { s.cle with w := tblSet (0 : Word) s.cle.w d v } }

/-- W[d] written with the low 32 bits of an integer. -/
def State.setWInt (s : State) (d : Nat) (v : Int) : State := s.setW d (BitVec.ofInt 32 v)

/-- A[d] as a signed number of 2^−62. -/
def State.accInt (s : State) (d : Nat) : Int := (tblGet (0 : BitVec 72) s.cle.acc d).toInt

/-- A[d] written with the low 72 bits of an integer. -/
def State.setAcc (s : State) (d : Nat) (v : Int) : State :=
  { s with cle := { s.cle with acc := tblSet (0 : BitVec 72) s.cle.acc d (BitVec.ofInt 72 v) } }

/-- I[x]. -/
def State.idxNat (s : State) (x : Nat) : Nat := (tblGet (0 : BitVec 12) s.cle.idx x).toNat

/-- I[x] written modulo 4,096. -/
def State.setIdx (s : State) (x v : Nat) : State :=
  { s with cle := { s.cle with idx := tblSet (0 : BitVec 12) s.cle.idx x (BitVec.ofNat 12 v) } }

/-- The flags replaced. -/
def State.setFlags (s : State) (f : CleFlags) : State := { s with cle := { s.cle with flags := f } }

/-! ### Saturation and flags -/

/-- The Q1.31 range (R79). -/
def sat32 (x : Int) : Int := clampInt x (-0x80000000) 0x7FFFFFFF

/-- The Q9.62 range (R79). -/
def sat72 (x : Int) : Int := clampInt x (-0x800000000000000000) 0x7FFFFFFFFFFFFFFFFF

/-- Z, N and V of a result; a V of 1 is counted (R83, R86, R111). -/
def State.flagZnv (s : State) (r : Int) (v : Bool) : State :=
  let s1 := s.setFlags { s.cle.flags with z := decide (r = 0), n := decide (r < 0), v := v }
  if v then s1.count Reg.CLE_SAT_CNT_COUNT 1 else s1

/-- W[d] := sat32(x), with Z, N and V. -/
def State.putW (s : State) (d : Nat) (x : Int) : State := (s.setWInt d (sat32 x)).flagZnv (sat32 x) (sat32 x != x)

/-- W[d] := x, which is in the range, with Z and N, and V as given. -/
def State.putWv (s : State) (d : Nat) (x : Int) (v : Bool) : State := (s.setWInt d x).flagZnv x v

/-- A[d] := sat72(x), with Z, N and V. -/
def State.putAcc (s : State) (d : Nat) (x : Int) : State := (s.setAcc d (sat72 x)).flagZnv (sat72 x) (sat72 x != x)

/-- A condition of R84; a reserved one is undefined where it is used (R91). -/
def CleFlags.holds (f : CleFlags) (cond : Nat) : Bool :=
  match cond with
  | 0 => true
  | 1 => f.z | 2 => !f.z
  | 3 => f.n | 4 => !f.n
  | 5 => f.n || f.z | 6 => !f.n && !f.z
  | 7 => f.v | 8 => !f.v
  | 9 => f.q | 10 => !f.q
  | 11 => f.l | 12 => !f.l
  | _ => false

/-! ### Rounded operations -/

/-- An exact number of 2^−62 rounded to one of 2^−31 (R85). -/
def rnd62 (x : Int) : Int := roundHalfEven x 0x80000000

/-- The quotient of two Q1.31 words other than by 0, rounded to the grid (R83, R85). -/
def divRounded (a b : Int) : Int :=
  if 0 < b then roundHalfEven (a * 0x80000000) b else roundHalfEven (-a * 0x80000000) (-b)

/-- The largest r with r² ≤ n, for r below 2^32. -/
def isqrt (n : Nat) : Nat :=
  (List.range 32).foldl (fun r i => let t := r + 2 ^ (31 - i); if t * t ≤ n then t else r) 0

/-- The square root of a Q1.31 word of 0 or more, rounded to the grid (R83, R85). -/
def sqrtRounded (a : Nat) : Nat :=
  let n := a * 0x80000000
  let r := isqrt n
  if r < n - r * r then r + 1 else r

/-- A shift to the left by n of 1 to 255 places that saturates (R87). -/
def shiftLeftSat (x : Int) (n : Nat) : Int := sat32 (x * 2 ^ n)

/-- The result of SH and whether it saturated, for KIND 0 to 4 (R87). -/
def shiftResult (kind : Nat) (x : Int) (n : Nat) : Int × Bool :=
  if n = 0 then (x, false)
  else match kind with
    | 0 => (shiftLeftSat x n, shiftLeftSat x n != x * 2 ^ n)
    | 1 => (x / 2 ^ n, false)
    | 2 => (roundHalfEven x (2 ^ n), false)
    | 3 => ((bitsOf 32 x / 2 ^ n : Nat), false)
    | _ => (signedOf 32 (bitsOf 32 x * 2 ^ n), false)

/-! ### Sine and cosine (R83): within 4 LSB of the exact value -/

/-- A result of SINCOS for an exact value in units of 2^−60: exactly +1.0 is 0x7FFF_FFFF and exactly −1.0 is 0x8000_0000; any other is a
word within 4 LSB of the exact value, which one being open (R83; log 31). -/
def sinCosWord (exact : Int) (open_ : Nat) : Int :=
  if exact = 2 ^ 60 then 0x7FFFFFFF
  else if exact = -(2 ^ 60) then -0x80000000
  else
    let lo := -((4 * 2 ^ 29 - exact) / 2 ^ 29)
    let hi := (exact + 4 * 2 ^ 29) / 2 ^ 29
    sat32 (lo + (open_ : Int) % (hi - lo + 1))

end Sys2Proof.Machine
end

