-- ==== Sys2Proof/Machine/Cle.lean ====
section
/-!
DEFINITION. The control engine's run and its plain instructions (R75 to R95). Each instruction command is the issue of that instruction as
the next one of the run: it acts only while a run is in progress, no WAITT waits and the Solve deadline has not come; its operands are the
fields of its word.
-/

namespace Sys2Proof.Machine

/-! ### The words of the formats (R81) -/

/-- A word of format R. -/
def encR (op d s t f : Nat) : Word := BitVec.ofNat 32 (op * 2 ^ 26 + d * 2 ^ 22 + s * 2 ^ 18 + t * 2 ^ 14 + f)

/-- A word of format M. -/
def encM (op d : Nat) (m : MemOperand) (fresh unsettled : Bool) : Word :=
  BitVec.ofNat 32 (op * 2 ^ 26 + d * 2 ^ 22 + m.xi * 2 ^ 20 + (if m.xb then 2 ^ 19 else 0) + (if m.inc then 2 ^ 18 else 0)
    + (if fresh then 2 ^ 13 else 0) + (if unsettled then 2 ^ 12 else 0) + m.ofs)

/-- A word of a format whose operand is one number in the low 26 bits. -/
def encWord (op low : Nat) : Word := BitVec.ofNat 32 (op * 2 ^ 26 + low)

/-! ### The run -/

/-- A run is in progress (STATE 2 or 3). -/
def State.cleRunning (s : State) : Bool := s.get Reg.CLE_STAT_STATE == 2 || s.get Reg.CLE_STAT_STATE == 3

/-- TIME of this tick's Solve deadline. -/
def State.solveTime (s : State) : Nat := s.cad.tickStart + s.get Reg.CAD_DL_SOLVE_DL

/-- The next instruction can issue: STATE 2, and its clock lies before the Solve deadline (R77, R80, R90). -/
def State.cleCanIssue (s : State) : Bool :=
  s.get Reg.CLE_STAT_STATE == 2 && decide (max s.now s.cle.issue < s.solveTime)

/-- LAST and MAX for a run that stops at TIME `t`. -/
def State.cleCycles (s : State) (t : Nat) : State :=
  let n := (t - s.cle.runStart) % 0x10000
  (s.set Reg.CLE_CYC_LAST n).set Reg.CLE_CYC_MAX (max n (s.get Reg.CLE_CYC_MAX))

/-- A run stops at TIME `t` without completing: what it has not committed is discarded; a batch that waited for the run's end may drain
(R77, R78, R92, R107). -/
def State.cleDiscard (s : State) (t : Nat) : State :=
  let s1 := s.cleCycles t
  (State.set { s1 with cle := { s1.cle with runObj := [], runOut := [], loops := [], waitUntil := none, wqWait := false } }
    Reg.CLE_STAT_STATE (if s.on Reg.CLE_CTRL_EN then 1 else 0))

/-- The CLE meets an undefined instruction: the run stops, the tick is answered as a Solve overrun, the location is recorded, UNDEF set and
a Recoverable fault raised, with the address as INFO, 16,384 after a fetch past the end (R92; DESIGN CHOICE, log 148). -/
def State.cleUndef (s : State) (word : Word) (past : Bool) : State :=
  let pc := if past then 0 else s.cle.pc
  let s1 := s.cleDiscard (s.now + 1)
  let s2 := ((((s1.set Reg.CLE_STAT_UNDEF 1).set Reg.CLE_UNDEF_PC_PC pc).setBool Reg.CLE_UNDEF_PC_PAST past).set
    Reg.CLE_UNDEF_PC_TICK s.tick).set Reg.CLE_UNDEF_INSN_INSN (if past then 0 else word.toNat)
  (((s2.count Reg.CAD_OVR_SOLVE_COUNT 1).noteOverrun).irq 4).fault 28 s.cle.pc

/-- The issue of an instruction: its clock comes; a fetch past the end, a parity error or an undefined form stops the run; else it takes
its cycles and acts (R80, R91, R386). -/
def State.cleIssue (s : State) (word : Word) (undef : Bool) (cycles : Nat) (f : State → State) : State :=
  if s.cleCanIssue = false then s
  else
    let s1 := s.reach s.cle.issue
    if 16384 ≤ s1.cle.pc then s1.cleUndef 0 true
    else if s1.injected 10 s1.cle.pc then s1.injectionDone.cleUndef word false
    else if s1.cle.progBad.contains s1.cle.pc || undef then s1.cleUndef word false
    else f { s1 with cle := { s1.cle with issue := s1.now + cycles } }

/-! ### Program order and loops (R88, R89) -/

/-- Where the program goes on when the instruction at `e` has executed, and the loops left active: the innermost loop that ends there
repeats, or ends and its encloser is judged likewise. -/
def loopNext (e : Nat) : List CleLoopFrame → Nat × List CleLoopFrame
  | [] => (e + 1, [])
  | f :: rest =>
    if f.last = e then
      if f.left = 0 then loopNext e rest else (f.start + 1, { f with left := f.left - 1 } :: rest)
    else (e + 1, f :: rest)

/-- The program goes on after the instruction at `e`. -/
def State.cleAfter (s : State) (e : Nat) : State :=
  let r := loopNext e s.cle.loops
  { s with cle := { s.cle with pc := r.1, loops := r.2 } }

/-- The program goes on after the present instruction. -/
def State.cleNext (s : State) : State := s.cleAfter s.cle.pc

/-- The present address is the last of an active loop's body (R91). -/
def State.atLoopEnd (s : State) : Bool := s.cle.loops.any (fun f => f.last == s.cle.pc)

/-- An instruction that only computes: it issues, acts, and the program goes on. -/
def State.clePlain (s : State) (word : Word) (undef : Bool) (cycles : Nat) (f : State → State) : State :=
  s.cleIssue word undef cycles (fun s => (f s).cleNext)

def doCleNop (s : State) : State := s.clePlain (encWord 0x01 0) false 1 id

def execCleNop (s : State) : Host.Outcome State Fault Refusal := .next (doCleNop s)

/-- Every entry of a run's uncommitted words put into a table. -/
def commitInto (t : Tbl Word) (from_ : Tbl (Option Word)) (base : Nat) : Tbl Word :=
  from_.foldl (fun t e => match e.2 with | none => t | some v => tblSet (0 : Word) t (e.1 - base) v) t

/-- The commit of END: object state, output words and mailbox-out words together (R76). -/
def State.cleCommit (s : State) : State :=
  let outs := s.cle.runOut.filter (fun e => e.1 < 0xC00)
  let mbx := s.cle.runOut.filter (fun e => !(e.1 < 0xC00))
  { s with cle := { s.cle with
      obj := commitInto s.cle.obj s.cle.runObj 0
      outMap := commitInto s.cle.outMap outs 0
      mbxOut := commitInto s.cle.mbxOut mbx 0xC00
      ended := true } }

/-- END: the run completes and what it wrote is committed (R76). -/
def doCleEnd (s : State) : State :=
  s.cleIssue (encWord 0x02 0) s.atLoopEnd 1 (fun s => (s.reach (s.now + 1)).cleCommit.cleDiscard (s.now + 1))

def execCleEnd (s : State) : Host.Outcome State Fault Refusal := .next (doCleEnd s)

/-- BR: a taken branch ends the loops whose body excludes its target (R89). -/
def doCleBr (cond target : Nat) (s : State) : State :=
  let taken := s.cle.flags.holds cond
  s.cleIssue (encWord 0x03 (cond * 2 ^ 22 + target)) (decide (13 ≤ cond) || s.atLoopEnd) (if taken then 2 else 1) (fun s =>
    if taken then { s with cle := { s.cle with
      pc := target, loops := s.cle.loops.filter (fun f => decide (f.start < target ∧ target ≤ f.last)) } }
    else s.cleNext)

def execCleBr (cond : Fin 16) (target : Fin 16384) (s : State) : Host.Outcome State Fault Refusal :=
  .next (doCleBr cond.val target.val s)

/-- LOOP: a count of 0 skips the body as if its last instruction had executed; else the loop is active for `count` passes (R88). -/
def doCleLoop (count last : Nat) (s : State) : State :=
  s.cleIssue (encWord 0x04 (count * 2 ^ 14 + last)) (decide (last ≤ s.cle.pc ∨ 2 ≤ s.cle.loops.length) || s.atLoopEnd) 1 (fun s =>
    if count = 0 then s.cleAfter last
    else { s with cle := { s.cle with
      pc := s.cle.pc + 1, loops := ⟨s.cle.pc, last, count - 1⟩ :: s.cle.loops } })

def execCleLoop (count : Fin 4096) (last : Fin 16384) (s : State) : Host.Outcome State Fault Refusal :=
  .next (doCleLoop count.val last.val s)

/-- WAITT: the next instruction issues at count max(c + 1, CNT) (R90). -/
def doCleWaitt (cnt : Nat) (s : State) : State :=
  s.cleIssue (encWord 0x06 cnt) false 1 (fun s =>
    let target := s.cad.tickStart + cnt
    if target ≤ s.cle.issue then s.cleNext
    else (State.set { s with cle := { s.cle with waitUntil := some target } } Reg.CLE_STAT_STATE 3).cleNext)

def execCleWaitt (cnt : Fin 65536) (s : State) : Host.Outcome State Fault Refusal := .next (doCleWaitt cnt.val s)

/-- WAITT_RELEASE: the awaited count comes before the Solve deadline (R90). -/
def doWaittRelease (s : State) : State :=
  match s.cle.waitUntil with
  | none => s
  | some t =>
    if s.get Reg.CLE_STAT_STATE ≠ 3 ∨ s.solveTime ≤ max s.now t then s
    else
      let s1 := s.reach t
      State.set { s1 with cle := { s1.cle with waitUntil := none, issue := t } } Reg.CLE_STAT_STATE 2

def execWaittRelease (s : State) : Host.Outcome State Fault Refusal := .next (doWaittRelease s)

/-! ### Memory and maps (R81, R93 to R95) -/

/-- The address of format M. -/
def State.memAddr (s : State) (m : MemOperand) : Nat := ((if m.xb then s.idxNat m.xi else 0) + m.ofs) % 4096

/-- The index register counted on after the access. -/
def State.memInc (s : State) (m : MemOperand) (step : Nat) : State :=
  if m.inc then s.setIdx m.xi (s.idxNat m.xi + step) else s

/-- INC without XB is undefined (R91). -/
def memUndef (m : MemOperand) : Bool := m.inc && !m.xb

/-- A word of data memory. -/
def State.dataWord (s : State) (a : Nat) : Word := tblGet (0 : Word) s.cle.data a

/-- A word of data memory written. -/
def State.setData (s : State) (a : Nat) (v : Word) : State :=
  { s with cle := { s.cle with data := tblSet (0 : Word) s.cle.data a v } }

/-- W[d] := data[a], with the check of its ECC. -/
def State.loadData (s : State) (d a : Nat) : State := (s.cleEcc 7 a (cleOrigin a)).setW d (s.dataWord a)

def doCleLd (d : Nat) (m : MemOperand) (s : State) : State :=
  s.clePlain (encM 0x08 d m false false) (memUndef m) 1 (fun s => (s.loadData d (s.memAddr m)).memInc m 1)

def execCleLd (d : Fin 16) (m : MemOperand) (s : State) : Host.Outcome State Fault Refusal := .next (doCleLd d.val m s)

def doCleSt (d : Nat) (m : MemOperand) (s : State) : State :=
  s.clePlain (encM 0x09 d m false false) (memUndef m) 1
    (fun s => (s.setData (s.memAddr m) (tblGet (0 : Word) s.cle.w d)).memInc m 1)

def execCleSt (d : Fin 16) (m : MemOperand) (s : State) : Host.Outcome State Fault Refusal := .next (doCleSt d.val m s)

/-- LD2: two words into an even pair (R83). -/
def doCleLd2 (d : Nat) (m : MemOperand) (s : State) : State :=
  s.clePlain (encM 0x0A d m false false) (memUndef m || d % 2 == 1) 1 (fun s =>
    let a := s.memAddr m
    ((s.loadData d a).loadData (d + 1) ((a + 1) % 4096)).memInc m 2)

def execCleLd2 (d : Fin 16) (m : MemOperand) (s : State) : Host.Outcome State Fault Refusal := .next (doCleLd2 d.val m s)

def doCleSt2 (d : Nat) (m : MemOperand) (s : State) : State :=
  s.clePlain (encM 0x0B d m false false) (memUndef m || d % 2 == 1) 1 (fun s =>
    let a := s.memAddr m
    ((s.setData a (tblGet (0 : Word) s.cle.w d)).setData ((a + 1) % 4096) (tblGet (0 : Word) s.cle.w (d + 1))).memInc m 2)

def execCleSt2 (d : Fin 16) (m : MemOperand) (s : State) : Host.Outcome State Fault Refusal := .next (doCleSt2 d.val m s)

/-- A word of the input map (R93). -/
def State.inputMap (s : State) (a : Nat) : Word :=
  if a < 0x20 then BitVec.ofNat 32 (s.rawWord a)
  else if a < 0x40 then BitVec.ofNat 32 (s.filtWord (a - 0x20))
  else if a < 0x48 then BitVec.ofNat 32 (s.urgWord (a - 0x40))
  else if (0x80 ≤ a ∧ a < 0xC0) ∨ (0x100 ≤ a ∧ a < 0x440) then tblGet (0 : Word) s.cle.inMap a
  else if 0x800 ≤ a ∧ a < 0x900 then tblGet (0 : Word) s.cle.mbxIn (a - 0x800)
  else if 0xC00 ≤ a ∧ a < 0xD00 then tblGet (0 : Word) s.cle.mbxOut (a - 0xC00)
  else 0

def doCleLdx (d : Nat) (m : MemOperand) (s : State) : State :=
  s.clePlain (encM 0x0C d m false false) (memUndef m) 1 (fun s => (s.setW d (s.inputMap (s.memAddr m))).memInc m 1)

def execCleLdx (d : Fin 16) (m : MemOperand) (s : State) : Host.Outcome State Fault Refusal := .next (doCleLdx d.val m s)

/-- The output map has a word at the address (R95). -/
def outMapHas (a : Nat) : Bool := decide (a < 0x180 ∨ (0x200 ≤ a ∧ a < 0x206) ∨ (0xC00 ≤ a ∧ a < 0xD00))

/-- STX: an output or mailbox-out word, committed at END; other addresses are ignored (R76, R95). -/
def doCleStx (d : Nat) (m : MemOperand) (s : State) : State :=
  s.clePlain (encM 0x0D d m false false) (memUndef m) 1 (fun s =>
    let a := s.memAddr m
    let s1 : State := if outMapHas a then { s with cle := { s.cle with
      runOut := tblSet none s.cle.runOut a (some (tblGet (0 : Word) s.cle.w d)) } } else s
    s1.memInc m 1)

def execCleStx (d : Fin 16) (m : MemOperand) (s : State) : Host.Outcome State Fault Refusal := .next (doCleStx d.val m s)

/-- LDS: a result word as Q1.31, and Q (R94). -/
def doCleLds (d : Nat) (m : MemOperand) (fresh unsettled : Bool) (s : State) : State :=
  s.clePlain (encM 0x0E d m fresh unsettled) (memUndef m || decide (0x48 ≤ s.memAddr m)) 1 (fun s =>
    let w := (s.inputMap (s.memAddr m)).toNat
    let bad := w.testBit 31 || w.testBit 30 || (unsettled && w.testBit 29)
    let s1 := (s.setWInt d ((w % 0x1000000 * 256 : Nat) : Int)).setFlags
      { s.cle.flags with q := if fresh then bad else s.cle.flags.q || bad }
    s1.memInc m 1)

def execCleLds (d : Fin 16) (m : MemOperand) (fresh unsettled : Bool) (s : State) : Host.Outcome State Fault Refusal :=
  .next (doCleLds d.val m fresh unsettled s)

/-! ### Arithmetic (R83 to R87) -/

/-- A sum or difference: saturated, or modulo 2^32 with V 0. -/
def State.putSum (s : State) (d : Nat) (x : Int) (wrap : Bool) : State :=
  if wrap then s.putWv d (BitVec.ofInt 32 x).toInt false else s.putW d x

/-- The F bit of a function. -/
def fBit (b : Bool) : Nat := if b then 1 else 0

def doCleAdd (d a b : Nat) (wrap : Bool) (s : State) : State :=
  s.clePlain (encR 0x10 d a b (fBit wrap)) false 1 (fun s => s.putSum d (s.wInt a + s.wInt b) wrap)

def execCleAdd (d s t : Fin 16) (wrap : Bool) (st : State) : Host.Outcome State Fault Refusal :=
  .next (doCleAdd d.val s.val t.val wrap st)

def doCleSub (d a b : Nat) (wrap : Bool) (s : State) : State :=
  s.clePlain (encR 0x11 d a b (fBit wrap)) false 1 (fun s => s.putSum d (s.wInt a - s.wInt b) wrap)

def execCleSub (d s t : Fin 16) (wrap : Bool) (st : State) : Host.Outcome State Fault Refusal :=
  .next (doCleSub d.val s.val t.val wrap st)

def doCleNeg (d a : Nat) (s : State) : State :=
  s.clePlain (encR 0x12 d a 0 0) false 1 (fun s => s.putW d (-s.wInt a))

def execCleNeg (d s : Fin 16) (st : State) : Host.Outcome State Fault Refusal := .next (doCleNeg d.val s.val st)

def doCleAbs (d a : Nat) (s : State) : State :=
  s.clePlain (encR 0x13 d a 0 0) false 1 (fun s => s.putW d (s.wInt a).natAbs)

def execCleAbs (d s : Fin 16) (st : State) : Host.Outcome State Fault Refusal := .next (doCleAbs d.val s.val st)

def doCleMul (d a b : Nat) (s : State) : State :=
  s.clePlain (encR 0x14 d a b 0) false 1 (fun s => s.putW d (rnd62 (s.wInt a * s.wInt b)))

def execCleMul (d s t : Fin 16) (st : State) : Host.Outcome State Fault Refusal := .next (doCleMul d.val s.val t.val st)

/-- DIV: by 0 the end of the range by the dividend's sign, 0 for 0 / 0, V and CLE_DZ_CNT; else the rounded quotient (R86). -/
def doCleDiv (d a b : Nat) (s : State) : State :=
  s.clePlain (encR 0x15 d a b 0) false 12 (fun s =>
    let x := s.wInt a
    let y := s.wInt b
    if y = 0 then
      (s.putWv d (if 0 < x then 0x7FFFFFFF else if x < 0 then -0x80000000 else 0) true).count Reg.CLE_DZ_CNT_COUNT 1
    else s.putW d (divRounded x y))

def execCleDiv (d s t : Fin 16) (st : State) : Host.Outcome State Fault Refusal := .next (doCleDiv d.val s.val t.val st)

def doCleMinmax (d a b : Nat) (mx : Bool) (s : State) : State :=
  s.clePlain (encR 0x16 d a b (fBit mx)) false 1 (fun s =>
    s.putW d (if mx then max (s.wInt a) (s.wInt b) else min (s.wInt a) (s.wInt b)))

def execCleMinmax (d s t : Fin 16) (max : Bool) (st : State) : Host.Outcome State Fault Refusal :=
  .next (doCleMinmax d.val s.val t.val max st)

/-- CLAMP: a lower bound above the upper bound yields the lower bound. -/
def doCleClamp (d a b : Nat) (s : State) : State :=
  s.clePlain (encR 0x17 d a b 0) false 1 (fun s => s.putW d (clampInt (s.wInt d) (s.wInt a) (s.wInt b)))

def execCleClamp (d s t : Fin 16) (st : State) : Host.Outcome State Fault Refusal := .next (doCleClamp d.val s.val t.val st)

def doCleMovi (d : Nat) (imm : BitVec 18) (s : State) : State :=
  s.clePlain (encR 0x18 d 0 0 imm.toNat) false 1 (fun s => s.setW d (imm ++ (0 : BitVec 14)))

def execCleMovi (d : Fin 16) (imm : BitVec 18) (s : State) : Host.Outcome State Fault Refusal := .next (doCleMovi d.val imm s)

def doCleMovl (d : Nat) (imm : BitVec 14) (s : State) : State :=
  s.clePlain (encR 0x19 d 0 0 imm.toNat) false 1 (fun s => s.setW d ((tblGet (0 : Word) s.cle.w d).extractLsb' 14 18 ++ imm))

def execCleMovl (d : Fin 16) (imm : BitVec 14) (s : State) : Host.Outcome State Fault Refusal := .next (doCleMovl d.val imm s)

def doCleMov (d a : Nat) (s : State) : State :=
  s.clePlain (encR 0x1A d a 0 0) false 1 (fun s => s.setW d (tblGet (0 : Word) s.cle.w a))

def execCleMov (d s : Fin 16) (st : State) : Host.Outcome State Fault Refusal := .next (doCleMov d.val s.val st)

/-- SH: the places come from AMT, or from W[T][7:0] with REG 1; the field left unused must be 0 (R81, R87). -/
def doCleSh (d a b amt : Nat) (reg : Bool) (kind : Nat) (s : State) : State :=
  s.clePlain (encR 0x1B d a b (amt * 256 + (if reg then 128 else 0) + kind))
    (decide (5 ≤ kind) || (if reg then amt != 0 else b != 0)) 1 (fun s =>
    let n := if reg then s.wNat b % 256 else amt
    let r := shiftResult kind (s.wInt a) n
    s.putWv d r.1 r.2)

def execCleSh (d s t : Fin 16) (amt : Fin 64) (reg : Bool) (kind : Fin 8) (st : State) : Host.Outcome State Fault Refusal :=
  .next (doCleSh d.val s.val t.val amt.val reg kind.val st)

def doCleLogic (d a b op : Nat) (s : State) : State :=
  s.clePlain (encR 0x1C d a b op) (op == 3) 1 (fun s =>
    let x := tblGet (0 : Word) s.cle.w a
    let y := tblGet (0 : Word) s.cle.w b
    let r := if op = 0 then x &&& y else if op = 1 then x ||| y else x ^^^ y
    s.putWv d r.toInt false)

def execCleLogic (d s t : Fin 16) (op : Fin 4) (st : State) : Host.Outcome State Fault Refusal :=
  .next (doCleLogic d.val s.val t.val op.val st)

def doCleCmp (a b : Nat) (s : State) : State :=
  s.clePlain (encR 0x1D 0 a b 0) false 1 (fun s => s.flagZnv (s.wInt a - s.wInt b) false)

def execCleCmp (s t : Fin 16) (st : State) : Host.Outcome State Fault Refusal := .next (doCleCmp s.val t.val st)

def doCleSel (d a b cond : Nat) (s : State) : State :=
  s.clePlain (encR 0x1E d a b cond) (decide (13 ≤ cond)) 1 (fun s =>
    s.setW d (tblGet (0 : Word) s.cle.w (if s.cle.flags.holds cond then a else b)))

def execCleSel (d s t : Fin 16) (cond : Fin 16) (st : State) : Host.Outcome State Fault Refusal :=
  .next (doCleSel d.val s.val t.val cond.val st)

/-- SETX: the field that SRC leaves unused must be 0 (R81). -/
def doCleSetx (index a : Nat) (src : Bool) (imm : BitVec 12) (s : State) : State :=
  s.clePlain (encR 0x1F index a 0 ((if src then 4096 else 0) + imm.toNat)) (if src then imm != 0 else a != 0) 1 (fun s =>
    s.setIdx index (if src then s.wNat a else imm.toNat))

def execCleSetx (index : Fin 4) (s : Fin 16) (src : Bool) (imm : BitVec 12) (st : State) : Host.Outcome State Fault Refusal :=
  .next (doCleSetx index.val s.val src imm st)

/-! ### Accumulators -/

def doCleMac (d a b : Nat) (s : State) : State :=
  s.clePlain (encR 0x20 d a b 0) false 1 (fun s => s.putAcc d (s.accInt d + s.wInt a * s.wInt b))

def execCleMac (d s t : Fin 16) (st : State) : Host.Outcome State Fault Refusal := .next (doCleMac d.val s.val t.val st)

def doCleMsu (d a b : Nat) (s : State) : State :=
  s.clePlain (encR 0x21 d a b 0) false 1 (fun s => s.putAcc d (s.accInt d - s.wInt a * s.wInt b))

def execCleMsu (d s t : Fin 16) (st : State) : Host.Outcome State Fault Refusal := .next (doCleMsu d.val s.val t.val st)

/-- DMAC: two products of register pairs added at once (R83). -/
def doCleDmac (d a b : Nat) (zero : Bool) (s : State) : State :=
  s.clePlain (encR 0x22 d a b (fBit zero)) (a % 2 == 1 || b % 2 == 1) 1 (fun s =>
    s.putAcc d ((if zero then 0 else s.accInt d) + s.wInt a * s.wInt b + s.wInt (a + 1) * s.wInt (b + 1)))

def execCleDmac (d s t : Fin 16) (zero : Bool) (st : State) : Host.Outcome State Fault Refusal :=
  .next (doCleDmac d.val s.val t.val zero st)

def doCleMpy (d a b : Nat) (s : State) : State :=
  s.clePlain (encR 0x23 d a b 0) false 1 (fun s => s.putAcc d (s.wInt a * s.wInt b))

def execCleMpy (d s t : Fin 16) (st : State) : Host.Outcome State Fault Refusal := .next (doCleMpy d.val s.val t.val st)

/-- ALD: W[S] exactly, or 0 with S 0 (R83). -/
def doCleAld (d a : Nat) (clear : Bool) (s : State) : State :=
  s.clePlain (encR 0x24 d a 0 (fBit clear)) (clear && a != 0) 1 (fun s => s.putAcc d (if clear then 0 else s.wInt a * 0x80000000))

def execCleAld (d s : Fin 16) (clear : Bool) (st : State) : Host.Outcome State Fault Refusal :=
  .next (doCleAld d.val s.val clear st)

def doCleExt (d a k : Nat) (s : State) : State :=
  s.clePlain (encR 0x25 d a 0 k) (decide (9 ≤ k)) 1 (fun s => s.putW d (rnd62 (s.accInt a * 2 ^ k)))

def execCleExt (d s : Fin 16) (k : Fin 16) (st : State) : Host.Outcome State Fault Refusal := .next (doCleExt d.val s.val k.val st)

def doCleAadd (d a b : Nat) (minus : Bool) (s : State) : State :=
  s.clePlain (encR 0x26 d a b (fBit minus)) false 1 (fun s =>
    s.putAcc d (if minus then s.accInt a - s.accInt b else s.accInt a + s.accInt b))

def execCleAadd (d s t : Fin 16) (minus : Bool) (st : State) : Host.Outcome State Fault Refusal :=
  .next (doCleAadd d.val s.val t.val minus st)

/-- SINCOS: cosine and sine of π × W[S] into an even pair, each within 4 LSB (R83; log 31). -/
def doCleSincos (d a : Nat) (s : State) : State :=
  s.clePlain (encR 0x28 d a 0 0) (d % 2 == 1) 4 (fun s =>
    let w := tblGet (0 : Word) s.cle.w a
    let e := cosSinScaled (mkRat w.toInt (2 ^ 31))
    (s.setWInt d (sinCosWord e.1 (Config.cosOpen w))).setWInt (d + 1) (sinCosWord e.2 (Config.sinOpen w)))

def execCleSincos (d s : Fin 16) (st : State) : Host.Outcome State Fault Refusal := .next (doCleSincos d.val s.val st)

/-- SQRT: 0 with V for a negative value (R86). -/
def doCleSqrt (d a : Nat) (s : State) : State :=
  s.clePlain (encR 0x29 d a 0 0) false 8 (fun s =>
    let x := s.wInt a
    if x < 0 then s.putWv d 0 true else s.putWv d (sqrtRounded x.toNat) false)

def execCleSqrt (d s : Fin 16) (st : State) : Host.Outcome State Fault Refusal := .next (doCleSqrt d.val s.val st)

/-! ### Undefined instructions (R91, R92) -/

/-- The opcodes that R82 defines. -/
def opDefined (op : Nat) : Bool :=
  decide ((1 ≤ op ∧ op ≤ 6) ∨ (8 ≤ op ∧ op ≤ 0x26 ∧ op ≠ 0x0F) ∨ op = 0x28 ∨ op = 0x29)

/-- UNDEFINED_INSTRUCTION: the word fetched at the present address is undefined (R92). -/
def doUndefinedInstruction (word : Word) (s : State) : State := s.cleIssue word true 1 id

def execUndefinedInstruction (word : Word) (s : State) : Host.Outcome State Fault Refusal := .next (doUndefinedInstruction word s)

end Sys2Proof.Machine
end

