-- ==== Sys2Proof/Machine/CleObject.lean ====
section
/-!
DEFINITION. The loop objects of the control engine and RUNO (R96 to R104). Words are signed numbers of 2^−31; products and sums are exact
integers in units of 2^−62 (2^−63 with the integrator).
-/

namespace Sys2Proof.Machine

/-- A word of the object store as this run sees it: its own uncommitted write, else the committed word (R101). -/
def State.objWord (s : State) (a : Nat) : Word :=
  match tblGet none s.cle.runObj a with
  | some v => v
  | none => tblGet (0 : Word) s.cle.obj a

/-- Word `w` of object `n`, signed. -/
def State.objInt (s : State) (n w : Nat) : Int := (s.objWord (16 * n + w)).toInt

/-- Word `w` of object `n` written, uncommitted until END (R76). -/
def State.setObj (s : State) (n w : Nat) (v : Int) : State :=
  { s with cle := { s.cle with runObj := tblSet none s.cle.runObj (16 * n + w) (some (BitVec.ofInt 32 v)) } }

/-! ### The header (R96, R97) -/

def hdrType (h : Word) : Nat := h.toNat % 8
def hdrMan (h : Word) : Bool := h.toNat.testBit 3
def hdrWasMan (h : Word) : Bool := h.toNat.testBit 4
def hdrHist (h : Word) : Bool := h.toNat.testBit 6
def hdrSup (h : Word) : Bool := h.toNat.testBit 7
def hdrGsh (h : Word) : Nat := (h.toNat >>> 8) % 16
def hdrIn (h : Word) : Nat := (h.toNat >>> 16) % 16
def hdrOut (h : Word) : Nat := (h.toNat >>> 20) % 16
def hdrIn2 (h : Word) : Nat := (h.toNat >>> 24) % 16

/-- The header's bits kept by the CLE written: HIST (6), LIM (5) or WASMAN (4). -/
def State.setHdr (s : State) (n bit : Nat) (b : Bool) : State :=
  s.setObj n 0 ((Sys2Proof.putBit (s.objWord (16 * n)).toNat bit b : Nat) : Int)

/-- A PI or PR object. -/
def isControl (h : Word) : Bool := hdrType h == 1 || hdrType h == 2

/-- RUNO on object `n` is undefined (R97). -/
def State.objUndef (s : State) (n : Nat) : Bool :=
  let h := s.objWord (16 * n)
  let ty := hdrType h
  ty == 0 || ty == 7
    || (h.toNat >>> 28) != 0 || (h.toNat >>> 12) % 16 != 0
    || decide (8 < hdrGsh h)
    || (!(isControl h || ty == 3) && hdrGsh h != 0)
    || (!(isControl h || ty == 6) && hdrIn2 h != 0)
    || (!isControl h && (hdrMan h || hdrSup h))
    || (hdrSup h && ((s.objWord (16 * n + 15)).toNat % 0x10000 == 0 || decide (s.objInt n 14 < 0)))

/-- Supervision runs for the object (R103). -/
def State.supervised (s : State) (n : Nat) : Bool :=
  isControl (s.objWord (16 * n)) && hdrSup (s.objWord (16 * n)) && s.on Reg.CLE_CTRL_SUPEN

/-- The cycles of RUNO (R100). -/
def State.runoCycles (s : State) (n : Nat) : Nat :=
  let base := match hdrType (s.objWord (16 * n)) with
    | 1 => 8 | 2 => 12 | 3 => 6 | 4 => 3 | 5 => 4 | _ => 10
  if s.supervised n then base + 3 else base

/-! ### Supervision (R103, R104) -/

/-- IMPLAUSIBILITY: the object's bit, CLE_IMPL_STAT, a Recoverable fault and the interrupt. It stands where its run is aborted afterwards
(R104, R290; DESIGN CHOICE, log 150). -/
def State.implausible (s : State) (n : Nat) : State :=
  ((((s.putBit (Reg.CLE_IMPL_OBJ (n / 32)) (n % 32) true).set Reg.CLE_IMPL_STAT_OBJ n).count Reg.CLE_IMPL_STAT_COUNT 1).irq 4).fault 29 n

/-- The supervision of a PI or PR object, before U is updated: the residual against the plant model, its count, and the implausibility when
the count comes to CNTLIM (R103). -/
def State.supervise (s : State) (n u yp : Nat) (fb : Int) : State :=
  if s.supervised n = false then s
  else
    let s1 :=
      if hdrHist (s.objWord (16 * n)) = false then s
      else
        let pred := sat32 (rnd62 (s.objInt n 11 * s.objInt n yp + s.objInt n 12 * s.objInt n u))
        let r := sat32 (fb - pred)
        let w15 := (s.objWord (16 * n + 15)).toNat
        let cnt := w15 / 0x10000
        let lim := w15 % 0x10000
        if s.objInt n 14 < r.natAbs then
          let c := min (cnt + 1) 65535
          let s2 := s.setObj n 15 ((c * 0x10000 + lim : Nat) : Int)
          if c = lim ∧ cnt ≠ lim then s2.implausible n else s2
        else s.setObj n 15 ((lim : Nat) : Int)
    (s1.setObj n yp fb).setHdr n 6 true

/-! ### The types (R99, R100) -/

/-- W[OUT], LIM and the flag L at the end of an object. -/
def State.objDone (s : State) (n out : Nat) (y : Int) (lim : Bool) : State :=
  let s1 := (s.setHdr n 5 lim).setWInt out y
  s1.setFlags { s1.cle.flags with l := lim }

/-- The integrator of a PI, in units of 2^−63 (words 6 and 7). -/
def State.integrator (s : State) (n : Nat) : Int := s.objInt n 6 * 0x100000000 + ((s.objWord (16 * n + 7)).toNat : Int)

/-- The integrator written, saturated to its range. -/
def State.setIntegrator (s : State) (n : Nat) (x : Int) : State :=
  let y := clampInt x (-0x8000000000000000) 0x7FFFFFFFFFFFFFFF
  (s.setObj n 6 (y / 0x100000000)).setObj n 7 (y % 0x100000000)

/-- PI (R99). -/
def State.runPi (s : State) (n : Nat) (h : Word) (ref fb : Int) : State :=
  let e := sat32 (ref - fb)
  let g : Int := 2 ^ hdrGsh h
  let p := 2 * (s.objInt n 1 * e * g)
  let umax := s.objInt n 3
  let umin := s.objInt n 4
  let u0 := s.objInt n 10
  let s1 := s.supervise n 10 13 fb
  if hdrMan h then
    let u := clampInt (s.objInt n 5) umin umax
    ((s1.setHdr n 4 true).setObj n 10 u).objDone n (hdrOut h) u (u != s.objInt n 5)
  else
    let i := if hdrWasMan h then u0 * 0x100000000 - p else s.integrator n + 2 * (s.objInt n 2 * e * g)
    let v := sat32 (roundHalfEven (p + i) 0x100000000)
    let u := clampInt v umin umax
    let i' := if u = v then i else u * 0x100000000 - p
    (((s1.setHdr n 4 false).setIntegrator n i').setObj n 10 u).objDone n (hdrOut h) u (u != v)

/-- PR (R99). -/
def State.runPr (s : State) (n : Nat) (h : Word) (ref fb : Int) : State :=
  let e := sat32 (ref - fb)
  let g : Int := 2 ^ hdrGsh h
  let umax := s.objInt n 5
  let umin := s.objInt n 6
  let u0 := s.objInt n 10
  let s1 := s.supervise n 10 13 fb
  if hdrMan h then
    let u := clampInt (s.objInt n 7) umin umax
    ((s1.setHdr n 4 true).setObj n 10 u).objDone n (hdrOut h) u (u != s.objInt n 7)
  else if hdrWasMan h then
    let r := sat32 (roundHalfEven (u0 * 0x80000000 - s.objInt n 1 * e * g) (0x80000000 * g))
    let u := clampInt u0 umin umax
    ((((s1.setHdr n 4 false).setObj n 8 r).setObj n 9 r).setObj n 10 u).objDone n (hdrOut h) u (u != u0)
  else
    let r := sat32 (rnd62 (s.objInt n 2 * e + 2 * s.objInt n 3 * s.objInt n 8 - s.objInt n 4 * s.objInt n 9))
    let v := sat32 (rnd62 ((s.objInt n 1 * e + r * 0x80000000) * g))
    let u := clampInt v umin umax
    (((s1.setObj n 9 (s.objInt n 8)).setObj n 8 r).setObj n 10 u).objDone n (hdrOut h) u (u != v)

/-- LEADLAG (R100). -/
def State.runLeadlag (s : State) (n : Nat) (h : Word) (x : Int) : State :=
  let v := sat32 (rnd62 (2 ^ hdrGsh h * (s.objInt n 1 * x + s.objInt n 2 * s.objInt n 4) - s.objInt n 3 * s.objInt n 5))
  let y := clampInt v (s.objInt n 7) (s.objInt n 6)
  ((s.setObj n 4 x).setObj n 5 y).objDone n (hdrOut h) y (y != v)

/-- LIMIT (R100). -/
def State.runLimit (s : State) (n : Nat) (h : Word) (x : Int) : State :=
  let y := clampInt x (s.objInt n 1) (s.objInt n 2)
  s.objDone n (hdrOut h) y (y != x)

/-- RATE: a negative bound acts as 0 (R100). -/
def State.runRate (s : State) (n : Nat) (h : Word) (x : Int) : State :=
  let d := x - s.objInt n 3
  let c := clampInt d (-(max (s.objInt n 2) 0)) (max (s.objInt n 1) 0)
  let y := s.objInt n 3 + c
  (s.setObj n 3 y).objDone n (hdrOut h) y (c != d)

/-- OBS: both states from the old ones, then both outputs (R100). -/
def State.runObs (s : State) (n : Nat) (h : Word) (x meas : Int) : State :=
  let x1 := s.objInt n 9
  let x2 := s.objInt n 10
  let e := sat32 (meas - x1)
  let y1 := sat32 (rnd62 (s.objInt n 1 * x1 + s.objInt n 2 * x2 + s.objInt n 5 * x + s.objInt n 7 * e))
  let y2 := sat32 (rnd62 (s.objInt n 3 * x1 + s.objInt n 4 * x2 + s.objInt n 6 * x + s.objInt n 8 * e))
  (((s.setObj n 9 y1).setObj n 10 y2).objDone n (hdrOut h) y1 false).setWInt ((hdrOut h + 1) % 16) y2

/-- The words that RUNO reads of an object (R98). -/
def State.objReads (s : State) (n : Nat) : List Nat :=
  let own := match hdrType (s.objWord (16 * n)) with
    | 1 => [0, 1, 2, 3, 4, 5, 6, 7, 10]
    | 2 => [0, 1, 2, 3, 4, 5, 6, 7, 8, 9, 10]
    | 3 => [0, 1, 2, 3, 4, 5, 6, 7]
    | 4 => [0, 1, 2]
    | 5 => [0, 1, 2, 3]
    | _ => [0, 1, 2, 3, 4, 5, 6, 7, 8, 9, 10]
  if s.supervised n then own ++ [11, 12, 13, 14, 15] else own

/-- The words of an object that RUNO reads have their ECC checked (R386). -/
def State.objEcc (s : State) (n : Nat) : State := (s.objReads n).foldl (fun s w => s.cleEcc 8 (16 * n + w) (cleOrigin (16 * n + w))) s

/-- An object run by its type; the inputs are read first (R99 to R101). -/
def State.runObject (s : State) (n : Nat) : State :=
  let h := s.objWord (16 * n)
  let x := s.wInt (hdrIn h)
  let y := s.wInt (hdrIn2 h)
  let s0 := s.objEcc n
  match hdrType h with
  | 1 => s0.runPi n h x y
  | 2 => s0.runPr n h x y
  | 3 => s0.runLeadlag n h x
  | 4 => s0.runLimit n h x
  | 5 => s0.runRate n h x
  | _ => s0.runObs n h x y

/-- RUNO (R96 to R104). -/
def doCleRuno (obj : Nat) (s : State) : State :=
  s.clePlain (encWord 0x05 (obj * 2 ^ 18)) (s.objUndef obj) (s.runoCycles obj) (fun s => s.runObject obj)

def execCleRuno (obj : Fin 256) (s : State) : Host.Outcome State Fault Refusal := .next (doCleRuno obj.val s)

end Sys2Proof.Machine
end

