-- ==== Sys2Proof/Machine/CleBus.lean ====
section
/-!
DEFINITION. The control engine from the bus (R78, R105 to R111): its write queue, program store, mailboxes and control register; the start
and the end of a run as Cadence sees them; the decoding of its program words (R81, R82, R91).
-/

namespace Sys2Proof.Machine

/-! ### Run start and abort (R75, R77) -/

/-- RUN: with EN 1 and RUN 1 a run starts at this Acquire deadline: registers, flags and loop stack cleared, the first instruction at
CLE_ENTRY (R75). Where none starts, a held batch that waits for a run's end waits no longer (R106, R107; DEDUCED, log 151). -/
def State.cleStart (s : State) : State :=
  if s.on Reg.CLE_CTRL_EN && s.running then
    State.set { s with cle := { s.cle with
      w := [], acc := [], idx := [], flags := {}, loops := [], pc := s.get Reg.CLE_ENTRY_ENTRY, runStart := s.now, issue := s.now,
      waitUntil := none, ended := false, started := true, runObj := [], runOut := [] } } Reg.CLE_STAT_STATE 2
  else { s with cle := { s.cle with ended := false, started := false, wqWait := false } }

/-- A run that has not completed at the Solve deadline is aborted as a Solve overrun (R77, R18); DONE is updated. -/
def State.cleSolve (s : State) : State :=
  let s1 := if s.cleRunning then ((s.cleDiscard s.now).count Reg.CAD_OVR_SOLVE_COUNT 1).noteOverrun else s
  if s.cle.started then s1.setBool Reg.CLE_STAT_DONE s1.cle.ended else s1

/-! ### The write queue (R106 to R108) -/

/-- WQLVL follows the queue. -/
def State.wqLevel (s : State) : State := s.set Reg.CLE_STAT_WQLVL s.cle.wq.length

/-- CLE_MEMORY_BUS_WRITE: the write enters the queue; with 64 entries in it the write is dropped and WQOVF set (R106, R108). -/
def doCleMemoryBusWrite (word : Sys2Proof.CleMemWord) (v : Word) (s : State) : State :=
  if 64 ≤ s.cle.wq.length then s.set Reg.CLE_STAT_WQOVF 1
  else State.wqLevel { s with cle := { s.cle with wq := s.cle.wq ++ [(word, v)] } }

def execCleMemoryBusWrite (word : Sys2Proof.CleMemWord) (v : Word) (s : State) : Host.Outcome State Fault Refusal :=
  .next (doCleMemoryBusWrite word v s)

/-- The queue may drain now: no run is in progress, HOLDW is 0, and no held batch waits for a run's end (R106, R107). -/
def State.wqDrains (s : State) : Bool := !s.cleRunning && !s.on Reg.CLE_CTRL_HOLDW && !s.cle.wqWait

/-- WRITE_QUEUE_DRAIN: the oldest write reaches its word in one cycle; a header write clears HIST (R96, R106). -/
def doWriteQueueDrain (s : State) : State :=
  match s.cle.wq with
  | [] => s
  | (word, v) :: rest =>
    if s.wqDrains = false then s
    else
      let s1 := s.reach (s.now + 1)
      let s2 : State := { s1 with cle := { s1.cle with wq := rest } }
      let s3 : State := match word with
        | .data a => s2.setData a v
        | .object a => { s2 with cle := { s2.cle with
            obj := tblSet (0 : Word) s2.cle.obj a (if a.val % 16 = 0 then v &&& (~~~(0x40 : Word)) else v) } }
      s3.wqLevel

def execWriteQueueDrain (s : State) : Host.Outcome State Fault Refusal := .next (doWriteQueueDrain s)

/-- TIME of the next Acquire deadline, if ticks run: with EN set before it, a run starts there. -/
def State.nextAcquire (s : State) : Option Nat :=
  if s.running = false then none
  else if s.cad.inTick ∧ s.get Reg.CAD_STAT_PHASE = 0 then some (s.cad.tickStart + s.get Reg.CAD_DL_ACQ_DL)
  else s.cad.nextTick.map (fun t => t + s.get Reg.CAD_DL_ACQ_DL)

/-- HOLDW_CLEAR: the held batch drains if it can do so completely before the next Acquire deadline, one word per cycle; else it waits for
the next END or abort (R107). -/
def doHoldwClear (s : State) : State :=
  if s.on Reg.CLE_CTRL_HOLDW = false then s
  else
    let fits : Bool := match s.nextAcquire with
      | none => true
      | some t => s.cleRunning || decide (s.now + s.cle.wq.length ≤ t)
    let s1 := s.set Reg.CLE_CTRL_HOLDW 0
    { s1 with cle := { s1.cle with wqWait := !fits } }

def execHoldwClear (s : State) : Host.Outcome State Fault Refusal := .next (doHoldwClear s)

/-! ### The program store (R109) -/

/-- CLE_PADDR moves on. -/
def State.paddrOn (s : State) : State := s.set Reg.CLE_PADDR_ADDR (s.get Reg.CLE_PADDR_ADDR + 1)

/-- CLE_PDATA_WRITE: the word at CLE_PADDR is written with good parity; while EN is 1 it is ignored and PWERR set; either way the address
moves on by one (R109). -/
def doClePdataWrite (v : Word) (s : State) : State :=
  if s.on Reg.CLE_CTRL_EN then (s.set Reg.CLE_STAT_PWERR 1).paddrOn
  else
    let a := s.get Reg.CLE_PADDR_ADDR
    State.paddrOn { s with cle := { s.cle with
      prog := tblSet (0 : Word) s.cle.prog a v, progBad := s.cle.progBad.filter (fun x => x != a) } }

def execClePdataWrite (v : Word) (s : State) : Host.Outcome State Fault Refusal := .next (doClePdataWrite v s)

/-- CLE_PDATA_READ: the word at CLE_PADDR; the address moves on (R109). -/
def doClePdataRead (s : State) : State := (s.answer (tblGet (0 : Word) s.cle.prog (s.get Reg.CLE_PADDR_ADDR)).toNat).paddrOn

def execClePdataRead (s : State) : Host.Outcome State Fault Refusal := .next (doClePdataRead s)

/-! ### Mailboxes (R110) -/

/-- MAILBOX_COPY: the staging copy becomes active at a tick start that is at least 40 counts after the request, or at once while RUN is 0
(R110, R549). A staging write of the clock of the copy stays staged and is copied at a later one. -/
def doMailboxCopy (s : State) : State :=
  match s.cle.mbxReq with
  | none => s
  | some t =>
    if s.requestDue t = false then s
    else
      let at_ := if s.running then s.cad.tickStart else s.now
      let s1 : State := { s with cle := { s.cle with mbxCopied := some at_ } }
      match s.cle.mbxNow with
      | none => State.set { s1 with cle := { s1.cle with mbxIn := s.cle.mbxStage, mbxReq := none } } Reg.CLE_MBX_CTRL_PEND 0
      | some (w, before) =>
        if s.running = true ∧ w = at_ then { s1 with cle := { s1.cle with mbxIn := before, mbxReq := some at_ } }
        else State.set { s1 with cle := { s1.cle with mbxIn := s.cle.mbxStage, mbxReq := none } } Reg.CLE_MBX_CTRL_PEND 0

def execMailboxCopy (s : State) : Host.Outcome State Fault Refusal := .next (doMailboxCopy s)

/-- MAILBOX_COMMIT: the copy is requested; a request made while one is pending merges into it; while RUN is 0 the copy is made at once
(R110). -/
def doMailboxCommit (s : State) : State :=
  let s1 : State := if s.cle.mbxReq = none then
    State.set { s with cle := { s.cle with mbxReq := some s.now } } Reg.CLE_MBX_CTRL_PEND 1 else s
  if s.running then s1 else doMailboxCopy s1

def execMailboxCommit (s : State) : Host.Outcome State Fault Refusal := .next (doMailboxCommit s)

/-- A write to the mailbox-in window goes to the staging copy; one in the clock of the copy asks for the copy again, which is made at once
while RUN is 0 (R110). -/
def State.stageMailbox (s : State) (a : Nat) (v : Word) : State :=
  let before := match s.cle.mbxNow with
    | none => s.cle.mbxStage
    | some (t, b) => if t = s.now then b else s.cle.mbxStage
  let s1 : State := { s with cle := { s.cle with
    mbxStage := tblSet (0 : Word) s.cle.mbxStage a v, mbxNow := some (s.now, before) } }
  if s.cle.mbxCopied = some s.now then doMailboxCommit s1 else s1

/-! ### Control (R78, R111) -/

/-- CLE_EN_CLEAR: EN goes to 0: a run in progress stops at once, what it has not committed is discarded, and enabled pulses are blocked
(R78; source 25, R231). -/
def doCleEnClear (s : State) : State :=
  if s.on Reg.CLE_CTRL_EN = false then s
  else
    let s0 := s.set Reg.CLE_CTRL_EN 0
    let s1 := if s.cleRunning then s0.cleDiscard s.now else s0.set Reg.CLE_STAT_STATE 0
    let s2 : State := { s1 with cle := { s1.cle with wqWait := false } }
    if s.pulsesEnabled then
      let s3 : State := { s2 with trp := { s2.trp with cause25 := setBit s2.trp.cause25 1 } }
      s3.tripLatch 25 63
    else s2

def execCleEnClear (s : State) : Host.Outcome State Fault Refusal := .next (doCleEnClear s)

/-- CYCCLR: MAX in CLE_CYC cleared. -/
def doCycclr (s : State) : State := s.set Reg.CLE_CYC_MAX 0

def execCycclr (s : State) : Host.Outcome State Fault Refusal := .next (doCycclr s)

/-- CLE_IMPL_STAT_READ: COUNT and OBJ; the read clears COUNT (R111, R347). -/
def doCleImplStatRead (s : State) : State :=
  (s.answer (s.get Reg.CLE_IMPL_STAT_COUNT * 0x10000 + s.get Reg.CLE_IMPL_STAT_OBJ)).set Reg.CLE_IMPL_STAT_COUNT 0

def execCleImplStatRead (s : State) : Host.Outcome State Fault Refusal := .next (doCleImplStatRead s)

/-- A write to CLE_CTRL: each field by its own rule; a batch that HOLDW releases is judged with the EN of the same write (R107). -/
def State.cleCtrlWrite (s : State) (v : Nat) : State :=
  let s1 := s.setBool Reg.CLE_CTRL_SUPEN (v.testBit 2)
  let s2 := if v.testBit 3 then doCycclr s1 else s1
  let s3 := if v.testBit 0 = false then doCleEnClear s2
    else if s2.on Reg.CLE_CTRL_EN then s2 else (s2.set Reg.CLE_CTRL_EN 1).set Reg.CLE_STAT_STATE 1
  if v.testBit 1 then s3.set Reg.CLE_CTRL_HOLDW 1 else doHoldwClear s3

/-- A write to a register of block CLE, by its offset. -/
def State.cleRegisterWrite (s : State) (offset v : Nat) : State :=
  if offset = 0 then s.cleCtrlWrite v
  else if offset = 0x24 then doClePdataWrite (BitVec.ofNat 32 v) s
  else if offset = 0x28 then if v.testBit 0 then doMailboxCommit s else s
  else (s.storeAllowed (0x40060000 + offset) v).clearOnes (0x40060000 + offset) v

/-! ### The decoding of a program word (R81, R82, R91) -/

/-- The operand of format M, and whether the bits it leaves unused are 0; FR and U are used only by LDS. With XB 0 any XI is
taken (DESIGN CHOICE, log 149). -/
def decodeM (n : Nat) (lds : Bool) : Option MemOperand :=
  if (n >>> 14) % 16 ≠ 0 ∨ (lds = false ∧ (n >>> 12) % 4 ≠ 0) then none
  else some { xi := Fin.ofNat 4 (n >>> 20), xb := n.testBit 19, inc := n.testBit 18, ofs := Fin.ofNat 4096 n }

/-- A guarded choice. -/
def whenOk {α : Type} (ok : Bool) (x : α) : Option α := if ok then some x else none

/-- The instruction that a program word spells; none where its opcode is undefined or a field that must be 0 is not. What else makes it
undefined (R91) its meaning judges. -/
def cleDecode (word : Word) : Option Instr :=
  let n := word.toNat
  let d : Fin 16 := Fin.ofNat 16 (n >>> 22)
  let s : Fin 16 := Fin.ofNat 16 (n >>> 18)
  let t : Fin 16 := Fin.ofNat 16 (n >>> 14)
  let f := n % 2 ^ 14
  let lds := decodeM n true
  let mem := decodeM n false
  match n >>> 26 with
  | 0x01 => whenOk (n % 2 ^ 26 == 0) .cleNop
  | 0x02 => whenOk (n % 2 ^ 26 == 0) .cleEnd
  | 0x03 => whenOk (s == 0 && t == 0) (.cleBr d (Fin.ofNat 16384 n))
  | 0x04 => some (.cleLoop (Fin.ofNat 4096 (n >>> 14)) (Fin.ofNat 16384 n))
  | 0x05 => whenOk (n % 2 ^ 18 == 0) (.cleRuno (Fin.ofNat 256 (n >>> 18)))
  | 0x06 => whenOk ((n >>> 16) % 2 ^ 10 == 0) (.cleWaitt (Fin.ofNat 65536 n))
  | 0x08 => mem.map (.cleLd d)
  | 0x09 => mem.map (.cleSt d)
  | 0x0A => mem.map (.cleLd2 d)
  | 0x0B => mem.map (.cleSt2 d)
  | 0x0C => mem.map (.cleLdx d)
  | 0x0D => mem.map (.cleStx d)
  | 0x0E => lds.map (fun m => .cleLds d m (n.testBit 13) (n.testBit 12))
  | 0x10 => whenOk (decide (f < 2)) (.cleAdd d s t (f == 1))
  | 0x11 => whenOk (decide (f < 2)) (.cleSub d s t (f == 1))
  | 0x12 => whenOk (t == 0 && f == 0) (.cleNeg d s)
  | 0x13 => whenOk (t == 0 && f == 0) (.cleAbs d s)
  | 0x14 => whenOk (f == 0) (.cleMul d s t)
  | 0x15 => whenOk (f == 0) (.cleDiv d s t)
  | 0x16 => whenOk (decide (f < 2)) (.cleMinmax d s t (f == 1))
  | 0x17 => whenOk (f == 0) (.cleClamp d s t)
  | 0x18 => whenOk (s == 0) (.cleMovi d (BitVec.ofNat 18 n))
  | 0x19 => whenOk (s == 0 && t == 0) (.cleMovl d (BitVec.ofNat 14 n))
  | 0x1A => whenOk (t == 0 && f == 0) (.cleMov d s)
  | 0x1B => whenOk ((f >>> 3) % 16 == 0) (.cleSh d s t (Fin.ofNat 64 (f >>> 8)) (f.testBit 7) (Fin.ofNat 8 f))
  | 0x1C => whenOk (decide (f < 4)) (.cleLogic d s t (Fin.ofNat 4 f))
  | 0x1D => whenOk (d == 0 && f == 0) (.cleCmp s t)
  | 0x1E => whenOk (decide (f < 16)) (.cleSel d s t (Fin.ofNat 16 f))
  | 0x1F => whenOk (decide (d.val < 4) && t == 0 && decide (f < 8192))
      (.cleSetx (Fin.ofNat 4 d.val) s (n.testBit 12) (BitVec.ofNat 12 n))
  | 0x20 => whenOk (f == 0) (.cleMac d s t)
  | 0x21 => whenOk (f == 0) (.cleMsu d s t)
  | 0x22 => whenOk (decide (f < 2)) (.cleDmac d s t (f == 1))
  | 0x23 => whenOk (f == 0) (.cleMpy d s t)
  | 0x24 => whenOk (t == 0 && decide (f < 2)) (.cleAld d s (f == 1))
  | 0x25 => whenOk (t == 0 && decide (f < 16)) (.cleExt d s (Fin.ofNat 16 f))
  | 0x26 => whenOk (decide (f < 2)) (.cleAadd d s t (f == 1))
  | 0x28 => whenOk (t == 0 && f == 0) (.cleSincos d s)
  | 0x29 => whenOk (t == 0 && f == 0) (.cleSqrt d s)
  | _ => none

/-- An instruction of the engine as the next one of the run. -/
def cleInstr (i : Instr) (s : State) : State :=
  match i with
  | .cleNop => doCleNop s
  | .cleEnd => doCleEnd s
  | .cleBr c t => doCleBr c t s
  | .cleLoop c l => doCleLoop c l s
  | .cleRuno o => doCleRuno o s
  | .cleWaitt c => doCleWaitt c s
  | .cleLd d m => doCleLd d m s
  | .cleSt d m => doCleSt d m s
  | .cleLd2 d m => doCleLd2 d m s
  | .cleSt2 d m => doCleSt2 d m s
  | .cleLdx d m => doCleLdx d m s
  | .cleStx d m => doCleStx d m s
  | .cleLds d m f u => doCleLds d m f u s
  | .cleAdd d a b w => doCleAdd d a b w s
  | .cleSub d a b w => doCleSub d a b w s
  | .cleNeg d a => doCleNeg d a s
  | .cleAbs d a => doCleAbs d a s
  | .cleMul d a b => doCleMul d a b s
  | .cleDiv d a b => doCleDiv d a b s
  | .cleMinmax d a b x => doCleMinmax d a b x s
  | .cleClamp d a b => doCleClamp d a b s
  | .cleMovi d i => doCleMovi d i s
  | .cleMovl d i => doCleMovl d i s
  | .cleMov d a => doCleMov d a s
  | .cleSh d a b n r k => doCleSh d a b n r k s
  | .cleLogic d a b o => doCleLogic d a b o s
  | .cleCmp a b => doCleCmp a b s
  | .cleSel d a b c => doCleSel d a b c s
  | .cleSetx x a r i => doCleSetx x a r i s
  | .cleMac d a b => doCleMac d a b s
  | .cleMsu d a b => doCleMsu d a b s
  | .cleDmac d a b z => doCleDmac d a b z s
  | .cleMpy d a b => doCleMpy d a b s
  | .cleAld d a c => doCleAld d a c s
  | .cleExt d a k => doCleExt d a k s
  | .cleAadd d a b m => doCleAadd d a b m s
  | .cleSincos d a => doCleSincos d a s
  | .cleSqrt d a => doCleSqrt d a s
  | _ => s

/-- The engine's own clock: where a run is in progress and its next instruction is due now, the word at its address is fetched and
executed; an awaited count that has come releases WAITT (R75, R80, R90). -/
def State.cleClock (s : State) : State :=
  let s1 := match s.cle.waitUntil with
    | some t => if t ≤ s.now then doWaittRelease s else s
    | none => s
  if s1.get Reg.CLE_STAT_STATE ≠ 2 ∨ s1.now < s1.cle.issue then s1
  else
    let word := tblGet (0 : Word) s1.cle.prog s1.cle.pc
    match cleDecode word with
    | some i => cleInstr i s1
    | none => doUndefinedInstruction word s1

end Sys2Proof.Machine
end

