-- ==== Sys2Proof/Machine/Converter.lean ====
section
/-!
DEFINITION. The converter set (R39 to R51, R550): shadow writes, the commit and its checks, the voltage capability of the arms.
-/

namespace Sys2Proof.Machine

/-- The fields of the converter set (R49). -/
def converterSet : List Fld :=
  [Reg.SYS_TOPO_TOPO, Reg.SYS_TOPO_FNOM, Reg.SYS_BASE_V_VALUE, Reg.SYS_BASE_S_VALUE, Reg.SYS_BASE_VDC_VALUE, Reg.SYS_VMAX_VMAX]
    ++ (List.range 6).flatMap (fun a => [Reg.SYS_ARM_CFG_NCELL a, Reg.SYS_ARM_CFG_K a])
    ++ (List.range 96).map (fun p => Reg.SYS_PORT_MAP_CELL p)
    ++ (List.range 96).flatMap (fun c => [Reg.SYS_CELL_CFG_VNOM c, Reg.SYS_CELL_CFG_ARM c, Reg.SYS_CELL_CFG_LEGS c,
      Reg.SYS_CELL_CFG_KIND c, Reg.SYS_CELL_CFG_EN c, Reg.SYS_CELL_CAP_CAP c])

/-- PEND of SYS_CONV_STAT follows the shadow copies. -/
def State.converterPend (s : State) : State := s.setBool Reg.SYS_CONV_STAT_PEND (s.shadowDiffers converterSet)

/-- The register of a member of the converter set. -/
def convAddr (r : ConvReg) : Nat :=
  match r with
  | .topo => Reg.SYS_TOPO_TOPO.addr
  | .baseV => Reg.SYS_BASE_V_VALUE.addr
  | .baseS => Reg.SYS_BASE_S_VALUE.addr
  | .baseVdc => Reg.SYS_BASE_VDC_VALUE.addr
  | .vmax => Reg.SYS_VMAX_VMAX.addr
  | .armCfg a => (Reg.SYS_ARM_CFG_NCELL a.val).addr
  | .portMap p => (Reg.SYS_PORT_MAP_CELL p.val).addr
  | .cellCfg c => (Reg.SYS_CELL_CFG_VNOM c.val).addr
  | .cellCap c => (Reg.SYS_CELL_CAP_CAP c.val).addr

/-- A value that a write stores in a shadow copy: any but the reserved encodings of the port map and of a cell's ARM and KIND (R550). -/
def convStores (f : Fld) (v : Nat) : Bool :=
  if f.addr = Reg.SYS_TOPO_TOPO.addr then true
  else (fieldsAt f.addr).all (fun r => r.fld f.addr != f || r.allows v)

/-- CONVERTER_SET_WRITE: the fields of the register into their shadow copies (R49, R550). -/
def doConverterSetWrite (r : ConvReg) (v : Nat) (s : State) : State :=
  ((rwParts (convAddr r) v).foldl (fun s p => if convStores p.1 p.2 then s.set p.1.shadow p.2 else s) s).converterPend

def execConverterSetWrite (reg : ConvReg) (v : Word) (s : State) : Host.Outcome State Fault Refusal :=
  .next (doConverterSetWrite reg v.toNat s)

/-! ### The checks of a commit (R40, R49) -/

/-- The shadow value of a field. -/
def State.sh (s : State) (f : Fld) : Nat := s.get f.shadow

/-- The arms of the shadow topology. -/
def State.shArms (s : State) : Nat := if s.sh Reg.SYS_TOPO_TOPO = 3 then 6 else 3

/-- The cells enabled in the shadow set. -/
def State.shCells (s : State) : List Nat := (List.range 96).filter (fun c => s.sh (Reg.SYS_CELL_CFG_EN c) == 1)

/-- The first failed check and its index; (0, 0) where none fails (R49). An arm of the topology fails check 4 with an NCELL out of range,
with another NCELL than arm 0, or with K not below it (R40). -/
def State.commitError (s : State) : Nat × Nat :=
  let topo := s.sh Reg.SYS_TOPO_TOPO
  let rng (f : Fld) (lo hi : Nat) : Bool := decide (lo ≤ s.sh f) && decide (s.sh f ≤ hi)
  let bases := rng Reg.SYS_BASE_V_VALUE 1000 400000 && rng Reg.SYS_BASE_S_VALUE 100 2000000 && rng Reg.SYS_VMAX_VMAX 1000 2000
    && (topo != 3 || rng Reg.SYS_BASE_VDC_VALUE 1000 800000)
  let armBad (a : Nat) : Bool :=
    let n := s.sh (Reg.SYS_ARM_CFG_NCELL a)
    if a < s.shArms then n == 0 || decide ((if topo = 3 then 128 else 256) < n) || n != s.sh (Reg.SYS_ARM_CFG_NCELL 0)
      || decide (n ≤ s.sh (Reg.SYS_ARM_CFG_K a)) else n != 0
  let mapOf (p : Nat) : Nat := s.sh (Reg.SYS_PORT_MAP_CELL p)
  let twice (p : Nat) : Bool := decide (mapOf p < 96) && (List.range p).any (fun q => mapOf q == mapOf p)
  let unmapped (c : Nat) : Bool := !(List.range 96).any (fun p => mapOf p == c)
  let inArm (a : Nat) : Nat := (s.shCells.filter (fun c => s.sh (Reg.SYS_CELL_CFG_ARM c) == a)).length
  if s.pulsesEnabled then (1, 0)
  else if topo = 0 ∨ 3 < topo then (2, 0)
  else if bases = false then (3, 0)
  else match (List.range 6).find? armBad with
  | some a => (4, a)
  | none => match (List.range 96).find? twice with
  | some p => (5, p)
  | none => match s.shCells.find? unmapped with
  | some c => (6, c)
  | none => match s.shCells.find? (fun c => decide (s.shArms ≤ s.sh (Reg.SYS_CELL_CFG_ARM c))) with
  | some c => (7, c)
  | none => match s.shCells.find? (fun c => topo != 3 && s.sh (Reg.SYS_CELL_CFG_LEGS c) == 0) with
  | some c => (8, c)
  | none => match (List.range 6).find? (fun a => decide (s.sh (Reg.SYS_ARM_CFG_NCELL a) < inArm a)) with
  | some a => (9, a)
  | none => match s.shCells.find? (fun c => s.sh (Reg.SYS_CELL_CFG_VNOM c) == 0 || s.sh (Reg.SYS_CELL_CAP_CAP c) == 0) with
  | some c => (10, c)
  | none => (0, 0)

/-! ### Voltage capability (R46) -/

/-- The nominal voltages of an arm's cells in 0.1 V: the local ones, and on the leader of a Peloton those of the other devices' CONFIG (R46,
R464). -/
def State.armVolts (s : State) (a : Nat) : List Nat :=
  (s.armCells a).map (fun c => s.vnom c)
    ++ (if s.get Reg.PEL_STAT_ROLE = 1 then s.others else []).flatMap (fun d => match (s.pelDev d).config with
      | none => []
      | some k => (k.cells.filter (fun e => e.2.2 == a)).map (fun e => e.2.1))

/-- The sum of a list without its `k` largest members. -/
def sumWithoutLargest (k : Nat) (l : List Nat) : Nat :=
  (((l.foldr (fun x r => sortInsert (fun a b => decide (b ≤ a)) x r) []).drop k).foldl (fun a b => a + b) 0)

/-- The capability of an arm lies below the required peak arm voltage: VMAX × V_ph, × √3 in delta, and V_DC / 2 more in the double-star. The
squares are compared: (VMAX × V_ph)² = (VMAX × V_LL)² × 2/3. -/
def State.capabilityLow (s : State) (a : Nat) : Bool :=
  let c : Rat := mkRat (sumWithoutLargest (s.get (Reg.SYS_ARM_CFG_K a)) (s.armVolts a)) 10
  let u : Rat := mkRat (s.get Reg.SYS_VMAX_VMAX * s.get Reg.SYS_BASE_V_VALUE : Nat) 1000
  match s.get Reg.SYS_TOPO_TOPO with
  | 1 => decide (c * c < u * u * (2 / 3))
  | 2 => decide (c * c < u * u * 2)
  | 3 =>
    let d := c - mkRat (s.get Reg.SYS_BASE_VDC_VALUE) 2
    decide (d < 0) || decide (d * d < u * u * (2 / 3))
  | _ => false

/-- VOLTAGE_CAPABILITY: VRES_LOW and LOCAL of every arm (R46). -/
def State.armSummariesAtCommit (s : State) : State :=
  (List.range 6).foldl (fun s a =>
    (s.set (Reg.SYS_ARM_STAT_LOCAL a) (s.armCells a).length).setBool (Reg.SYS_ARM_STAT_VRES_LOW a) (decide (a < s.arms) && s.capabilityLow a)) s

/-- On the leader VRES_LOW is formed anew as CONFIGs arrive, each sent at a commit, and when the device becomes leader (R46, R464; DEDUCED,
log 68). -/
def State.leaderCapability (s : State) : State :=
  if s.get Reg.PEL_STAT_ROLE = 1 ∧ s.on Reg.SYS_CONV_STAT_ACTIVE = true then s.armSummariesAtCommit else s

/-! ### Commit (R49 to R51) -/

/-- This device's CONFIG (R464). -/
def State.ownConfig (s : State) : ConverterConfig :=
  { topo := s.get Reg.SYS_TOPO_TOPO, fnom := s.get Reg.SYS_TOPO_FNOM, baseV := s.get Reg.SYS_BASE_V_VALUE,
    baseS := s.get Reg.SYS_BASE_S_VALUE, baseVdc := s.get Reg.SYS_BASE_VDC_VALUE, vmax := s.get Reg.SYS_VMAX_VMAX,
    arms := (List.range 6).map (fun a => (s.get (Reg.SYS_ARM_CFG_NCELL a), s.get (Reg.SYS_ARM_CFG_K a))),
    cells := ((List.range 96).filter (fun c => s.cellOn c)).map (fun c => (c, s.vnom c, s.get (Reg.SYS_CELL_CFG_ARM c))) }

/-- CONFIG sent (R464): TOPO, FNOM, the bases, VMAX, the arms, the cells. -/
def State.sendConfig (s : State) : State :=
  if s.on Reg.PEL_CTRL_EN then
    let k := s.ownConfig
    s.laneTell laneConfig ([k.topo, k.fnom, k.baseV, k.baseS, k.baseVdc, k.vmax] ++ k.arms.flatMap (fun a => [a.1, a.2])
      ++ k.cells.flatMap (fun c => [c.1, c.2.1, c.2.2]))
  else s

/-- Outside the double-star topology the DC-link check is off: where TOPO is no longer `was` it begins anew (R246). -/
def State.dcLinkCommitted (s : State) (was : Nat) : State := if s.get Reg.SYS_TOPO_TOPO = was then s else s.dcLinkAnew

/-- No arm's count has been judged under this configuration (R44). -/
def State.armsAnew (s : State) : State := (List.range 6).foldl (fun s a => s.modArm a (fun x => { x with atK := false })) s

/-- CONVERTER_SET_CHECK: a request that is due: the whole shadow set becomes active and ACTIVE is set; or nothing changes, CFGERR is set and
the first failure named (R49). A cell whose unit was admitted before starts (R171, R173). Bypass and lost states do not change (R51). The arms' counts are judged anew at the next
Acquire deadline (R44). -/
def doConverterSetCheck (s : State) : State :=
  match s.sys.commitReq with
  | none => s
  | some t =>
    if s.requestDue t = false then s
    else
      let s0 : State := { s with sys := { s.sys with commitReq := none } }
      let e := s0.commitError
      if e.1 = 0 then (((((((s0.activate converterSet).set Reg.SYS_CONV_STAT_ACTIVE 1).converterPend).armSummariesAtCommit).armsAnew).admitCommitted).dcLinkCommitted (s.get Reg.SYS_TOPO_TOPO)).sendConfig
      else ((s0.set Reg.SYS_CONV_STAT_CFGERR 1).set Reg.SYS_CONV_STAT_ERRCODE e.1).set Reg.SYS_CONV_STAT_ERRIDX e.2

def execConverterSetCheck (s : State) : Host.Outcome State Fault Refusal := .next (doConverterSetCheck s)

/-- COMMIT: requests the shadow converter set; a request that waits takes this one in; while RUN is 0 it is checked at once (R49, R50). -/
def doCommit (s : State) : State :=
  let s1 : State := { s with sys := { s.sys with commitReq := some (s.sys.commitReq.getD s.now) } }
  if s1.running then s1 else doConverterSetCheck s1

def execCommit (s : State) : Host.Outcome State Fault Refusal := .next (doCommit s)

/-- A write to a SYS register: the commit, CFGERR, and the converter set (R49). -/
def State.sysRegisterWrite (s : State) (addr v : Nat) : State :=
  if addr = Reg.SYS_CONV_CTRL_COMMIT.addr then (if v.testBit 0 then doCommit s else s)
  else if addr = Reg.SYS_CONV_STAT_CFGERR.addr then s.clearOnes addr v
  else ((rwParts addr v).foldl (fun s p => if convStores p.1 p.2 then s.set p.1.shadow p.2 else s) s).converterPend

end Sys2Proof.Machine
end

