-- ==== Sys2Proof/Machine/Queue.lean ====
section
/-!
DEFINITION. The Pannier pool and its queues (R359 to R372).
-/

namespace Sys2Proof.Machine

/-! ### Blocks -/

/-- The owner tag of a block (R359): 0 to 63 a queue, 0x40 + m a master, 0xFF free. -/
def State.tag (s : State) (b : Nat) : Nat := tblGet 0xFF s.pool.tags b

/-- A block's tag set. -/
def State.setTag (s : State) (b t : Nat) : State := { s with pool := { s.pool with tags := tblSet 0xFF s.pool.tags b t } }


/-- The number of free blocks: FREE of QUE_POOL. -/
def State.freeCount (s : State) : Nat := 4096 - s.pool.tags.length

/-- Some free block: which one, the spec leaves open (log 3). -/
def State.someFree (s : State) : Option Nat :=
  let b := Config.freeBlock s.free % 4096
  if s.tag b = 0xFF then some b else (List.range 4096).find? (fun b => s.tag b == 0xFF)

/-- The free list is usable: no rebuild runs (R370). -/
def State.listUsable (s : State) : Bool := !s.on Reg.QUE_POOL_REBUILD

/-- A use of the free list with an injected mismatch: the pool is rebuilt and source 70 reports (R370, R386). -/
def State.startRebuild (s : State) : State := (s.set Reg.QUE_POOL_REBUILD 1).fault 70 0

/-- A use of the free list meets an injected mismatch (R386). -/
def State.listDamaged (s : State) : Bool := s.on Reg.FLT_INJ_CTRL_ARM && s.get Reg.FLT_INJ_CTRL_CHK == 16

/-- Blocks freed; a mismatch that this use of the free list meets has the pool rebuilt (R370). -/
def State.freeBlocks (s : State) (bs : List Nat) : State :=
  let s1 := bs.foldl (fun s b => s.setTag b 0xFF) s
  if !bs.isEmpty && s.listDamaged then s1.injectionDone.startRebuild else s1

/-- A block taken for an owner; none while no block is free or a rebuild runs. -/
def State.takeBlock (s : State) (owner : Nat) : State × Option Nat :=
  if s.listDamaged then (s.injectionDone.startRebuild, none)
  else if s.listUsable = false then (s, none)
  else match s.someFree with
    | none => (s, none)
    | some b => ((s.setTag b owner).nextFree, some b)

/-- The address of a word of a block. -/
def blockAddr (b word : Nat) : Nat := 0x13000000 + 64 * b + 4 * word

/-! ### Queues -/

/-- One queue. -/
def State.queue (s : State) (q : Nat) : QueueState := tblGet {} s.pool.queues q

/-- One queue updated. -/
def State.modQueue (s : State) (q : Nat) (f : QueueState → QueueState) : State :=
  { s with pool := { s.pool with queues := tblMod {} s.pool.queues q f } }

/-- The blocks tagged to a queue: BLOCKS of QUE_Qq_STAT. -/
def State.queueBlocks (s : State) (q : Nat) : Nat := (s.pool.tags.filter (fun e => e.2 == q)).length

/-- FULL of a queue (R363, R370). -/
def State.queueFull (s : State) (q : Nat) : Bool :=
  (s.get (Reg.QUE_CFG_MAXBLK q) != 0 && decide (s.get (Reg.QUE_CFG_MAXBLK q) ≤ s.queueBlocks q))
    || s.freeCount == 0 || !s.listUsable

/-- A queue takes part in operations: EN is 1 and no reset runs (R360, R366). -/
def State.queueActs (s : State) (q : Nat) : Bool := s.on (Reg.QUE_CFG_EN q) && !s.on (Reg.QUE_STAT_PTRRST q)

/-- A master may write a queue, or read it (R360). -/
def State.mayWrite (s : State) (q m : Nat) : Bool := s.get (Reg.QUE_CFG_PROD q) == 0x3F || s.get (Reg.QUE_CFG_PROD q) == m
def State.mayRead (s : State) (q m : Nat) : Bool := s.get (Reg.QUE_CFG_CONS q) == 0x3F || s.get (Reg.QUE_CFG_CONS q) == m

/-- A master that reaches the queues' registers: the Tricycle, the MGC, the host through BAR2, the debug port while it is open (R341). -/
def State.portMaster (s : State) (m : Nat) : Bool := decide (m ≤ 3) || m == 5 || (m == 6 && s.on Reg.LCS_STATE_DBGOPEN)

/-- A master that may write a queue through its registers, or read it. -/
def State.portWrites (s : State) (q m : Nat) : Bool := s.portMaster m && s.mayWrite q m
def State.portReads (s : State) (q m : Nat) : Bool := s.portMaster m && s.mayRead q m

/-- A queue event (R372): its bit, source 14 of the Tricycle, the MGC. -/
def State.queueEvent (s : State) (q : Nat) : State :=
  let s1 := if q < 32 then s.putBit Reg.QUE_EVT_LO_QUEUE q true else s.putBit Reg.QUE_EVT_HI_QUEUE (q - 32) true
  let e := s.get (Reg.QUE_CFG_EVT q)
  let s2 := if e = 1 ∨ e = 3 then s1.irq 14 else s1
  if e = 2 ∨ e = 3 then s2.notice noticeQueue q else s2

/-- OVR set, with its event (R363, R372). -/
def State.setOvr (s : State) (q : Nat) : State :=
  if s.on (Reg.QUE_STAT_OVR q) then s else (s.set (Reg.QUE_STAT_OVR q) 1).queueEvent q

/-- A packet becomes visible; an event where none was visible (R372). -/
def State.makeVisible (s : State) (q : Nat) (p : Packet) : State :=
  let s1 := s.modQueue q (fun x => { x with packets := x.packets ++ [p] })
  if (s.queue q).packets.isEmpty then s1.queueEvent q else s1

/-! ### Flush, skip and reset (R365, R366) -/

/-- Every packet of a queue discarded; its blocks, found by their tags, freed; OVR, TRUNC and FLUSHPEND cleared; PTRRST reads 1 until the
reset completes. -/
def State.resetQueue (s : State) (q : Nat) : State :=
  let bs := (s.pool.tags.filter (fun e => e.2 == q)).map (fun e => e.1)
  ((((s.freeBlocks bs).modQueue q (fun _ => {})).set (Reg.QUE_STAT_OVR q) 0).set (Reg.QUE_STAT_FLUSHPEND q) 0).set
    (Reg.QUE_STAT_PTRRST q) 1

/-- POINTER_MISMATCH: a use of a queue's pointers whose two copies disagree, as injected: the operation is ignored, the queue is reset, its
bit in QUE_PTRERR set, an event and a Recoverable fault raised (R369, R386). -/
def State.pointerMismatch (s : State) (q : Nat) : State :=
  let s1 := s.injectionDone.resetQueue q
  let s2 := if q < 32 then s1.putBit Reg.QUE_PTRERR_LO_QUEUE q true else s1.putBit Reg.QUE_PTRERR_HI_QUEUE (q - 32) true
  (s2.queueEvent q).fault (192 + q) 0

/-- A pending flush takes effect where the consumer stands at a boundary: every closed packet goes; the one being written stays. -/
def State.flushNow (s : State) (q : Nat) : State :=
  if s.on (Reg.QUE_STAT_FLUSHPEND q) ∧ (s.queue q).pos = 0 then
    let bs := (s.queue q).packets.flatMap (fun p => p.blocks)
    ((s.freeBlocks bs).modQueue q (fun x => { x with packets := [] })).set (Reg.QUE_STAT_FLUSHPEND q) 0
  else s

/-- FLUSH: FLUSHPEND is set; a flush pending already takes in the new one. -/
def doFlush (q : Nat) (s : State) : State := s.set (Reg.QUE_STAT_FLUSHPEND q) 1

def execFlush (q : Fin 64) (s : State) : Host.Outcome State Fault Refusal := .next (doFlush q.val s)

/-- FLUSH_EFFECT. -/
def doFlushEffect (q : Nat) (s : State) : State := if s.injected 14 q then s.pointerMismatch q else s.flushNow q

def execFlushEffect (q : Fin 64) (s : State) : Host.Outcome State Fault Refusal := .next (doFlushEffect q.val s)

/-- The head packet discarded with its blocks; the consumer is at a boundary. -/
def State.dropHead (s : State) (q : Nat) : State :=
  match (s.queue q).packets with
  | [] => s
  | p :: r => (s.freeBlocks p.blocks).modQueue q (fun x => { x with packets := r, pos := 0 })

/-- SKIP: the rest of the packet being read is discarded; nothing at a boundary. -/
def doSkip (q : Nat) (s : State) : State :=
  if s.injected 14 q then s.pointerMismatch q else if (s.queue q).pos = 0 then s else s.dropHead q

def execSkip (q : Fin 64) (s : State) : Host.Outcome State Fault Refusal := .next (doSkip q.val s)

/-- RESET. -/
def doQueueReset (q : Nat) (s : State) : State := s.resetQueue q

def execQueueReset (q : Fin 64) (s : State) : Host.Outcome State Fault Refusal := .next (doQueueReset q.val s)

/-- QUEUE_RESET_COMPLETE: the reset ends within 4,096 fabric cycles. -/
def doQueueResetComplete (q : Nat) (s : State) : State := s.set (Reg.QUE_STAT_PTRRST q) 0

def execQueueResetComplete (q : Fin 64) (s : State) : Host.Outcome State Fault Refusal := .next (doQueueResetComplete q.val s)

/-! ### Writing a packet (R361, R363) -/

/-- The open packet truncated: a push was ignored for want of space. -/
def State.truncate (s : State) (q m : Nat) : State :=
  (s.modQueue q (fun x => { x with opened := match x.opened with
    | none => some { prod := m, words := 0, blocks := [], trunc := true }
    | some p => some { p with trunc := true } })).setOvr q

/-- A content word stored at its place in the chain of the open packet. -/
def State.storeContent (s : State) (q v : Nat) (p : OpenPacket) : State :=
  let i := p.words + 1
  ((s.setWord (blockAddr (p.blocks.getD (i / 16) 0) (i % 16)) v).touch (blockAddr (p.blocks.getD (i / 16) 0) 0)).modQueue q (fun x => { x with
    opened := some { p with words := p.words + 1 } })

/-- A content word appended: the packet opened if none is, a block taken where one is needed, the word ignored with OVR and TRUNC where
there is no space or the packet has 64 blocks. -/
def State.append (s : State) (q m v : Nat) : State :=
  let p : OpenPacket := ((s.queue q).opened).getD { prod := m, words := 0, blocks := [], trunc := false }
  if p.trunc then s
  else if (p.words + 1) / 16 < p.blocks.length then s.storeContent q v p
  else if s.queueFull q ∨ 64 ≤ p.blocks.length then s.truncate q m
  else
    match s.takeBlock q with
    | (s1, none) => s1.truncate q m
    | (s1, some b) => s1.storeContent q v { p with blocks := p.blocks ++ [b] }

/-- The address of a register of a queue. -/
def queueAddr (q offset : Nat) : Nat := 0x40100100 + 0x20 * q + offset

/-- PUSH by a master: only the producer; ignored while EN is 0 or a reset runs (R360, R361, R363, R366). -/
def doPush (m q v : Nat) (s : State) : State :=
  if s.portWrites q m = false then s.violate m .write (queueAddr q 0x08)
  else if s.queueActs q = false then s
  else if s.injected 14 q then s.pointerMismatch q
  else (s.flushNow q).append q m v

def execPush (m : Fin 32) (q : Fin 64) (v : Word) (s : State) : Host.Outcome State Fault Refusal :=
  .next (doPush m.val q.val v.toNat s)

/-- The length word written and the packet made visible. -/
def State.finish (s : State) (q prod len : Nat) (blocks : List Nat) : State :=
  let s1 := (s.setWord (blockAddr (blocks.getD 0 0) 0) (prod * 65536 + len)).touch (blockAddr (blocks.getD 0 0) 0)
  s1.makeVisible q { prod := prod, len := len, blocks := blocks }

/-- The open packet discarded and its blocks freed. -/
def State.discardOpen (s : State) (q : Nat) (p : OpenPacket) : State :=
  (s.freeBlocks p.blocks).modQueue q (fun x => { x with opened := none })

/-- A close with LASTB: a truncated packet goes and counts; with none open, a packet of no words, which takes one block (R361, R363). -/
def State.closePacket (s : State) (q m lastb : Nat) : State :=
  match (s.queue q).opened with
  | some p =>
    if p.trunc then (s.discardOpen q p).count Reg.QUE_DROP_CNT_COUNT 1
    else
      (s.modQueue q (fun x => { x with opened := none })).finish q p.prod (4 * (p.words - 1) + lastb) p.blocks
  | none =>
    if s.queueFull q then (s.setOvr q).count Reg.QUE_DROP_CNT_COUNT 1
    else
      match s.takeBlock q with
      | (s1, none) => (s1.setOvr q).count Reg.QUE_DROP_CNT_COUNT 1
      | (s1, some b) => s1.finish q m 0 [b]

/-- CLOSE by a master: a reserved LASTB makes the write have no effect; ABORT discards the open packet; else the packet is closed (R361,
R374). -/
def doClose (m q v : Nat) (s : State) : State :=
  let lastb := v % 8
  if s.portWrites q m = false then s.violate m .write (queueAddr q 0x0C)
  else if s.queueActs q = false ∨ lastb = 0 ∨ 4 < lastb then s
  else if s.injected 14 q then s.pointerMismatch q
  else
    let s0 := s.flushNow q
    if v.testBit 8 then
      match (s0.queue q).opened with
      | none => s0
      | some p => s0.discardOpen q p
    else s0.closePacket q m lastb

def execClose (m : Fin 32) (q : Fin 64) (v : Word) (s : State) : Host.Outcome State Fault Refusal :=
  .next (doClose m.val q.val v.toNat s)

/-! ### Reading (R362) -/

/-- The answer of an empty queue. -/
def emptyWord : Nat := 0x80000000

/-- The word at the consumer's position in the head packet, with the ECC of the pool judged. -/
def State.popWord (s : State) (m : Nat) (p : Packet) (pos : Nat) : State × Nat :=
  let a := blockAddr (p.blocks.getD 0 0) (pos % 16)
  ((s.eccCheck m .read a).1.touch a, s.wordAt a)

/-- A word of the head packet popped: blocks passed are freed; after the last content word the packet is gone. -/
def State.popHead (s : State) (m q : Nat) (p : Packet) : State :=
  let pos := (s.queue q).pos
  let w := s.popWord m p pos
  let s1 :=
    if pos = (p.len + 3) / 4 then w.1.dropHead q
    else if pos % 16 = 15 then
      (w.1.freeBlocks (p.blocks.take 1)).modQueue q (fun x => { x with
        pos := pos + 1, packets := { p with blocks := p.blocks.drop 1 } :: x.packets.drop 1 })
    else w.1.modQueue q (fun x => { x with pos := pos + 1 })
  s1.answer w.2

/-- What a permitted POP would return (R362, R374). -/
def State.popValue (s : State) (q : Nat) : Nat :=
  if s.queueActs q = false then emptyWord
  else match ((s.flushNow q).queue q).packets with
    | [] => emptyWord
    | p :: _ => s.wordAt (blockAddr (p.blocks.getD 0 0) ((s.queue q).pos % 16))

/-- What a permitted XFER would return (R368, R374). -/
def State.xferValue (s : State) (q : Nat) : Nat :=
  if s.queueActs q = false then emptyWord
  else match ((s.flushNow q).queue q).packets with
    | [] => emptyWord
    | p :: _ => match p.blocks with
      | [b] => if (s.queue q).pos = 0 then p.len % 64 * 65536 + b else 0xC0000000
      | _ => 0xC0000000

/-- What a permitted ALLOC would return (R367, R374). -/
def State.allocValue (s : State) : Nat :=
  match (s.takeBlock 0x40).2 with
  | none => 0x80000000
  | some b => b

/-- POP by a master: 0x8000_0000 while EN is 0, a reset runs, or nothing is visible; by another than the consumer a violation that returns
what the consumer's read would, without its effect (R360, R362, R366, R374). -/
def doPop (m q : Nat) (s : State) : State :=
  if s.portReads q m = false then (s.violate m .read (queueAddr q 0x10)).answer (s.popValue q)
  else if s.queueActs q = false then s.answer emptyWord
  else if s.injected 14 q then (s.pointerMismatch q).answer emptyWord
  else
    let s0 := s.flushNow q
    match (s0.queue q).packets with
    | [] => s0.answer emptyWord
    | p :: _ => s0.popHead m q p

def execPop (m : Fin 32) (q : Fin 64) (s : State) : Host.Outcome State Fault Refusal := .next (doPop m.val q.val s)

/-- The length word that QUE_Qq_PEEK reads. -/
def State.peekWord (s : State) (q : Nat) : Nat :=
  match (s.queue q).packets with
  | [] => emptyWord
  | p :: _ => p.prod * 65536 + p.len

/-- PEEK by a master: the length word of the head packet, EN 0 too; by another than the consumer a violation that returns it (R360, R362). -/
def State.peek (s : State) (m q : Nat) : State :=
  if s.portReads q m = false then (s.violate m .read (queueAddr q 0x14)).answer (s.peekWord q)
  else if s.injected 14 q then (s.pointerMismatch q).answer emptyWord
  else s.answer (s.peekWord q)

/-! ### Direct use of blocks (R367, R368) -/

/-- A block operation refused at the register of an address: counted, recorded where nothing is, a Note fault with the access (R368, R379). -/
def State.badBlock (s : State) (m kind b addr : Nat) : State :=
  let s1 := s.count Reg.QUE_BADBLK_CNT_COUNT 1
  let s2 := if s.on Reg.QUE_BADBLK_VALID then s1 else
    (((s1.set Reg.QUE_BADBLK_VALID 1).set Reg.QUE_BADBLK_MASTER m).set Reg.QUE_BADBLK_KIND kind).set Reg.QUE_BADBLK_BLOCK b
  s2.faultFrom 69 b { master := m, type := kindCode .write, addr := some addr }

/-- QUE_ALLOC by a master: a free block for its own use, or NV; by a master without the right a violation that returns what a permitted
read would. -/
def doQueAlloc (m : Nat) (s : State) : State :=
  if s.portMaster m = false then (s.violate m .read 0x40100004).answer s.allocValue
  else match s.takeBlock (0x40 + m) with
  | (s1, none) => s1.answer 0x80000000
  | (s1, some b) => s1.answer b

def execQueAlloc (m : Fin 32) (s : State) : Host.Outcome State Fault Refusal := .next (doQueAlloc m.val s)

/-- QUE_FREE: the owner frees its block; a free block or another's is refused. -/
def doQueFree (m b : Nat) (s : State) : State :=
  if s.portMaster m = false then s.violate m .write 0x40100008
  else if s.tag b = 0xFF then s.badBlock m 1 b 0x40100008
  else if s.tag b ≠ 0x40 + m then s.badBlock m 2 b 0x40100008
  else s.freeBlocks [b]

def execQueFree (m : Fin 32) (b : Fin 4096) (s : State) : Host.Outcome State Fault Refusal := .next (doQueFree m.val b.val s)

/-- XFER_WRITE: the producer enqueues an owned block as a one-block packet; a reserved LEN makes the write have no effect. -/
def doXferWrite (m q v : Nat) (s : State) : State :=
  let b := v % 4096
  let len := v / 65536 % 64
  if s.portWrites q m = false then s.violate m .write (queueAddr q 0x1C)
  else if s.queueActs q = false ∨ 60 < len then s
  else if s.injected 14 q then s.pointerMismatch q
  else if s.tag b ≠ 0x40 + m then s.badBlock m 2 b (queueAddr q 0x1C)
  else ((s.flushNow q).setTag b q).finish q m len [b]

def execXferWrite (m : Fin 32) (q : Fin 64) (v : Word) (s : State) : Host.Outcome State Fault Refusal :=
  .next (doXferWrite m.val q.val v.toNat s)

/-- XFER_READ: the consumer at a boundary takes a one-block packet whole; NV where nothing is visible, NV and MULTI in mid-packet or for a
longer packet. -/
def doXferRead (m q : Nat) (s : State) : State :=
  if s.portReads q m = false then (s.violate m .read (queueAddr q 0x1C)).answer (s.xferValue q)
  else if s.queueActs q = false then s.answer emptyWord
  else if s.injected 14 q then (s.pointerMismatch q).answer emptyWord
  else
    let s0 := s.flushNow q
    match (s0.queue q).packets with
    | [] => s0.answer emptyWord
    | p :: r =>
      match p.blocks with
      | [b] =>
        if (s0.queue q).pos = 0 then
          ((s0.setTag b (0x40 + m)).modQueue q (fun x => { x with packets := r })).answer (p.len % 64 * 65536 + b)
        else s0.answer 0xC0000000
      | _ => s0.answer 0xC0000000

def execXferRead (m : Fin 32) (q : Fin 64) (s : State) : Host.Outcome State Fault Refusal := .next (doXferRead m.val q.val s)

/-! ### The free list (R370) -/

/-- FREE_LIST_REBUILD: the two copies of the free list disagree: it is rebuilt, and FULL of every queue reads 1 meanwhile. -/
def doFreeListRebuild (s : State) : State := s.startRebuild

def execFreeListRebuild (s : State) : Host.Outcome State Fault Refusal := .next (doFreeListRebuild s)

/-- FREE_LIST_REBUILD_COMPLETE. -/
def doFreeListRebuildComplete (s : State) : State := s.set Reg.QUE_POOL_REBUILD 0

def execFreeListRebuildComplete (s : State) : Host.Outcome State Fault Refusal := .next (doFreeListRebuildComplete s)

/-! ### Hardware producers and consumers (R275, R324, R364) -/

/-- Blocks taken one by one for a queue. -/
def State.takeBlocks (s : State) (q : Nat) : Nat → State × List Nat
  | 0 => (s, [])
  | n + 1 =>
    match s.takeBlock q with
    | (s1, none) => (s1, [])
    | (s1, some b) => let r := s1.takeBlocks q n; (r.1, b :: r.2)

/-- The words of a packet stored in a chain of blocks, from content word `i`. -/
def State.storeWords (s : State) (blocks : List Nat) (i : Nat) : List Nat → State
  | [] => s
  | w :: r =>
    let b := blockAddr (blocks.getD ((i + 1) / 16) 0) 0
    ((s.setWord (b + 4 * ((i + 1) % 16)) w).touch b).storeWords blocks (i + 1) r

/-- A hardware producer writes a whole packet: every block is reserved first; false where the queue does not take it, and then nothing is
written (R364); damaged pointers or a damaged free list are met here as at every use (R369, R370). -/
def State.deliver (s0 : State) (q m len : Nat) (words : List Nat) : State × Bool :=
  if s0.mayWrite q m = false ∨ s0.queueActs q = false then (s0, false)
  else if s0.injected 14 q then (s0.pointerMismatch q, false)
  else
    let s := s0.flushNow q
    let need := words.length / 16 + 1
    let quota := s.get (Reg.QUE_CFG_MAXBLK q)
    if 64 < need ∨ s.freeCount < need ∨ s.listUsable = false ∨ (quota ≠ 0 ∧ quota < s.queueBlocks q + need) then (s, false)
    else
      let t := s.takeBlocks q need
      if t.2.length < need then (t.1, false) else ((t.1.storeWords t.2 0 words).finish q m len t.2, true)

/-- The content words of a packet. -/
def State.packetWords (s : State) (p : Packet) : List Nat :=
  (List.range ((p.len + 3) / 4)).map (fun i => s.wordAt (blockAddr (p.blocks.getD ((i + 1) / 16) 0) ((i + 1) % 16)))

/-- Every word of a packet, the length word first, read with its ECC (R352). -/
def State.readPacket (s : State) (m : Nat) (p : Packet) : State :=
  (List.range (1 + (p.len + 3) / 4)).foldl (fun s i =>
    let b := blockAddr (p.blocks.getD (i / 16) 0) 0
    ((s.eccCheck m .read (b + 4 * (i % 16))).1).touch b) s

/-- A hardware consumer that may read a queue meets damaged pointers as at every use (R369); else a pending flush takes effect. -/
def State.consume (s : State) (q m : Nat) : State :=
  if s.mayRead q m = false ∨ s.queueActs q = false then s
  else if s.injected 14 q then s.pointerMismatch q
  else s.flushNow q

/-- The head packet that a hardware consumer has before it: none where nothing is visible or it may not read. -/
def State.headPacket (s : State) (q m : Nat) : Option Packet :=
  if s.mayRead q m = false ∨ s.queueActs q = false ∨ (s.queue q).pos ≠ 0 then none else (s.queue q).packets.head?

/-- A hardware consumer takes the head packet whole: its length and words; with none, what the attempt leaves. -/
def State.takePacket (s : State) (q m : Nat) : State × Option (Nat × List Nat) :=
  let s0 := s.consume q m
  match s0.headPacket q m with
  | none => (s0, none)
  | some p => ((s0.readPacket m p).dropHead q, some (p.len, s0.packetWords p))

/-! ### Registers as read, and writes (R374) -/

/-- QUE_Qq_STAT as it reads. -/
def State.queueStat (s : State) (q : Nat) : Nat :=
  let x := s.queue q
  let b (c : Bool) (i : Nat) : Nat := if c then 2 ^ i else 0
  min 4095 x.packets.length * 0x100000 + s.queueBlocks q * 128 + b (s.on (Reg.QUE_STAT_PTRRST q)) 6
    + b (s.on (Reg.QUE_STAT_FLUSHPEND q)) 5 + b x.opened.isSome 4
    + b (match x.opened with | none => false | some p => p.trunc) 3
    + b (s.on (Reg.QUE_STAT_OVR q)) 2 + b (s.queueFull q) 1 + b x.packets.isEmpty 0

/-- QUE_POOL as it reads. -/
def State.poolWord (s : State) : Nat := s.get Reg.QUE_POOL_REBUILD * 0x80000000 + s.freeCount

/-- A write to QUE_Qq_CMD: RESET, else SKIP and then FLUSH (R365, R366, R371). -/
def State.queueCommand (s : State) (q v : Nat) : State :=
  if v.testBit 2 then doQueueReset q s
  else
    let s1 := if v.testBit 1 then doSkip q s else s
    if v.testBit 0 then (if v.testBit 1 then (doFlush q s1).flushNow q else doFlush q s1) else s1

end Sys2Proof.Machine
end

