-- ==== Sys2Proof/Machine/Spoke.lean ====
section
/-!
DEFINITION. Spoke links (R252 to R285, R551): link states, version negotiation, delay measurement, Plan frames, Reports and lost cells, the
service channel, the line rate of Kickstand, the SPK registers.
-/

namespace Sys2Proof

/-! ### Frames as they arrive (R254 to R256, R260, R270) -/

/-- Byte `i` of a frame. -/
def LineFrame.byte (f : LineFrame) (i : Nat) : Nat := (f.bytes.getD i 0).toNat

/-- A field of `n` bytes from byte `i`, least significant first (R255). -/
def LineFrame.field (f : LineFrame) (i : Nat) : Nat → Nat
  | 0 => 0
  | n + 1 => f.byte i + 256 * f.field (i + 1) n

/-- VER and SEQ of a frame. -/
def LineFrame.ver (f : LineFrame) : Nat := f.byte 1 / 64
def LineFrame.seq (f : LineFrame) : Nat := f.byte 1 % 64

/-- The CRC of a frame is right. -/
def LineFrame.crcOk (f : LineFrame) : Bool :=
  crc32c (((f.bytes.take 60).drop 1).map (fun b => b.toNat)) == f.field 60 4

/-- A Report holds an illegal field value (R260, R280). -/
def LineFrame.badField (f : LineFrame) : Bool :=
  decide (64 ≤ f.byte 6) || f.field 8 2 == 0xFFFF || f.field 10 2 == 0x8000 || decide (10000 < f.field 12 2) || f.field 16 2 == 0x8000
    || decide (16 ≤ f.byte 23) || (List.range 34).any (fun i => f.byte (26 + i) != 0)

/-- The reserved parts of a service frame are 0: bit 6 of byte 2, a LEN above 55, an ACK with a payload, bytes after the payload (R272). -/
def LineFrame.serviceLegal (f : LineFrame) : Bool :=
  !(f.byte 2).testBit 6 && decide (f.byte 4 ≤ 55) && (f.byte 3 != 2 || f.byte 4 == 0)
    && (List.range 55).all (fun i => decide (i < f.byte 4) || f.byte (5 + i) == 0)

/-- A HELLO of a cell with every field legal (R270). -/
def LineFrame.helloLegal (f : LineFrame) : Bool :=
  f.serviceLegal && f.ver == 1 && f.seq == 0 && f.byte 3 == 1 && (f.byte 5 == 2 || f.byte 5 == 4) && f.byte 6 % 2 == 0 && decide (f.byte 6 < 16)
    && decide (f.byte 7 < 8) && f.byte 7 % 4 != 3 && (f.byte 8 == 1 || f.byte 8 == 4)

end Sys2Proof

namespace Sys2Proof.Machine

/-- The types of service frames (R272). -/
def typeHello : Nat := 1
def typeAck : Nat := 2
def typeRate : Nat := 6

/-- A type that the queues carry (R272). -/
def queueType (t : Nat) : Bool := (decide (3 ≤ t) && decide (t ≤ 5)) || (decide (0x80 ≤ t) && decide (t ≤ 0xFF))

/-! ### Link states (R269) -/

/-- The link state of a port. After a reset, which enables every port, it is DOWN: a port leaves OFF as it is enabled (R269; DEDUCED, log 157). -/
def State.lstate (s : State) (p : Nat) : Nat := s.get (Reg.SPK_PSTAT_LSTATE p)

/-- A port is enabled (SPK_PORT_EN). -/
def State.portEnabled (s : State) (p : Nat) : Bool := s.bit (Reg.SPK_PORT_EN_PORT (p / 32)) (p % 32)

/-- The link state put, with the count of ports in OPERATE. -/
def State.setLink (s : State) (p st : Nat) : State :=
  let s1 := s.set (Reg.SPK_PSTAT_LSTATE p) st
  s1.set Reg.SPK_STAT_NOPER (((List.range 96).filter (fun q => s1.lstate q == 5)).length)

/-- DLYLONG judged: d > CAD_APPLY_DLY − (CAD_DL_DISP − CAD_PERIOD) − 80 counts (R267). -/
def State.judgeDlyLong (s : State) (p : Nat) : State :=
  let room : Int := (s.get Reg.CAD_APPLY_DLY_DLY : Int) - ((s.get Reg.CAD_DL_DISP_DL : Int) - s.get Reg.CAD_PERIOD_PERIOD) - 80
  s.setBool (Reg.SPK_PSTAT_DLYLONG p) (decide (32 * room < s.get (Reg.SPK_DLY_DLY p)))

/-- What a port keeps of its unit and version is dropped: it must negotiate again, and its cell is not admitted (R43, R269). -/
def State.dropTraining (s : State) (p : Nat) : State :=
  (s.modPort p (fun x => { x with
    got := none, good := false, bypSent := none, closedSeen := false, rxSeq := none, echoT1 := none, roundTrip := none, avg := none, formed := false, rejects := 0,
    confirmed := none, acked := false, window := 1, admitted := false, verRun := 0, lossAt := none, svcRx := none
    line := [], rateWait := none, rateAt := none })).set
    (Reg.SPK_PSTAT_VER p) 0

/-- A port to OFF, DOWN or ALIGN: version and d are not kept (R281). -/
def State.linkDown (s : State) (p st : Nat) : State :=
  ((((s.dropTraining p).set (Reg.SPK_DLY_DLY p) 0).set (Reg.SPK_PSTAT_DLYLONG p) 0).set (Reg.SPK_PSTAT_DLYSTALE p) 0).setLink p st

/-- The versions that VERMIN and VERMAX admit, as a map of bits (R270). -/
def State.offerMap (s : State) : Nat :=
  [1, 2, 3].foldl (fun m v => if s.get Reg.SPK_CTRL_VERMIN ≤ v ∧ v ≤ s.get Reg.SPK_CTRL_VERMAX then setBit m v else m) 0

/-- A port to NEGOTIATE: the first 16 samples after it are averaged, and the Hub offers its versions, those of VERMIN and VERMAX as they stand
(R265, R270, R285). -/
def State.linkNegotiate (s : State) (p : Nat) : State :=
  ((s.dropTraining p).modPort p (fun x => { x with avg := some (0, 0), acceptTick := s.tick, offerAt := s.now, offer := s.offerMap })).setLink p 3

/-- NEGOTIATE ends once the version is confirmed and d formed (R269). -/
def State.linkReady (s : State) (p : Nat) : State :=
  if s.lstate p = 3 ∧ (s.port p).acked = true ∧ (s.port p).formed = true then s.setLink p 4 else s

/-- A cell is declared lost: SPK_LOST, bypass cause 2, a Recoverable fault, and OPERATE becomes READY; in Kickstand a wake request (R279,
R284). -/
def State.declareLost (s : State) (p : Nat) : State :=
  if s.portLost p then s
  else
    let s1 := (s.putBit (Reg.SPK_LOST_PORT (p / 32)) (p % 32) true).modPort p (fun x => { x with
      bypCause := if x.bypCause = 0 then 2 else x.bypCause })
    let s2 := s1.fault (96 + p) (s.get (Reg.SYS_PORT_MAP_CELL p))
    let s3 : State := { s2 with spk := { s2.spk with wakeReq := s2.spk.wakeReq || s2.inKickstand } }
    if s3.lstate p = 5 then s3.setLink p 4 else s3

/-- CELL_DECLARED_LOST: MISSN has reached 3 (R279). -/
def doCellDeclaredLost (p : Nat) (s : State) : State := if s.get (Reg.SPK_PSTAT_MISSN p) = 3 then s.declareLost p else s

def execCellDeclaredLost (port : Fin 96) (s : State) : Host.Outcome State Fault Refusal := .next (doCellDeclaredLost port.val s)

/-- ALIGNMENT_FOUND: 16 valid characters with a comma. DOWN goes to ALIGN with AUTOTRAIN 1, ALIGN to NEGOTIATE; a port in RESYNC is back
in time as it was, or in READY where its cell was declared lost meanwhile (R269, R281). -/
def doAlignmentFound (p : Nat) (s : State) : State :=
  let s0 : State := { s with spk := { s.spk with alignWait := clearBit s.spk.alignWait p } }
  let st := s0.lstate p
  if s0.portEnabled p = false then s0
  else if st = 0 ∨ st = 1 then
    if s0.on Reg.SPK_CTRL_AUTOTRAIN then s0.linkDown p 2 else s0
  else if st = 2 then s0.linkNegotiate p
  else if st = 6 then
    match (s0.port p).lossAt with
    | none => s0
    | some (t, oper) =>
      if s0.now ≤ t + 400 * s0.get Reg.SPK_RSTMO_VALUE then
        (s0.modPort p (fun x => { x with lossAt := none })).setLink p (if oper && !s0.portLost p then 5 else 4)
      else s0
  else s0

def execAlignmentFound (port : Fin 96) (s : State) : Host.Outcome State Fault Refusal := .next (doAlignmentFound port.val s)

/-- ALIGNMENT_LOSS: READY and OPERATE go to RESYNC, ALIGN and NEGOTIATE to DOWN (R281). -/
def doAlignmentLoss (p : Nat) (s : State) : State :=
  let st := s.lstate p
  if st = 4 ∨ st = 5 then (s.modPort p (fun x => { x with lossAt := some (s.now, st == 5), bypSent := none })).setLink p 6
  else if st = 2 ∨ st = 3 then s.linkDown p 1
  else s

def execAlignmentLoss (port : Fin 96) (s : State) : Host.Outcome State Fault Refusal := .next (doAlignmentLoss port.val s)

/-- RESYNC_TIMEOUT: no alignment within SPK_RSTMO: the cell is declared lost if it is not yet, and the port goes to DOWN (R279, R281). -/
def doResyncTimeout (p : Nat) (s : State) : State :=
  match (s.port p).lossAt with
  | none => s
  | some (t, _) =>
    if s.lstate p = 6 then ((s.reach (t + 400 * s.get Reg.SPK_RSTMO_VALUE + 1)).declareLost p).linkDown p 1 else s

def execResyncTimeout (port : Fin 96) (s : State) : Host.Outcome State Fault Refusal := .next (doResyncTimeout port.val s)

/-- RETRAIN: each enabled port of the word goes to DOWN and then ALIGN (R269). -/
def doRetrain (j v : Nat) (s : State) : State :=
  (bitList 32 v).foldl (fun s b => if s.portEnabled (32 * j + b) then s.linkDown (32 * j + b) 2 else s) s

def execRetrain (j : Fin 3) (v : Word) (s : State) : Host.Outcome State Fault Refusal := .next (doRetrain j.val v.toNat s)

/-- SPK_PORT_EN_WRITE: a port whose bit goes to 0 is OFF; one whose bit goes to 1 is DOWN (R269). -/
def doSpkPortEnWrite (j v : Nat) (s : State) : State :=
  let old := s.get (Reg.SPK_PORT_EN_PORT j)
  let s1 := s.set (Reg.SPK_PORT_EN_PORT j) v
  (List.range 32).foldl (fun s b =>
    if v.testBit b = old.testBit b then s
    else s.linkDown (32 * j + b) (if v.testBit b then 1 else 0)) s1

def execSpkPortEnWrite (j : Fin 3) (v : Word) (s : State) : Host.Outcome State Fault Refusal :=
  .next (doSpkPortEnWrite j.val v.toNat s)

/-! ### Delay measurement (R264 to R267) -/

/-- An echo sample missing or rejected is counted. -/
def State.echoMissed (s : State) (p : Nat) : State := s.count (Reg.SPK_ERRC_ECHO p) 1

/-- ECHO leaves one port in its first slot from TIME `t` on; an earlier one without its reply is missing. A block symbol takes the slot: the sample is
missing too (R264, R265). -/
def State.echoPort (s : State) (t0 p : Nat) : State :=
  let t := s.charAt p t0
  let s1 := if (s.port p).echoT1.isSome then s.echoMissed p else s
  if t < (s1.port p).blockTill then (s1.modPort p (fun x => { x with echoT1 := none })).echoMissed p
  else (s1.modPort p (fun x => { x with echoT1 := some (32 * t) })).emit (.spokeEcho p t)

/-- The next slot for ECHO: the first character slot from the tick start on while ticks go on, a TIME multiple of 8,000 counts while RUN is 0;
each slot once (R264). -/
def State.echoDue (s : State) : Option Nat :=
  if s.running then
    let t := (s.cad.tickStart + 15) / 16 * 16
    if s.cad.inTick = false ∨ t < s.now ∨ s.spk.echoSlot = some t then none else some t
  else
    let t := (s.now + 7999) / 8000 * 8000
    some (if s.spk.echoSlot = some t then t + 8000 else t)

/-- ECHO: sent in its slot on every port in ALIGN, NEGOTIATE, READY or OPERATE; none in Kickstand (R264, R284). -/
def doEcho (s : State) : State :=
  match s.echoDue with
  | none => s
  | some t =>
    if s.inKickstand then s
    else
      let s1 := s.reach t
      let s2 : State := { s1 with spk := { s1.spk with echoSlot := some t } }
      ((List.range 96).filter (fun p => decide (2 ≤ s.lstate p) && decide (s.lstate p ≤ 5))).foldl (fun s p => s.echoPort t p) s2

def execEcho (s : State) : Host.Outcome State Fault Refusal := .next (doEcho s)

/-- The nearest integer; halves are open (log 7). -/
def nearest (x : Rat) : Int :=
  let f := x.floor
  if x - (f : Rat) < 1 / 2 then f else if 1 / 2 < x - (f : Rat) then f + 1 else f + (if Config.roundUp x then 1 else 0)

/-- d put: 20 bits in 78.125 ps units; a value outside them is open (log 7). -/
def State.setDelay (s : State) (p : Nat) (d : Int) : State :=
  let v := if 0 ≤ d ∧ d < 0x100000 then d else Config.outOfRange d
  (s.set (Reg.SPK_DLY_DLY p) (bitsOf 20 v)).judgeDlyLong p

/-- A sample d_s, twice its value given: averaged over the first 16, then d moves by a sixteenth of the difference, or the sample is
rejected where the difference exceeds 2 ns (R265). -/
def State.delaySample (s : State) (p : Nat) (twice : Int) : State :=
  let x := s.port p
  let d : Int := s.get (Reg.SPK_DLY_DLY p)
  let accept (s : State) : State := (s.modPort p (fun x => { x with rejects := 0, acceptTick := s.tick })).set (Reg.SPK_PSTAT_DLYSTALE p) 0
  match x.avg with
  | some (sum, n) =>
    let s1 := accept s
    if n + 1 < 16 then s1.modPort p (fun x => { x with avg := some (sum + twice, n + 1) })
    else ((s1.modPort p (fun x => { x with avg := none, formed := true })).setDelay p (intOf (mkRat (sum + twice) 32))).linkReady p
  | none =>
    let diff : Rat := mkRat (twice - 2 * d) 2
    if 128 / 5 < absRat diff then (s.echoMissed p).modPort p (fun x => { x with rejects := x.rejects + 1 })
    else (accept s).setDelay p (d + nearest (diff / 16))

/-- ECHO_REPLY_RECEIVED: the first bit of the reply arrives at `t2` (TIME × 32): t2 − t1 waits for the TURN that the next Report brings;
one that still waited is missing (R264, R265). -/
def doEchoReplyReceived (p t2 : Nat) (s : State) : State :=
  match (s.port p).echoT1 with
  | none => s
  | some t1 =>
    let s1 := (s.reach (t2 / 32))
    let s2 := if (s1.port p).roundTrip.isSome then s1.echoMissed p else s1
    s2.modPort p (fun x => { x with echoT1 := none, roundTrip := some ((t2 : Int) - t1) })

def execEchoReplyReceived (port : Fin 96) (t2 : Nat) (s : State) : Host.Outcome State Fault Refusal :=
  .next (doEchoReplyReceived port.val t2 s)

/-- TURN of a Report completes the sample of the last echo (R264, R265). -/
def State.takeTurn (s : State) (p turn : Nat) : State :=
  if turn = 0xFFFF then s
  else match (s.port p).roundTrip with
    | none => s
    | some rt =>
      (s.modPort p (fun x => { x with roundTrip := none })).delaySample p (rt - turn + 2 * s.getInt (Reg.SPK_ASYM_ASYM p))

/-- DLYJUMP: 16 consecutive rejections set it, raise a Note and restart the averaging; d keeps its value meanwhile (R265). -/
def doDlyjump (p : Nat) (s : State) : State :=
  if (s.port p).rejects < 16 then s
  else ((s.modPort p (fun x => { x with rejects := 0, avg := some (0, 0) })).set (Reg.SPK_PSTAT_DLYJUMP p) 1).fault 49 p

def execDlyjump (port : Fin 96) (s : State) : Host.Outcome State Fault Refusal := .next (doDlyjump port.val s)

/-- DLYSTALE: 1,000 consecutive ticks without an accepted sample (R265). -/
def doDlystale (p : Nat) (s : State) : State :=
  if s.lstate p < 3 ∨ (s.tick + 0x100000000 - (s.port p).acceptTick) % 0x100000000 < 1000
      ∨ s.on (Reg.SPK_PSTAT_DLYSTALE p) = true then s
  else (s.set (Reg.SPK_PSTAT_DLYSTALE p) 1).fault 50 p

def execDlystale (port : Fin 96) (s : State) : Host.Outcome State Fault Refusal := .next (doDlystale port.val s)

/-! ### Plan frames (R257 to R259, R262, R266, R551) -/

/-- The Hub sends Plan frames on a port: READY, OPERATE, RESYNC as before the loss, and NEGOTIATE after the acknowledgement (R269, R281,
R551). -/
def State.sendsPlans (s : State) (p : Nat) : Bool :=
  (decide (4 ≤ s.lstate p) && decide (s.lstate p ≤ 6)) || (s.lstate p == 3 && (s.port p).acked)

/-- The code of a leg's state (R258). -/
def legCode : LegPos → Nat
  | .off => 0
  | .lower => 1
  | .upper => 2

/-- A leg descriptor (R258). -/
def LegPlan.descriptor (l : LegPlan) : Nat :=
  legCode l.init + 4 * (match l.edges with | [] => 0 | e :: _ => legCode e.2) + 16 * (l.edges.length % 8)

/-- The four edge offsets of a leg; unused ones are 0 (R257). -/
def LegPlan.offsets (l : LegPlan) : List Int := (List.range 4).map (fun i => ((l.edges.map (fun e => e.1)).getD i 0))

/-- RPTOFS := CAD_PERIOD − CAD_APPLY_DLY + SPK_RPT_OFS (R262). -/
def State.rptOfs (s : State) : Nat :=
  (s.get Reg.CAD_PERIOD_PERIOD + s.get Reg.SPK_RPT_OFS_VALUE + 0x10000 - s.get Reg.CAD_APPLY_DLY_DLY) % 0x10000

/-- The body of a Plan frame as R257 lays it out, from byte 1 on. -/
def planBody (ver seq tick cmd gate aofs dt per rptOfs : Nat) (l1 l2 : LegPlan) (atime : Nat) : List Nat :=
  [64 * ver + seq] ++ bytesOfNat tick 4 ++ [cmd, gate] ++ bytesOfNat aofs 3 ++ bytesOfNat dt 2 ++ bytesOfNat per 2 ++ bytesOfNat rptOfs 2
    ++ [l1.descriptor, l2.descriptor] ++ (l1.offsets ++ l2.offsets).flatMap (fun e => bytesOfNat e.toNat 3) ++ bytesOfNat atime 8

/-- The Plan frame to a port: the plan last dispatched to its cell, with HOLD, BLOCKED and BYPASS in CMD, AOFS formed for the frame's start;
GATE is 0 under version 1, ATIME only under version 3 (R257 to R259, R266, R271). -/
def State.planFrame (s : State) (hold : Bool) (p : Nat) : List Nat :=
  let plan : CellPlan := ((s.cellOf p).bind (fun c => tblGet none s.edg.sent c)).getD { start := s.planStart, bypass := true }
  let ver := s.get (Reg.SPK_PSTAT_VER p)
  let cmd : Nat := (if hold then 1 else 0) + (if plan.blocked then 2 else 0) + (if plan.bypass then 4 else 0)
  let aofs : Int := clampInt (32 * ((plan.start : Int) - s.spk.planAt) - s.get (Reg.SPK_DLY_DLY p)) 0 0xFFFFFF
  frameOf 64 charPsof (planBody ver (((s.port p).planSeq + 63) % 64) s.tick cmd (if ver = 1 then 0 else plan.code) aofs.toNat plan.dt
    (s.get Reg.CAD_PERIOD_PERIOD) s.rptOfs plan.leg1 plan.leg2 (if ver = 3 then plan.start else 0))

/-- A frame with BYPASS starts the 8 ticks of R179: sent while the link is in operation, for a cell that is bypassed. -/
def State.noteBypass (s : State) (p : Nat) : State :=
  if s.frameBypass p && s.linkUp p && (s.port p).bypCause != 0 && !(s.port p).closedSeen && (s.port p).bypSent.isNone then
    s.modPort p (fun x => { x with bypSent := some s.tick })
  else s

/-- The Plan frames started at this tick are sent with the plans just dispatched (R257 to R259). -/
def State.sendPlans (s : State) (hold : Bool) : State :=
  let s1 := (bitList 96 s.spk.planPorts).foldl (fun s p =>
    ((s.emit (.spokeFrame p s.spk.planAt (s.planFrame hold p))).noteBypass p).modPort p (fun x => { x with
      planTicks := (s.tick :: x.planTicks).take 4 })) s
  { s1 with spk := { s1.spk with planPorts := 0, planLine := s.spk.planPorts } }

/-- The Plan frames of this tick start: each port's SEQ counts on, and a service frame that a change of timing left in the way yields (R13, R256,
R273). -/
def State.startPlans (s : State) : State :=
  let ps := (List.range 96).filter (fun p => s.sendsPlans p)
  let s1 := ps.foldl (fun s p => (s.modPort p (fun x => { x with planSeq := (x.planSeq + 1) % 64 })).lineYield p (s.now + 1024)) s
  { s1 with spk := { s1.spk with planPorts := ps.foldl setBit 0, planAt := s.now } }

/-! ### Reports (R260, R261, R277, R278, R280) -/

/-- The TICK that a Report must carry: the tick, or in Kickstand the millisecond of the last Plan frames (R280, R284). -/
def State.reportTick (s : State) : Nat :=
  if s.inKickstand then (s.spk.ksPlanAt / countsPerMs) % 0x100000000 else s.tick

/-- The Report arrives after the Acquire deadline (R12). -/
def State.reportLate (s : State) : Bool :=
  (s.running || s.cad.inTick) && !s.inKickstand
    && (s.get Reg.CAD_STAT_PHASE != 0 || decide (s.cad.tickStart + s.get Reg.CAD_DL_ACQ_DL < s.now))

/-- A plan with these low bits of TICK was dispatched to the port in the last four ticks (R261). -/
def State.planKnown (s : State) (p low : Nat) : Bool :=
  (s.port p).planTicks.any (fun t => t % 256 == low && decide ((s.tick + 0x100000000 - t) % 0x100000000 ≤ 4))

/-- The quantities of a Report as the device uses them: an illegal value keeps the last one; under version 1 no valid time (R260, R261,
R271, R280). -/
def State.reportData (s : State) (p : Nat) (f : LineFrame) : CellData :=
  let old := (s.port p).data
  let v1 := s.get (Reg.SPK_PSTAT_VER p) == 1
  let stat := f.byte 6
  let late (i : Nat) : Nat := if v1 then 0 else f.field i 2
  { vcap := f.field 8 2
    isrc := if f.field 10 2 = 0x8000 then old.isrc else signedOf 16 (f.field 10 2)
    soc := if 10000 < f.field 12 2 then old.soc else f.field 12 2
    von := late 14
    temp := if late 16 = 0x8000 then old.temp else signedOf 16 (late 16)
    ton := late 18
    toff := late 20
    planTick := if v1 then 0 else f.byte 22
    gate := if v1 then 0 else f.byte 23 % 16
    fcode := f.byte 7
    tvalid := !v1 && stat.testBit 4 && decide (f.byte 23 < 16) && s.planKnown p (f.byte 22)
    socv := stat.testBit 5 && decide (f.field 12 2 ≤ 10000)
    fault := stat.testBit 0
    bypClosed := stat.testBit 1
    blocked := stat.testBit 2
    noplan := stat.testBit 3 }

/-- The sequence number expected from the last Report and the ticks since (R280). -/
def State.seqRight (s : State) (p : Nat) (f : LineFrame) : Bool :=
  match (s.port p).rxSeq with
  | none => true
  | some (q, t) => f.seq == (q + (s.reportTick + 0x100000000 - t) % 0x100000000) % 64

/-- A Report that passed its checks is used (R260, R261, R277, R280): a wrong SEQ and an illegal field are counted, the delay sample and
the dv/dt estimates are taken, and it is good unless its VCAP is 0xFFFF. -/
def State.useReport (s : State) (p : Nat) (f : LineFrame) : State :=
  let s1 := if s.seqRight p f then s else s.count (Reg.SPK_ERRA_SEQ p) 1
  let s2 := if f.badField then s1.count (Reg.SPK_ERRB_FIELD p) 1 else s1
  let d := s2.reportData p f
  let s3 := s2.modPort p (fun x => { x with
    rxSeq := some (f.seq, s2.reportTick), verRun := 0, got := if f.field 8 2 = 0xFFFF then none else some d })
  let s4 := if d.tvalid ∧ f.field 8 2 ≠ 0xFFFF then s3.checkDvdt p d else s3
  let s5 := s4.takeTurn p (f.field 24 2)
  if s5.inKickstand ∧ d.fault = true then { s5 with spk := { s5.spk with wakeReq := true } } else s5

/-- A Report with another version than the negotiated one: discarded; the third in a row takes the port to NEGOTIATE (R280). -/
def State.wrongVersion (s : State) (p : Nat) : State :=
  let s1 := (s.count (Reg.SPK_ERRB_VER p) 1).modPort p (fun x => { x with verRun := x.verRun + 1 })
  if (s1.port p).verRun < 3 then s1 else s1.linkNegotiate p

/-- A frame that begins with another start character: after PSOF, BLOCK or a reserved control character it is discarded and counted in CODE;
IDLE, ECHO and the start of another kind of frame are none of this command's (R254, R280). -/
def State.wrongStart (s : State) (p : Nat) (f : LineFrame) : State :=
  if [charIdle, charEcho, charRsof, charSsof].contains (f.byte 0) then s else s.count (Reg.SPK_ERRB_CODE p) 1

/-- A frame begins with a start character. -/
def startsWith (f : LineFrame) (c : Nat) : Bool := f.bytes.isEmpty || f.byte 0 == c

/-- The bad-CRC check of the next frame of a port, inverted by an injection (R386). -/
def State.crcInjected (s : State) (p : Nat) : Bool := s.injected 11 p

/-- REPORT_FRAME_RECEIVED: a Report arrives: discarded and counted where it breaks a rule, else used (R277, R280). In NEGOTIATE only its
TURN is taken, from a Report with a valid CRC and the negotiated version (R551). -/
def doReportFrameReceived (p : Nat) (f : LineFrame) (s : State) : State :=
  let st := s.lstate p
  if st < 3 ∨ 5 < st then s
  else if f.codeError then s.count (Reg.SPK_ERRB_CODE p) 1
  else if startsWith f charRsof = false then s.wrongStart p f
  else if f.bytes.length ≠ 64 then s.count (Reg.SPK_ERRB_SIZE p) 1
  else
    let inj := s.crcInjected p
    let s0 := if inj then s.injectionDone else s
    if (inj || !f.crcOk) = true then s0.count (Reg.SPK_ERRA_CRC p) 1
    else if st = 3 then
      if (s0.port p).acked = true ∧ f.ver = s0.get (Reg.SPK_PSTAT_VER p) then s0.takeTurn p (f.field 24 2) else s0
    else if f.field 2 4 ≠ s0.reportTick then s0.count (Reg.SPK_ERRA_TICK p) 1
    else if s0.reportLate then s0.count (Reg.SPK_ERRC_LATE p) 1
    else if f.ver ≠ s0.get (Reg.SPK_PSTAT_VER p) then s0.wrongVersion p
    else s0.useReport p f

def execReportFrameReceived (port : Fin 96) (frame : LineFrame) (s : State) : Host.Outcome State Fault Refusal :=
  .next (doReportFrameReceived port.val frame s)

/-- VCAP extrapolated linearly from the last two good values over the ticks elapsed, its change limited to 2 % of VNOM per tick (R278). -/
def State.predictVolts (s : State) (p tick : Nat) : Int :=
  let v := (s.port p).data.vcap
  match (s.port p).goodV with
  | (t1, v1) :: (t0, v0) :: _ =>
    let span := (t1 + 0x100000000 - t0) % 0x100000000
    let n : Rat := ((tick + 0x100000000 - t1) % 0x100000000 : Nat)
    let slope : Rat := if span = 0 then 0 else mkRat (v1 - v0) span
    let lim : Rat := match s.cellOf p with
      | none => absRat slope
      | some c => (s.vnom c : Rat) / 50
    intOf ((v1 : Rat) + clampRat slope (-lim) lim * n)
  | _ => v

/-- One port judged at an Acquire deadline, or per millisecond in Kickstand: its Report is good or bad, MISSN and MISS follow, and the
quantities are those reported, predicted while MISSN is 1 or 2, or held (R277, R278, R284). -/
def State.judgeReport (s : State) (tick p : Nat) : State :=
  let x := s.port p
  let got := if s.lstate p = 6 then none else x.got
  match got with
  | some d =>
    let s1 := s.modPort p (fun x => { x with
      got := none, good := true, pred := false, data := d, goodV := ((tick, d.vcap) :: x.goodV).take 2,
      bypSent := if d.bypClosed then none else x.bypSent, closedSeen := d.bypClosed })
    if d.noplan then s1.count (Reg.SPK_PSTAT_MISSN p) 1 else s1.set (Reg.SPK_PSTAT_MISSN p) 0
  | none =>
    let s1 := (s.count (Reg.SPK_PSTAT_MISSN p) 1).count (Reg.SPK_ERRC_MISS p) 1
    let m := s1.get (Reg.SPK_PSTAT_MISSN p)
    s1.modPort p (fun x => { x with
      got := none, good := false, pred := true,
      data := if m ≤ 2 then { x.data with vcap := s.predictVolts p tick, tvalid := false } else x.data })

/-- Every port in READY, OPERATE or RESYNC judged (R277). -/
def State.judgeReports (s : State) (tick : Nat) : State :=
  ((List.range 96).filter (fun p => decide (4 ≤ s.lstate p) && decide (s.lstate p ≤ 6))).foldl (fun s p => s.judgeReport tick p) s

/-- Word `j` of a cell in the CLE input map (R263). -/
def State.cellWord (s : State) (c j : Nat) : Nat :=
  match s.portOf c with
  | none => 0
  | some p =>
    let x := s.port p
    let d := x.data
    let b (v : Bool) (i : Nat) : Nat := if v then 2 ^ i else 0
    match j with
    | 0 => puWord (ratio (d.vcap : Rat) (s.vnom c : Rat))
    | 1 => puWord (ratio ((d.isrc : Rat) / 10) s.ibase)
    | 2 => puWord (mkRat d.soc 10000)
    | 3 => d.von % 0x10000
    | 4 => bitsOf 32 d.temp
    | 5 => (d.toff % 0x10000) * 0x10000 + d.ton % 0x10000
    | 6 => b d.tvalid 31 + (d.planTick % 256) * 0x10000 + (d.fcode % 256) * 256 + d.gate % 16
    | _ => b x.pred 31 + b (s.cellLost c) 30 + b (s.isBypassed c) 29 + b d.fault 28 + b d.bypClosed 27 + b d.noplan 26
        + s.get (Reg.SPK_PSTAT_VER p) * 0x1000000 + s.get (Reg.SPK_PSTAT_MISSN p) * 0x10000

/-! ### Negotiation (R270, R271, R43) -/

/-- A service frame for a port: VER, SEQ, ACKV, ACK, TYPE, LEN and the payload (R272). -/
def State.serviceFrame (s : State) (p ver seq type : Nat) (payload : List Nat) : List Nat :=
  let ack := match (s.port p).svcRx with
    | none => 0
    | some a => 128 + a
  frameOf 64 charSsof ([64 * ver + seq, ack, type, payload.length] ++ payload)

/-- A service frame sent on a port from TIME `t` on (R272, R273). -/
def State.sendServiceFrom (s : State) (t p ver seq type : Nat) (payload : List Nat) : State :=
  s.placeFrame p t (s.serviceFrame p ver seq type payload)
def State.sendService (s : State) (p ver seq type : Nat) (payload : List Nat) : State := s.sendServiceFrom s.now p ver seq type payload

/-- A HELLO of the Hub: MSG, VERMAP, device index, port (R270). -/
def State.sendHello (s : State) (p msg map_ : Nat) : State :=
  s.sendService p 1 0 typeHello [msg, map_, s.get Reg.PEL_STAT_INDEX, p, 0, 0, 0, 0, 0, 0]

/-- HELLO_OFFER: every 1 ms in NEGOTIATE until the cell's acknowledgement, once per second while VERERR is set (R270). -/
def doHelloOffer (p : Nat) (s : State) : State :=
  if s.lstate p ≠ 3 ∨ (s.port p).acked = true then s
  else
    let s1 := s.reach ((s.port p).offerAt + (if s.on (Reg.SPK_PSTAT_VERERR p) then 1000 else 1) * countsPerMs)
    (s1.sendHello p 1 (s1.port p).offer).modPort p (fun x => { x with offerAt := s1.now })

def execHelloOffer (port : Fin 96) (s : State) : Host.Outcome State Fault Refusal := .next (doHelloOffer port.val s)

/-- A service frame that breaks a rule of the line is counted in FIELD (R280). -/
def State.badService (s : State) (p : Nat) : State := s.count (Reg.SPK_ERRB_FIELD p) 1

/-- The frame as a whole is right: code, size and CRC. -/
def State.frameWhole (s : State) (p : Nat) (f : LineFrame) : Bool :=
  !f.codeError && f.bytes.length == 64 && !s.crcInjected p && f.crcOk

/-- What a reply declares: kind, bridge, serial number, reaction time, service window. -/
def State.storeUnit (s : State) (p : Nat) (f : LineFrame) : State :=
  ((((s.set (Reg.SPK_PSTAT_KIND p) (f.byte 7 % 4)).set (Reg.SPK_PSTAT_LEGS p) (f.byte 7 / 4 % 2)).set
    (Reg.SPK_UNIT_SERIAL p) (f.field 9 4)).set (Reg.SPK_DLY_REACT p) (min 4095 (f.field 13 2))).modPort p
    (fun x => { x with window := f.byte 8, react := f.field 13 2 })

/-- The unit checked and admitted, or refused with a Recoverable fault (R43). It is admitted at its HELLO reply, before a version is confirmed
(DESIGN CHOICE, log 120: the rule says during training). -/
def State.checkUnit (s : State) (p : Nat) : State :=
  if s.unitAgrees p then s.admitCell p else (s.modPort p (fun x => { x with admitted := false })).fault 40 p

/-- A reply in NEGOTIATE: the unit is checked, the highest common version confirmed; with none, VERERR and a Recoverable fault (R270). -/
def State.helloReply (s : State) (p : Nat) (f : LineFrame) : State :=
  let s1 := ((s.storeUnit p f).checkUnit p).modPort p (fun x => { x with acked := false, confirmed := none })
  let s2 := s1.set (Reg.SPK_PSTAT_VER p) 0
  match [3, 2, 1].find? (fun v => ((s2.port p).offer &&& f.byte 6).testBit v) with
  | none => (s2.set (Reg.SPK_PSTAT_VERERR p) 1).fault 51 p
  | some v =>
    ((s2.set (Reg.SPK_PSTAT_VERERR p) 0).sendHello p 3 (2 ^ v)).modPort p (fun x => { x with confirmed := some v })

/-- An acknowledgement in NEGOTIATE of the version confirmed: it is in use from the following frame (R270, R551). -/
def State.helloAck (s : State) (p : Nat) (f : LineFrame) : State :=
  match (s.port p).confirmed with
  | none => s
  | some v =>
    if f.byte 6 = 2 ^ v then
      ((s.modPort p (fun x => { x with acked := true, confirmed := none })).set (Reg.SPK_PSTAT_VER p) v).linkReady p
    else s.badService p

/-- HELLO: a reply or an acknowledgement of a cell (R270); a reply in READY or OPERATE is a unit restart: the cell is declared lost at once
and the port negotiates again (R280). -/
def doHello (p : Nat) (f : LineFrame) (s : State) : State :=
  let st := s.lstate p
  if st < 3 ∨ 5 < st then s
  else if startsWith f charSsof = false then s.wrongStart p f
  else
    let s0 := if s.crcInjected p then s.injectionDone else s
    if s.frameWhole p f = false ∨ f.helloLegal = false then s0.badService p
    else if st = 3 then
      if f.byte 5 = 2 then s0.helloReply p f else s0.helloAck p f
    else if f.byte 5 = 2 then
      ((s0.count (Reg.SPK_ERRB_VER p) 1).declareLost p).linkNegotiate p
    else s0

def execHello (port : Fin 96) (frame : LineFrame) (s : State) : Host.Outcome State Fault Refusal := .next (doHello port.val frame s)

/-! ### Service channel (R272 to R275) -/

/-- The service window of a port (R271). -/
def State.svcWindow (s : State) (p : Nat) : Nat := if s.get (Reg.SPK_PSTAT_VER p) = 3 then (s.port p).window else 1

/-- A sequenced service frame is sent from TIME `t` on and kept until it is acknowledged (R274). -/
def State.sendSequencedFrom (s : State) (t p type : Nat) (payload : List Nat) : State :=
  let q := (s.port p).svcSeq
  let s1 := s.sendServiceFrom t p (s.get (Reg.SPK_PSTAT_VER p)) q type payload
  s1.modPort p (fun x => { x with svcSeq := (x.svcSeq + 1) % 64, unacked := x.unacked ++ [⟨q, type, payload, 1, x.svcAt⟩] })
def State.sendSequenced (s : State) (p type : Nat) (payload : List Nat) : State := s.sendSequencedFrom s.now p type payload

/-- A further sequenced frame may be sent: fewer than the window are unacknowledged (R274). -/
def State.svcRoom (s : State) (p : Nat) : Bool := decide ((s.port p).unacked.length < s.svcWindow p)

/-- RATE sent on a port from TIME `t` on, in its window; the port changes its rate 100 µs after the frame's last character (R274, R283). -/
def State.sendRateFrom (s : State) (t p : Nat) (slow : Bool) : State :=
  if s.svcRoom p then
    let s1 := s.sendSequencedFrom t p typeRate [if slow then 0 else 1]
    s1.modPort p (fun x => { x with rateWait := none, rateAt := some (s.afterFrame p x.svcAt, slow) })
  else s.modPort p (fun x => { x with rateWait := some slow })

/-- A RATE that waited for the window is sent (R274, R283). -/
def State.sendRateWaiting (s : State) (p : Nat) : State :=
  match (s.port p).rateWait with
  | none => s
  | some slow => s.sendRateFrom s.now p slow

/-- The bytes of words, least significant first. -/
def bytesOfWords (ws : List Nat) : List Nat := ws.flatMap (fun w => [w % 256, w / 256 % 256, w / 65536 % 256, w / 16777216 % 256])

/-- Words of bytes, least significant first. -/
def wordsOfBytes (bs : List Nat) : List Nat :=
  (List.range ((bs.length + 3) / 4)).map (fun i =>
    bs.getD (4 * i) 0 + 256 * bs.getD (4 * i + 1) 0 + 65536 * bs.getD (4 * i + 2) 0 + 16777216 * bs.getD (4 * i + 3) 0)

/-- SERVICE_FRAME_SEND: the head packet of OUTQ: discarded and counted in GIVEUP where its type, port or LEN is not one to send; it waits
while the port's window is full (R273 to R275). -/
def doServiceFrameSend (s : State) : State :=
  match s.takePacket (s.get Reg.SPK_SVC_Q_OUTQ) 7 with
  | (s1, none) => s1
  | (s1, some (_, ws)) =>
    let h := ws.getD 0 0
    let p := h % 128
    let type := h / 256 % 256
    let len := h / 65536 % 256
    if 96 ≤ p then s1
    else if queueType type = false ∨ s.linkUp p = false ∨ 55 < len then s1.count (Reg.SPK_SVC_GIVEUP p) 1
    else if s.svcRoom p = false then s.consume (s.get Reg.SPK_SVC_Q_OUTQ) 7
    else
      let bs := bytesOfWords (ws.drop 1)
      s1.sendSequenced p type ((List.range len).map (fun i => bs.getD i 0))

def execServiceFrameSend (s : State) : Host.Outcome State Fault Refusal := .next (doServiceFrameSend s)

/-- The frames acknowledged by ACK are no longer kept: those up to and with that SEQ, if it is one of them (R274). -/
def ackUpTo (a : Nat) (l : List SvcSent) : List SvcSent :=
  if l.any (fun e => e.seq == a) then (l.dropWhile (fun e => e.seq != a)).drop 1 else l

/-- The ACK frame: LEN 0, not sequenced (R272, R274). -/
def State.sendAck (s : State) (p : Nat) : State := s.sendService p (s.get (Reg.SPK_PSTAT_VER p)) 0 typeAck []

/-- A sequenced frame taken in order: acknowledged. -/
def State.svcAccept (s : State) (p seq : Nat) : State := (s.modPort p (fun x => { x with svcRx := some seq })).sendAck p

/-- The place of a SEQ against the last received in order: next, a duplicate, or neither (R274). -/
def State.svcNext (s : State) (p seq : Nat) : Bool :=
  match (s.port p).svcRx with
  | none => true
  | some r => seq == (r + 1) % 64
def State.svcDuplicate (s : State) (p seq : Nat) : Bool :=
  match (s.port p).svcRx with
  | none => false
  | some r => decide ((r + 64 - seq) % 64 < 4)

/-- A frame in order handled by its type: reserved types are acknowledged and discarded, queue types delivered to INQ; with INQ full the
frame is not acknowledged (R272, R275, R280). -/
def State.svcHandle (s : State) (p : Nat) (f : LineFrame) : State :=
  let t := f.byte 3
  let n := f.byte 4
  if queueType t then
    let r := s.deliver (s.get Reg.SPK_SVC_Q_INQ) 7 (4 + n)
        ((p + 256 * t + 65536 * n) :: wordsOfBytes ((List.range n).map (fun i => f.byte (5 + i))))
    if r.2 then r.1.svcAccept p f.seq else r.1
  else if t = typeRate then s.svcAccept p f.seq
  else (s.badService p).svcAccept p f.seq

/-- SERVICE_FRAME_RECEIVED: in READY or OPERATE. Its ACK field releases the frames it names; a bad frame is counted and not acknowledged;
a duplicate is acknowledged again and discarded (R272 to R275, R280). -/
def doServiceFrameReceived (p : Nat) (f : LineFrame) (s : State) : State :=
  if f.byte 3 = typeHello then doHello p f s
  else if s.linkUp p = false then s
  else if startsWith f charSsof = false then s.wrongStart p f
  else
    let s0 := if s.crcInjected p then s.injectionDone else s
    if s.frameWhole p f = false ∨ f.ver ≠ s.get (Reg.SPK_PSTAT_VER p) ∨ f.serviceLegal = false then s0.badService p
    else
      let s1 := if 128 ≤ f.byte 2 then
          (s0.modPort p (fun x => { x with unacked := ackUpTo (f.byte 2 % 64) x.unacked })).sendRateWaiting p
        else s0
      if f.byte 3 = typeAck then s1
      else if s1.svcNext p f.seq then s1.svcHandle p f
      else if s1.svcDuplicate p f.seq then s1.sendAck p
      else s1.badService p

def execServiceFrameReceived (port : Fin 96) (frame : LineFrame) (s : State) : Host.Outcome State Fault Refusal :=
  .next (doServiceFrameReceived port.val frame s)

/-- The time within which an acknowledgement is due: 3 ticks, 3 ms in Kickstand (R274). -/
def State.ackTime (s : State) : Nat := if s.inKickstand then 3 * countsPerMs else 3 * s.get Reg.CAD_PERIOD_PERIOD

/-- SERVICE_RETRANSMIT: a frame not acknowledged in time is sent again; after eight attempts it is dropped, GIVEUP counts and a Note is
raised (R274). -/
def doServiceRetransmit (p seq : Nat) (s : State) : State :=
  match (s.port p).unacked.find? (fun e => e.seq == seq) with
  | none => s
  | some e =>
    if s.lstate p < 4 then s
    else
      let s1 := s.reach (e.at_ + s.ackTime)
      if 8 ≤ e.tries then
        (((s1.modPort p (fun x => { x with unacked := x.unacked.filter (fun y => y.seq != seq) })).count (Reg.SPK_SVC_GIVEUP p) 1).fault
          52 p).sendRateWaiting p
      else
        ((s1.sendService p (s.get (Reg.SPK_PSTAT_VER p)) seq e.type e.payload).count (Reg.SPK_SVC_RETX p) 1).modPort p (fun x => { x with
          unacked := x.unacked.map (fun y => if y.seq = seq then { y with tries := y.tries + 1, at_ := x.svcAt } else y) })

def execServiceRetransmit (port : Fin 96) (seq : Fin 64) (s : State) : Host.Outcome State Fault Refusal :=
  .next (doServiceRetransmit port.val seq.val s)

/-! ### Kickstand (R283, R284) -/

/-- RATE goes from TIME `t` on to every port in READY or OPERATE (R283). -/
def State.sendRate (s : State) (t : Nat) (slow : Bool) : State :=
  let s1 := ((List.range 96).filter (fun p => s.linkUp p)).foldl (fun s p => s.sendRateFrom t p slow) s
  { s1 with spk := { s1.spk with rateTo := some slow } }

/-- A port changes its rate: alignment is awaited; back at 250 Mb/s, d is formed again from 16 samples (R283). -/
def State.changeRate (s : State) (p : Nat) (slow : Bool) : State :=
  let s1 := s.modPort p (fun x => { x with
    rateAt := none, slow := slow, rateSince := s.now, rxSeq := none, echoT1 := none, roundTrip := none, line := [], lineFree := 0,
    avg := if slow then x.avg else some (0, 0), formed := if slow then x.formed else false })
  { s1 with spk := { s1.spk with alignWait := setBit s1.spk.alignWait p } }

/-- RATE: 100 µs after the last character of RATE a port changes its rate; the ports due first do. Once no port has to, KS shows the rate, and ports
that were not told have it too (R283;
DESIGN CHOICE, log 72). -/
def doRate (s : State) : State :=
  match s.spk.rateTo with
  | none => s
  | some slow =>
    let due (s : State) : List (Nat × Nat) := (List.range 96).filterMap (fun p => (s.port p).rateAt.map (fun r => (p, r.1)))
    let s1 := match (due s).map (fun e => e.2) with
      | [] => s
      | t :: ts => s.reach (ts.foldl min t)
    let s2 := (due s1).foldl (fun s e => if e.2 ≤ s1.now then s.changeRate e.1 slow else s) s1
    if (List.range 96).any (fun p => (s2.port p).rateAt.isSome || (s2.port p).rateWait.isSome) then s2
    else
      let s3 := (List.range 96).foldl (fun s p => s.modPort p (fun x => { x with slow := slow })) s2
      State.setBool { s3 with spk := { s3.spk with rateTo := none } } Reg.SPK_STAT_KS slow

def execRate (s : State) : Host.Outcome State Fault Refusal := .next (doRate s)

/-- The Plan frame of a port in Kickstand: TICK in milliseconds, BLOCKED, BYPASS where R259 asks for it, PER 0, AOFS 0, null legs; dead time and
code as in every frame of the cell (R257, R284). -/
def State.kickstandFrame (s : State) (p : Nat) : List Nat :=
  let ver := s.get (Reg.SPK_PSTAT_VER p)
  let cell := s.cellOf p
  let code := match cell with | none => 0 | some c => min (s.get (Reg.CEL_HEALTH_CODE c)) (s.get Reg.TRP_HL_DVDT_CODECAP)
  let dt := match cell with | none => 0 | some c => s.get (Reg.EDG_CELL_DT_DT c)
  frameOf 64 charPsof (planBody ver (s.port p).planSeq ((s.now / countsPerMs) % 0x100000000) (if s.frameBypass p then 6 else 2)
    (if ver = 1 then 0 else code) 0 dt 0 s.rptOfs
    {} {} (if ver = 3 then s.now else 0))

/-- What a port sends while it has no frame, echo or eight block symbols to send (R253, R269, R276). -/
inductive LineFill where
  /-- The outputs held at logic 0: the port is OFF. -/
  | off
  /-- IDLE in every slot. -/
  | idle
  /-- Every second fill character BLOCK, the other IDLE: the port serves a cell of a blocked arm. -/
  | blockIdle
deriving DecidableEq, Repr

/-- The fill of a port's line. -/
def State.lineFill (s : State) (p : Nat) : LineFill :=
  if s.lstate p = 0 then .off
  else match s.cellOf p with
    | none => .idle
    | some c => if s.cellPulses c then .idle else .blockIdle

/-- A port's voltage asks for a wake: above VCELL × VNOM (R284). -/
def State.voltsWake (s : State) (p : Nat) : Bool :=
  match s.cellOf p with
  | none => false
  | some c => (s.port p).good && decide ((s.get Reg.TRP_HL_VCELL_LIMIT * s.vnom c : Nat) < 1000 * (s.port p).data.vcap)

/-- KICKSTAND_PLAN: at a TIME multiple of 1 ms in Kickstand: the Reports of the millisecond that ends are judged, a wake is asked for where
a cell is lost or its voltage is high, and one Plan frame leaves each port (R284). -/
def doKickstandPlan (s : State) : State :=
  if s.inKickstand = false then s
  else
    let s1 := s.reach ((s.now + 399999) / countsPerMs * countsPerMs)
    let s2 := s1.judgeReports s1.reportTick
    let ps := (List.range 96).filter (fun p => s2.sendsPlans p)
    let wake := ps.any (fun p => s2.get (Reg.SPK_PSTAT_MISSN p) == 3 || s2.voltsWake p)
    let s3 := ps.foldl (fun s p => ((s.emit (.spokeFrame p s1.now (s.kickstandFrame p))).noteBypass p).modPort p (fun x => { x with
      planSeq := (x.planSeq + 1) % 64 })) s2
    { s3 with spk := { s3.spk with ksPlanAt := s1.now, wakeReq := s3.spk.wakeReq || wake } }

def execKickstandPlan (s : State) : Host.Outcome State Fault Refusal := .next (doKickstandPlan s)

/-! ### Registers (R285) -/

/-- The value that a word puts in a field. -/
def fieldPart (f : Fld) (v : Nat) : Nat := (v >>> f.lo) % 2 ^ f.width

/-- SPK_REGISTER_WRITE: status bits clear; port enables and retraining act as their own commands; a reserved value, or VERMIN above VERMAX,
leaves the register and sets CFGERR; SPK_RPT_OFS waits for its tick start; other writes act at once (R285). -/
def doSpkRegisterWrite (offset v : Nat) (s : State) : State :=
  let addr := 0x400C0000 + offset
  let s1 := s.clearOnes addr v
  if 0x20 ≤ offset ∧ offset ≤ 0x28 then doSpkPortEnWrite ((offset - 0x20) / 4) v s1
  else if 0x30 ≤ offset ∧ offset ≤ 0x38 then doRetrain ((offset - 0x30) / 4) v s1
  else if wordAllowed addr v = false
      ∨ (offset = 0 ∧ fieldPart Reg.SPK_CTRL_VERMAX v < fieldPart Reg.SPK_CTRL_VERMIN v) then s1.set Reg.SPK_STAT_CFGERR 1
  else if offset = 8 then (s1.awaitAll (rwParts addr v)).settle
  else s1.storeRW addr v

def execSpkRegisterWrite (offset : Fin 16384) (v : Word) (s : State) : Host.Outcome State Fault Refusal :=
  .next (doSpkRegisterWrite offset.val v.toNat s)

/-- SPK_ERR_READ: SPK_ERRA, SPK_ERRB or SPK_ERRC of a port read and cleared (R285). -/
def doSpkErrRead (which port : Nat) (s : State) : State :=
  match which with
  | 0 =>
    ((((s.set (Reg.SPK_ERRA_CRC port) 0).set (Reg.SPK_ERRA_TICK port) 0).set (Reg.SPK_ERRA_SEQ port) 0)).answer
      (s.get (Reg.SPK_ERRA_CRC port) * 65536 + s.get (Reg.SPK_ERRA_TICK port) * 256 + s.get (Reg.SPK_ERRA_SEQ port))
  | 1 =>
    ((((s.set (Reg.SPK_ERRB_CODE port) 0).set (Reg.SPK_ERRB_SIZE port) 0).set (Reg.SPK_ERRB_FIELD port) 0).set
      (Reg.SPK_ERRB_VER port) 0).answer
      (s.get (Reg.SPK_ERRB_CODE port) * 16777216 + s.get (Reg.SPK_ERRB_SIZE port) * 65536 + s.get (Reg.SPK_ERRB_FIELD port) * 256
        + s.get (Reg.SPK_ERRB_VER port))
  | _ =>
    ((((s.set (Reg.SPK_ERRC_MISS port) 0).set (Reg.SPK_ERRC_LATE port) 0).set (Reg.SPK_ERRC_ECHO port) 0)).answer
      (s.get (Reg.SPK_ERRC_MISS port) * 65536 + s.get (Reg.SPK_ERRC_LATE port) * 256 + s.get (Reg.SPK_ERRC_ECHO port))

def execSpkErrRead (which : Fin 3) (port : Fin 96) (s : State) : Host.Outcome State Fault Refusal :=
  .next (doSpkErrRead which.val port.val s)

/-- SPK_SVC_READ: RETX and GIVEUP of a port read and cleared (R285). -/
def doSpkSvcRead (port : Nat) (s : State) : State :=
  ((s.set (Reg.SPK_SVC_RETX port) 0).set (Reg.SPK_SVC_GIVEUP port) 0).answer
    (s.get (Reg.SPK_SVC_RETX port) * 65536 + s.get (Reg.SPK_SVC_GIVEUP port))

def execSpkSvcRead (port : Fin 96) (s : State) : Host.Outcome State Fault Refusal := .next (doSpkSvcRead port.val s)

end Sys2Proof.Machine
end

