-- ==== Sys2Proof/Machine/SafetyFn.lean ====
section
/-!
DEFINITION. Safety functions and the safety layer (R391 to R416): demands, SAFE_EN and the start-up test, the limit sets, the connections
and their PDUs, the SAF registers.
-/

namespace Sys2Proof.Machine

/-- A safety connection. -/
def State.safConn (s : State) (c : Nat) : SafConn := tblGet {} s.saf.conns c

/-- A safety connection updated. -/
def State.modConn (s : State) (c : Nat) (f : SafConn → SafConn) : State :=
  { s with saf := { s.saf with conns := tblMod {} s.saf.conns c f } }

/-! ### Demands (R393, R394) -/

/-- The onset of demands: DEMF, fault source 82 with the function's number, trip source 29 for every arm (R394). -/
def State.demandOnset (s : State) (fs : Nat) : State :=
  if fs = 0 then s
  else ((bitList 5 fs).foldl (fun s f => s.fault 82 f) (s.set Reg.SAF_STAT_DEMF (s.get Reg.SAF_STAT_DEMF ||| fs))).tripLatch 29 63

/-- The demands evaluated: DEMACT follows, and those newly there begin. -/
def State.safUpdate (s : State) : State :=
  let new := s.demactNow
  let old := s.get Reg.SAF_STAT_DEMACT
  (s.set Reg.SAF_STAT_DEMACT new).demandOnset ((bitList 5 new).foldl (fun m i => if old.testBit i then m else setBit m i) 0)

/-- DEMAND: function 0 demands for this clock (R393, R394), in Voted mode (R391, R392). -/
def doDemand (s : State) : State :=
  if s.voted = false ∨ s.demactNow.testBit 0 = true then s else s.demandOnset 1

def execDemand (s : State) : Host.Outcome State Fault Refusal := .next (doDemand s)

/-- A sequenced raw sample judged by SLC and SLV when it is posted: an NV word neither demands nor breaks a run, an OVR word counts as
exceeding (R393). -/
def State.safSample (s : State) (input word : Nat) : State :=
  if s.voted = false ∨ wordNv word = true then s
  else
    let frac := rawFraction word
    let s1 : State :=
      if input < 16 then
        let exceeds := wordOvr word
          || decide (mkRat (s.safLimit Reg.SAF_S_A_ILIM) 1000 < absRat frac * mkRat (s.get (Reg.TRP_CMP_THR_FS input)) 100)
        { s with saf := { s.saf with slcRun := tblMod 0 s.saf.slcRun input (fun n => if exceeds then n + 1 else 0) } }
      else s
    let s2 : State :=
      if s.get Reg.SYS_TOPO_TOPO = 3 ∧ input = s.get Reg.TRP_HL_VDC_IN then
        let exceeds := wordOvr word
          || decide (mkRat (s.safLimit Reg.SAF_S_B_VDC) 1000 < frac * mkRat (s.get Reg.TRP_HL_VDC_FS) 100)
        { s1 with saf := { s1.saf with slvRun := if exceeds then s1.saf.slvRun + 1 else 0 } }
      else s1
    s2.safUpdate

/-- SLV, SLF and SPD judged at an Acquire deadline; SLV does not see a cell whose Report is missing (R393, R396). -/
def State.safAcquire (s : State) : State :=
  if s.voted = false then s
  else
    let limit := s.safLimit Reg.SAF_S_A_VCELL
    let exceeds (c : Nat) : Bool := (s.cellPort c).good && decide ((limit * s.vnom c : Nat) < 1000 * (s.cellPort c).data.vcap)
    let f : Rat := puOf (s.inWord 0x081) * (s.fnom : Rat) * 100
    let out := decide (f < (s.safFmin : Rat)) || decide ((s.safLimit Reg.SAF_S_C_FMAX : Rat) < f)
    let p := s.measuredP
    let beyond := decide (mkRat (s.safLimit Reg.SAF_S_B_PEXP) 1000 < p) || decide (p < -mkRat (s.safLimit Reg.SAF_S_D_PIMP) 1000)
    let s1 : State := { s with saf := { s.saf with
      slvOver := (List.range 96).filter (fun c => s.eligible c && exceeds c)
      slfRun := if out then s.saf.slfRun + 1 else 0
      spdSince := if beyond then (match s.saf.spdSince with | some t => some t | none => some s.now) else none } }
    s1.safUpdate

/-- SPD_TIMEOUT: P has lain beyond PEXP or −PIMP for TDIR (R393). -/
def doSpdTimeout (s : State) : State :=
  match s.saf.spdSince with
  | none => s
  | some t => (s.reach (t + 400000 * s.safLimit Reg.SAF_S_D_TDIR)).safUpdate

def execSpdTimeout (s : State) : Host.Outcome State Fault Refusal := .next (doSpdTimeout s)

/-- SAFE_EN_CHANGE: the filtered level changes, once the pin has held it for the filter time, SENFLT × 0.25 µs from the last change or the reset
at the earliest. Open demands function 0; closed after 10 ms or more open since power-on reset sets STARTOK. A closing ends its clock: a clear of
source 29 in the same clock stands before it (R397 to R399, R410; DESIGN CHOICE, log 15). -/
def doSafeEnChange (closed : Bool) (s : State) : State :=
  if s.on Reg.SAF_STAT_SENLVL = closed then s
  else
    let s0 := (s.reach (s.saf.senSince + 100 * s.get Reg.SAF_CTRL_SENFLT)).safUpdate
    let long := decide (10 * countsPerMs ≤ s0.saf.openBefore + (s0.now - s0.saf.senSince))
    let s1 := if closed && long then s0.set Reg.SAF_STAT_STARTOK 1 else s0
    let s2 : State := { s1 with saf := { s1.saf with senSince := s1.now, openBefore := 0 } }
    let s3 := (s2.setBool Reg.SAF_STAT_SENLVL closed).safUpdate
    if closed then s3.endClock else s3

def execSafeEnChange (closed : Bool) (s : State) : Host.Outcome State Fault Refusal := .next (doSafeEnChange closed s)

/-! ### Limit sets (R400) -/

/-- Set 1 is selected as things stand: REDSEL as last written, or a VALID connection whose last command carried REDUCED. -/
def State.setSelected (s : State) : Bool :=
  s.on Reg.SAF_CTRL_REDSEL
    || (List.range 4).any (fun c => s.get (Reg.SAF_C_STAT_CSTATE c) == 2 && (s.safConn c).reduced)

/-- A change of limits or of selection that waits for its tick start. -/
def State.safChange (s : State) (fields : List (Fld × Nat)) : State :=
  { s with saf := { s.saf with changes := s.saf.changes ++ [⟨s.now, fields, s.setSelected⟩] } }

/-- A change of selection noted if the selection differs from the one before. -/
def State.selectionAfter (s : State) (before : Bool) : State := if s.setSelected = before then s else s.safChange []

/-- The value a limit field has once every waiting change has taken effect. -/
def State.safAhead (s : State) (f : Fld) : Nat :=
  match ((s.saf.changes.flatMap (fun c => c.fields)).filter (fun p => p.1 == f)).getLast? with
  | some p => p.2
  | none => s.get f

/-- SAF_LIMIT_CHANGE_EFFECT: the changes made at least 40 counts before the present tick start take effect, in order (R400). -/
def doSafLimitChangeEffect (s : State) : State :=
  let due := s.saf.changes.filter (fun c => s.running && decide (c.time + 40 ≤ s.cad.tickStart))
  if due.isEmpty then s
  else
    let s1 := due.foldl (fun s c =>
      (c.fields.foldl (fun s p => s.set p.1 p.2) s).setBool Reg.SAF_STAT_SETUSE c.select) s
    let s2 : State := { s1 with saf := { s1.saf with
      changes := s.saf.changes.filter (fun c => !(s.running && decide (c.time + 40 ≤ s.cad.tickStart))) } }
    s2.comparatorJudgeAll

def execSafLimitChangeEffect (s : State) : Host.Outcome State Fault Refusal := .next (doSafLimitChangeEffect s)

/-! ### Connections (R402 to R407) -/

/-- A field of `n` bytes of a PDU from byte `i`, least significant first. -/
def pduField (b : List Nat) (i : Nat) : Nat → Nat
  | 0 => 0
  | n + 1 => b.getD i 0 + 256 * pduField b (i + 1) n

/-- The age of a version-2 PDU that arrived at TIME `at_` lies within ±MAXAGE, and the time base is LOCKED or FOLLOWER (R404, reason 7). -/
def State.pduFresh (s : State) (c : Nat) (b : List Nat) (at_ : Nat) : Bool :=
  let age : Int := (at_ : Int) - pduField b 24 8
  let bound : Int := 4000 * s.get (Reg.SAF_C_TIME_MAXAGE c)
  (s.get Reg.CAD_STAT_SYNC == 2 || s.get Reg.CAD_STAT_SYNC == 4) && decide (-bound ≤ age) && decide (age ≤ bound)

/-- The reason for which a command PDU that arrived at TIME `at_` is rejected, the first that fails; 0: accepted (R404, R409). -/
def State.pduReason (s : State) (c carrier tenant : Nat) (b : List Nat) (at_ : Nat) : Nat :=
  let ver := b.getD 0 0 / 16
  let restart := (b.getD 1 0).testBit 0
  let st := s.get (Reg.SAF_C_STAT_CSTATE c)
  let n := b.length
  let seq := pduField b 2 2
  if st = 0 ∨ carrier = 0 ∨ carrier ≠ s.get (Reg.SAF_C_CFG_CARRIER c) ∨ (carrier = 1 ∧ tenant ≠ s.get (Reg.SAF_C_CFG_TEN c)) then 1
  else if (n ≠ 28 ∧ n ≠ 36) ∨ (ver = 1 ∧ n ≠ 28) ∨ (ver = 2 ∧ n ≠ 36) then 2
  else if ver = 0 ∨ s.get (Reg.SAF_C_CFG_VERMAX c) < ver ∨ (st = 2 ∧ ver ≠ s.get (Reg.SAF_C_STAT_VER c)) then 3
  else if b.getD 0 0 % 16 ≠ 1 ∨ pduField b 4 4 ≠ s.get (Reg.SAF_C_ID_CONNID c) then 4
  else if crc32c (b.take (n - 4)) ≠ pduField b (n - 4) 4 then 5
  else if 2 ≤ b.getD 1 0 ∨ 4 ≤ b.getD 8 0 ∨ (List.range 15).any (fun i => b.getD (9 + i) 0 != 0) = true then 6
  else if ver = 2 ∧ s.pduFresh c b at_ = false then 7
  else if st = 1 ∧ restart = false then 8
  else
    let ahead := (seq + 0x10000 - s.get (Reg.SAF_C_STAT_SEQ c)) % 0x10000
    if restart = false ∧ (ahead = 0 ∨ s.get (Reg.SAF_C_CFG_SEQWIN c) < ahead) then 9 else 0

/-- The status PDU that answers a command (R402, R403, R405). -/
def State.statusPdu (s : State) (c seq : Nat) : List Nat :=
  let ver := s.get (Reg.SAF_C_STAT_VER c)
  let b (v : Bool) (i : Nat) : Nat := if v then 2 ^ i else 0
  let flags := b s.pulsesEnabled 0 + b (!s.pulsesEnabled) 1 + b (s.on Reg.SAF_STAT_STARTOK) 2 + b (s.on Reg.SAF_STAT_SETUSE) 3 + b (!s.voted) 4
  let body := [16 * ver + 2, 0] ++ bytesOfNat (s.safConn c).txSeq 2 ++ bytesOfNat (s.get (Reg.SAF_C_ID_CONNID c)) 4
    ++ [flags, s.demactNow % 32] ++ bytesOfNat seq 2 ++ bytesOfNat s.tick 4 ++ List.replicate 8 0
    ++ (if ver = 2 then bytesOfNat s.now 8 else [])
  body ++ bytesOfNat (crc32c body) 4

/-- A PDU rejected: LASTREJ and REJ, and fault source 80 (R404). -/
def State.pduReject (s : State) (c reason : Nat) : State :=
  ((s.set (Reg.SAF_C_STAT_LASTREJ c) reason).count (Reg.SAF_C_CNT_REJ c) 1).fault 80 c

/-- A PDU accepted: PERMIT and REDUCED replace the previous values, the SEQ is the last accepted, the watchdog restarts, a RESTART sets the
version and takes the connection to VALID, interrupt 16 is raised and the status PDU sent (R405, R406). -/
def State.pduAccept (s : State) (c : Nat) (b : List Nat) : State :=
  let before := s.setSelected
  let restart := (b.getD 1 0).testBit 0
  let seq := pduField b 2 2
  let s1 := s.modConn c (fun x => { x with
    permit := (b.getD 8 0).testBit 0, reduced := (b.getD 8 0).testBit 1, lastAccept := s.now })
  let s2 := (s1.set (Reg.SAF_C_STAT_SEQ c) seq).set (Reg.SAF_C_RX_PAYLOAD c) (pduField b 8 4)
  let s3 := if restart then
      ((s2.set (Reg.SAF_C_STAT_VER c) (b.getD 0 0 / 16)).set (Reg.SAF_C_STAT_CSTATE c) 2).set (Reg.SAF_C_STAT_EVER c) 1 else s2
  let s4 := (((s3.selectionAfter before).safUpdate).irq 16)
  (s4.emit (.safetyPdu c (s4.statusPdu c seq))).modConn c (fun x => { x with txSeq := (x.txSeq + 1) % 0x10000 })

/-- A connection falls from VALID to FAILSAFE: EXP counts, its fail-safe values apply, source 81 reports (R406, R407). -/
def State.connFailsafe (s : State) (c : Nat) : State :=
  if s.get (Reg.SAF_C_STAT_CSTATE c) ≠ 2 then s
  else
    let before := s.setSelected
    let s1 := ((s.set (Reg.SAF_C_STAT_CSTATE c) 1).count (Reg.SAF_C_CNT_EXP c) 1).modConn c (fun x => { x with
      permit := false, reduced := false })
    ((s1.selectionAfter before).fault 81 c).safUpdate

/-- The watchdog of a connection that has run out by now is taken before a PDU is judged (R410). -/
def State.watchdogDue (s : State) (c : Nat) : State :=
  if (s.safConn c).lastAccept + 40000 * s.get (Reg.SAF_C_TIME_TEXP c) ≤ s.now then s.connFailsafe c else s

/-- SAFETY_PDU_RECEIVED: a command PDU that arrived at TIME `at_` judged and applied, or rejected. The judgement ends its clock: an EN := 0, or a
clear of source 29, of the same clock stands before it (R404, R405, R410; DESIGN CHOICE, log 15). -/
def doSafetyPduReceived (c carrier tenant : Nat) (b : List Nat) (at_ : Nat) (u : State) : State :=
  let s := u.watchdogDue c
  let r := s.pduReason c carrier tenant b at_
  (if r = 0 then s.pduAccept c b else s.pduReject c r).endClock

def execSafetyPduReceived (conn : Fin 4) (carrier : Fin 3) (tenant : Fin 16) (pdu : List Byte) (s : State) :
    Host.Outcome State Fault Refusal :=
  .next (doSafetyPduReceived conn.val carrier.val tenant.val (pdu.map (fun b => b.toNat)) s.now s)

/-- SAFETY_WATCHDOG_EXPIRY: no PDU accepted within TEXP of the last one (R406). -/
def doSafetyWatchdogExpiry (c : Nat) (s : State) : State :=
  if s.get (Reg.SAF_C_STAT_CSTATE c) ≠ 2 then s
  else (s.reach ((s.safConn c).lastAccept + 40000 * s.get (Reg.SAF_C_TIME_TEXP c))).connFailsafe c

def execSafetyWatchdogExpiry (conn : Fin 4) (s : State) : Host.Outcome State Fault Refusal :=
  .next (doSafetyWatchdogExpiry conn.val s)

/-- A tenant reset, detached or faulted: its VALID connections over the host fall to FAILSAFE (R406). -/
def State.connsOfTenantFail (s : State) (t : Nat) : State :=
  (List.range 4).foldl (fun s c =>
    if s.get (Reg.SAF_C_CFG_CARRIER c) = 1 ∧ s.get (Reg.SAF_C_CFG_TEN c) = t then s.connFailsafe c else s) s

/-- A connection CLOSED; its EN stays as it is. -/
def State.connClose (s : State) (c : Nat) : State :=
  let before := s.setSelected
  let s1 := ((s.set (Reg.SAF_C_STAT_CSTATE c) 0).set (Reg.SAF_C_STAT_VER c) 0).set (Reg.SAF_C_STAT_EVER c) 0
  ((s1.modConn c (fun x => { x with permit := false, reduced := false })).selectionAfter before).safUpdate

/-- A connection whose EN stayed 1 while the cluster was not in Voted mode leaves CLOSED for FAILSAFE once it is (R391, R401, R406). -/
def State.reopen (s : State) : State :=
  (List.range 4).foldl (fun s c =>
    if s.on (Reg.SAF_C_CFG_EN c) ∧ s.get (Reg.SAF_C_STAT_CSTATE c) = 0 then s.set (Reg.SAF_C_STAT_CSTATE c) 1 else s) s

/-- SAFETY_CONNECTION_EN_WRITE: EN := 1 with a CONNID opens the connection in FAILSAFE; EN := 0 closes it, but not after LOCK (R401, R406);
no effect outside the Voted mode (R391). -/
def doSafetyConnectionEnWrite (c : Nat) (en : Bool) (s : State) : State :=
  if s.voted = false ∨ s.on (Reg.SAF_C_CFG_EN c) = en then s
  else if en then
    if s.get (Reg.SAF_C_ID_CONNID c) = 0 then s
    else
      let s1 := (((s.set (Reg.SAF_C_CFG_EN c) 1).set (Reg.SAF_C_STAT_CSTATE c) 1).set (Reg.SAF_C_STAT_EVER c) 0).modConn c (fun x => { x with
        permit := false, reduced := false })
      s1.safUpdate
  else if s.on Reg.SAF_CTRL_LOCK then s.count Reg.SAF_STAT_LREJ 1
  else (s.set (Reg.SAF_C_CFG_EN c) 0).connClose c

def execSafetyConnectionEnWrite (conn : Fin 4) (en : Bool) (s : State) : Host.Outcome State Fault Refusal :=
  .next (doSafetyConnectionEnWrite conn.val en s)

/-! ### Registers (R392, R401, R416) -/

/-- A field's change is accepted after LOCK (R401): bits only set for FEN and SAF_IIN, a higher FMIN, lower values of the limits, of SENFLT,
TEXP and MAXAGE, none for the other connection fields, any for REDSEL. The value before counts the changes that wait. -/
def lockAccepts (f : Fld) (old new : Nat) : Bool :=
  if f = Reg.SAF_CTRL_REDSEL then true
  else if f = Reg.SAF_CTRL_FEN ∨ f = Reg.SAF_IIN_IN then (old &&& new) == old
  else if f = Reg.SAF_S_C_FMIN 0 ∨ f = Reg.SAF_S_C_FMIN 1 then decide (old ≤ new)
  else if f.addr < 0x40130100 ∨ f.addr % 32 = 8 then decide (new ≤ old)
  else false

/-- One field of a write to SAF judged against LOCK; an equal value changes nothing (R401). -/
def State.safAccepts (s : State) (f : Fld) (v : Nat) : Bool := v == s.safAhead f || !s.on Reg.SAF_CTRL_LOCK || lockAccepts f (s.safAhead f) v

/-- The fields of a word for a register of SAF, the value FEN bit 0 put to 1. -/
def safParts (addr v : Nat) : List (Fld × Nat) :=
  (rwParts addr v).map (fun p => (p.1, if p.1 = Reg.SAF_CTRL_FEN then setBit p.2 0 else p.2))

/-- Fields written: refused ones are counted, the others stored (R401). -/
def State.safStore (s : State) (ps : List (Fld × Nat)) : State :=
  ps.foldl (fun s p => if s.safAccepts p.1 p.2 then s.set p.1 p.2 else s.count Reg.SAF_STAT_LREJ 1) s

/-- The value that a limit field would have with these fields of a write taken. -/
def State.safWith (s : State) (ok : List (Fld × Nat)) (f : Fld) : Nat :=
  match ok.find? (fun p => p.1 == f) with
  | some p => p.2
  | none => s.safAhead f

/-- With these fields of a write taken, FMIN would stand at or above FMAX in the set that the write is for. -/
def State.safCrosses (s : State) (ps ok : List (Fld × Nat)) : Bool :=
  (List.range 2).any (fun k => ps.any (fun p => p.1 == Reg.SAF_S_C_FMIN k)
    && decide (s.safWith ok (Reg.SAF_S_C_FMAX k) ≤ s.safWith ok (Reg.SAF_S_C_FMIN k)))

/-- Limit fields written: refused ones are counted, the others wait for their tick start (R400, R401). After LOCK a rise of FMIN is refused
where it would not stay below the FMAX that then holds; a write that would still leave FMIN at or above FMAX leaves the register (R416). -/
def State.safStoreLimits (s : State) (ps : List (Fld × Nat)) : State :=
  let ok0 := ps.filter (fun p => s.safAccepts p.1 p.2)
  let ok := if s.safCrosses ps ok0 then
      ok0.filter (fun p => p.1 != Reg.SAF_S_C_FMIN 0 && p.1 != Reg.SAF_S_C_FMIN 1) else ok0
  let s1 := s.count Reg.SAF_STAT_LREJ (ps.length - ok.length)
  if ok.isEmpty ∨ s.safCrosses ps ok = true then s1 else s1.safChange ok

/-- SAF_LOCK: LOCK set (R401). -/
def doSafLock (s : State) : State := if s.voted then s.set Reg.SAF_CTRL_LOCK 1 else s

def execSafLock (s : State) : Host.Outcome State Fault Refusal := .next (doSafLock s)

/-- A write to a connection's ID, CFG or TIME: the fields other than EN change only while EN is 0 (R416); then EN acts. -/
def State.safConnWrite (s : State) (c addr v : Nat) : State :=
  let ps := (safParts addr v).filter (fun p => p.1 != Reg.SAF_C_CFG_EN c)
  let s1 := if s.on (Reg.SAF_C_CFG_EN c) then s else s.safStore ps
  if addr = (Reg.SAF_C_CFG_EN c).addr then doSafetyConnectionEnWrite c (v.testBit 31) s1 else s1

/-- SAF_REGISTER_WRITE: a write by another master than 0, or outside the Voted mode, is not permitted (R342, R391, R392). A reserved value,
or FMIN at or above FMAX, leaves the register (R416). -/
def doSafRegisterWrite (master offset v : Nat) (s : State) : State :=
  let addr := 0x40130000 + offset
  if s.voted = false ∨ master ≠ 0 then s.violate master .write addr
  else if wordAllowed addr v = false then s
  else if offset = 0 then
    let before := s.setSelected
    let s1 := (s.safStore (safParts addr v)).selectionAfter before
    let s2 := if v.testBit 31 then doSafLock s1 else s1
    if v.testBit 8 then doDemand s2.safUpdate else s2.safUpdate
  else if offset = 4 then s.clearOnes addr v
  else if 0x10 ≤ offset ∧ offset < 0x30 then
    let ps := safParts addr v
    let crossed := (offset = 0x18 ∨ offset = 0x28) ∧ v / 65536 % 65536 ≤ v % 65536
    if crossed then s else s.safStoreLimits ps
  else if offset = 0x30 then (s.safStore (safParts addr v)).safUpdate
  else if 0x100 ≤ offset ∧ offset < 0x180 ∧ offset % 32 ≤ 8 then s.safConnWrite ((offset - 0x100) / 32) addr v
  else s

def execSafRegisterWrite (master : Fin 32) (offset : Fin 16384) (v : Word) (s : State) : Host.Outcome State Fault Refusal :=
  .next (doSafRegisterWrite master.val offset.val v.toNat s)

/-- SAF_STAT as it reads. -/
def State.safStatWord (s : State) : Nat :=
  s.get Reg.SAF_STAT_STARTOK * 0x80000000 + s.get Reg.SAF_STAT_SENLVL * 0x40000000 + (if s.voted then 0 else 0x20000000)
    + s.get Reg.SAF_STAT_SETUSE * 0x10000000 + s.demactNow % 32 * 0x10000 + s.get Reg.SAF_STAT_LREJ * 256 + s.get Reg.SAF_STAT_DEMF

/-- SAF_LINKMAX as it reads: the greatest d + REACT in ns of the ports in READY or OPERATE, and its port (R411). A nanosecond is 12.8
units. -/
def State.linkMax (s : State) : Nat :=
  let exact (p : Nat) : Nat := 10 * s.get (Reg.SPK_DLY_DLY p) + 128 * (s.port p).react
  let best := ((List.range 96).filter (fun p => s.linkUp p)).foldl (fun (b : Nat × Nat) p => if b.2 < exact p then (p, exact p) else b) (0, 0)
  best.1 * 0x10000 + min 0xFFFF (intOf (mkRat (best.2 : Int) 128)).toNat

/-- SAF_READ_COUNTERS: SAF_STAT read clears LREJ; SAF_Cc_CNT read clears REJ and EXP (R347). -/
def doSafReadCounters (r : Sys2Proof.SafCounter) (s : State) : State :=
  match r with
  | .stat => (s.set Reg.SAF_STAT_LREJ 0).answer s.safStatWord
  | .conn c =>
    ((s.set (Reg.SAF_C_CNT_REJ c.val) 0).set (Reg.SAF_C_CNT_EXP c.val) 0).answer
      (s.get (Reg.SAF_C_CNT_REJ c.val) * 0x10000 + s.get (Reg.SAF_C_CNT_EXP c.val))

def execSafReadCounters (r : Sys2Proof.SafCounter) (s : State) : Host.Outcome State Fault Refusal := .next (doSafReadCounters r s)

end Sys2Proof.Machine
end

