-- ==== Sys2Proof/Machine/Sensing.lean ====
section
/-!
DEFINITION. Sensing (R52 to R74): the sampling set, sampling instants, sequenced and urgent results, correction and post-filter, background
calibration, the ADC registers.
-/

namespace Sys2Proof.Machine

/-! ### Power of the converters (R54, R55) -/

/-- A converter has a sequenced sample in every burst: it is enabled and its pair is active. -/
def State.convUsed (s : State) (c : Nat) : Bool :=
  s.bit Reg.ADC_CTRL_CONV_EN c && decide (0 < s.get (Reg.ADC_PAIR_SEQ_NSLOT (c / 2)))

/-- TIME of the next sampling instant `inst`: of the tick in progress while it lies ahead, else of the next tick; none while RUN is 0, when no
sequenced sample is taken (R74), or no tick is due. -/
def State.instantAhead (s : State) (inst : Nat) : Option Nat :=
  let o := s.instants.getD inst 0
  if s.running = false then none
  else if s.cad.inTick = true ∧ s.now < s.cad.tickStart + o then some (s.cad.tickStart + o)
  else s.cad.nextTick.map (fun t => t + o)

/-- The pre-wake of a converter's next burst has come: its sampling instant is no more than 48 counts away (R55). -/
def State.burstNear (s : State) (c : Nat) : Bool :=
  s.convUsed c && (List.range s.instants.length).any (fun i => match s.instantAhead i with
    | none => false
    | some t => decide (t ≤ s.now + 48))

/-- A converter powers down once it has no conversion running or due: no sequenced sample, urgent request or calibration step, no burst for
which it has been woken (R55). -/
def State.convRests (s : State) (c : Nat) : State :=
  if s.adc.due.any (fun x => x.conv == c) || !(s.urgentOf c).isEmpty || s.bit Reg.ADC_STAT_CALBUSY c || s.burstNear c then s
  else { s with adc := { s.adc with awake := clearBit s.adc.awake c } }

/-- Every converter with nothing to do powers down: bursts or steps have fallen away (R55). -/
def State.convsRest (s : State) : State := (List.range 8).foldl (fun s c => s.convRests c) s

/-! ### The sampling set (R56 to R58) -/

/-- The fields of the sampling set (R57). -/
def samplingSet : List Fld :=
  [Reg.ADC_CTRL_MODE, Reg.ADC_INST_OFS 0, Reg.ADC_INST_OFS 1]
    ++ (List.range 4).flatMap (fun p => [Reg.ADC_PAIR_SEQ_NSLOT p, Reg.ADC_PAIR_SEQ_SLOT p])

/-- PEND of ADC_STAT follows the shadow copies. -/
def State.samplingPend (s : State) : State := s.setBool Reg.ADC_STAT_PEND (s.shadowDiffers samplingSet)

/-- Two spans [a, a + n) and [b, b + n) do not overlap, counted modulo the period. -/
def spansApart (period n a b : Nat) : Bool :=
  let d := (b + period - a % period) % period
  n = 0 || (decide (n ≤ d) && decide (n ≤ period - d))

/-- The conditions of R57 on instants, the largest NSLOT and a period: every instant below the period; the spans [T − 48, T + 40 × S) do
not overlap, a span longer than the period overlapping itself. -/
def samplingOk (ts : List Nat) (slots period : Nat) : Bool :=
  ts.all (fun t => decide (t < period))
    && (slots == 0 || match ts with
      | [a, b] => spansApart period (48 + 40 * slots) a b
      | _ => decide (48 + 40 * slots ≤ period))

/-- The fields of the sampling set that a register holds. -/
def samplingFields (r : SampReg) : List Fld :=
  match r with
  | .ctrl => [Reg.ADC_CTRL_MODE]
  | .inst k => [Reg.ADC_INST_OFS k.val]
  | .pairSeq p => [Reg.ADC_PAIR_SEQ_NSLOT p.val, Reg.ADC_PAIR_SEQ_SLOT p.val]

/-- The fields whose shadow copies may become active now: all but those of a register written less than 40 counts before (R57). -/
def State.samplingReady (s : State) : List Fld :=
  let young := (s.adc.setReq.filter (fun q => !s.requestDue q.1)).flatMap (fun q => samplingFields q.2)
  samplingSet.filter (fun f => !young.contains f)

/-- The set that would be active passes (R57): no reserved value, and the conditions above at the active period. -/
def State.shadowSamplingOk (s : State) : Bool :=
  let ready := s.samplingReady
  let v (f : Fld) : Nat := if ready.contains f then s.get f.shadow else s.get f
  let mode := v Reg.ADC_CTRL_MODE
  let o0 := v (Reg.ADC_INST_OFS 0)
  let o1 := v (Reg.ADC_INST_OFS 1)
  let period := s.get Reg.CAD_PERIOD_PERIOD
  let slots := (List.range 4).foldl (fun m p => max m (v (Reg.ADC_PAIR_SEQ_NSLOT p))) 0
  decide (mode < 3) && decide (o0 < 40000) && decide (o1 < 40000) && decide (slots ≤ 4) && samplingOk (instantsOf mode o0 o1 period) slots period

/-- One filter of an input. -/
def State.filter (s : State) (n : Nat) : FilterState := tblGet {} s.adc.filters n

/-- A filter put. -/
def State.setFilter (s : State) (n : Nat) (f : FilterState) : State :=
  { s with adc := { s.adc with filters := tblSet {} s.adc.filters n f } }

/-- A filter restarts: its history is filled by the next sample (R70). -/
def State.restartFilter (s : State) (n : Nat) : State := s.setFilter n {}

/-- Every filter restarts (R58, R70). -/
def State.restartFilters (s : State) : State := { s with adc := { s.adc with filters := [] } }

/-- SAMPLING_SET_ACTIVATE: a request that is due: the shadow copies but those still younger than 40 counts become active together and every
filter restarts where that changes the set, or nothing changes and CFGERR is set (R57, R70). -/
def doSamplingSetActivate (s : State) : State :=
  if s.adc.setReq.any (fun q => s.requestDue q.1) = false then s
  else
      let s0 : State := { s with adc := { s.adc with setReq := s.adc.setReq.filter (fun q => !s.requestDue q.1) } }
      if s0.shadowSamplingOk = false then s0.set Reg.ADC_STAT_CFGERR 1
      else
        let changes := s0.shadowDiffers s0.samplingReady || s0.adc.oneInstant
        let s1 := (s0.activate s0.samplingReady).samplingPend
        let s2 : State := { s1 with adc := { s1.adc with oneInstant := false } }
        (if changes then s2.restartFilters else s2).convsRest

def execSamplingSetActivate (s : State) : Host.Outcome State Fault Refusal := .next (doSamplingSetActivate s)

/-- SAMPLING_SET_RECHECK: a new period that the active set does not pass: one instant at offset 0, CFGERR, a Recoverable fault, every filter
restarted, and the inputs in active slots NV until their next results (R58). MODE and ADC_INST0 keep reading the set that was active (DESIGN
CHOICE, log 115: the rule does not say what they read). -/
def State.samplingRecheck (s : State) : State :=
  if s.adc.oneInstant ∨ samplingOk s.instants s.slotsMax (s.get Reg.CAD_PERIOD_PERIOD) then s.restartFilters.convsRest
  else
    let s1 : State := { s with adc := { s.adc with
      oneInstant := true, dropped := ((List.range 32).filter (fun n => s.inSlot n)).foldl setBit 0 } }
    (((s1.set Reg.ADC_STAT_CFGERR 1).restartFilters).convsRest).fault 19 0

/-- CONV_EN put: a converter that stops drops its sequenced samples and its calibration step, and powers down; its results are NV, so that
its filters start anew with the next sample (R55, R68, R70, R74; DEDUCED, log 111). Urgent requests that it holds are still served, and their
words are NV (DESIGN CHOICE, log 144). -/
def State.putConvEn (s : State) (v : Nat) : State :=
  let stop (c : Nat) : Bool := s.bit Reg.ADC_CTRL_CONV_EN c && !v.testBit c
  (List.range 8).foldl (fun s c => if stop c then
      let s1 : State := { s with adc := { s.adc with due := s.adc.due.filter (fun x => x.conv != c), awake := clearBit s.adc.awake c } }
      ((List.range 4).foldl (fun s m => s.restartFilter (8 * m + c)) s1).putBit Reg.ADC_STAT_CALBUSY c false
    else s) (s.set Reg.ADC_CTRL_CONV_EN v)

/-- The converters stop: no sequenced sample, no calibration step, powered down, every filter to start anew (R68, R70; DEDUCED, log 111).
Urgent requests held, or made in Kickstand, are still served (DESIGN CHOICE, log 143). -/
def State.convertersStop (s : State) : State :=
  State.restartFilters (({ s with adc := { s.adc with due := [], awake := 0 } } : State).set Reg.ADC_STAT_CALBUSY 0)

/-- The low bits of a register written by a member of the sampling set, into the shadow copies; BGCAL and CONV_EN of ADC_CTRL act at
once; without BGCAL no step goes on (R57, R74). -/
def State.storeSampling (s : State) (r : SampReg) (v : Nat) : State :=
  match r with
  | .ctrl =>
    let s1 := (s.set Reg.ADC_CTRL_MODE.shadow (v >>> 16)).set Reg.ADC_CTRL_BGCAL (v >>> 8)
    ((if v.testBit 8 then s1 else s1.set Reg.ADC_STAT_CALBUSY 0).putConvEn v).convsRest
  | .inst k => s.set (Reg.ADC_INST_OFS k.val).shadow v
  | .pairSeq p => (s.set (Reg.ADC_PAIR_SEQ_NSLOT p.val).shadow (v >>> 16)).set (Reg.ADC_PAIR_SEQ_SLOT p.val).shadow v

/-- SAMPLING_SET_WRITE: the shadow copy takes the value and the whole shadow set is requested; while RUN is 0 it acts at once (R57). -/
def doSamplingSetWrite (r : SampReg) (v : Nat) (s : State) : State :=
  let s1 := (s.storeSampling r v).samplingPend
  let s2 : State := { s1 with adc := { s1.adc with setReq := s1.adc.setReq ++ [(s.now, r)] } }
  if s2.running then s2 else doSamplingSetActivate s2

def execSamplingSetWrite (reg : SampReg) (v : Word) (s : State) : Host.Outcome State Fault Refusal :=
  .next (doSamplingSetWrite reg v.toNat s)

/-! ### Sequenced samples (R54, R55, R62) -/

/-- CONVERTER_PREWAKE: 48 counts before an instant the converters of the active pairs wake; a calibration step on them is aborted (R55,
R74). -/
def doConverterPrewake (inst : Nat) (s : State) : State :=
  match s.instantAhead inst with
  | none => s
  | some t =>
    if s.inKickstand = true ∨ s.instants.length ≤ inst then s
    else
      (List.range 8).foldl (fun s c => if s.convUsed c then
        ({ s with adc := { s.adc with awake := setBit s.adc.awake c } } : State).putBit Reg.ADC_STAT_CALBUSY c false else s) (s.reach (t - 48))

def execConverterPrewake (inst : Fin 2) (s : State) : Host.Outcome State Fault Refusal := .next (doConverterPrewake inst.val s)

/-- An urgent conversion sampled at `u` on a pair: where it meets a slot not yet taken, the pair's remaining slots follow 40 counts later,
each counted in DISP (R62). -/
def State.displace (s : State) (pair u : Nat) : State :=
  let left (x : SlotSample) : Bool := x.pair == pair && decide (u ≤ x.time)
  if s.adc.due.any (fun x => left x && decide (x.time < u + 40)) then
    let moved := ((s.adc.due.filter left).map (fun x => x.time)).dedup.length
    let s1 : State := { s with adc := { s.adc with
      due := s.adc.due.map (fun x => if left x then { x with time := x.time + 40 } else x) } }
    s1.count Reg.ADC_URG_CNT_DISP moved
  else s

/-- The samples of one instant at TIME `t`: slots in order, both converters of each pair; a disabled converter takes none (R54). -/
def State.burst (s : State) (t : Nat) : List SlotSample :=
  (List.range 4).flatMap (fun i => (List.range 8).filterMap (fun c =>
    if i < s.get (Reg.ADC_PAIR_SEQ_NSLOT (c / 2)) ∧ s.bit Reg.ADC_CTRL_CONV_EN c = true then
      some { pair := c / 2, slot := i, conv := c, input := 8 * s.muxOf c i + c, time := t + 40 * i }
    else none))

/-- SAMPLING_INSTANT: every active pair begins its burst at the instant; urgent conversions already sampled displace slots (R54, R62). A
burst that urgent conversions have pushed into the pair's next instant goes on, and the next one starts at its own instant (DESIGN CHOICE, log
119: the rule does not say which sample gives way). While RUN is 0 none is taken, also in the tick that completes (R74). -/
def doSamplingInstant (inst : Nat) (s : State) : State :=
  if s.cad.inTick = false ∨ s.running = false ∨ s.inKickstand = true ∨ s.instants.length ≤ inst then s
  else
    let t := s.cad.tickStart + s.instants.getD inst 0
    let s1 := s.reach t
    let s2 : State := { s1 with adc := { s1.adc with
      due := s1.adc.due ++ s.burst t, awake := ((s.burst t).map (fun x => x.conv)).foldl setBit s1.adc.awake } }
    (List.range 8).foldl (fun s c => ((s.urgentOf c).filter (fun r => r.sampled)).foldl (fun s r => s.displace (c / 2) r.sampleAt) s) s2

def execSamplingInstant (inst : Fin 2) (s : State) : Host.Outcome State Fault Refusal := .next (doSamplingInstant inst.val s)

/-! ### Correction and post-filter (R66, R69 to R73) -/

/-- What a converter resolves of its input, and OVR, from the level in 0.1 µV: beyond full scale, ±2.5 V, the code is clipped; beyond
±2.625 V OVR is set; inside full scale the code is the converter's own (R52, R67). -/
def sampled (code : BitVec 16) (level : Int) : BitVec 16 × Bool :=
  (if 25000000 < level then 0x7FFF#16 else if level < -25000000 then 0x8000#16 else code, decide (26250000 < level.natAbs))

/-- The 24-bit corrected value of a raw code: (code × 256 − CONV_OFS − CH_OFS) × GAIN / 16384, saturated (R66, R73). The rounding to 24 bits,
half to even, is the model's (DESIGN CHOICE, log 114: the rule gives none). -/
def State.corrected (s : State) (input : Nat) (code : BitVec 16) : Int :=
  let x := (code.toInt * 256 - s.getInt (Reg.ADC_CONV_OFS_OFS (input % 8)) - s.getInt (Reg.ADC_CAL_CH_OFS input))
    * (s.get (Reg.ADC_CAL_GAIN input) : Int)
  clampInt (roundHalfEven x 16384) (-0x800000) 0x7FFFFF

/-- The value of a raw or urgent word: rounded to 16 bits, half to even, and saturated (R66). -/
def rawValue (v : Int) : Nat := bitsOf 24 (256 * clampInt (roundHalfEven v 256) (-0x8000) 0x7FFF)

/-- One moving-average stage: its history with the new input, filled by the first one, and its output (R69, R70). -/
def stageStep (len : Nat) (h : List Int) (x : Int) : List Int × Int :=
  let h' := if h.isEmpty then List.replicate len x else (x :: h).take len
  (h', roundHalfEven (h'.foldl (fun a b => a + b) 0) len)

/-- The stages in turn. -/
def stagesStep (len : Nat) : List (List Int) → Int → List (List Int) × Int
  | [], x => ([], x)
  | h :: r, x =>
    let a := stageStep len h x
    let b := stagesStep len r a.2
    (a.1 :: b.1, b.2)

/-- FILTER_STEP: the post-filter takes a sample; its new state, output, and the UNSETTLED and OVR marks (R69 to R72). The
OVR marks of samples from before a restart are forgotten with them (DESIGN CHOICE, log 116). -/
def filterStep (f : FilterState) (order len : Nat) (x : Int) (ovr : Bool) : FilterState × Int × Bool × Bool :=
  if order = 0 then ({ f with restart := false }, x, false, ovr)
  else
    let f0 : FilterState := if f.restart then { restart := false } else f
    let hs := if f0.stages.length = order then f0.stages else List.replicate order []
    let r := stagesStep len hs x
    let n := f0.entered + 1
    let os := (ovr :: f0.overs).take (order * len)
    ({ stages := r.1, entered := min n (order * len), overs := os, restart := false }, r.2, decide (n < order * len), os.any (fun b => b))

/-- RESULT_POST: 120 ns after its sample instant the oldest sequenced sample due of an input is corrected and posted, raw and filtered; the
observer, the DC-link limit and the safety functions see it (R60, R66 to R72, R113, R246, R393). A word that is NV does not enter the
filter, and the next valid one restarts it (R70). -/
def doResultPost (input : Nat) (code : BitVec 16) (level : Int) (s : State) : State :=
  match s.adc.due.find? (fun x => x.input == input) with
  | none => s
  | some x =>
    let s0 := s.reach (x.time + 48)
    let s1 := State.convRests { s0 with adc := { s0.adc with
      due := s0.adc.due.erase x, converted := setBit s0.adc.converted input, dropped := clearBit s0.adc.dropped input } } x.conv
    let c := sampled code level
    let v := s1.corrected input c.1
    let nv := s1.inputNv input
    let s2 : State := s1.set (Reg.ADC_RAW_RESULT input) (resultWord nv c.2 false input (rawValue v))
    let s2 : State := { s2 with adc := { s2.adc with lastNv := putBit s2.adc.lastNv input nv } }
    let s3 :=
      if nv then s2.restartFilter input
      else
        let r := filterStep (s2.filter input) (s2.get (Reg.ADC_CH_CFG_ORDER input)) (s2.get (Reg.ADC_CH_CFG_LEN input)) v c.2
        (s2.setFilter input r.1).set (Reg.ADC_FILT_RESULT input) (resultWord false r.2.2.2 r.2.2.1 input (bitsOf 24 r.2.1))
    ((s3.gridSample input x.time).checkDcLink input (s3.rawWord input)).safSample input (s3.rawWord input)

def execResultPost (input : Fin 32) (code : BitVec 16) (level : Int) (s : State) : Host.Outcome State Fault Refusal :=
  .next (doResultPost input.val code level s)

/-- RESTART: a write of ADC_CH_CFG: a changed ORDER or LEN, or RESTART 1, restarts the filter; a reserved value leaves its field
(R70, R345). -/
def doRestart (input v : Nat) (s : State) : State :=
  let addr := (Reg.ADC_CH_CFG_LEN input).addr
  let s1 := s.storeAllowed addr v
  if v.testBit 31 ∨ s1.get (Reg.ADC_CH_CFG_LEN input) ≠ s.get (Reg.ADC_CH_CFG_LEN input)
      ∨ s1.get (Reg.ADC_CH_CFG_ORDER input) ≠ s.get (Reg.ADC_CH_CFG_ORDER input) then s1.restartFilter input else s1

def execRestart (input : Fin 32) (v : Word) (s : State) : Host.Outcome State Fault Refusal := .next (doRestart input.val v.toNat s)

/-! ### Urgent conversions (R61 to R64) -/

/-- ADC_URG_REQ: software asks for an urgent conversion (R61, R63, R64). -/
def doAdcUrgReq (chan : Nat) (s : State) : State := s.urgentRequest chan

def execAdcUrgReq (chan : Fin 32) (s : State) : Host.Outcome State Fault Refusal := .next (doAdcUrgReq chan.val s)

/-- The end of the conversions running at `t` on a pair: sequenced samples taken before `t`, and urgent ones (R61, R63). Of two requests made
in one clock for both converters of a pair the one sampled first runs for the other, whose partner idles (R62; DESIGN CHOICE, log 145). -/
def State.pairFree (s : State) (pair t : Nat) : Nat :=
  let seq := (s.adc.due.filter (fun x => x.pair == pair && decide (x.time < t) && decide (t < x.time + 40))).map (fun x => x.time + 40)
  let urg := [2 * pair, 2 * pair + 1].flatMap (fun c =>
    ((s.urgentOf c).filter (fun r => r.sampled && decide (t < r.sampleAt + 40))).map (fun r => r.sampleAt + 40))
  (seq ++ urg).foldl max t

/-- URGENT_SAMPLE: the oldest request of a converter not yet sampled takes its sample, 120 ns after it was made and no earlier than the end
of a conversion running on the pair; slots not yet taken are displaced (R61 to R63). -/
def doUrgentSample (c : Nat) (code : BitVec 16) (level : Int) (s : State) : State :=
  match (s.urgentOf c).find? (fun r => !r.sampled) with
  | none => s
  | some r =>
    let u := s.pairFree (c / 2) (r.made + 48)
    let r' : UrgentReq := { r with sampled := true, sampleAt := u, code := (sampled code level).1, ovr := (sampled code level).2 }
    let done := (s.urgentOf c).takeWhile (fun x => x.sampled)
    let rest := (s.urgentOf c).drop (done.length + 1)
    let s1 := s.reach u
    let s2 : State := { s1 with adc := { s1.adc with urgent := tblSet [] s1.adc.urgent c (done ++ r' :: rest) } }
    s2.displace (c / 2) u

def execUrgentSample (conv : Fin 8) (code : BitVec 16) (level : Int) (s : State) : Host.Outcome State Fault Refusal :=
  .next (doUrgentSample conv.val code level s)

/-- URGENT_RESULT_POST: 120 ns after its sample instant an urgent result and its time are posted, NV where its converter is faulted or stopped;
the filter and the sequenced words do not change (R61, R64, R68). -/
def doUrgentResultPost (c : Nat) (s : State) : State :=
  match s.urgentOf c with
  | [] => s
  | r :: rest =>
    if r.sampled = false then s
    else
      let s0 := s.reach (r.sampleAt + 48)
      let s1 := State.convRests { s0 with adc := { s0.adc with
        urgent := tblSet [] s0.adc.urgent c rest } } c
      (s1.set (Reg.ADC_URG_RES_RESULT c) (resultWord (s1.convOut c) r.ovr false r.input (rawValue (s1.corrected r.input r.code)))).set
        (Reg.ADC_URG_TS_TIME c) (r.sampleAt % 0x100000000)

def execUrgentResultPost (conv : Fin 8) (s : State) : Host.Outcome State Fault Refusal := .next (doUrgentResultPost conv.val s)

/-- ADC_URG_CNT_READ: DROP and DISP read and cleared (R347). -/
def doAdcUrgCntRead (s : State) : State :=
  ((s.set Reg.ADC_URG_CNT_DROP 0).set Reg.ADC_URG_CNT_DISP 0).answer (s.get Reg.ADC_URG_CNT_DROP * 0x10000 + s.get Reg.ADC_URG_CNT_DISP)

def execAdcUrgCntRead (s : State) : Host.Outcome State Fault Refusal := .next (doAdcUrgCntRead s)

/-! ### Background calibration (R74) -/

/-- A converter is idle: no sequenced sample or urgent request due on it. -/
def State.convIdle (s : State) (c : Nat) : Bool := s.adc.due.all (fun x => x.conv != c) && (s.urgentOf c).isEmpty

/-- No pre-wake of a converter comes within the next 1 µs: the gap is long enough for a step (R55, R74). -/
def State.gapOpen (s : State) (c : Nat) : Bool :=
  !s.convUsed c || (List.range s.instants.length).all (fun i => match s.instantAhead i with
    | none => true
    | some t => decide (s.now + 448 ≤ t))

/-- A step of a converter is due: the interval in use, ADCUSE in ms, has passed since its last step; an aborted step does not count (R74,
AGE_PLAN). The first after a reset is due at once (DESIGN CHOICE, log 146). -/
def State.calDue (s : State) (c : Nat) : Bool :=
  match tblGet none s.adc.calAt c with
  | none => true
  | some t => decide (t + 400000 * s.get Reg.AGE_PLAN_ADCUSE ≤ s.now)

/-- The readings of a completed step: CONV_OFS moves by at most one unit towards the zero reading; a reference more than 2 % off sets CONVFLT
and a Serious fault, one within 1 % clears it (R74). -/
def State.calResult (s : State) (c : Nat) (zero refPpm : Int) : State :=
  let ofs := s.getInt (Reg.ADC_CONV_OFS_OFS c)
  let step : Int := if ofs < zero ∧ ofs < 0x7FFF then 1 else if zero < ofs ∧ -0x8000 < ofs then -1 else 0
  let s1 := s.setInt (Reg.ADC_CONV_OFS_OFS c) (ofs + step)
  if 20000 < refPpm ∨ refPpm < -20000 then
    if s1.bit Reg.ADC_STAT_CONVFLT c then s1 else (s1.putBit Reg.ADC_STAT_CONVFLT c true).fault (20 + c) 0
  else if -10000 ≤ refPpm ∧ refPpm ≤ 10000 then s1.putBit Reg.ADC_STAT_CONVFLT c false
  else s1

/-- CALIBRATION_STEP: with BGCAL 1 a step that is due starts on an enabled converter in an idle gap of at least 1 µs, and CALBUSY is set until
it ends; a step that a pre-wake, an urgent request or the converter's stop has aborted has no end, and is started anew in a later gap. While
RUN is 0 a step runs whenever the converter is idle (R74). `refPpm` is the reference reading in ppm from nominal, read at the step's end
alone. -/
def doCalibrationStep (c : Nat) (e : CalEvent) (refPpm : Int) (s : State) : State :=
  match e with
  | .start =>
    if s.on Reg.ADC_CTRL_BGCAL = false ∨ s.bit Reg.ADC_CTRL_CONV_EN c = false ∨ s.convIdle c = false ∨ s.inKickstand = true
        ∨ (s.running = true ∧ (s.calDue c = false ∨ s.gapOpen c = false)) then s
    else State.putBit { s with adc := { s.adc with awake := setBit s.adc.awake c } } Reg.ADC_STAT_CALBUSY c true
  | .finish zero =>
    if s.bit Reg.ADC_STAT_CALBUSY c = false then s
    else
      let s1 := s.putBit Reg.ADC_STAT_CALBUSY c false
      (State.calResult { s1 with adc := { s1.adc with calAt := tblSet none s1.adc.calAt c (some s1.now) } } c zero refPpm).convRests c

def execCalibrationStep (conv : Fin 8) (event : CalEvent) (refPpm : Int) (s : State) : Host.Outcome State Fault Refusal :=
  .next (doCalibrationStep conv.val event refPpm s)

/-- RUN has been cleared: sequenced samples not yet taken fall away with the bursts to come (R74). -/
def State.samplingStops (s : State) : State :=
  State.convsRest { s with adc := { s.adc with due := s.adc.due.filter (fun x => decide (x.time ≤ s.now)) } }

/-! ### A moved TIME (R35) -/

/-- Sensing's instants moved with TIME: requests, samples due, urgent requests, calibration (R35, R61). -/
def AdcState.moved (a : AdcState) (move : Nat → Nat) : AdcState :=
  { a with
    setReq := a.setReq.map (fun q => (move q.1, q.2)), due := a.due.map (fun x => { x with time := move x.time })
    urgent := a.urgent.map (fun e => (e.1, e.2.map (fun r => { r with made := move r.made, sampleAt := move r.sampleAt })))
    calAt := a.calAt.map (fun e => (e.1, e.2.map move)) }

/-! ### Registers -/

/-- A write to an ADC register: the sampling set, the urgent request and the channel filters act as their own commands; elsewhere a
reserved value leaves its field (R57, R345). -/
def State.adcRegisterWrite (s : State) (addr v : Nat) : State :=
  let o := addr - 0x40040000
  if o = 0 then doSamplingSetWrite .ctrl v s
  else if o = 4 then doSamplingSetWrite (.inst 0) v s
  else if o = 8 then doSamplingSetWrite (.inst 1) v s
  else if 0x10 ≤ o ∧ o ≤ 0x1C then doSamplingSetWrite (.pairSeq (Fin.ofNat 4 ((o - 0x10) / 4))) v s
  else if o = 0x20 then (if v.testBit 31 then doAdcUrgReq (v % 32) s else s)
  else if 0x100 ≤ o ∧ o < 0x180 then doRestart ((o - 0x100) / 4) v s
  else (s.clearOnes addr v).storeAllowed addr v

end Sys2Proof.Machine
end

