-- ==== Sys2Proof/Machine/Shift.lean ====
section
/-!
DEFINITION. A step of TIME (R35) carries along every TIME that a block keeps to measure an interval from or to, so that no interval under way
is disturbed (DEDUCED, log 50). Windows that the spec sets at multiples of TIME are taken from the multiples of the new TIME. Timestamps that
registers, captures and frames hold stay as they were taken.
-/

namespace Sys2Proof.Machine

/-- A TIME value moved by `d` counts. -/
def moveTime (d : Int) (t : Nat) : Nat := (((t : Int) + d) % 0x10000000000000000).toNat

/-- A kept TIME moved by `d` counts; one that would lie before 0 is 0. -/
def moveStamp (d : Int) (t : Nat) : Nat := ((t : Int) + d).toNat

/-- Every entry of a table changed. -/
def tblMap {α : Type} (m : Tbl α) (f : α → α) : Tbl α := m.map (fun e => (e.1, f e.2))

/-- The TIMEs of an observer moved. -/
def Observer.moved (o : Observer) (move : Nat → Nat) : Observer :=
  let three := fun (t : Nat × Nat × Nat) => (move t.1, move t.2.1, move t.2.2)
  { o with lastT := three o.lastT, prevT := three o.prevT, at_ := move o.at_ }

/-- The start of the tone window at TIME `t`, for one that began at `w` and was not to begin later than `now` (R141). -/
def toneFrom (now w t : Nat) : Nat := if w ≤ now then t / 40000000 * 40000000 else (t + 39999999) / 40000000 * 40000000

/-- The grid functions' TIMEs moved, `now` being TIME before and `t` TIME after. -/
def GrdState.moved (g : GrdState) (move : Nat → Nat) (now t : Nat) : GrdState :=
  { g with
    obs := g.obs.moved move, shadow := g.shadow.moved move
    sampT := (move g.sampT.1, move g.sampT.2.1, move g.sampT.2.2)
    lastGood := g.lastGood.map (fun e => { e with at_ := move e.at_ })
    lowSince := g.lowSince.map move, freeAt := move g.freeAt, entryAt := g.entryAt.map move, rejoinAt := g.rejoinAt.map move
    bsAt := move g.bsAt, toneAt := toneFrom now g.toneAt t
    testSince := tblMap g.testSince (Option.map move), suspendedTo := move g.suspendedTo, rtAt := move g.rtAt
    recSince := g.recSince.map move, rampFrom := g.rampFrom.map move
    posHist := g.posHist.map (fun e => (move e.1, e.2)), wHist := g.wHist.map (fun e => (move e.1, e.2)) }

/-- The cells' TIMEs moved; the hour of the ageing means ends at the next multiple of the new TIME `t` (R174). -/
def CelState.moved (c : CelState) (move : Nat → Nat) (t : Nat) : CelState :=
  let mppt := fun (m : Mppt) => { m with
    vocAt := move m.vocAt, usedAt := move m.usedAt, vocRun := m.vocRun.map (fun e => (move e.1, e.2)), scanEnd := m.scanEnd.map move }
  { c with
    cells := tblMap c.cells (fun x => { x with mppt := mppt x.mppt, socStart := x.socStart.map move })
    acqAt := move c.acqAt, hourAt := t }

/-- The plans' TIMEs moved. -/
def EdgState.moved (e : EdgState) (move : Nat → Nat) : EdgState :=
  let plan := fun (p : CellPlan) => { p with start := move p.start }
  { e with
    built := tblMap e.built (Option.map (fun b => { b with plan := plan b.plan }))
    sent := tblMap e.sent (Option.map plan), prior := e.prior.map (fun x => (x.1, plan x.2)), readyAt := move e.readyAt }

/-- A channel's TIMEs moved, `fine` moving those in units of 78.125 ps. -/
def PwmChan.moved (c : PwmChan) (move fine : Nat → Nat) : PwmChan :=
  { c with
    zeroAt := move c.zeroAt, offA := fine c.offA, offB := fine c.offB, turnOn := c.turnOn.map (fun x => (x.1, fine x.2))
    evAfter := tblMap c.evAfter (fun t => if t = 0 then 0 else move t) }

/-- The trip network's TIMEs moved. -/
def TrpState.moved (t : TrpState) (move : Nat → Nat) : TrpState :=
  { t with
    latched := tblMap t.latched (Option.map (fun x => (move x.1, x.2))), cleared := tblMap t.cleared (Option.map (fun x => (move x.1, x.2)))
    enabledAt := tblMap t.enabledAt (Option.map move), pexpSince := t.pexpSince.map move }

/-- A port's TIMEs moved. -/
def PortState.moved (x : PortState) (move fine : Nat → Nat) : PortState :=
  { x with
    echoT1 := x.echoT1.map fine, offerAt := move x.offerAt, lossAt := x.lossAt.map (fun e => (move e.1, e.2))
    unacked := x.unacked.map (fun f => { f with at_ := move f.at_ })
    line := x.line.map (fun e => (move e.1, e.2)), lineFree := move x.lineFree, svcAt := move x.svcAt, blockTill := move x.blockTill
    rateAt := x.rateAt.map (fun r => (move r.1, r.2)), rateSince := move x.rateSince }

/-- The Hub's TIMEs moved. -/
def SpkState.moved (h : SpkState) (move fine : Nat → Nat) : SpkState :=
  { h with
    ports := tblMap h.ports (fun x => x.moved move fine), echoSlot := h.echoSlot.map move, ksPlanAt := move h.ksPlanAt
    planAt := move h.planAt }

/-- The Tricycle's TIMEs moved. -/
def TriState.moved (t : TriState) (move : Nat → Nat) : TriState :=
  { t with
    cores := tblMap t.cores (fun c => { c with outvotes := c.outvotes.map move, rsAt := c.rsAt.map move, testSince := c.testSince.map move })
    takeout := t.takeout.map (fun x => (x.1, move x.2)), testing := t.testing.map move, releasedAt := move t.releasedAt }

/-- The host interface's TIMEs moved; a setpoint's own target is a tick number and stays. -/
def HstState.moved (h : HstState) (move : Nat → Nat) : HstState :=
  { h with
    tenants := tblMap h.tenants (fun t => { t with
      ops := t.ops.map (fun o => { o with time := move o.time })
      rings := tblMap t.rings (fun r => { r with firstAt := r.firstAt.map move }) })
    staleFrom := h.staleFrom.map move }

/-- The escalation timers moved (R380). -/
def FltState.moved (f : FltState) (move : Nat → Nat) : FltState :=
  { f with
    timers := tblMap f.timers (fun x => { x with start := move x.start }), frozenAt := f.frozenAt.map move
    railInj := f.railInj.map (fun x => (x.1, move x.2)), reportedAt := tblMap f.reportedAt (Option.map move) }

/-- The safety functions' TIMEs moved. -/
def SafState.moved (f : SafState) (move : Nat → Nat) : SafState :=
  { f with
    conns := tblMap f.conns (fun c => { c with lastAccept := move c.lastAccept })
    changes := f.changes.map (fun c => { c with time := move c.time }), senSince := move f.senSince, spdSince := f.spdSince.map move }

/-- Metering's TIMEs moved; the window in progress ends at the next multiple of the new TIME `t` (R433). -/
def MtrState.moved (m : MtrState) (move : Nat → Nat) (t : Nat) : MtrState :=
  { m with
    due := m.due.map (fun x => { x with time := move x.time }), lastAt := m.lastAt.map move, winEnd := (t / 80000000 + 1) * 80000000
    pulses := tblMap m.pulses (fun p => { p with since := p.since.map move, freeAt := move p.freeAt })
    save := m.save.map (fun x => (move x.1, x.2)), periodAt := move m.periodAt }

/-- The station network's TIMEs moved. -/
def NetState.moved (n : NetState) (move : Nat → Nat) (d : Int) : NetState :=
  { n with
    given := n.given.map (fun g => { g with time := move g.time }), seen := n.seen.map (fun x => (x.1, x.2.1, move x.2.2))
    masters := n.masters.map (fun m => { m with heard := move m.heard })
    ptpPorts := tblMap n.ptpPorts (fun p => { p with
      lastValid := p.lastValid.map move, due := p.due.map move
      sync := p.sync.map (fun x => { x with stamp := x.stamp + 32 * d, time := move x.time })
      sentAt := p.sentAt.map (fun t => t + 32 * d), answer := p.answer.map (fun a => (a.1 + 32 * d, a.2)) })
    delayAt := move n.delayAt, subs := tblMap n.subs (fun g => { g with expires := g.expires.map move })
    pubs := tblMap n.pubs (Option.map (fun p => { p with nextAt := move p.nextAt }))
    streams := tblMap n.streams (fun v => { v with anchorAt := move v.anchorAt }), superAt := move n.superAt
    published := tblMap n.published (Option.map move), tx := n.tx.map (fun f => { f with time := move f.time }), busy := tblMap n.busy move }

/-- TIME moved by `d` counts, with the tick anchor, the tick starts and every TIME that an interval is measured by (R35; DEDUCED, log 50). -/
def State.shiftTime (s : State) (d : Int) : State :=
  let move := moveTime d
  let stamp := moveStamp d
  let fine := moveStamp (32 * d)
  let t := move s.cad.time
  { s with
    cad := { s.cad with
      time := t, anchor := move s.cad.anchor, tickStart := move s.cad.tickStart, nextTick := s.cad.nextTick.map move,
      stopAt := s.cad.stopAt.map move, lastSync := stamp s.cad.lastSync, applyReq := s.cad.applyReq.map stamp }
    sys := { s.sys with commitReq := s.sys.commitReq.map stamp }
    adc := s.adc.moved stamp
    cle := { s.cle with
      runStart := stamp s.cle.runStart, issue := stamp s.cle.issue, waitUntil := s.cle.waitUntil.map stamp, mbxReq := s.cle.mbxReq.map stamp
      mbxCopied := s.cle.mbxCopied.map stamp, mbxNow := s.cle.mbxNow.map (fun x => (stamp x.1, x.2)) }
    grd := s.grd.moved stamp s.cad.time t
    cel := s.cel.moved stamp t
    edg := s.edg.moved stamp
    pwm := { s.pwm with chans := tblMap s.pwm.chans (fun c => c.moved stamp fine) }
    trp := s.trp.moved stamp
    spk := s.spk.moved stamp fine
    pel := { s.pel with echoAt := tblMap s.pel.echoAt fine, helloAt := stamp s.pel.helloAt }
    tri := s.tri.moved stamp
    hst := s.hst.moved stamp
    memt := { s.memt with nextStep := stamp s.memt.nextStep, wipedAt := s.memt.wipedAt.map stamp }
    flt := s.flt.moved stamp
    saf := s.saf.moved stamp
    mtr := s.mtr.moved stamp t
    net := s.net.moved stamp d
    pwr := { s.pwr with exitFrom := s.pwr.exitFrom.map stamp, gaugeAt := stamp s.pwr.gaugeAt }
    boot := { s.boot with
      waiting := s.boot.waiting.map (fun x => (x.1, stamp x.2)), failedAt := s.boot.failedAt.map stamp, agedAt := stamp s.boot.agedAt }
    bus := { s.bus with
      waiting := s.bus.waiting.map (fun w => { w with time := stamp w.time }), touched := tblMap s.bus.touched (Option.map stamp) } }

end Sys2Proof.Machine
end

