-- ==== Sys2Proof/Machine/Cadence.lean ====
section
/-!
DEFINITION. Cadence (R7 to R38) but for the phases of a tick: the timing set, RUN, the hold limit, captures and reads of TIME, and the
synchronisation states.
-/

namespace Sys2Proof.Machine

/-! ### The timing set (R14, R29 to R31) -/

/-- The field of a register of the timing set. -/
def timingFld (r : TimingReg) : Fld :=
  match r with
  | .period => Reg.CAD_PERIOD_PERIOD
  | .dlAcq => Reg.CAD_DL_ACQ_DL
  | .dlSolve => Reg.CAD_DL_SOLVE_DL
  | .dlPlan => Reg.CAD_DL_PLAN_DL
  | .dlDisp => Reg.CAD_DL_DISP_DL
  | .applyDly => Reg.CAD_APPLY_DLY_DLY
  | .tickPhase => Reg.CAD_TICK_PHASE_PHASE

/-- The fields of the timing set. -/
def timingSet : List Fld :=
  [TimingReg.period, .dlAcq, .dlSolve, .dlPlan, .dlDisp, .applyDly, .tickPhase].map timingFld

/-- PEND of CAD_STAT follows the shadow copies (R29). -/
def State.timingPend (s : State) : State := s.setBool Reg.CAD_STAT_PEND (s.shadowDiffers timingSet)

/-- TIMING_SET_WRITE: the shadow copy takes the value (R29). -/
def doTimingSetWrite (r : TimingReg) (v : Nat) (s : State) : State := (s.set (timingFld r).shadow v).timingPend

def execTimingSetWrite (reg : TimingReg) (v : Word) (s : State) : Host.Outcome State Fault Refusal :=
  .next (doTimingSetWrite reg v.toNat s)

/-- A register of the timing set that a follower takes from its leader: its own value is ignored while SRC is 2 (R38). -/
def State.ledTiming (s : State) (r : TimingReg) : Bool :=
  s.get Reg.CAD_SYNC_SRC == 2 && (r == .period || r == .applyDly)

/-- The fields that an activation makes active: the whole set, but what a follower takes from its leader (R30, R38). -/
def State.timingOwn (s : State) : List Fld :=
  (([TimingReg.period, .dlAcq, .dlSolve, .dlPlan, .dlDisp, .applyDly, .tickPhase]).filter (fun r => !s.ledTiming r)).map timingFld

/-- The shadow set passes: every value in its range, and the conditions of R14. -/
def State.timingOk (s : State) : Bool :=
  let v (r : TimingReg) : Nat := if s.ledTiming r then s.get (timingFld r) else s.get (timingFld r).shadow
  let p := v .period
  let ok (c : Prop) [Decidable c] : Bool := decide c
  ok (4000 ≤ p ∧ p ≤ 40000) && ok (40 ≤ v .applyDly ∧ v .applyDly ≤ 4000)
    && ok (400 ≤ v .dlAcq) && ok (v .dlAcq < v .dlSolve) && ok (v .dlSolve + 400 ≤ v .dlPlan) && ok (v .dlPlan + 960 ≤ v .dlDisp)
    && ok (v .dlDisp ≤ p) && ok (v .tickPhase < p)

/-- The device's own ALIGN counts: it is 1, and no leader gives the tick starts (R37, R38). -/
def State.aligns (s : State) : Bool := s.on Reg.CAD_CTRL_ALIGN && s.get Reg.CAD_SYNC_SRC != 2

/-- The first tick-aligned TIME value at or after `t` (R37). -/
def State.alignedFrom (s : State) (t : Nat) : Nat :=
  let p := s.get Reg.CAD_PERIOD_PERIOD
  let ph := s.get Reg.CAD_TICK_PHASE_PHASE
  let k := (t + p - ph % p) % p
  if p = 0 ∨ k = 0 then t else t + (p - k)

/-- The tick start that follows one at `t`: a period later, or with ALIGN 1 the first aligned TIME value from there; a follower's on
the leader's grid (R9, R35, R37, R38). -/
def State.tickAfter (s : State) (t : Nat) : Nat :=
  let n := t + s.get Reg.CAD_PERIOD_PERIOD
  if s.aligns then s.alignedFrom n else n

/-- What follows from new active timing values: with a new period sensing rechecks its set (R58, R70); the delays are judged again (R267). -/
def State.timingMoved (s : State) (period : Bool) : State :=
  (List.range 96).foldl (fun s p => s.judgeDlyLong p) (if period then s.samplingRecheck else s)

/-- TIMING_SET_ACTIVATE: a request that is due: the shadow set passes and is active whole from this tick start, which is the new anchor where
the period changes; sensing rechecks its set and the delays are judged again; or CFGERR is set and nothing changes (R30, R31, R58, R267). -/
def doTimingSetActivate (s : State) : State :=
  if s.cad.applyReq.any (fun t => s.requestDue t) = false then s
  else
      let s0 : State := { s with cad := { s.cad with applyReq := s.cad.applyReq.filter (fun t => !s.requestDue t) } }
      if s0.timingOk = false then s0.set Reg.CAD_STAT_CFGERR 1
      else
        let s1 := (s0.activate s0.timingOwn).timingPend
        let changed := s1.get Reg.CAD_PERIOD_PERIOD != s0.get Reg.CAD_PERIOD_PERIOD
        let moved := changed || s1.get Reg.CAD_TICK_PHASE_PHASE != s0.get Reg.CAD_TICK_PHASE_PHASE
        let s2 : State := if moved && s1.running then { s1 with cad := { s1.cad with
            anchor := if changed then s1.cad.tickStart else s1.cad.anchor,
            nextTick := s1.cad.nextTick.map (fun _ => s1.tickAfter s1.cad.tickStart) } } else s1
        s2.timingMoved changed

def execTimingSetActivate (s : State) : Host.Outcome State Fault Refusal := .next (doTimingSetActivate s)

/-- APPLY: requests the shadow timing set; while RUN is 0 it is checked at once (R30). -/
def doApply (s : State) : State :=
  let s1 : State := { s with cad := { s.cad with applyReq := s.cad.applyReq ++ [s.now] } }
  if s1.running then s1 else doTimingSetActivate s1

def execApply (s : State) : Host.Outcome State Fault Refusal := .next (doApply s)

/-- With ALIGN 1 the tick start that is due next lies at a tick-aligned TIME value (R37). -/
def State.alignNext (s : State) : State :=
  if s.aligns then { s with cad := { s.cad with nextTick := s.cad.nextTick.map (fun t => s.alignedFrom t) } } else s

/-- ALIGN put: from where it is 1 the tick start that is due next lies at a tick-aligned TIME value (R37). -/
def State.putAlign (s : State) (on : Bool) : State :=
  let s1 := s.setBool Reg.CAD_CTRL_ALIGN on
  if s.on Reg.CAD_CTRL_ALIGN then s1 else s1.alignNext

/-! ### RUN (R22, R32) -/

/-- The first tick start at or after `t`: with SRC 2 of the leader's grid, with ALIGN 1 tick-aligned, else `t` (R32, R37, R38). -/
def State.firstTick (s : State) (t : Nat) : Nat :=
  let p := s.get Reg.CAD_PERIOD_PERIOD
  if s.get Reg.CAD_SYNC_SRC = 2 then (if p = 0 then t else t + (s.cad.anchor % p + p - t % p) % p)
  else if s.aligns then s.alignedFrom t else t

/-- RUN_SET: RUN goes to 1; the first tick starts 400 counts after the write, or from then at the first tick-aligned TIME value or the first
of the leader's tick starts, whose anchor then stays, and never before the end of a tick still in progress (R32, R37, R38). -/
def doRunSet (s : State) : State :=
  if s.running then s
  else
    let least := max (s.now + 400) (s.cad.stopAt.getD 0)
    let first := s.firstTick least
    let s1 := s.set Reg.CAD_CTRL_RUN 1
    { s1 with cad := { s1.cad with nextTick := some first, anchor := if s.get Reg.CAD_SYNC_SRC = 2 then s.cad.anchor else first, starting := true } }

def execRunSet (s : State) : Host.Outcome State Fault Refusal := .next (doRunSet s)

/-- The tick in progress, if there is one, has passed all its phases: only then may it end (R11). -/
def State.tickWhole (s : State) : Bool := !s.cad.inTick || (s.get Reg.CAD_STAT_PHASE == 3 && s.cad.dispatched)

/-- TICKS_STOP: the tick in progress when RUN was cleared ends, and ticks stop (R11, R32). -/
def doTicksStop (s : State) : State :=
  match s.cad.stopAt with
  | none => s
  | some t =>
    if s.tickWhole = false then s
    else
      let s1 := (s.reach t).set Reg.CAD_STAT_PHASE 0
      { s1 with cad := { s1.cad with inTick := false, stopAt := none } }

def execTicksStop (s : State) : Host.Outcome State Fault Refusal := .next (doTicksStop s)

/-- CAD_LOCK: LOCK set (R33). -/
def doCadLock (s : State) : State := s.set Reg.CAD_CTRL_LOCK 1

def execCadLock (s : State) : Host.Outcome State Fault Refusal := .next (doCadLock s)

/-- HOLDLIM_WRITE: 1 to 4 stored; a reserved value, or after LOCK a higher one, leaves HOLDLIM (R33, R345). -/
def doHoldlimWrite (v : Nat) (s : State) : State :=
  if v = 0 ∨ 4 < v ∨ (s.on Reg.CAD_CTRL_LOCK = true ∧ s.get Reg.CAD_CTRL_HOLDLIM < v) then s else s.set Reg.CAD_CTRL_HOLDLIM v

def execHoldlimWrite (v : BitVec 3) (s : State) : Host.Outcome State Fault Refusal := .next (doHoldlimWrite v.toNat s)

/-! ### Captures and reads (R25 to R27) -/

/-- PHASE as it reads: 0 while RUN is 0 (CAD_STAT). -/
def State.phaseNow (s : State) : Nat := if s.running then s.get Reg.CAD_STAT_PHASE else 0

/-- CAP: TIME, its fraction, TICK and the phase captured in one clock (R27). -/
def doCap (s : State) : State :=
  let s1 := (s.set64 Reg.CAD_CAP_LO_TIME Reg.CAD_CAP_HI_TIME s.now).set Reg.CAD_CAP_FRAC_TICK (s.tick % 0x10000)
  ((s1.set Reg.CAD_CAP_FRAC_PHASE s.phaseNow).set Reg.CAD_CAP_FRAC_FRAC s.captureFraction).nextFree

def execCap (s : State) : Host.Outcome State Fault Refusal := .next (doCap s)

/-- The snapshot key of a pair for a master (R346). -/
def snapKey (lo master : Nat) : Nat := 32 * lo + master

/-- The high-half snapshot that a master holds of a pair; 0 before the first (R346). -/
def State.snap (s : State) (lo master : Nat) : Nat := tblGet 0 s.bus.snaps (snapKey lo master)

/-- A high half snapshotted for a master. -/
def State.takeSnap (s : State) (lo master v : Nat) : State :=
  { s with bus := { s.bus with snaps := tblSet 0 s.bus.snaps (snapKey lo master) v } }

/-- CAD_TIME_LO_READ: TIME[31:0], with a snapshot of TIME[63:32] for this master (R25). -/
def doCadTimeLoRead (master : Nat) (s : State) : State :=
  (s.takeSnap Reg.CAD_TIME_LO_TIME.addr master (s.now / 0x100000000 % 0x100000000)).answer (s.now % 0x100000000)

def execCadTimeLoRead (master : Fin 32) (s : State) : Host.Outcome State Fault Refusal := .next (doCadTimeLoRead master.val s)

/-- CAD_TIME_HI_READ: the master's last snapshot (R25, R26). -/
def doCadTimeHiRead (master : Nat) (s : State) : State := s.answer (s.snap Reg.CAD_TIME_LO_TIME.addr master)

def execCadTimeHiRead (master : Fin 32) (s : State) : Host.Outcome State Fault Refusal := .next (doCadTimeHiRead master.val s)

/-! ### Synchronisation (R34 to R36, R38) -/

/-- SYNC of CAD_STAT put: 0 FREE, 1 ACQUIRING, 2 LOCKED, 3 HOLDOVER, 4 FOLLOWER; the run of good offsets starts anew. -/
def State.setSync (s : State) (v : Nat) : State :=
  let s1 := s.set Reg.CAD_STAT_SYNC v
  { s1 with cad := { s1.cad with goodOffsets := 0, phaseLeft := if v = 3 then 0 else s1.cad.phaseLeft } }

/-- SYNC_HOLDOVER_TIMEOUT: no valid Sync for 3 s while LOCKED: HOLDOVER, and source 86 (R34, R389). -/
def doSyncHoldoverTimeout (s : State) : State :=
  if s.get Reg.CAD_STAT_SYNC = 2 then ((s.reach (s.cad.lastSync + 3 * 400000000)).setSync 3).fault 86 0 else s

def execSyncHoldoverTimeout (s : State) : Host.Outcome State Fault Refusal := .next (doSyncHoldoverTimeout s)

/-- TIME moved by a step in 78.125 ps units (R35). With ALIGN 1 the next tick start is the first aligned value from where it then lies. -/
def State.stepTime (s : State) (step : Int) : State :=
  let s0 := s.shiftTime (step / 32)
  let s1 : State := { s0 with cad := { s0.cad with pendingStep := 0, phaseLeft := 0 } }
  s1.alignNext.set Reg.CAD_STAT_STEPPEND 0

/-- PHASE_STEP: a step that waits is applied with STEPEN 1 where all pulses are blocked at a tick start, or RUN is 0 (R35). -/
def State.phaseStep (s : State) : State :=
  if s.cad.pendingStep ≠ 0 ∧ s.on Reg.CAD_SYNC_STEPEN = true ∧ s.pulsesEnabled = false then s.stepTime s.cad.pendingStep else s

/-- The frequency correction of a measured offset, held within ±200 ppm (R36); whether it had to be clamped. -/
def State.adjust (s : State) (off : Int) : State × Bool :=
  let f := Config.servo (s.getInt Reg.CAD_FREQ_ADJ_FADJ) off
  let g := clampInt f (-200000000) 200000000
  (s.setInt Reg.CAD_FREQ_ADJ_FADJ g, f != g)

/-- A correction of the phase to be slewed, given in 78.125 ps units (R34, R35). -/
def State.slewBy (s : State) (d : Int) : State := { s with cad := { s.cad with phaseLeft := d * 31250000000 } }

/-- One valid offset under PTP, in 78.125 ps units: the states of R34; beyond STEP_TH in ACQUIRING it waits to be stepped, with STEPPEND
(R35); a correction that is clamped keeps or returns the state ACQUIRING (R36); in HOLDOVER the last correction is held. What is not stepped
is slewed, in ACQUIRING also an offset up to STEP_TH (DESIGN CHOICE, log 141). 1 µs is 12,800 units, 100 ns 1,280. -/
def State.ptpOffset (s : State) (off : Int) : State :=
  let far := decide (12800 < off.natAbs)
  let near := decide (off.natAbs ≤ 1280)
  let s0 := s.setInt Reg.CAD_OFFSET_OFFSET (clampInt off (-0x80000000) 0x7FFFFFFF)
  let st := s.get Reg.CAD_STAT_SYNC
  let n := if near then s.cad.goodOffsets + 1 else 0
  let r := if st = 3 ∧ far = false ∧ n < 4 then (s0, false) else s0.adjust off
  let s1 : State := { r.1 with cad := { r.1.cad with goodOffsets := n, lastSync := s.now } }
  let s2 :=
    if st = 2 ∧ (far = true ∨ r.2 = true) then s1.setSync 1
    else if st = 3 then
      if far = true ∨ r.2 = true then s1.setSync 1 else if 4 ≤ n then s1.setSync 2 else s1
    else if st = 1 ∧ 16 ≤ n ∧ r.2 = false then s1.setSync 2
    else s1
  if s2.get Reg.CAD_STAT_SYNC = 3 then s2
  else if s2.get Reg.CAD_STAT_SYNC ≠ 1 then s2.slewBy (-off)
  else if s2.get Reg.CAD_SYNC_STEP_TH * 1280 < off.natAbs then
    let s3 : State := ({ s2 with cad := { s2.cad with pendingStep := -off } } : State).slewBy (-off)
    if s3.running then s3.set Reg.CAD_STAT_STEPPEND 1
    else if s3.on Reg.CAD_SYNC_STEPEN then s3.phaseStep else s3.set Reg.CAD_STAT_STEPPEND 1
  else (({ s2 with cad := { s2.cad with pendingStep := 0 } } : State).slewBy (-off)).set Reg.CAD_STAT_STEPPEND 0

/-- What one clock slews of the phase correction that is left, in 10^−12 counts: never more than SLEW_MAX (R35). -/
def State.slewNow (s : State) : Int :=
  let n := min s.cad.phaseLeft.natAbs (min (Config.slewStep s.cad.phaseLeft) (s.get Reg.CAD_SYNC_SLEW_MAX * 1000000))
  if 0 ≤ s.cad.phaseLeft then n else -n

/-- One clock of TIME (R7): with no source to steer it TIME counts by one; else by one and what the frequency correction and the slewing of
the phase have gathered, a deferred step losing what was slewed of it (R34 to R36). How the slewing is spread is open (log 30). -/
def State.timeClock (s : State) : State :=
  if s.get Reg.CAD_SYNC_SRC = 0 then s.reach (s.now + 1)
  else
    let slew := s.slewNow
    let sum := s.cad.drift + s.getInt Reg.CAD_FREQ_ADJ_FADJ + slew
    let left := s.cad.phaseLeft - slew
    let s1 := s.reach (((s.now : Int) + 1 + sum / 1000000000000).toNat)
    let s2 : State := { s1 with cad := { s1.cad with
      drift := sum % 1000000000000, phaseLeft := left, pendingStep := if s1.cad.pendingStep = 0 then 0 else left / 31250000000 } }
    if left = 0 then s2.set Reg.CAD_STAT_STEPPEND 0 else s2

/-- SRC of CAD_SYNC changed: free-running, PTP (ACQUIRING) or follower; corrections start anew from none, and the device's
own ALIGN counts again where a leader's grid ends (R34, R37, R38; log 30). -/
def State.setSource (s : State) (src : Nat) : State :=
  let s1 := (s.set Reg.CAD_SYNC_SRC src).set Reg.CAD_FREQ_ADJ_FADJ 0
  let s2 : State := { s1 with cad := { s1.cad with pendingStep := 0, phaseLeft := 0, drift := 0 } }
  ((s2.set Reg.CAD_STAT_STEPPEND 0).setSync (if src = 1 then 1 else if src = 2 then 4 else 0)).alignNext

/-- A write to CAD_SYNC: reserved values leave their field; a change of SRC starts its state (R34, R345). -/
def State.cadSyncWrite (s : State) (v : Nat) : State :=
  let src := v % 4
  let old := s.get Reg.CAD_SYNC_SRC
  let s1 := s.storeAllowed Reg.CAD_SYNC_SRC.addr v
  if src = 3 ∨ src = old then s1 else (s1.set Reg.CAD_SYNC_SRC old).setSource src

end Sys2Proof.Machine
end

