-- ==== Sys2Proof/Machine/HostRings.lean ====
section
/-!
DEFINITION. The host interface (R310 to R337) but for the operations that read registers or pass images: tenants, rings, doorbells, the
fetch, completions and events, setpoints and the fallback.
-/

namespace Sys2Proof.Machine

/-! ### Tenants and rings -/

/-- One tenant. -/
def State.tenant (s : State) (t : Nat) : TenantState := tblGet {} s.hst.tenants t

/-- One tenant updated. -/
def State.modTenant (s : State) (t : Nat) (f : TenantState → TenantState) : State :=
  { s with hst := { s.hst with tenants := tblMod {} s.hst.tenants t f } }

/-- One ring of a tenant: SQ 0 to 3, CQ 0 to 3 as 4 to 7, the event ring as 8. -/
def State.ring (s : State) (t r : Nat) : RingState := tblGet {} (s.tenant t).rings r

/-- One ring updated. -/
def State.modRing (s : State) (t r : Nat) (f : RingState → RingState) : State :=
  s.modTenant t (fun x => { x with rings := tblMod {} x.rings r f })

/-- The registers of a ring. -/
def ringEn (t r : Nat) : Fld :=
  if r < 4 then Reg.HST_T_SQ_CFG_EN t r else if r < 8 then Reg.HST_T_CQ_CFG_EN t (r - 4) else Reg.HST_T_EVR_CFG_EN t
def ringSize (t r : Nat) : Fld :=
  if r < 4 then Reg.HST_T_SQ_CFG_SIZE t r else if r < 8 then Reg.HST_T_CQ_CFG_SIZE t (r - 4) else Reg.HST_T_EVR_CFG_SIZE t
def ringLo (t r : Nat) : Fld :=
  if r < 4 then Reg.HST_T_SQ_LO_BASE t r else if r < 8 then Reg.HST_T_CQ_LO_BASE t (r - 4) else Reg.HST_T_EVR_LO_BASE t
def ringHi (t r : Nat) : Fld :=
  if r < 4 then Reg.HST_T_SQ_HI_BASE t r else if r < 8 then Reg.HST_T_CQ_HI_BASE t (r - 4) else Reg.HST_T_EVR_HI_BASE t

/-- The vector of a CQ or event ring; the CQ of an SQ. -/
def ringVec (t r : Nat) : Fld :=
  if r < 4 then Reg.HST_T_SQ_CFG_CQ t r else if r < 8 then Reg.HST_T_CQ_CFG_VEC t (r - 4) else Reg.HST_T_EVR_CFG_VEC t

/-- The function of a tenant exists: function 0, and the VFs that its SR-IOV capability enables (R311). -/
def State.present (s : State) (t : Nat) : Bool := t == 0 || (s.hst.vfEnable && decide (t ≤ s.hst.numVfs))

/-- A host access to a function that does not exist reaches nothing (R311). -/
def State.ifPresent (s : State) (t : Nat) (f : State → State) : State := if s.present t then f s else s

/-- STATE of a tenant (R314): 0 DETACHED, 1 ATTACHED, 2 FAULTED, 3 RESETTING. -/
def State.tenState (s : State) (t : Nat) : Nat := s.get (Reg.HST_T_STAT_STATE t)

/-- A violation of a tenant counted (R325). -/
def State.tenViol (s : State) (t : Nat) : State := s.count (Reg.HST_TEN_VIOL_COUNT t) 1

/-! ### MSI-X and entries (R320, R327, R328) -/

/-- A word of the MSI-X table; a vector's control word is 1, masked, at reset (PRESUMED, log 32). -/
def State.vecWord (s : State) (t i : Nat) : Nat := tblGet (if i % 4 = 3 then 1 else 0) (s.tenant t).vectors i

/-- A vector sends no message: MSI-X is not enabled, the function masked, or the vector masked (R328; PRESUMED, log 32). -/
def State.vecHeld (s : State) (t v : Nat) : Bool :=
  !(s.tenant t).msixEnable || (s.tenant t).functionMask || (s.vecWord t (4 * v + 3)).testBit 0

/-- A vector signalled: its message is sent, or its pending bit set while it is held. -/
def State.signal (s : State) (t v : Nat) : State :=
  if s.vecHeld t v then s.modTenant t (fun x => { x with pba := setBit x.pba v }) else s.emit (.msix t v)

/-- The pending vectors of a function that are held no longer send their messages. -/
def State.sendPending (s : State) (t : Nat) : State :=
  ((List.range 8).filter (fun v => (s.tenant t).pba.testBit v && !s.vecHeld t v)).foldl (fun s v =>
    (s.modTenant t (fun x => { x with pba := clearBit x.pba v })).emit (.msix t v)) s

/-- A word of the MSI-X table written; a vector unmasked with its pending bit set sends its message. -/
def State.vecWrite (s : State) (t i v : Nat) : State :=
  (s.modTenant t (fun x => { x with
    vectors := tblSet (if i % 4 = 3 then 1 else 0) x.vectors i (if i % 4 = 3 then v % 2 else v) })).sendPending t

/-- A ring that entries are written to is full (R320). -/
def State.ringFull (s : State) (t r : Nat) : Bool :=
  let n := s.get (ringSize t r)
  n == 0 || (s.ring t r).tail + 1 == (s.ring t r).head || (s.ring t r).tail + 1 == (s.ring t r).head + n

/-- An entry written at a ring's tail with the ring's phase in it; the phase inverts where the tail wraps (R320). -/
def State.ringPut (s : State) (t r : Nat) (words : Nat → List Nat) : State :=
  let g := s.ring t r
  let n := s.get (ringSize t r)
  let at_ := s.get64 (ringLo t r) (ringHi t r) + 16 * g.tail
  let wraps := decide (n ≤ g.tail + 1)
  (s.emit (.hostWrite t at_ (words (if g.phase then 1 else 0)))).modRing t r (fun g => { g with
    tail := if wraps then 0 else g.tail + 1, phase := if wraps then !g.phase else g.phase })

/-- An event in a tenant's event ring: dropped with EVOVF where the ring is full; every entry signals (R328). -/
def State.hostEvent (s : State) (to_ code tenant arg : Nat) : State :=
  if s.get (ringEn to_ 8) = 0 ∨ (s.ring to_ 8).failed = true then s
  else if s.ringFull to_ 8 then s.set (Reg.HST_T_STAT_EVOVF to_) 1
  else (s.ringPut to_ 8 (fun ph => [code + 0x10000 * ph + 0x1000000 * tenant, arg, s.now % 0x100000000, s.now / 0x100000000])).signal
    to_ (s.get (ringVec to_ 8))

/-- An event in a tenant's own ring and in tenant 0's. -/
def State.hostEventBoth (s : State) (tenant code arg : Nat) : State :=
  let s1 := s.hostEvent tenant code tenant arg
  if tenant = 0 then s1 else s1.hostEvent 0 code tenant arg

/-- A CQ signals its vector; its count starts anew. -/
def State.cqSignal (s : State) (t c : Nat) : State :=
  (s.signal t (s.get (ringVec t (4 + c)))).modRing t (4 + c) (fun g => { g with unsig := 0, firstAt := none })

/-- A completion entry (R327), signalled at once with IRQ, else by count or timer (R328). -/
def State.postEntry (s : State) (t : Nat) (o : HostOp) : State :=
  let c := s.get (Reg.HST_T_SQ_CFG_CQ t o.sq)
  if s.get (ringEn t (4 + c)) = 0 ∨ (s.ring t (4 + c)).failed = true then s
  else
    let s1 := (s.ringPut t (4 + c) (fun ph =>
      [o.tag + 0x10000 * o.sq + 0x1000000 * ph, o.status + 0x10000 * o.sqHead, o.result, 0])).modRing t (4 + c) (fun g =>
        { g with unsig := g.unsig + 1, firstAt := some (g.firstAt.getD s.now) })
    if o.flags.testBit 3 ∨ s.get (Reg.HST_T_CQ_COAL_CNT t c) ≤ (s1.ring t (4 + c)).unsig then s1.cqSignal t c else s1

/-- An operation leaves flight: its completion is written, but not under QUIET with STATUS 0, nor while the tenant is RESETTING (R321,
R330). -/
def State.complete (s : State) (t : Nat) (o : HostOp) : State :=
  let s1 := s.modTenant t (fun x => { x with waits := 0 })
  if s.tenState t = 3 ∨ (o.flags.testBit 2 = true ∧ o.status = 0) then s1 else s1.postEntry t o

/-- The operations of an SQ that are done leave in fetch order, up to the first that is not; MGC operations stand aside (R327). -/
def State.leave (t q : Nat) : List HostOp → State → State × List HostOp
  | [], s => (s, [])
  | o :: rest, s =>
    if o.sq ≠ q ∨ o.stage = .mgc then let r := State.leave t q rest s; (r.1, o :: r.2)
    else if o.stage = .done then State.leave t q rest (s.complete t o)
    else (s, o :: rest)

/-- Done operations of an SQ posted. -/
def State.postDone (s : State) (t q : Nat) : State :=
  let r := State.leave t q (s.tenant t).ops s
  r.1.modTenant t (fun x => { x with ops := r.2 })

/-- The first operation of an SQ that is fetched and not yet executed. -/
def State.firstOp (s : State) (t q : Nat) : Option HostOp :=
  (s.tenant t).ops.find? (fun o => o.sq == q && o.stage == .fetched)

/-- The first operation that satisfies `p` replaced. -/
def updFirst (p : HostOp → Bool) (f : HostOp → HostOp) : List HostOp → List HostOp
  | [] => []
  | o :: rest => if p o then f o :: rest else o :: updFirst p f rest

/-- The first fetched operation of an SQ changed. -/
def State.updOp (s : State) (t q : Nat) (f : HostOp → HostOp) : State :=
  s.modTenant t (fun x => { x with ops := updFirst (fun o => o.sq == q && o.stage == .fetched) f x.ops })

/-- The first fetched operation of an SQ is done, with STATUS and RESULT. -/
def State.finishOp (s : State) (t q status result : Nat) : State :=
  (s.updOp t q (fun o => { o with stage := .done, status := status, result := result })).postDone t q

/-! ### Descriptors (R321, R322, R326, R333) -/

/-- A little-endian field of `n` bytes from byte `i`. -/
def leField (b : List Nat) (i : Nat) : Nat → Nat
  | 0 => 0
  | n + 1 => b.getD i 0 + 256 * leField b (i + 1) n

/-- An opcode that the MGC performs (R322). -/
def opcMgc (opc : Nat) : Bool := opc == 8 || opc == 9 || decide (0x80 ≤ opc)

/-- The right that an opcode needs; none for NOP (R322). -/
def opcRight (opc : Nat) : Option Nat :=
  match opc with
  | 1 => none
  | 2 => some 0
  | 3 => some 1
  | 4 => some 2
  | 5 => some 2
  | 6 => some 6
  | 7 => some 5
  | 8 => some 3
  | 9 => some 4
  | _ => some 7

/-- The tenant has the right to the operation. -/
def HostOp.allowed (o : HostOp) : Bool :=
  match opcRight o.opc with
  | none => true
  | some r => o.rights.testBit r

/-- The signed modular distance from tick `a` to tick `b` (R24). -/
def tickDistance (a b : Nat) : Int := signedOf 32 (b + 0x100000000 - a % 0x100000000)

/-- The slot and value of pair `i` of a SETPOINT (R333). -/
def HostOp.pairSlot (o : HostOp) (i : Nat) : Nat := leField o.args (8 * i) 4
def HostOp.pairValue (o : HostOp) (i : Nat) : Nat := leField o.args (8 * i + 4) 4

/-- ARGS from byte `i` on are 0. -/
def HostOp.argsZero (o : HostOp) (i : Nat) : Bool := (o.args.drop i).all (fun b => b == 0)

/-- A SETPOINT's own form (R333). -/
def HostOp.setpointForm (o : HostOp) (tick : Nat) : Bool :=
  let n := o.arg0
  let slots := (List.range n).map o.pairSlot
  decide (n ≤ 5) && slots.all (fun k => decide (k < 16)) && decide slots.Nodup && o.argsZero (8 * n)
    && (List.range n).all (fun i => (o.pairSlot i != 2 && o.pairSlot i != 3) || decide (o.pairValue i < 0x80000000))
    && (!o.flags.testBit 4 || decide (tickDistance tick o.attick ≤ 65536))

/-- A descriptor's form is valid for its version (R316, R321 to R324, R326, R408, R522). -/
def HostOp.formOk (o : HostOp) (ver tick : Nat) : Bool :=
  let bare := o.addr == 0 && o.len == 0
  decide (o.flags < 32) && (o.flags.testBit 4 || o.attick == 0) && (ver == 2 || !o.flags.testBit 4)
    && (match o.opc with
      | 1 => bare && o.arg0 == 0 && o.argsZero 0
      | 2 => o.addr != 0 && o.len % 4 == 0 && decide (4 ≤ o.len) && decide (o.len ≤ if o.flags.testBit 1 then 1024 else 4096)
          && o.arg0 % 4 == 0 && decide (0x40000000 ≤ o.arg0) && decide (o.arg0 + o.len ≤ 0x40180000) && o.argsZero 0
      | 3 => bare && o.setpointForm tick
      | 4 => o.addr != 0 && decide (1 ≤ o.len) && decide (o.len ≤ 4092) && decide (o.arg0 < 64) && o.argsZero 0
      | 5 => o.addr != 0 && decide (o.arg0 < 64) && o.argsZero 0
      | 6 => o.addr != 0 && o.len == 16 && o.arg0 == 0 && o.argsZero 0
      | 7 => o.addr != 0 && o.len == 128 && decide (o.arg0 < 4) && o.argsZero 0
      | 8 => true
      | 9 => o.addr != 0 && o.arg0 % 64 == 0 && o.len % 64 == 0 && decide (64 ≤ o.len) && decide (o.len ≤ 4096)
          && decide (o.args.getD 0 0 < 4) && o.argsZero 1
      | _ => decide (0x80 ≤ o.opc))

/-- The descriptor that 64 bytes spell, with what its tenant may do now (R321, R326). -/
def State.readDescriptor (s : State) (t q head : Nat) (b : List Nat) : HostOp :=
  { sq := q, opc := leField b 0 1, flags := leField b 1 1, tag := leField b 2 2, attick := leField b 4 4, addr := leField b 8 8,
    len := leField b 16 4, arg0 := leField b 20 4, args := (List.range 40).map (fun i => b.getD (24 + i) 0), sqHead := head,
    rights := s.get (Reg.HST_TEN_CFG_RIGHTS t), qbase := s.get (Reg.HST_TEN_CFG_QBASE t), qnum := s.get (Reg.HST_TEN_CFG_QNUM t),
    wins := (List.range 4).map (fun w => (s.get (Reg.HST_TEN_WIN_FIRST t w), s.get (Reg.HST_TEN_WIN_NPAGE t w))),
    spmask := s.get (Reg.HST_TEN_SCHED_SPMASK t) }

/-! ### The fetch (R331, R332) -/

/-- Operations in flight of a tenant, and of the device (INFLIGHT of HST_STAT). -/
def State.flightOf (s : State) (t : Nat) : Nat := (s.tenant t).ops.length
def State.inFlight (s : State) : Nat := (List.range 16).foldl (fun n t => n + s.flightOf t) 0

/-- The shared pool of credits is not empty. -/
def State.sharedLeft (s : State) : Bool :=
  decide ((List.range 16).foldl (fun n t => n + max (s.get (Reg.HST_TEN_CRED_RES t)) (s.flightOf t)) 0 < 4096)

/-- An SQ may be fetched from, as far as its next descriptor does not matter (R331). -/
def State.sqReady (s : State) (t q : Nat) : Bool :=
  let g := s.ring t q
  let c := s.get (Reg.HST_T_SQ_CFG_CQ t q)
  let k := s.ring t (4 + c)
  let size := s.get (ringSize t (4 + c))
  let mine := ((s.tenant t).ops.filter (fun o => s.get (Reg.HST_T_SQ_CFG_CQ t o.sq) == c)).length
  s.tenState t == 1 && s.on (ringEn t q) && g.head != g.tail && !(s.tenant t).waits.testBit q
    && decide (s.flightOf t < s.get (Reg.HST_TEN_CRED_MAXF t))
    && (decide (s.flightOf t < s.get (Reg.HST_TEN_CRED_RES t)) || s.sharedLeft)
    && decide (mine + (k.tail + size - k.head) % size + 1 < size)

/-- A tenant has an SQ to fetch from. -/
def State.tenantReady (s : State) (t : Nat) : Bool := (List.range 4).any (fun q => s.sqReady t q)

/-- The tenant to serve: the one whose turn it is while it has descriptors of its WEIGHT left, else the next in order that is ready; and
the descriptors fetched in its turn so far (R332). -/
def State.nextTenant (s : State) : Option (Nat × Nat) :=
  if s.tenantReady s.hst.turn ∧ s.hst.used < s.get (Reg.HST_TEN_SCHED_WEIGHT s.hst.turn) then some (s.hst.turn, s.hst.used)
  else (((List.range 16).map (fun i => (s.hst.turn + 1 + i) % 16)).find? (fun t => s.tenantReady t)).map (fun t => (t, 0))

/-- The SQ to serve: the next in order of the tenant that is ready. -/
def State.nextSq (s : State) (t : Nat) : Nat :=
  (((List.range 4).map (fun i => ((s.tenant t).lastSq + 1 + i) % 4)).find? (fun q => s.sqReady t q)).getD 0

/-- DESCRIPTOR_FETCH: the engine takes the next descriptor of the tenant and SQ in turn; one that must wait (FENCE with an earlier
descriptor of the SQ in flight, an MGC operation at MGCMAX) stays in its SQ; one whose form is invalid is done with INVALID (R326, R331,
R332). In Kickstand, and while outputs 6 and 7 are stopped, nothing is fetched (R486, R507). -/
def doDescriptorFetch (b : List Nat) (s : State) : State :=
  if s.inKickstand || s.pwr.stalled then s
  else match s.nextTenant with
    | none => s
    | some (t, used) =>
      let q := s.nextSq t
      let g := s.ring t q
      let head := (g.head + 1) % s.get (ringSize t q)
      let o := s.readDescriptor t q head b
      let s0 := s.modTenant t (fun x => { x with lastSq := q })
      let fence := o.flags.testBit 0 && (s.tenant t).ops.any (fun x => x.sq == q)
      let full := opcMgc o.opc && decide (s.get (Reg.HST_TEN_SCHED_MGCMAX t) ≤ ((s.tenant t).ops.filter (fun x => opcMgc x.opc)).length)
      if fence || full then s0.modTenant t (fun x => { x with waits := setBit x.waits q })
      else
        let o1 := if o.formOk (s.get (Reg.HST_T_STAT_VER t)) s.tick then o else { o with stage := .done, status := 1 }
        let s1 := (s0.modRing t q (fun g => { g with head := head })).modTenant t (fun x => { x with ops := x.ops ++ [o1] })
        State.postDone { s1 with hst := { s1.hst with turn := t, used := used + 1 } } t q

def execDescriptorFetch (bytes : List Byte) (s : State) : Host.Outcome State Fault Refusal :=
  .next (doDescriptorFetch (bytes.map (fun b => b.toNat)) s)

/-! ### Doorbells (R319) -/

/-- A doorbell: the index recorded; out of range or on a disabled ring it is ignored and counted; in Kickstand it asks for a wake
(R319, R325, R486). -/
def State.doorbell (s0 : State) (t r v : Nat) (put : Nat → RingState → RingState) : State :=
  let s : State := if s0.inKickstand then { s0 with hst := { s0.hst with wakeReq := true } } else s0
  let i := v % 4096
  if s.get (ringEn t r) = 0 ∨ s.get (ringSize t r) ≤ i then s.tenViol t else s.modRing t r (put i)

/-- SQ_TAIL_DOORBELL. -/
def doSqTailDoorbell (t q v : Nat) (s : State) : State := s.doorbell t q v (fun i g => { g with tail := i })

def execSqTailDoorbell (tenant : Fin 16) (sq : Fin 4) (v : Word) (s : State) : Host.Outcome State Fault Refusal :=
  .next (s.ifPresent tenant.val (doSqTailDoorbell tenant.val sq.val v.toNat))

/-- CQ_HEAD_DOORBELL: of CQ 0 to 3, or of the event ring as 4. -/
def doCqHeadDoorbell (t r v : Nat) (s : State) : State := s.doorbell t (4 + r) v (fun i g => { g with head := i })

def execCqHeadDoorbell (tenant : Fin 16) (ring : Fin 5) (v : Word) (s : State) : Host.Outcome State Fault Refusal :=
  .next (s.ifPresent tenant.val (doCqHeadDoorbell tenant.val ring.val v.toNat))

/-- CQ_COALESCING_TIMER: TIMER µs after the first unsignalled entry the CQ signals (R328). -/
def doCqCoalescingTimer (t c : Nat) (s : State) : State :=
  let us := s.get (Reg.HST_T_CQ_COAL_TIMER t c)
  match (s.ring t (4 + c)).firstAt with
  | none => s
  | some a => if us = 0 ∨ s.get (ringEn t (4 + c)) = 0 then s else (s.reach (a + 400 * us)).cqSignal t c

def execCqCoalescingTimer (tenant : Fin 16) (cq : Fin 4) (s : State) : Host.Outcome State Fault Refusal :=
  .next (doCqCoalescingTimer tenant.val cq.val s)

/-! ### Ring set-up (R317, R318) -/

/-- A size of R317. -/
def sizeValid (n : Nat) : Bool := [16, 32, 64, 128, 256, 512, 1024, 2048, 4096].contains n

/-- RING_ENABLE_WRITE: a write to a ring's configuration register. While EN is 0 the fields are stored and EN := 1 is judged; while EN is 1
only EN := 0 acts, but not on a CQ that an enabled SQ names; an SQ disabled waits at no descriptor (R331). Enabling puts an SQ's head and tail to 0, another ring's tail to 0 and its phase
to 1 (R318). -/
def doRingEnableWrite (t r v : Nat) (s : State) : State :=
  let en := v.testBit 31
  if s.on (ringEn t r) then
    let named := decide (4 ≤ r ∧ r < 8) && (List.range 4).any (fun q => s.on (ringEn t q) && s.get (Reg.HST_T_SQ_CFG_CQ t q) == r - 4)
    if en || named then s
    else if r < 4 then (s.set (ringEn t r) 0).modTenant t (fun x => { x with waits := clearBit x.waits r }) else s.set (ringEn t r) 0
  else
    let s1 := (s.set (ringSize t r) v).set (ringVec t r) (v >>> 16)
    if en = false then s1
    else if s1.tenState t = 1 ∧ sizeValid (s1.get (ringSize t r)) = true ∧ s1.get (ringLo t r) % 64 = 0
        ∧ (4 ≤ r ∨ s1.on (ringEn t (4 + s1.get (Reg.HST_T_SQ_CFG_CQ t r))) = true) then
      (s1.set (ringEn t r) 1).modRing t r (fun g => if r < 4 then {} else { head := g.head })
    else s1.set (Reg.HST_T_STAT_CFGERR t) 1

def execRingEnableWrite (tenant : Fin 16) (ring : Fin 9) (v : Word) (s : State) : Host.Outcome State Fault Refusal :=
  .next (s.ifPresent tenant.val (doRingEnableWrite tenant.val ring.val v.toNat))

/-- A ring's base register written: only while EN is 0 (R318). -/
def State.ringBase (s : State) (t r : Nat) (f : Fld) (v : Nat) : State := if s.on (ringEn t r) then s else s.set f v

/-! ### Staleness (R335) -/

/-- FALLBACK is entered: the flag, FBCNT, event 2 and a Note fault; from the next tick start slots 0 and 1 move towards FB_P and FB_Q. -/
def State.enterFallback (s : State) : State :=
  if s.on Reg.HST_STAT_FALLBACK then { s with hst := { s.hst with staleFrom := none } }
  else
    let ten := s.get Reg.HST_DISPATCH_TEN
    let ramp (k : Nat) (target : Fld) : Option SlotRamp :=
      some ⟨(s.getInt (if k = 0 then Reg.GRD_PSET_VALUE else Reg.GRD_QSET_VALUE) : Rat), s.getInt target⟩
    let s1 := ((s.set Reg.HST_STAT_FALLBACK 1).count Reg.HST_FB_RAMP_FBCNT 1).hostEventBoth ten 2 0
    let s2 : State := { s1 with hst := { s1.hst with
      staleFrom := none,
      ramps := tblSet none (tblSet none s1.hst.ramps 0 (ramp 0 Reg.HST_FB_P_VALUE)) 1 (ramp 1 Reg.HST_FB_Q_VALUE) } }
    s2.fault 65 ten

/-- A tenant that is reset, detached or faulted: dispatching setpoints are stale at once (R335), and its safety connections fall (R406). -/
def State.tenantGone (s : State) (t : Nat) : State :=
  let s1 := s.connsOfTenantFail t
  if s1.on Reg.HST_DISPATCH_EN ∧ s1.get Reg.HST_DISPATCH_TEN = t then s1.enterFallback else s1

/-- DISPATCH_STALE: STALE ms have passed without an accepted SETPOINT of the dispatching tenant (R335). -/
def doDispatchStale (s : State) : State :=
  match s.hst.staleFrom with
  | none => s
  | some t =>
    if s.on Reg.HST_DISPATCH_EN then (s.reach (t + countsPerMs * s.get Reg.HST_DISPATCH_STALE)).enterFallback else s

def execDispatchStale (s : State) : Host.Outcome State Fault Refusal := .next (doDispatchStale s)

/-- The largest move of a ramping slot in one tick, in units of 2^−31: RAMP × CAD_PERIOD (R335). -/
def State.rampStep (s : State) : Rat := mkRat (s.get Reg.HST_FB_RAMP_RAMP) 1000 * s.periodSeconds * 0x20000000

/-- A setpoint slot takes a value: HST_SPn, and the GRD setpoint of slots 0 to 3 (R333). -/
def State.putSlot (s : State) (k v : Nat) : State :=
  let s1 := s.set (Reg.HST_SP_VALUE k) v
  match k with
  | 0 => s1.set Reg.GRD_PSET_VALUE v
  | 1 => s1.set Reg.GRD_QSET_VALUE v
  | 2 => s1.set Reg.GRD_VSET_VALUE v
  | 3 => s1.set Reg.GRD_FSET_VALUE v
  | _ => s1

/-- FALLBACK_RAMP_STEP of one slot: the value in use moves towards its target by at most the step; at the target the ramp ends (R335). -/
def State.rampSlot (s : State) (k : Nat) : State :=
  match tblGet none s.hst.ramps k with
  | none => s
  | some r =>
    let inUse := s.getInt (if k = 0 then Reg.GRD_PSET_VALUE else Reg.GRD_QSET_VALUE)
    let from_ : Rat := if wordOfInt 32 r.value = bitsOf 32 inUse then r.value else (inUse : Rat)
    let d := (r.target : Rat) - from_
    let next : Rat := if absRat d ≤ s.rampStep then (r.target : Rat) else if 0 < d then from_ + s.rampStep else from_ - s.rampStep
    let left : Option SlotRamp := if next = (r.target : Rat) then none else some { r with value := next }
    State.putSlot { s with hst := { s.hst with ramps := tblSet none s.hst.ramps k left } } k (wordOfInt 32 next)

/-- FALLBACK_RAMP_STEP at a tick start (R335). -/
def State.fallbackRamp (s : State) : State := (s.rampSlot 0).rampSlot 1

/-- RAMP of HST_STAT as it reads. -/
def State.ramping (s : State) : Bool := s.hst.ramps.any (fun e => e.2.isSome)

/-! ### Attach, detach, reset (R313 to R315, R329, R330) -/

/-- The highest version that the driver, the device and VERMAX share; 0 for none (R315). -/
def State.versionOf (s : State) (vermap : Nat) : Nat :=
  let top := s.get Reg.HST_CTRL_VERMAX
  if vermap.testBit 2 ∧ 2 ≤ top then 2 else if vermap.testBit 1 ∧ 1 ≤ top then 1 else 0

/-- ATTACH: a DETACHED tenant with EN 1 and a common version is ATTACHED, event 5; else ATTERR is set; in the other states it is ignored
(R315). -/
def doAttach (t vermap : Nat) (s : State) : State :=
  if s.tenState t ≠ 0 then s
  else
    let v := s.versionOf vermap
    if v = 0 ∨ s.get (Reg.HST_TEN_CFG_EN t) = 0 then s.set (Reg.HST_T_STAT_ATTERR t) 1
    else ((s.set (Reg.HST_T_STAT_VER t) v).set (Reg.HST_T_STAT_STATE t) 1).hostEvent 0 5 t 0

def execAttach (tenant : Fin 16) (vermap : BitVec 4) (s : State) : Host.Outcome State Fault Refusal :=
  .next (s.ifPresent tenant.val (doAttach tenant.val vermap.toNat))

/-- An engine operation that still completes internally while its tenant is reset: fetched, or a SNAP read that waits for its Acquire deadline;
no setpoint (R330). -/
def HostOp.survives (o : HostOp) : Bool := (o.stage == .fetched || o.stage == .accepted) && !opcMgc o.opc && o.opc != 3

/-- A tenant reset begins: RESETTING; MGC operations abandoned, setpoints not applied discarded; rings and vectors at their reset values
(R330). -/
def State.tenantReset (s : State) (t : Nat) : State :=
  let s1 := s.set (Reg.HST_T_STAT_STATE t) 3
  let s2 := s1.modTenant t (fun x => { ops := x.ops.filter HostOp.survives, msixEnable := x.msixEnable, functionMask := x.functionMask })
  let s3 := (List.range 9).foldl (fun s r =>
    ((((s.set (ringEn t r) 0).set (ringSize t r) 0).set (ringVec t r) 0).set (ringLo t r) 0).set (ringHi t r) 0) s2
  let s4 := (List.range 4).foldl (fun s c => (s.set (Reg.HST_T_CQ_COAL_TIMER t c) 0).set (Reg.HST_T_CQ_COAL_CNT t c) 0) s3
  s4.tenantGone t

/-- DETACH: a tenant reset, with event 6 (R315, R328). -/
def doDetach (t : Nat) (s : State) : State := (s.hostEvent 0 6 t 0).tenantReset t

def execDetach (tenant : Fin 16) (s : State) : Host.Outcome State Fault Refusal :=
  .next (s.ifPresent tenant.val (doDetach tenant.val))

/-- HST_T_RESET: 0x5A resets the tenant; other values do nothing (R330). -/
def doHstTReset (t v : Nat) (s : State) : State := if v % 256 = 0x5A then s.tenantReset t else s

def execHstTReset (tenant : Fin 16) (v : Word) (s : State) : Host.Outcome State Fault Refusal :=
  .next (s.ifPresent tenant.val (doHstTReset tenant.val v.toNat))

/-- TENANT_RESET_COMPLETE: the engine operations in flight have completed; the tenant is DETACHED and event 4 raised (R314, R330). -/
def doTenantResetComplete (t : Nat) (s : State) : State :=
  if s.tenState t ≠ 3 ∨ (s.tenant t).ops.isEmpty = false then s
  else (((s.set (Reg.HST_T_STAT_STATE t) 0).set (Reg.HST_T_STAT_VER t) 0).set (Reg.HST_T_STAT_FCAUSE t) 0).hostEvent 0 4 t 0

def execTenantResetComplete (tenant : Fin 16) (s : State) : Host.Outcome State Fault Refusal := .next (doTenantResetComplete tenant.val s)

/-- A function's own configuration space at its reset values: MSI-X off (R310; PRESUMED, log 32). -/
def State.configReset (s : State) (t : Nat) : State := s.modTenant t (fun x => { x with msixEnable := false, functionMask := false })

/-- LINK_RESET: a conventional reset, hot reset or link down resets all 16 tenants, and the SR-IOV capability of function 0 (R313). -/
def doLinkReset (s : State) : State :=
  let s1 := (List.range 16).foldl (fun s t => (s.tenantReset t).configReset t) s
  { s1 with hst := { s1.hst with vfEnable := false, numVfs := 0 } }

def execLinkReset (s : State) : Host.Outcome State Fault Refusal := .next (doLinkReset s)

/-- FUNCTION_LEVEL_RESET: of a VF that tenant alone, of function 0 all tenants (R313). -/
def doFunctionLevelReset (t : Nat) (s : State) : State := if t = 0 then doLinkReset s else (s.tenantReset t).configReset t

def execFunctionLevelReset (tenant : Fin 16) (s : State) : Host.Outcome State Fault Refusal :=
  .next (s.ifPresent tenant.val (doFunctionLevelReset tenant.val))

/-- TENANT_DMA_FAILURE: a read of an SQ's entries (FCAUSE 1) or a write of a CQ's or the event ring's (FCAUSE 2) has failed: the tenant is
FAULTED, with event 1 and a Note fault; of a tenant FAULTED already that ring is no longer writable (R329). -/
def doTenantDmaFailure (t r : Nat) (s : State) : State :=
  if s.tenState t = 2 then s.modRing t r (fun g => { g with failed := true })
  else if s.tenState t ≠ 1 then s
  else
    let cause := if r < 4 then 1 else 2
    let s1 := (s.set (Reg.HST_T_STAT_STATE t) 2).set (Reg.HST_T_STAT_FCAUSE t) cause
    (((s1.modRing t r (fun g => { g with failed := true })).hostEventBoth t 1 cause).fault 64 t).tenantGone t

def execTenantDmaFailure (tenant : Fin 16) (ring : Fin 9) (s : State) : Host.Outcome State Fault Refusal :=
  .next (doTenantDmaFailure tenant.val ring.val s)

/-! ### Engine operations (R322, R324, R325) -/

/-- NOP_DESCRIPTOR. -/
def doNopDescriptor (t q : Nat) (s : State) : State :=
  match s.firstOp t q with
  | none => s
  | some o => if o.opc = 1 then s.finishOp t q 0 0 else s

def execNopDescriptor (tenant : Fin 16) (sq : Fin 4) (s : State) : Host.Outcome State Fault Refusal :=
  .next (doNopDescriptor tenant.val sq.val s)

/-- A queue operation is refused silently: no right, a queue outside the tenant's, or one whose producer or consumer it is not (R325,
R360). -/
def State.queueRefused (s : State) (t : Nat) (o : HostOp) (write : Bool) : Bool :=
  !o.allowed || decide (o.arg0 < o.qbase ∨ o.qbase + o.qnum ≤ o.arg0)
    || (if write then !s.mayWrite o.arg0 (16 + t) else !s.mayRead o.arg0 (16 + t))

/-- QSEND: the buffer as one packet; FULL where the queue or the pool does not take it whole (R324). -/
def doQsend (t q : Nat) (data : List Nat) (dma : Bool) (s : State) : State :=
  match s.firstOp t q with
  | none => s
  | some o =>
    if o.opc ≠ 4 then s
    else if s.queueRefused t o true then (s.tenViol t).finishOp t q 0 o.len
    else if dma = false then s.finishOp t q 5 0
    else
      let bytes := (List.range o.len).map (fun i => data.getD i 0)
      let r := s.deliver o.arg0 (16 + t) o.len (wordsOfBytes bytes)
      if r.2 then r.1.finishOp t q 0 o.len else r.1.finishOp t q 3 0

def execQsend (tenant : Fin 16) (sq : Fin 4) (data : List Byte) (dma : Bool) (s : State) : Host.Outcome State Fault Refusal :=
  .next (doQsend tenant.val sq.val (data.map (fun b => b.toNat)) dma s)

/-- QRECV: the next packet; EMPTY, or SHORT with the packet left in the queue (R324). -/
def doQrecv (t q : Nat) (dma : Bool) (s : State) : State :=
  match s.firstOp t q with
  | none => s
  | some o =>
    if o.opc ≠ 5 then s
    else if s.queueRefused t o false then (s.tenViol t).finishOp t q 0 0
    else match s.takePacket o.arg0 (16 + t) with
      | (s1, none) => s1.finishOp t q 2 0
      | (s1, some (n, ws)) =>
        if o.len < n then (s.consume o.arg0 (16 + t)).finishOp t q 4 n
        else if dma = false then s1.finishOp t q 5 0
        else (s1.emit (.hostBytes t o.addr ((List.range n).map (fun i => ws.getD (i / 4) 0 / 256 ^ (i % 4) % 256)))).finishOp t q 0 n

def execQrecv (tenant : Fin 16) (sq : Fin 4) (dma : Bool) (s : State) : Host.Outcome State Fault Refusal :=
  .next (doQrecv tenant.val sq.val dma s)

/-- TIME: TIME, fraction and TICK to the buffer; zeros without the right; the fraction is that of a capture (R8, R207, R208, R324,
R325; log 30). -/
def doTimeDescriptor (t q : Nat) (dma : Bool) (s : State) : State :=
  match s.firstOp t q with
  | none => s
  | some o =>
    if o.opc ≠ 6 then s
    else
      let s1 := if o.allowed then s else s.tenViol t
      let words := if o.allowed then
        [s.now % 0x100000000, s.now / 0x100000000 % 0x100000000, s.captureFraction, s.tick] else [0, 0, 0, 0]
      if dma = false then s1.finishOp t q 5 0 else ((s1.emit (.hostWrite t o.addr words)).nextFree).finishOp t q 0 0

def execTimeDescriptor (tenant : Fin 16) (sq : Fin 4) (dma : Bool) (s : State) : Host.Outcome State Fault Refusal :=
  .next (doTimeDescriptor tenant.val sq.val dma s)

/-- SAFETY: the command PDU of the buffer, 36 bytes in version 2, else 28, arrives at the connection; RESULT is the reason; the status PDU
of an accepted one, or zeros, goes to bytes 64 to 127 (R404, R408). -/
def doSafetyDescriptor (t q : Nat) (b : List Nat) (dma : Bool) (s : State) : State :=
  match s.firstOp t q with
  | none => s
  | some o =>
    if o.opc ≠ 7 then s
    else if dma = false then (if o.allowed then s else s.tenViol t).finishOp t q 5 0
    else
      let pdu := (List.range (if b.getD 0 0 / 16 = 2 then 36 else 28)).map (fun i => b.getD i 0)
      let reason := (s.watchdogDue o.arg0).pduReason o.arg0 1 t pdu s.now
      if o.allowed = false then (s.tenViol t).finishOp t q 0 reason
      else
        let s1 := doSafetyPduReceived o.arg0 1 t pdu s.now s
        let status := match s1.out.getLast? with
          | some (.safetyPdu _ bytes) => if reason = 0 then bytes else []
          | _ => []
        let answer := (List.range 64).map (fun i => status.getD i 0)
        (s1.emit (.hostWrite t (o.addr + 64) (wordsOfBytes answer))).finishOp t q 0 reason

def execSafetyDescriptor (tenant : Fin 16) (sq : Fin 4) (pdu : List Byte) (dma : Bool) (s : State) :
    Host.Outcome State Fault Refusal :=
  .next (doSafetyDescriptor tenant.val sq.val (pdu.map (fun b => b.toNat)) dma s)

/-- An operation handed to the MGC; without the right it has no effect and its RESULT is open (R322, R325; log 33). -/
def State.toMgc (s : State) (t q : Nat) (o : HostOp) : State :=
  if o.allowed then ((s.updOp t q (fun x => { x with stage := .mgc })).notice noticeHost o.opc).postDone t q
  else ((s.tenViol t).finishOp t q 0 (Config.mgcResult s.free).toNat).nextFree

/-- RECORD (R322). -/
def doRecordDescriptor (t q : Nat) (s : State) : State :=
  match s.firstOp t q with
  | none => s
  | some o => if o.opc = 8 then s.toMgc t q o else s

def execRecordDescriptor (tenant : Fin 16) (sq : Fin 4) (s : State) : Host.Outcome State Fault Refusal :=
  .next (doRecordDescriptor tenant.val sq.val s)

/-- MGC_DEFINED_OPERATION (R322). -/
def doMgcDefinedOperation (t q : Nat) (s : State) : State :=
  match s.firstOp t q with
  | none => s
  | some o => if 0x80 ≤ o.opc then s.toMgc t q o else s

def execMgcDefinedOperation (tenant : Fin 16) (sq : Fin 4) (s : State) : Host.Outcome State Fault Refusal :=
  .next (doMgcDefinedOperation tenant.val sq.val s)

/-- The MGC operation of an SQ with a tag. -/
def isMgcOp (q tag : Nat) (o : HostOp) : Bool := o.sq == q && o.stage == .mgc && o.tag == tag

/-- The first operation that satisfies `p` taken out. -/
def eraseFirst (p : HostOp → Bool) : List HostOp → List HostOp
  | [] => []
  | o :: rest => if p o then rest else o :: eraseFirst p rest

/-- MGC_OPERATION_COMPLETE: an operation that the MGC holds completes and its completion is written (R327). -/
def doMgcOperationComplete (t q tag status result : Nat) (s : State) : State :=
  match (s.tenant t).ops.find? (isMgcOp q tag) with
  | none => s
  | some o =>
    (s.modTenant t (fun x => { x with ops := eraseFirst (isMgcOp q tag) x.ops })).complete t { o with status := status, result := result }

def execMgcOperationComplete (tenant : Fin 16) (sq : Fin 4) (tag : BitVec 16) (status : Fin 8) (result : Word) (s : State) :
    Host.Outcome State Fault Refusal :=
  .next (doMgcOperationComplete tenant.val sq.val tag.toNat status.val result.toNat s)

/-! ### Setpoints (R333 to R335) -/

/-- The pairs of a SETPOINT that its tenant may set: slot and value. -/
def HostOp.slots (o : HostOp) : List (Nat × Nat) :=
  if o.allowed then
    ((List.range o.arg0).map (fun i => (o.pairSlot i, o.pairValue i))).filter (fun p => o.spmask.testBit p.1)
  else []

/-- The tick of an ATT setpoint starts too soon or has started (R334). -/
def State.tooLate (s : State) (o : HostOp) : Bool :=
  let d := tickDistance s.tick o.attick
  o.flags.testBit 4 && (decide (d ≤ 0) || (decide (d = 1) && (match s.cad.nextTick with
    | none => false
    | some t => decide (t < s.now + 40))))

/-- An accepted setpoint's tick start has come (R334, R549). -/
def State.setpointDue (s : State) (o : HostOp) : Bool :=
  o.opc == 3 && o.stage == .accepted && (if o.flags.testBit 4 then decide (tickDistance s.tick o.attick ≤ 0) else s.requestDue o.time)

/-- One pair applied. During FALLBACK slots 0 and 1 take nothing from a tenant that does not dispatch; where a ramp runs, or the dispatching
tenant returns, the value is the ramp's new target; else it is in use at once (R335). -/
def State.applyPair (s : State) (t : Nat) (o : HostOp) (p : Nat × Nat) : State :=
  if 2 ≤ p.1 then s.putSlot p.1 p.2
  else if s.on Reg.HST_STAT_FALLBACK ∧ t ≠ s.get Reg.HST_DISPATCH_TEN then s
  else match tblGet none s.hst.ramps p.1 with
    | some r => { s with hst := { s.hst with ramps := tblSet none s.hst.ramps p.1 (some { r with target := signedOf 32 p.2 }) } }
    | none =>
      if o.ramped then
        let inUse := s.getInt (if p.1 = 0 then Reg.GRD_PSET_VALUE else Reg.GRD_QSET_VALUE)
        { s with hst := { s.hst with ramps := tblSet none s.hst.ramps p.1 (some ⟨(inUse : Rat), signedOf 32 p.2⟩) } }
      else s.putSlot p.1 p.2

/-- The dispatching tenant is back: FALLBACK ends with event 3 (R335). -/
def State.leaveFallback (s : State) (t : Nat) : State :=
  if s.on Reg.HST_STAT_FALLBACK then (s.set Reg.HST_STAT_FALLBACK 0).hostEventBoth t 3 0 else s

/-- One accepted setpoint of a tenant applied and done, RESULT the TICK; one by which the dispatching tenant returns ends FALLBACK (R334,
R335). -/
def State.applySetpoint (s : State) (t : Nat) (o : HostOp) : State :=
  let s1 := o.slots.foldl (fun s p => s.applyPair t o p) (if o.ramped then s.leaveFallback t else s)
  (s1.modTenant t (fun x => { x with
    ops := updFirst (fun y => y.opc == 3 && y.stage == .accepted && y.order == o.order) (fun y => { y with stage := .done, result := s.tick }) x.ops })).postDone
      t o.sq

/-- The accepted setpoints that are due, with their tenants, in order of acceptance. -/
def State.dueSetpoints (s : State) : List (Nat × HostOp) :=
  let all := (List.range 16).flatMap (fun t => ((s.tenant t).ops.filter (fun o => s.setpointDue o)).map (fun o => (t, o)))
  all.mergeSort (fun a b => decide (a.2.order ≤ b.2.order))

/-- SETPOINT_APPLY: every accepted setpoint whose tick start has come applies, in order of acceptance (R334). In Kickstand they wait
(R486). -/
def doSetpointApply (s : State) : State :=
  if s.inKickstand then s else s.dueSetpoints.foldl (fun s p => s.applySetpoint p.1 p.2) s

def execSetpointApply (s : State) : Host.Outcome State Fault Refusal := .next (doSetpointApply s)

/-- SETPOINT: accepted for its tick start, or LATE (OK without the right); slots that the tenant may not set are dropped and counted once. An acceptance from the
dispatching tenant, late ones too, restarts its timer, and it ends FALLBACK with event 3 where the setpoint applies; at once where it is late
(DEDUCED, log 160). While RUN is 0 a setpoint without ATT applies at once (R325, R334,
R335). -/
def doSetpoint (t q : Nat) (s : State) : State :=
  match s.firstOp t q with
  | none => s
  | some o =>
    if o.opc ≠ 3 then s
    else
      let emptied := !o.allowed || (o.arg0 != 0 && o.slots.isEmpty)
      let s1 := if !o.allowed || decide (o.slots.length < o.arg0) then s.tenViol t else s
      let counts := !emptied && s1.get Reg.HST_DISPATCH_TEN == t
      let back := counts && s1.on Reg.HST_STAT_FALLBACK
      let s2 : State := if counts && s1.on Reg.HST_DISPATCH_EN then { s1 with hst := { s1.hst with staleFrom := some s1.now } } else s1
      if s1.tooLate o then (if back then s2.leaveFallback t else s2).finishOp t q (if o.allowed then 6 else 0) 0
      else
        let s4 := s2.updOp t q (fun x => { x with stage := .accepted, time := s.now, order := s.hst.accepts, ramped := back })
        let s5 : State := { s4 with hst := { s4.hst with accepts := s4.hst.accepts + 1 } }
        if s5.running then s5 else doSetpointApply s5

def execSetpoint (tenant : Fin 16) (sq : Fin 4) (s : State) : Host.Outcome State Fault Refusal := .next (doSetpoint tenant.val sq.val s)

/-! ### Registers (R337) -/

/-- The settings of a write to HST that R337 and the register tables refuse. -/
def State.hstRefuses (s : State) (offset v : Nat) : Bool :=
  let addr := 0x400F0000 + offset
  let t := (offset - 0x100) / 16 % 16
  let res := v % 0x2000
  !wordAllowed addr v
    || (decide (0x100 ≤ offset ∧ offset < 0x200) && offset % 16 == 0 && decide (64 < (v / 256) % 128 + v % 64))
    || (decide (0x100 ≤ offset ∧ offset < 0x200) && offset % 16 == 4
        && (decide ((v / 0x10000) % 0x2000 < res)
          || decide (4096 < (List.range 16).foldl (fun n i => n + if i = t then res else s.get (Reg.HST_TEN_CRED_RES i)) 0)))
    || (decide (0x200 ≤ offset ∧ offset < 0x300) && decide (384 < v % 512 + (v / 0x10000) % 512))

/-- During FALLBACK slot `k` moves towards the fallback value as it stands (R335). -/
def State.retarget (s : State) (k : Nat) (target : Fld) : State :=
  if s.on Reg.HST_STAT_FALLBACK then
    let r := (tblGet none s.hst.ramps k).getD ⟨(s.getInt (if k = 0 then Reg.GRD_PSET_VALUE else Reg.GRD_QSET_VALUE) : Rat), 0⟩
    { s with hst := { s.hst with ramps := tblSet none s.hst.ramps k (some { r with target := s.getInt target }) } }
  else s

/-! ### Configuration space and the MGC's events (R310, R311, R328) -/

/-- A register of a function's configuration space; VF Device ID and the SR-IOV capability are function 0's (R310; the places of fields as in the
PCI Express specification, PRESUMED, log 48). -/
def State.configRead (s : State) (t : Nat) : ConfigReg → Nat
  | .identity => (if t = 0 then 0x0096 else 0x0097) * 0x10000 + 0x1E96
  | .classCode => 0x118000
  | .vfDevice => if t = 0 then 0x0097 else 0
  | .totalVfs => if t = 0 then 15 else 0
  | .vfOffset => if t = 0 then 1 else 0
  | .vfStride => if t = 0 then 1 else 0
  | .numVfs => if t = 0 then s.hst.numVfs else 0
  | .vfControl => if t = 0 ∧ s.hst.vfEnable = true then 1 else 0
  | .msixControl => 7 + (if (s.tenant t).functionMask then 0x4000 else 0) + (if (s.tenant t).msixEnable then 0x8000 else 0)

/-- A write of configuration space: NumVFs up to TotalVFs while VF Enable is 0; VF Enable, which resets the VFs it takes away; MSI-X Enable and
Function Mask, which let pending messages go (R310, R311, R328; PRESUMED, log 48). -/
def State.configWrite (s : State) (t : Nat) (r : ConfigReg) (v : Nat) : State :=
  match r with
  | .numVfs => if t = 0 ∧ s.hst.vfEnable = false ∧ v % 0x10000 ≤ 15 then { s with hst := { s.hst with numVfs := v % 0x10000 } } else s
  | .vfControl =>
    if t ≠ 0 then s
    else
      let gone := if s.hst.vfEnable && !v.testBit 0 then (List.range 16).filter (fun x => x != 0 && s.present x) else []
      let s1 := gone.foldl (fun s x => (s.tenantReset x).configReset x) s
      { s1 with hst := { s1.hst with vfEnable := v.testBit 0 } }
  | .msixControl => (s.modTenant t (fun x => { x with msixEnable := v.testBit 15, functionMask := v.testBit 14 })).sendPending t
  | _ => s

/-- An access to the configuration space of a function that exists. -/
def State.configAccess (s : State) (t : Nat) (r : ConfigReg) (v : Option Nat) : State :=
  s.ifPresent t (fun s => match v with
    | none => s.answer (s.configRead t r)
    | some v => s.configWrite t r v)

/-! ### Writes to HST (R337) -/

/-- HST_REGISTER_WRITE: a refused write leaves the register and sets CFGERR; else the fields are stored; EN of HST_DISPATCH going to 1 starts
the stale timer; a change of scheduling lets the waiting SQs be looked at again (R335, R337). -/
def doHstRegisterWrite (offset v : Nat) (s : State) : State :=
  let addr := 0x400F0000 + offset
  if s.hstRefuses offset v then s.set Reg.HST_STAT_CFGERR 1
  else
    let s1 := (s.storeRW addr v).clearOnes addr v
    if offset = 8 then
      let since := if !v.testBit 31 then none else if s.on Reg.HST_DISPATCH_EN then s.hst.staleFrom else some s.now
      { s1 with hst := { s1.hst with staleFrom := since } }
    else if offset = 0xC then s1.retarget 0 Reg.HST_FB_P_VALUE
    else if offset = 0x10 then s1.retarget 1 Reg.HST_FB_Q_VALUE
    else if 0x100 ≤ offset ∧ offset < 0x200 then s1.modTenant ((offset - 0x100) / 16) (fun x => { x with waits := 0 })
    else s1

def execHstRegisterWrite (offset : Fin 16384) (v : Word) (s : State) : Host.Outcome State Fault Refusal :=
  .next (doHstRegisterWrite offset.val v.toNat s)

/-! ### The tenant registers of BAR0 (R312, R325) -/

/-- A 32-bit write to a tenant's BAR0: each register by its own rule; a reserved offset counts (R325). -/
def State.bar0Write (s : State) (t off v : Nat) : State :=
  if off = 0 then s
  else if off = 4 then
    if v.testBit 0 ∧ v.testBit 1 then s
    else if v.testBit 0 then doAttach t (v / 256 % 16) s
    else if v.testBit 1 then doDetach t s else s
  else if off = 8 then s.clearOnes (Reg.HST_T_STAT_STATE t).addr v
  else if off = 0xC then doHstTReset t v s
  else if 0x10 ≤ off ∧ off < 0x1C then
    if off = 0x10 then s.ringBase t 8 (ringLo t 8) v else if off = 0x14 then s.ringBase t 8 (ringHi t 8) v else doRingEnableWrite t 8 v s
  else if 0x20 ≤ off ∧ off < 0xA0 ∧ (off % 16 < 12 ∨ 0x60 ≤ off) then
    let r := (off - 0x20) / 16
    if off % 16 = 0 then s.ringBase t r (ringLo t r) v
    else if off % 16 = 4 then s.ringBase t r (ringHi t r) v
    else if off % 16 = 8 then doRingEnableWrite t r v s
    else s.storeRW (Reg.HST_T_CQ_COAL_CNT t (r - 4)).addr v
  else if 0x1000 ≤ off ∧ off < 0x1020 then
    if off % 8 = 0 then doSqTailDoorbell t ((off - 0x1000) / 8) v s else doCqHeadDoorbell t ((off - 0x1000) / 8) v s
  else if off = 0x1040 then doCqHeadDoorbell t 4 v s
  else if 0x2000 ≤ off ∧ off < 0x2080 then s.vecWrite t ((off - 0x2000) / 4) v
  else if off = 0x3000 ∨ off = 0x3004 then s
  else s.tenViol t

end Sys2Proof.Machine
end

