-- ==== Sys2Proof/Machine/Metering.lean ====
section
/-!
DEFINITION. Revenue metering (R417 to R439): samples, the Derailleur, corrections, the accumulators, pulses, windows, saves.
-/

namespace Sys2Proof.Machine

/-! ### Parts -/

def State.mchan (s : State) (c : Nat) : MeterChan := tblGet {} s.mtr.chans c
def State.melem (s : State) (e : Nat) : MeterElem := tblGet {} s.mtr.elems e
def State.mpulse (s : State) (j : Nat) : MeterPulse := tblGet {} s.mtr.pulses j

def State.modMchan (s : State) (c : Nat) (f : MeterChan → MeterChan) : State :=
  { s with mtr := { s.mtr with chans := tblMod {} s.mtr.chans c f } }
def State.modMelem (s : State) (e : Nat) (f : MeterElem → MeterElem) : State :=
  { s with mtr := { s.mtr with elems := tblMod {} s.mtr.elems e f } }
def State.modMpulse (s : State) (j : Nat) (f : MeterPulse → MeterPulse) : State :=
  { s with mtr := { s.mtr with pulses := tblMod {} s.mtr.pulses j f } }

/-- An accumulator, in units of 2^−44 count (R428). -/
def State.macc (s : State) (i : Nat) : Nat := tblGet 0 s.mtr.accs i

/-- An element is measured in the present wiring (R426). -/
def State.elementUsed (s : State) (e : Nat) : Bool := s.get Reg.MTR_CTRL_WIRING == 0 || e != 1

/-- The visible 64 bits of an accumulator; an element that the wiring leaves unused reads 0 (R426, R428). -/
def State.maccVisible (s : State) (i : Nat) : Nat := if s.elementUsed (i / 8) then s.macc i / 2 ^ 44 else 0

/-- The path-2 gain step of current channel `k` (MTR_GAIN). -/
def State.mgain (s : State) (k : Nat) : Nat := s.get Reg.MTR_GAIN_G / 4 ^ k % 4

/-- A gain step set; settling and the upshift window start anew (R419, R421). -/
def State.setGain (s : State) (k g : Nat) : State :=
  let old := s.get Reg.MTR_GAIN_G
  (s.set Reg.MTR_GAIN_G (old - s.mgain k * 4 ^ k + g * 4 ^ k)).modMchan (4 + k) (fun c => { c with settle := 0, quiet := 0 })

/-- An exact value in units of 2^−31 as a Q1.31 number (log 7). -/
def q31 (x : Rat) : Int := signedOf 32 (wordOfInt 32 x)

/-! ### The sample boundary (R417, R429, R430, R439) -/

/-- Filters, windows of the Derailleur and samples on their way start afresh (R437). -/
def State.meterFresh (s : State) : State := { s with mtr := { s.mtr with due := [], chans := [], elems := [], winCount := 0 } }

/-- A pulse output's residue cleared (R431). -/
def State.clearResidue (s : State) (j : Nat) : State := s.modMpulse j (fun p => { p with residue := 0 })

/-- A field of MTR takes its value: trim fields not after CALLOCK; a write of THR, or one that changes the selection of a pulse output, clears
its residue; DERAIL 0 puts every path 2 to ×1; EN starts the filters afresh (R419, R425, R431, R437; log 84). -/
def State.meterField (s : State) (f : Fld) (v : Nat) : State :=
  let trim := (decide (0x40050080 ≤ f.addr) && decide (f.addr < 0x400500A0)) || (decide (0x40050100 ≤ f.addr) && decide (f.addr < 0x40050200))
  if trim && s.on Reg.MTR_CTRL_CALLOCK then s
  else
    let s1 := s.set f v
    let pulse (j : Nat) : Bool := ((f == Reg.MTR_PLS_CFG_ELEM j || f == Reg.MTR_PLS_CFG_QTY j) && s.get f != v)
      || f == Reg.MTR_PLS_THR_LO_THR j || f == Reg.MTR_PLS_THR_HI_THR j
    if pulse 0 then s1.clearResidue 0
    else if pulse 1 then s1.clearResidue 1
    else if f = Reg.MTR_CTRL_DERAIL ∧ v = 0 then (List.range 4).foldl (fun s k => if s.mgain k = 0 then s else s.setGain k 0) s1
    else if f = Reg.MTR_CTRL_EN ∧ s.get f ≠ v then s1.meterFresh
    else s1

/-- SNAP at the boundary: all 32 accumulators copied, SNAPRDY set (R429). -/
def State.meterSnap (s : State) : State :=
  let s1 := (List.range 32).foldl (fun s i =>
    s.set64 (Reg.MTR_SNAP_LO_COUNT (i / 8) (i % 8)) (Reg.MTR_SNAP_HI_COUNT (i / 8) (i % 8)) (s.maccVisible i)) s
  s1.set Reg.MTR_STAT_SNAPRDY 1

/-- MTR_CLR at the boundary: totals, fractions and residues are 0, unless TOTLOCK is set (R430). -/
def State.meterZero (s : State) : State :=
  if s.on Reg.MTR_CTRL_TOTLOCK then s
  else (State.clearResidue { s with mtr := { s.mtr with accs := [] } } 0).clearResidue 1

/-- The first address of a copy in the metering area of MRAM (R435, R523): 32 accumulators and two residues of 16 bytes each, the save count
and the CRC-32C of 4 bytes each, least significant byte first (DESIGN CHOICE, log 85). -/
def copyBase (copy : Fin 2) : Nat := 0x14020000 + 0x800 * copy.val

/-- The totals as a save takes them, and its count, written by master 12 into a copy (R435). -/
def State.writeTotals (s : State) (copy : Fin 2) (count : Nat) : State :=
  let b := copyBase copy
  let s1 := (List.range 32).foldl (fun s i => s.setBytes (b + 16 * i) 16 (s.macc i)) s
  let s2 := (List.range 2).foldl (fun s j => s.setBytes (b + 512 + 16 * j) 16 (s.mpulse j).residue) s1
  s2.setBytes (b + 544) 4 count

/-- The CRC-32C over the 548 bytes of a copy before it (R255, R435). -/
def State.copyCrc (s : State) (copy : Fin 2) : Nat := crc32c ((List.range 548).map (fun i => (s.byteAt (copyBase copy + i)).toNat))

/-- A save starts: of a save that runs the copy is taken again, else the copy that does not hold the last complete save. Its CRC-32C is
written last, so that until then the copy is not valid (R435; log 85). -/
def State.startSave (s : State) : State :=
  let copy := match s.mtr.save with
    | some (_, copy, _) => copy
    | none => 1 - s.mtr.lastCopy
  let s1 : State := { s with mtr := { s.mtr with
    save := some (s.now, copy, false), saves := s.mtr.saves + 1 } }
  (s1.writeTotals copy (s.mtr.saves + 1)).set Reg.MTR_STAT_SAVEBUSY 1

/-- One waiting write takes effect. -/
def State.meterEffect (s : State) (w : MeterWait) : State :=
  match w with
  | .field f v => s.meterField f v
  | .clear f m => s.set f (s.get f - (s.get f &&& m))
  | .snap => s.meterSnap
  | .zero => s.meterZero
  | .save => s.startSave

/-- A write waits for the next boundary. -/
def State.meterAwait (s : State) (w : MeterWait) : State := { s with mtr := { s.mtr with waiting := s.mtr.waiting ++ [w] } }

/-- Every waiting write takes effect, oldest first (R439). -/
def State.meterBoundary (s : State) : State :=
  s.mtr.waiting.foldl (fun s w => s.meterEffect w) { s with mtr := { s.mtr with waiting := [] } }

/-- The next sample instant: the first TIME multiple of 50,000 counts from now on, or from the exit from Kickstand under way, that has not
been sampled (R417, R437, R487). -/
def State.nextSample (s : State) : Nat :=
  let from_ := match s.pwr.exitFrom with
    | some t => max s.now (t + 20000)
    | none => s.now
  let grid := (from_ + 49999) / 50000 * 50000
  let last := (s.mtr.due.getLast?.map (fun d => d.time)).or s.mtr.lastAt
  if last = some grid then grid + 50000 else grid

/-- METERING_SAMPLE: at the next sample instant the waiting writes take effect and, with EN 1, all eight channels sample; not
in Kickstand (R417, R437, R439). -/
def doMeteringSample (x : MeterSample) (s : State) : State :=
  if s.inKickstand then s
  else
    let s1 := (s.reach s.nextSample).meterBoundary
    if s1.on Reg.MTR_CTRL_EN then
      { s1 with mtr := { s1.mtr with due := s1.mtr.due ++ [⟨s1.now, s1.get Reg.MTR_GAIN_G, x⟩] } }
    else s1

def execMeteringSample (x : MeterSample) (s : State) : Host.Outcome State Fault Refusal := .next (doMeteringSample x s)

/-! ### The Derailleur (R418 to R422) -/

/-- The highest gain step whose full scale is at least twice a magnitude; ×1 where none is (R420). -/
def gainFor (mag : Nat) : Nat :=
  if 2 * mag ≤ 2 ^ 25 then 3 else if 2 * mag ≤ 2 ^ 27 then 2 else if 2 * mag ≤ 2 ^ 29 then 1 else 0

/-- The sample of current channel `k`, with the Derailleur's action on this sample: a downshift condition starts settling and the upshift window
anew, and counts where the gain changes (R418 to R422; log 82). -/
def State.currentSample (s : State) (k : Nat) (d : MeterDue) : State × Int :=
  let c := s.mchan (4 + k)
  let s1v := d.sample.path1.getD (4 + k) 0 * 256
  let g := d.gains / 4 ^ k % 4
  let code := d.sample.path2.getD k 0
  let s2v := code * 2 ^ (8 - 2 * g)
  let tooHigh := decide (s.get Reg.MTR_DER_CFG_DNTH * 0x800000 < 100 * code.natAbs) || d.sample.over2.toNat.testBit k
  let below := decide (100 * s2v.natAbs * 4 ^ s.mgain k < s.get Reg.MTR_DER_CFG_UPTH * 2 ^ 31)
  let s1 := s.modMchan (4 + k) (fun c => { c with
    settle := min 8 (c.settle + 1), quiet := if below then c.quiet + 1 else 0 })
  if s.on Reg.MTR_CTRL_DERAIL = false then (s1, s1v)
  else if tooHigh then
    let g' := gainFor s1v.natAbs
    let s2 := s1.setGain k g'
    (if g' = s.mgain k then s2 else s2.count (Reg.MTR_DER_CNT_DN k) 1, s1v)
  else (s1, if 8 ≤ c.settle then s2v else s1v)

/-- UPSHIFT: every path-2 sample of the last HOLD × 10 ms below UPTH moves path 2 up one step (R421). -/
def doUpshift (k : Nat) (s : State) : State :=
  if s.on Reg.MTR_CTRL_EN ∧ s.on Reg.MTR_CTRL_DERAIL ∧ s.mgain k < 3 ∧ 80 * s.get Reg.MTR_DER_CFG_HOLD ≤ (s.mchan (4 + k)).quiet then
    (s.setGain k (s.mgain k + 1)).count (Reg.MTR_DER_CNT_UP k) 1
  else s

def execUpshift (k : Fin 4) (s : State) : Host.Outcome State Fault Refusal := .next (doUpshift k.val s)

/-! ### Corrections (R423, R424) -/

/-- The RMS of the latest samples as a fraction of full scale, of at most 160; 0 before the first. -/
def rmsOf (xs : List Int) : Rat :=
  let n := (xs.take 160).length
  if n = 0 then 0 else sqrtOf (mkRat ((xs.take 160).foldl (fun a x => a + x * x) 0) n) / 0x80000000

/-- A gain register as a factor, a delay register in sample intervals. -/
def gainOf (g : Nat) : Rat := mkRat g 0x8000
def delayOf (d : Nat) : Rat := mkRat (signedOf 16 d) 4096

/-- Breakpoint `i` of a channel; one below its predecessor is read as that (R424). -/
def State.breakpoint (s : State) (k : Nat) : Nat → Nat
  | 0 => s.get (Reg.MTR_SEGB_B k 0)
  | i + 1 => max (s.breakpoint k i) (s.get (Reg.MTR_SEGB_B k (i + 1)))

/-- Entry `i` of a channel: gain and delay. -/
def State.segEntry (s : State) (k i : Nat) : Rat × Rat := (gainOf (s.get (Reg.MTR_SEGC_G k i)), delayOf (s.get (Reg.MTR_SEGC_D k i)))

/-- The segment correction of current channel `k` at abscissa `x`, interpolated linearly (R424). -/
def State.segment (s : State) (k : Nat) (x : Rat) : Rat × Rat :=
  match (List.range 8).reverse.find? (fun i => decide ((s.breakpoint k i : Rat) ≤ x)) with
  | none => s.segEntry k 0
  | some 7 => s.segEntry k 7
  | some i =>
    let a := s.segEntry k i
    let b := s.segEntry k (i + 1)
    let lo : Rat := s.breakpoint k i
    let hi : Rat := s.breakpoint k (i + 1)
    let t := (x - lo) / (hi - lo)
    (a.1 + (b.1 - a.1) * t, a.2 + (b.2 - a.2) * t)

/-- The fractional-delay filter on samples, newest first: a linear filter whose taps depend on the delay, and none for delay 0 (R423; log 34). -/
def delayed (d : Rat) (xs : List Rat) : Rat :=
  if d = 0 then xs.headD 0 else (xs.zipIdx.map (fun x => Config.delayTap d x.2 * x.1)).foldl (fun a y => a + y) 0

/-- v shifted by −90° from the corrected samples of a voltage channel, newest first, in units of 2^−31 (R427; log 34). -/
def quadOf (xs : List Int) : Int := intOf ((xs.zipIdx.map (fun x => Config.quadTap x.2 * (x.1 : Rat))).foldl (fun a y => a + y) 0)

/-- A channel takes its sample: gain and delay of the segment or of MTR_VCAL, then the user's gain and delay (R423). -/
def State.correct (s : State) (c : Nat) (v : Int) : State :=
  let m := s.mchan c
  let raw := (v :: m.raw).take 160
  let trim := if c < 4 then (gainOf (s.get (Reg.MTR_VCAL_G c)), delayOf (s.get (Reg.MTR_VCAL_D c)))
    else s.segment (c - 4) (rmsOf raw * 65536)
  let gained := ((v : Rat) * trim.1 :: m.gained).take 160
  let mid := (delayed trim.2 gained * gainOf (s.get (Reg.MTR_USR_G c)) :: m.mid).take 160
  let y := q31 (delayed (delayOf (s.get (Reg.MTR_USR_D c))) mid)
  s.modMchan c (fun m => { m with
    raw := raw, gained := gained, mid := mid, out := (y :: m.out).take 160, winSq := m.winSq + (y * y).toNat })

/-! ### Channel faults (R434) -/

/-- The conditions of R434 on one channel. -/
def State.channelFault (s : State) (c : Nat) (x : MeterSample) : State :=
  let count (n : Nat) (i : Nat) : Nat := if x.idle.toNat.testBit i then n + 1 else 0
  let s1 := s.modMchan c (fun m => { m with idle1 := count m.idle1 c, idle2 := if 4 ≤ c then count m.idle2 (4 + c) else 0 })
  let tooHigh := x.over1.toNat.testBit c
  let m := s1.mchan c
  let bad := tooHigh || decide (32 ≤ m.idle1) || decide (32 ≤ m.idle2) || x.refOut.toNat.testBit c
  let s2 := if tooHigh then s1.putBit Reg.MTR_STAT_OVL c true else s1
  let s3 := s2.putBit Reg.MTR_STAT_CHFLT c bad
  if bad && !s.bit Reg.MTR_STAT_CHFLT c then s3.fault 83 c else s3

/-! ### Accumulation (R426 to R431) -/

/-- A channel of an element is faulted. -/
def State.elementFaulted (s : State) (e : Nat) : Bool := s.bit Reg.MTR_STAT_CHFLT e || s.bit Reg.MTR_STAT_CHFLT (4 + e)

/-- p, q and S of an element on this sample, in units of 2^−62 (R427). -/
def State.products (s : State) (e : Nat) : Int × Int × Int :=
  if s.elementUsed e = false then (0, 0, 0)
  else
    let v := s.mchan e
    let i := s.mchan (4 + e)
    let iv := i.out.headD 0
    (v.out.headD 0 * iv, quadOf v.out * iv, (rmsOf v.out * rmsOf i.out * 2 ^ 62).floor)

/-- What each of the eight accumulators of an element takes, in units of 2^−44 count: 4 per unit of 2^−62 (R428). -/
def increments (p q sa : Int) (export_ : Bool) : List Nat :=
  [if 0 ≤ p then (4 * p).toNat else 0,
   if p < 0 then (-4 * p).toNat else 0,
   if 0 ≤ p ∧ 0 ≤ q then (4 * q).toNat else 0,
   if p < 0 ∧ 0 ≤ q then (4 * q).toNat else 0,
   if p < 0 ∧ q < 0 then (-4 * q).toNat else 0,
   if 0 ≤ p ∧ q < 0 then (-4 * q).toNat else 0,
   if export_ then (4 * sa).toNat else 0,
   if export_ then 0 else (4 * sa).toNat]

/-- A pulse output takes an increment: one pulse is queued where the residue reaches THR; one that finds 255 waiting is lost (R431, R432). -/
def State.pulseTake (s : State) (j n : Nat) : State :=
  let thr := (s.get (Reg.MTR_PLS_THR_HI_THR j) * 0x100000000 + s.get (Reg.MTR_PLS_THR_LO_THR j)) * 2 ^ 44
  if s.get (Reg.MTR_PLS_CFG_EN j) = 0 then s
  else
    let r := (s.mpulse j).residue + n
    if thr = 0 ∨ r < thr then s.modMpulse j (fun p => { p with residue := r })
    else
      let s1 := s.modMpulse j (fun p => { p with residue := r - thr })
      if s.get (Reg.MTR_PLS_CNT_PEND j) = 255 then s1.count (Reg.MTR_PLS_CNT_LOST j) 1
      else s1.set (Reg.MTR_PLS_CNT_PEND j) (s.get (Reg.MTR_PLS_CNT_PEND j) + 1)

/-- An element, or the total as element 3, takes one sample: the sums of its window, its history of p, and with `add` its accumulators and the
residues that follow them; a residue still at THR queues a pulse without (R428, R431, R433, R434). -/
def State.accumulate (s : State) (e : Nat) (x : Int × Int × Int) (add : Bool) : State :=
  let ps := (x.1 :: (s.melem e).ps).take 160
  let s1 := s.modMelem e (fun m => { m with
    ps := ps, sumP := m.sumP + x.1, sumQ := m.sumQ + x.2.1, sumS := m.sumS + x.2.2 })
  let inc := if add then increments x.1 x.2.1 x.2.2 (decide (0 ≤ ps.foldl (fun a y => a + y) (0 : Int))) else []
  let s2 := if add then (List.range 8).foldl (fun s q =>
      { s with mtr := { s.mtr with accs := tblSet 0 s.mtr.accs (8 * e + q) ((s.macc (8 * e + q) + inc.getD q 0) % 2 ^ 108) } }) s1 else s1
  (List.range 2).foldl (fun s j =>
    if s.get (Reg.MTR_PLS_CFG_ELEM j) = e then s.pulseTake j (inc.getD (s.get (Reg.MTR_PLS_CFG_QTY j)) 0) else s) s2

/-- METERING_RESULT: the oldest sample arrives 1 ms after its instant: the Derailleur acts, faults are judged, the sample is corrected and the
elements and the total accumulate, but not an element with a faulted channel, nor then the total (R417 to R434). -/
def doMeteringResult (s : State) : State :=
  match s.mtr.due with
  | [] => s
  | d :: rest =>
    let s0 := s.reach (d.time + 400000)
    let s1 : State := { s0 with mtr := { s0.mtr with
      due := rest, lastAt := some d.time, winCount := s0.mtr.winCount + 1
      winEnd := if s0.mtr.winCount = 0 then (s0.now / 80000000 + 1) * 80000000 else s0.mtr.winEnd } }
    let s2 := (List.range 8).foldl (fun s c =>
      let r := if c < 4 then (s, d.sample.path1.getD c 0 * 256) else s.currentSample (c - 4) d
      (r.1.channelFault c d.sample).correct c r.2) s1
    let xs := (List.range 3).map s2.products
    let total := xs.foldl (fun a x => (a.1 + x.1, a.2.1 + x.2.1, a.2.2 + x.2.2)) ((0 : Int), (0 : Int), (0 : Int))
    let faulted := (List.range 3).any (fun e => s2.elementUsed e && s2.elementFaulted e)
    let s3 := (List.range 3).foldl (fun s e =>
      s.accumulate e (xs.getD e (0, 0, 0)) (s2.elementUsed e && !s2.elementFaulted e)) s2
    s3.accumulate 3 total (!faulted)

def execMeteringResult (s : State) : Host.Outcome State Fault Refusal := .next (doMeteringResult s)

/-- METERING_WINDOW_END: at a TIME multiple of 80,000,000 the RMS of every channel and the mean P, Q and S of every element are posted
together, and the next window begins (R433). -/
def doMeteringWindowEnd (s : State) : State :=
  let n := s.mtr.winCount
  if n = 0 then s
  else
    let s0 := s.reach s.mtr.winEnd
    let s1 := (List.range 8).foldl (fun s c =>
      s.set (Reg.MTR_RMS_VALUE c) (wordOfInt 32 (sqrtOf (mkRat (s.mchan c).winSq n)))) s0
    let mean (x : Int) : Nat := wordOfInt 32 (mkRat x n / 0x80000000)
    let s2 := (List.range 4).foldl (fun s e =>
      ((s.set (Reg.MTR_PQS_VALUE e 0) (mean (s.melem e).sumP)).set (Reg.MTR_PQS_VALUE e 1) (mean (s.melem e).sumQ)).set
        (Reg.MTR_PQS_VALUE e 2) (mean (s.melem e).sumS)) s1
    let s3 := (List.range 8).foldl (fun s c => s.modMchan c (fun m => { m with winSq := 0 })) s2
    let s4 := (List.range 4).foldl (fun s e => s.modMelem e (fun m => { m with sumP := 0, sumQ := 0, sumS := 0 })) s3
    { s4 with mtr := { s4.mtr with winCount := 0, winEnd := (s4.now / 80000000 + 1) * 80000000 } }

def execMeteringWindowEnd (s : State) : Host.Outcome State Fault Refusal := .next (doMeteringWindowEnd s)

/-! ### Pulses (R432) -/

/-- The active level of a pulse output. -/
def State.pulseActive (s : State) (j : Nat) : Bool := !s.on (Reg.MTR_PLS_CFG_POL j)

/-- PW of a pulse output in counts. -/
def State.pulseWidth (s : State) (j : Nat) : Nat := countsPerMs * s.get (Reg.MTR_PLS_CFG_PW j)

/-- METERING_PULSE: a waiting pulse drives its output active once the gap after the last is over; not in Kickstand (R432, R437). -/
def doMeteringPulse (j : Nat) (s : State) : State :=
  if s.get (Reg.MTR_PLS_CNT_PEND j) = 0 ∨ (s.mpulse j).since ≠ none ∨ s.inKickstand = true then s
  else
    let s1 := s.reach (s.mpulse j).freeAt
    ((s1.set (Reg.MTR_PLS_CNT_PEND j) (s.get (Reg.MTR_PLS_CNT_PEND j) - 1)).modMpulse j (fun p => { p with
      since := some s1.now })).emit (.pulse j (s.pulseActive j))

def execMeteringPulse (j : Fin 2) (s : State) : Host.Outcome State Fault Refusal := .next (doMeteringPulse j.val s)

/-- METERING_PULSE_END: after PW the output is inactive again and a gap of PW begins (R432). -/
def doMeteringPulseEnd (j : Nat) (s : State) : State :=
  match (s.mpulse j).since with
  | none => s
  | some t =>
    let s1 := s.reach (t + s.pulseWidth j)
    (s1.modMpulse j (fun p => { p with since := none, freeAt := s1.now + s.pulseWidth j })).emit (.pulse j (!s.pulseActive j))

def execMeteringPulseEnd (j : Fin 2) (s : State) : Host.Outcome State Fault Refusal := .next (doMeteringPulseEnd j.val s)

/-- A pulse under way is cut: the output is inactive and a gap of PW begins (R437). -/
def State.pulseCut (s : State) (j : Nat) : State :=
  if (s.mpulse j).since = none then s
  else (s.modMpulse j (fun p => { p with since := none, freeAt := s.now + s.pulseWidth j })).emit (.pulse j (!s.pulseActive j))

/-- Metering stops in Kickstand: converters stopped, pulse outputs inactive, waiting pulses kept (R437). -/
def State.meterStop (s : State) : State := (List.range 2).foldl (fun s j => s.pulseCut j) s.meterFresh

/-! ### Saves (R435, R436) -/

/-- SAVENOW: the save starts at the next sample boundary (R435, R439). -/
def doSavenow (s : State) : State := s.meterAwait .save

def execSavenow (s : State) : Host.Outcome State Fault Refusal := .next (doSavenow s)

/-- PERIODIC_SAVE: every SAVEINT seconds (R435). -/
def doPeriodicSave (s : State) : State :=
  let n := s.get Reg.MTR_SAVE_SAVEINT
  if n = 0 then s
  else
    let s1 := s.reach (s.mtr.periodAt + 400000000 * n)
    State.startSave { s1 with mtr := { s1.mtr with periodAt := s1.now } }

def execPeriodicSave (s : State) : Host.Outcome State Fault Refusal := .next (doPeriodicSave s)

/-- SAVE_COMPLETE: the copy holds the snapshot, its count and its CRC-32C (R435). -/
def doSaveComplete (s : State) : State :=
  match s.mtr.save with
  | none => s
  | some (_, copy, _) =>
    (State.setBytes { s with mtr := { s.mtr with save := none, lastCopy := copy } } (copyBase copy + 548) 4 (s.copyCrc copy)).set
      Reg.MTR_STAT_SAVEBUSY 0

/-- SAVE_TIMEOUT: a save not complete within 1.2 ms: SAVEERR and fault source 84 (R435). -/
def doSaveTimeout (s : State) : State :=
  match s.mtr.save with
  | none => s
  | some (t, copy, told) =>
    if told then s
    else
      let s1 := s.reach (t + 480000)
      (State.set { s1 with mtr := { s1.mtr with save := some (t, copy, true) } } Reg.MTR_STAT_SAVEERR 1).fault 84 0

def execSaveTimeout (s : State) : Host.Outcome State Fault Refusal := .next (doSaveTimeout s)

/-- The save count of a copy, and whether its CRC-32C is right (R435, R436). -/
def State.copyCount (s : State) (copy : Fin 2) : Nat := s.bytesAt (copyBase copy + 544) 4
def State.copyValid (s : State) (copy : Fin 2) : Bool := s.bytesAt (copyBase copy + 548) 4 == s.copyCrc copy

/-- Accumulators, fractions, residues and the save count as a copy holds them (R436). -/
def State.loadTotals (s : State) (copy : Fin 2) : State :=
  let b := copyBase copy
  let s1 : State := { s with mtr := { s.mtr with
    accs := (List.range 32).foldl (fun t i => tblSet 0 t i (s.bytesAt (b + 16 * i) 16 % 2 ^ 108)) []
    saves := s.copyCount copy, lastCopy := copy } }
  (List.range 2).foldl (fun u j => u.modMpulse j (fun p => { p with residue := s.bytesAt (b + 512 + 16 * j) 16 })) s1

/-- The totals restored at boot: the valid copy with the higher count; where the copy with the higher count is not valid, or neither is,
RESTERR and fault source 84 (R436). -/
def State.restoreTotals (s : State) : State :=
  let first : Fin 2 := if s.copyCount 1 ≤ s.copyCount 0 then 0 else 1
  let bad (s : State) : State := (s.set Reg.MTR_STAT_RESTERR 1).fault 84 0
  if s.copyValid first then s.loadTotals first
  else if s.copyValid (1 - first) then bad (s.loadTotals (1 - first))
  else bad s

/-! ### Register commands (R425, R429, R430, R439) -/

/-- SNAP: the copy is made at the next sample boundary (R429). -/
def doSnap (s : State) : State := s.meterAwait .snap

def execSnap (s : State) : Host.Outcome State Fault Refusal := .next (doSnap s)

/-- MTR_CLR: 0xC3 zeroes the totals at the next sample boundary; other values do nothing (R430). -/
def doMtrClr (v : Nat) (s : State) : State := if v % 256 = 0xC3 then s.meterAwait .zero else s

def execMtrClr (v : Word) (s : State) : Host.Outcome State Fault Refusal := .next (doMtrClr v.toNat s)

/-- CALLOCK: set from the next sample boundary (R425, R439). -/
def doCallock (s : State) : State := s.meterAwait (.field Reg.MTR_CTRL_CALLOCK 1)

def execCallock (s : State) : Host.Outcome State Fault Refusal := .next (doCallock s)

/-- TOTLOCK: set from the next sample boundary (R430, R439). -/
def doTotlock (s : State) : State := s.meterAwait (.field Reg.MTR_CTRL_TOTLOCK 1)

def execTotlock (s : State) : Host.Outcome State Fault Refusal := .next (doTotlock s)

/-- MTR_STAT as it stands. -/
def State.mtrStatWord (s : State) : Nat :=
  s.get Reg.MTR_STAT_SNAPRDY * 0x80000000 + s.get Reg.MTR_STAT_SAVEBUSY * 0x40000000 + s.get Reg.MTR_STAT_SAVEERR * 0x20000000
    + s.get Reg.MTR_STAT_RESTERR * 0x10000000 + s.get Reg.MTR_STAT_OVL * 256 + s.get Reg.MTR_STAT_CHFLT

/-- MTR_STAT_READ: the read clears SNAPRDY (R429). -/
def doMtrStatRead (s : State) : State := (s.answer s.mtrStatWord).set Reg.MTR_STAT_SNAPRDY 0

def execMtrStatRead (s : State) : Host.Outcome State Fault Refusal := .next (doMtrStatRead s)

/-- MTR_COUNTER_READ: MTR_DER_CNT0 to 3, or MTR_PLS_CNT0 and 1 as 4 and 5; the read clears the counters (R347). -/
def doMtrCounterRead (i : Nat) (s : State) : State :=
  if i < 4 then
    ((s.answer (s.get (Reg.MTR_DER_CNT_UP i) * 0x10000 + s.get (Reg.MTR_DER_CNT_DN i))).set (Reg.MTR_DER_CNT_UP i) 0).set
      (Reg.MTR_DER_CNT_DN i) 0
  else
    (s.answer (s.get (Reg.MTR_PLS_CNT_PEND (i - 4)) * 0x1000000 + s.get (Reg.MTR_PLS_CNT_LOST (i - 4)) * 0x10000)).set
      (Reg.MTR_PLS_CNT_LOST (i - 4)) 0

def execMtrCounterRead (which : Fin 6) (s : State) : Host.Outcome State Fault Refusal := .next (doMtrCounterRead which.val s)

/-- The value a field of MTR will have once every earlier write has taken effect. -/
def State.meterAhead (s : State) (f : Fld) : Nat :=
  s.mtr.waiting.foldl (fun v w => match w with
    | .field g x => if g = f then x else v
    | _ => v) (s.get f)

/-- The RW and LK fields of a register with their parts of a word, where the table allows each. -/
def meterParts (addr v : Nat) : Option (List (Fld × Nat)) :=
  let rows := (fieldsAt addr).filter (fun r => r.acc == .RW || r.acc == .LK)
  if rows.all (fun r => r.allows (r.part v)) then some (rows.map (fun r => (r.fld addr, r.part v))) else none

/-- A write of MTR_PLS_THR_LO or MTR_PLS_THR_HI would give THR 0, which is reserved (R439). -/
def State.thrReserved (s : State) (offset v : Nat) : Bool :=
  (List.range 2).any (fun j =>
    (offset == 0x34 + 16 * j && v == 0 && s.meterAhead (Reg.MTR_PLS_THR_HI_THR j) == 0)
    || (offset == 0x38 + 16 * j && v % 0x10000 == 0 && s.meterAhead (Reg.MTR_PLS_THR_LO_THR j) == 0))

/-- MTR_REGISTER_WRITE: a reserved value, THR 0 or DNTH at or below 4 × UPTH among them, leaves the register; what passes takes effect at the
next sample boundary, the commands of MTR_CTRL and MTR_CLR included (R439). -/
def doMtrRegisterWrite (offset v : Nat) (s : State) : State :=
  let addr := 0x40050000 + offset
  if offset = 0x24 then doMtrClr v s
  else match meterParts addr v with
    | none => s
    | some ps =>
      if (offset = 0xC ∧ v / 256 % 256 ≤ 4 * (v % 256)) ∨ s.thrReserved offset v = true then s
      else
        let s1 := ps.foldl (fun s p => s.meterAwait (.field p.1 p.2)) s
        let s2 := ((fieldsAt addr).filter (fun r => r.acc == .W1C)).foldl (fun s r => s.meterAwait (.clear (r.fld addr) (r.part v))) s1
        if offset = 0 then
          let s3 := if v.testBit 8 then doSnap s2 else s2
          let s4 := if v.testBit 9 then doSavenow s3 else s3
          let s5 := if v.testBit 31 then doCallock s4 else s4
          if v.testBit 30 then doTotlock s5 else s5
        else s2

def execMtrRegisterWrite (offset : Fin 16384) (v : Word) (s : State) : Host.Outcome State Fault Refusal :=
  .next (doMtrRegisterWrite offset.val v.toNat s)

end Sys2Proof.Machine
end

