-- ==== Sys2Proof/Machine/Station.lean ====
section
/-!
DEFINITION. The station network (R440 to R455): frames, redundancy, classes, PTP, GOOSE, Sampled Values, safety frames, registers.
Frames are lists of bytes from the destination address on, without FCS once received.
-/

namespace Sys2Proof.Machine

/-! ### Parts -/

def State.ptpPort (s : State) (p : Nat) : PtpPort := tblGet {} s.net.ptpPorts p
def State.goose (s : State) (n : Nat) : GooseSub := tblGet {} s.net.subs n
def State.stream (s : State) (n : Nat) : SvStream := tblGet {} s.net.streams n

def State.modPtpPort (s : State) (p : Nat) (f : PtpPort → PtpPort) : State :=
  { s with net := { s.net with ptpPorts := tblMod {} s.net.ptpPorts p f } }
def State.modGoose (s : State) (n : Nat) (f : GooseSub → GooseSub) : State :=
  { s with net := { s.net with subs := tblMod {} s.net.subs n f } }
def State.modStream (s : State) (n : Nat) (f : SvStream → SvStream) : State :=
  { s with net := { s.net with streams := tblMod {} s.net.streams n f } }

/-- `n` bytes from byte `i`, most significant first. -/
def beField (b : List Nat) (i n : Nat) : Nat := (List.range n).foldl (fun a j => 256 * a + b.getD (i + j) 0) 0

/-- The `n` bytes of a number, most significant first. -/
def beBytes (v n : Nat) : List Nat := (List.range n).map (fun j => v / 256 ^ (n - 1 - j) % 256)

/-- Bytes put into a frame from byte `i`; those past its end are lost. -/
def putBytes (b : List Nat) (i : Nat) (x : List Nat) : List Nat :=
  (List.range b.length).map (fun j => if i ≤ j ∧ j < i + x.length then x.getD (j - i) 0 else b.getD j 0)

/-- The station address (NET_MAC); its first octet is bits 47 to 40 (DEDUCED, log 36). -/
def State.netMac (s : State) : Nat := s.get Reg.NET_MAC_HI_MAC * 0x100000000 + s.get Reg.NET_MAC_LO_MAC

/-- Destination and source of a frame. -/
def frameDst (b : List Nat) : Nat := beField b 0 6
def frameSrc (b : List Nat) : Nat := beField b 6 6

/-- Where the EtherType stands: behind an IEEE 802.1Q tag if there is one. -/
def typeAt (b : List Nat) : Nat := if beField b 12 2 = 0x8100 then 16 else 12

/-- The EtherType, after an IEEE 802.1Q tag. -/
def frameType (b : List Nat) : Nat := beField b (typeAt b) 2

/-- The port takes and sends frames: enabled, linked, not held by SSCHOLD, and in Kickstand only KSPORT (R442, R454, R505). -/
def State.netUp (s : State) (p : Nat) : Bool :=
  s.bit Reg.NET_CTRL_EN p && s.bit Reg.NET_STAT_LINK p && !s.on Reg.CLK_REF_SSCHOLD
    && (!s.inKickstand || s.get Reg.NET_CTRL_KSPORT == p)

/-- The kinds of station frames in the record of what is sent. -/
def sentGeneral : Nat := 0
def sentGoose : Nat := 1
def sentSv : Nat := 2
def sentSafety : Nat := 3
def sentSupervision : Nat := 4
def sentForwarded : Nat := 5
def sentPdelayReq : Nat := 16
def sentPdelayResp : Nat := 17
def sentPdelayFollowUp : Nat := 18

/-- The FCS of a frame, as IEEE 802.3 forms it (PRESUMED, log 86). -/
def fcsByte (crc : Nat) (b : Nat) : Nat :=
  (List.range 8).foldl (fun c _ => if c % 2 = 1 then (c / 2) ^^^ 0xEDB88320 else c / 2) (crc ^^^ b)
def fcsOf (b : List Nat) : List Nat := bytesOfNat ((b.foldl fcsByte 0xFFFFFFFF) ^^^ 0xFFFFFFFF) 4

/-- A frame padded to 64 bytes with its FCS (R440). -/
def padFrame (b : List Nat) : List Nat := b ++ List.replicate (60 - b.length) 0

/-- A frame with the RCT of PRP at its end or the HSR tag before its EtherType: the LAN or path of its port, the size of what the tag covers,
the sequence number (R441; PRESUMED, log 86). -/
def redTag (red p seq : Nat) (b : List Nat) : List Nat :=
  let size := (b.length - typeAt b - 2 + 6) % 4096
  if red = 1 then b ++ beBytes seq 2 ++ beBytes ((10 + p) * 4096 + size) 2 ++ [0x88, 0xFB]
  else b.take (typeAt b) ++ [0x89, 0x2F] ++ beBytes (p * 4096 + size) 2 ++ beBytes seq 2 ++ b.drop (typeAt b)

/-- A frame joins those that wait for a port, if the port is up (R442, R444). -/
def State.queueTx (s : State) (x : NetTx) : State :=
  if s.netUp x.port then { s with net := { s.net with tx := s.net.tx ++ [x] } } else s

/-- A frame of class `cls` joins those that wait for a port, with its FCS. -/
def State.sendOn (s : State) (p cls kind time : Nat) (b : List Nat) : State :=
  let wire := b ++ fcsOf b
  s.queueTx { port := p, cls := cls, kind := kind, fields := wire.map (fun x => (x : Int)), len := wire.length, time := time }

/-- A frame that the device originates (R441): under PRP and HSR on both ports with RCT or tag; under RED 0 on the given ports. -/
def State.originate (s : State) (ports : List Nat) (cls kind time : Nat) (bytes : List Nat) : State :=
  let b := padFrame bytes
  let red := s.get Reg.NET_CTRL_RED
  if red = 0 then ports.foldl (fun s p => s.sendOn p cls kind time b) s
  else
    let s1 := [0, 1].foldl (fun u p => u.sendOn p cls kind time (redTag red p s.net.redSeq b)) s
    { s1 with net := { s1.net with redSeq := (s1.net.redSeq + 1) % 65536 } }

/-- The ports of a frame for which the spec names none: under RED 0 an open choice, at least one (log 35). -/
def State.openPorts (s : State) : List Nat := bitList 2 (Config.stationPorts s.free % 3 + 1)

/-- A frame whose port the spec does not name. -/
def State.originateAny (s : State) (cls kind : Nat) (bytes : List Nat) : State :=
  (s.originate s.openPorts cls kind s.now bytes).nextFree

/-! ### Transmission (R444) -/

/-- Counts that a frame occupies its port: its bytes, preamble and gap, at 8 ns each (R444). -/
def txCounts (len : Nat) : Nat := (16 * (len + 20) + 4) / 5

/-- The frame that a port takes next, and the TIME at which it begins: once the port is free and a frame waits, the first class in order, of
that the oldest frame (R444). -/
def State.nextTx (s : State) (p : Nat) : Option (NetTx × Nat) :=
  let mine := s.net.tx.filter (fun x => x.port == p)
  match mine with
  | [] => none
  | x :: rest =>
    let start := max (tblGet 0 s.net.busy p) (rest.foldl (fun a y => min a y.time) x.time)
    let ready := mine.filter (fun y => decide (y.time ≤ start))
    let cls := ready.foldl (fun a y => min a y.cls) 7
    (ready.find? (fun y => y.cls == cls)).map (fun y => (y, start))

/-- A port takes a frame at `start`: it goes out, if the port is up, and occupies the port; a Pdelay_Resp leaves its follow-up with the time at
which it went (R444, R446). -/
def State.transmit (s : State) (x : NetTx) (start : Nat) : State :=
  let s1 : State := { s with net := { s.net with tx := s.net.tx.erase x } }
  if s1.netUp x.port = false then s1
  else
    let s2 : State := { s1 with net := { s1.net with busy := tblSet 0 s1.net.busy x.port (start + txCounts x.len) } }
    let s3 := s2.emit (.stationFrame x.port x.kind x.fields)
    if x.kind = sentPdelayResp then
      let t3 : Int := 32 * (start : Int) + s.captureFraction + s.get Reg.NET_PTP_LAT_TXLAT
      (s3.queueTx { x with kind := sentPdelayFollowUp, fields := x.fields.take 2 ++ [t3], time := start }).nextFree
    else s3

/-- A port takes every frame whose time has come before the present clock. -/
def State.servePort (s : State) (p : Nat) : Nat → State
  | 0 => s
  | fuel + 1 => match s.nextTx p with
    | none => s
    | some (x, start) => if start < s.now then (s.transmit x start).servePort p fuel else s

/-- Both ports take the frames whose time has come. Frames that are ready in one clock are taken in the order of their classes, whatever order
made them ready (R444, R454). -/
def State.netServe (s : State) : State :=
  if s.net.tx = [] then s else (s.servePort 0 (2 * s.net.tx.length)).servePort 1 (2 * s.net.tx.length)

/-- What waits on a port of class 5 (HSR forwarding), in bytes (R441). -/
def State.heldBytes (s : State) (p : Nat) : Nat :=
  (s.net.tx.filter (fun x => x.port == p && x.cls == 5)).foldl (fun a x => a + x.len) 0

/-! ### Reception and classes (R441, R443) -/

/-- The sequence number of an RCT at the end of a frame (R441). -/
def rctOf (b : List Nat) : Option Nat :=
  if 20 ≤ b.length ∧ beField b (b.length - 2) 2 = 0x88FB then some (beField b (b.length - 6) 2) else none

/-- The sequence number of an HSR tag (R441). -/
def hsrOf (b : List Nat) : Option Nat := if frameType b = 0x892F then some (beField b (typeAt b + 4) 2) else none

/-- A frame without its HSR tag. -/
def stripHsr (b : List Nat) : List Nat := b.take (typeAt b) ++ b.drop (typeAt b + 6)

/-- Duplicate discard (R440, R441): the frame's entry is not yet forgotten. -/
def State.isDuplicate (s : State) (src seq : Nat) : Bool :=
  s.net.seen.any (fun e => e.1 == src && e.2.1 == seq && decide (s.now < e.2.2 + 160000000))

/-- The frame entered; of 1,024 entries the oldest goes. -/
def State.remember (s : State) (src seq : Nat) : State :=
  { s with net := { s.net with seen := ((src, seq, s.now) :: s.net.seen).take 1024 } }

/-- A packet of a frame delivered to a queue; one that cannot be reserved is dropped and counted (R443). -/
def State.netDeliver (s : State) (q len : Nat) (words : List Nat) : State × Bool :=
  let r := s.deliver q 8 len words
  if r.2 then r else (r.1.count Reg.NET_DROP_RXFULL 1, false)

/-- A frame joins those given to a class. -/
def State.give (s : State) (g : NetGiven) : State := { s with net := { s.net with given := s.net.given ++ [g] } }

/-- The oldest frame given to a class, taken. -/
def State.takeGiven (s : State) (c : NetClass) : Option (NetGiven × State) :=
  match s.net.given.find? (fun g => g.cls == c) with
  | none => none
  | some g => some (g, { s with net := { s.net with given := s.net.given.erase g } })

/-- The base of GOOSE and Sampled Values multicast addresses. -/
def gooseBase : Nat := 0x010CCD010000
def svBase : Nat := 0x010CCD040000

/-- The subscription that a GOOSE frame matches. -/
def State.subscriptionOf (s : State) (b : List Nat) : Option Nat :=
  (List.range 16).find? (fun n => s.on (Reg.NET_GSUB_CFG_EN n) && frameDst b == gooseBase + s.get (Reg.NET_GSUB_CFG_MACLO n)
    && beField b (typeAt b + 2) 2 == s.get (Reg.NET_GSUB_CFG_APPID n))

/-- The stream that a Sampled Values frame matches. -/
def State.streamOf (s : State) (b : List Nat) : Option Nat :=
  (List.range 8).find? (fun n => s.on (Reg.NET_SVS_CFG_EN n) && frameDst b == svBase + s.get (Reg.NET_SVS_CFG_MACLO n)
    && beField b (typeAt b + 2) 2 == s.get (Reg.NET_SVS_CFG_APPID n))

/-- Addressed to NET_MAC, to broadcast, or to a GOOSE or SV multicast address (class 5 of R443). -/
def State.isGeneral (s : State) (b : List Nat) : Bool :=
  let d := frameDst b
  d == s.netMac || d == 0xFFFFFFFFFFFF || (decide (gooseBase ≤ d) && decide (d ≤ gooseBase + 511))
    || (decide (svBase ≤ d) && decide (d ≤ svBase + 511))

/-- A general frame to RXQ; in Kickstand a frame written asks for a wake (R443, R454). -/
def State.general (s : State) (b : List Nat) : State :=
  if s.on Reg.NET_QSEL_RXEN = false then s
  else
    let r := s.netDeliver (s.get Reg.NET_QSEL_RXQ) b.length (wordsOfBytes b)
    if r.2 && r.1.inKickstand then { r.1 with net := { r.1.net with wakeReq := true } } else r.1

/-- Under PRP and HSR a supervision frame enters its source in the node table, whatever class it is then given to (R440). -/
def State.noteNode (s : State) (b : List Nat) : State :=
  if s.get Reg.NET_CTRL_RED ≠ 0 ∧ frameType b = 0x88FB ∧ frameDst b / 256 = 0x01154E0001 ∧ s.net.nodes.contains (frameSrc b) = false then
    { s with net := { s.net with nodes := s.net.nodes ++ [frameSrc b] } }
  else s

/-- A received frame given to the first class whose condition it meets (R443); PTP, GOOSE and Sampled Values stop in Kickstand (R454). -/
def State.giveFrame (s : State) (p : Nat) (b : List Nat) : State :=
  let g (c : NetClass) (i : Nat) : NetGiven := { cls := c, index := i, port := p, bytes := b, time := s.now }
  let t := frameType b
  if t = 0x88F7 then (if s.inKickstand then s else s.give (g .ptp 0))
  else if t = s.get Reg.NET_SAF_CFG_SAFTYPE ∧ frameDst b = s.netMac then s.give (g .safety 0)
  else match (if t = 0x88B8 then s.subscriptionOf b else none), (if t = 0x88BA then s.streamOf b else none) with
    | some n, _ => if s.inKickstand then s else s.give (g .goose n)
    | none, some n => if s.inKickstand then s else s.give (g .sv n)
    | none, none => if s.isGeneral b then s.general b else s

/-- The correctionField of a forwarded PTP message with the residence time and the ingress link delay: of a one-step Sync its own, of a
two-step Sync that of its Follow_Up (R446). `o` is where the PTP header begins. -/
def State.transparent (s : State) (p o : Nat) (b : List Nat) : State × List Nat :=
  let kind := b.getD o 0 % 16
  let key := p :: (b.drop (o + 20)).take 12
  let add : Int := ((Config.residence s.free : Int) * 5120) + intOf (((s.ptpPort p).delay.getD 0) * 5120)
  let raise (x : Int) : List Nat := putBytes b (o + 8) (beBytes (bitsOf 64 (signedOf 64 (beField b (o + 8) 8) + x)) 8)
  if kind = 0 ∧ (b.getD (o + 6) 0).testBit 1 = false then (s.nextFree, raise add)
  else if kind = 0 then
    (State.nextFree { s with net := { s.net with transit := ((key, add) :: s.net.transit).take 64 } }, b)
  else if kind = 8 then
    match s.net.transit.find? (fun e => e.1 == key) with
    | none => (s, b)
    | some e => (s, raise e.2)
  else (s, b)

/-- HSR forwarding of a frame to the other port; one that the 16 KB buffer of its direction cannot take is dropped and counted (R441). -/
def State.forward (s : State) (p : Nat) (b : List Nat) : State :=
  if 16384 < s.heldBytes (1 - p) + b.length + 4 then s.count Reg.NET_DROP_FWDDROP 1
  else
    let inner := typeAt b + 6
    let r := if beField b (inner - 0) 2 = 0x88F7 ∧ frameType b = 0x892F then s.transparent p (inner + 2) b else (s, b)
    r.1.sendOn (1 - p) 5 sentForwarded s.now r.2

/-- A frame with a valid FCS under the redundancy that RED selects (R441). -/
def State.redundancy (s : State) (p : Nat) (b : List Nat) : State :=
  let pass (s : State) (seq : Nat) (b' : List Nat) : State :=
    if s.isDuplicate (frameSrc b) seq then s else ((s.remember (frameSrc b) seq).noteNode b').giveFrame p b'
  match s.get Reg.NET_CTRL_RED with
  | 0 => s.giveFrame p b
  | 1 => match rctOf b with
    | none => (s.noteNode b).giveFrame p b
    | some seq => pass s seq (b.take (b.length - 6))
  | _ =>
    if frameSrc b = s.netMac then s
    else match hsrOf b with
      | none => (s.noteNode b).giveFrame p b
      | some seq => pass (if frameDst b = s.netMac then s else s.netServe.forward p b) seq (stripHsr b)

/-- A frame of 64 to 1,522 bytes with a valid FCS is classified; others, and pause frames, are discarded and counted (R440, R443). -/
def State.frameIn (s : State) (p : Nat) (frame : List Nat) (fcsOk : Bool) : State :=
  if s.netUp p = false then s
  else if frame.length < 64 ∨ 1522 < frame.length ∨ frameType frame = 0x8808 then s.count (Reg.NET_PORT_CNT_SIZE p) 1
  else if fcsOk = false then s.count (Reg.NET_PORT_CNT_FCS p) 1
  else s.redundancy p (frame.take (frame.length - 4))

/-- STATION_FRAME_RECEIVED: a frame on a port, or the same frame on both in one clock, of which the port-0 copy is taken first (R443, R454). -/
def doStationFrameReceived (p : Nat) (frame : List Nat) (fcsOk both : Bool) (s : State) : State :=
  if both then (s.frameIn 0 frame fcsOk).frameIn 1 frame fcsOk else s.frameIn p frame fcsOk

def execStationFrameReceived (p : Fin 2) (frame : List Byte) (fcsOk both : Bool) (s : State) : Host.Outcome State Fault Refusal :=
  .next (doStationFrameReceived p.val (frame.map (fun b => b.toNat)) fcsOk both s)

/-! ### PTP (R446, R447) -/

/-- The first list comes before the second in the comparison of the best-master algorithm. -/
def rankLess : List Nat → List Nat → Bool
  | [], b => !b.isEmpty
  | _ :: _, [] => false
  | x :: a, y :: b => decide (x < y) || (x == y && rankLess a b)

/-- The selected master: the best of those heard on either port (R446). -/
def State.ptpMaster (s : State) : Option PtpMaster :=
  s.net.masters.foldl (fun best m => match best with
    | none => some m
    | some b => if rankLess m.rank b.rank then some m else some b) none

/-- 2^k seconds in counts, `k` two's complement. -/
def secondsPow (k : Int) : Nat := if 0 ≤ k then 400000000 * 2 ^ k.toNat else 400000000 / 2 ^ (-k).toNat

/-- A PTP time in 78.125 ps units: 12.8 units a nanosecond (R8). -/
def ptpUnits (seconds nanoseconds : Nat) : Rat := (seconds : Rat) * 12800000000 + (nanoseconds : Rat) * mkRat 64 5

/-- A correctionField, in 2^−16 ns, in 78.125 ps units. -/
def correctionUnits (c : Int) : Rat := mkRat c 5120

/-- The change to the other port where the 2 s of the active one are over at `t` and the other has had a valid Sync within them (R447). -/
def State.changePort (s : State) (t : Nat) : State :=
  let a := s.get Reg.NET_STAT_PTPPORT
  match (s.ptpPort (1 - a)).lastValid with
  | none => s
  | some u => if t ≤ u + 800000000 then s.set Reg.NET_STAT_PTPPORT (1 - a) else s

/-- A Sync from the selected master with a measured path delay, at TIME `at_`: it is the port's last valid Sync; where the active port has had
none, or has the higher number, the Sync's port becomes the active one; on the active port it gives one offset, which Cadence takes with
SRC 1. A change of port that was due before it counts first (R34, R447, R454; log 87). -/
def State.validSync (s : State) (p : Nat) (t2 : Int) (t1 : Rat) (at_ : Nat) : State :=
  match (s.ptpPort p).delay with
  | none => s
  | some d =>
    let s0 := match (s.ptpPort (s.get Reg.NET_STAT_PTPPORT)).due with
      | none => s
      | some t => if t < at_ then s.changePort t else s
    let active := s0.get Reg.NET_STAT_PTPPORT
    let s1 := if (s0.ptpPort active).lastValid = none ∨ p < active then s0.set Reg.NET_STAT_PTPPORT p else s0
    let s2 := s1.modPtpPort p (fun x => { x with
      lastValid := some at_, due := if x.due = some at_ then x.due else some (at_ + 800000000) })
    if s2.get Reg.NET_STAT_PTPPORT = p ∧ s2.get Reg.CAD_SYNC_SRC = 1 then s2.ptpOffset (intOf ((t2 : Rat) - (t1 + d))) else s2

/-- A mean path delay measured on a port. -/
def State.setPathDelay (s : State) (p : Nat) (d : Rat) : State :=
  (s.modPtpPort p (fun x => { x with delay := some d, sentAt := none, answer := none })).set (Reg.NET_PTP_PDLY_PDLY p) (wordOfInt 32 d)

/-- A PTP message that arrived at a port at TIME `at_`, its receive timestamp corrected by RXLAT. -/
def State.ptpMessage (s : State) (p at_ : Nat) (m : PtpBody) (t : Int) : State :=
  let x := s.ptpPort p
  let selected (source : Nat) : Bool := match s.ptpMaster with
    | none => false
    | some b => b.source == source
  match m with
  | .announce source rank k =>
    let others := s.net.masters.filter (fun b => !(b.port == p && b.source == source))
    { s with net := { s.net with masters := others ++
      [{ port := p, source := source, rank := rank, interval := secondsPow k, heard := at_ }] } }
  | .sync source seq twoStep sec ns c =>
    if selected source = false then s
    else if twoStep then s.modPtpPort p (fun x => { x with
      sync := some { source := source, seq := seq, stamp := t, correction := c, time := at_ } })
    else s.validSync p t (ptpUnits sec ns + correctionUnits c) at_
  | .followUp source seq sec ns c =>
    match x.sync with
    | none => s
    | some w =>
      if w.source = source ∧ w.seq = seq ∧ at_ ≤ w.time + 40000000 ∧ selected source = true then
        (s.modPtpPort p (fun x => { x with sync := none })).validSync p w.stamp (ptpUnits sec ns + correctionUnits (w.correction + c)) at_
      else s
  | .pdelayReq source seq =>
    s.queueTx { port := p, cls := 1, kind := sentPdelayResp, fields := [source, seq, t], len := 72, time := s.now }
  | .pdelayResp seq twoStep sec ns c =>
    match x.sentAt with
    | none => s
    | some t1 =>
      if (seq + 1) % 65536 ≠ x.delaySeq then s
      else if twoStep then s.modPtpPort p (fun x => { x with answer := some (t, ptpUnits sec ns, correctionUnits c) })
      else s.setPathDelay p (((t - t1 : Int) - correctionUnits c) / 2)
  | .pdelayRespFollowUp seq sec ns c =>
    match x.sentAt, x.answer with
    | some t1, some (t4, t2, c1) =>
      if (seq + 1) % 65536 ≠ x.delaySeq then s
      else s.setPathDelay p (((t4 - t1 : Int) - (ptpUnits sec ns - t2) - c1 - correctionUnits c) / 2)
    | _, _ => s

/-- The PTP engine runs. -/
def State.ptpRuns (s : State) : Bool := s.on Reg.NET_CTRL_PTPEN && !s.inKickstand

/-- PTP_MESSAGE_RECEIVED: the oldest PTP frame, of the engine's domain, is processed; its timestamp, whose fraction is a
capture's, is corrected by RXLAT (R207, R208, R446, R447). -/
def doPtpMessageReceived (domain : Nat) (m : PtpBody) (stamp : Nat) (s : State) : State :=
  match s.takeGiven .ptp with
  | none => s
  | some (g, s1) =>
    if s1.ptpRuns = false ∨ domain ≠ s1.get Reg.NET_PTP_CFG_DOMAIN then s1
    else s1.ptpMessage g.port g.time m ((s1.onLine 12 stamp : Int) - s1.get Reg.NET_PTP_LAT_RXLAT)

def execPtpMessageReceived (domain : BitVec 8) (m : PtpBody) (stamp : Nat) (s : State) : Host.Outcome State Fault Refusal :=
  .next (doPtpMessageReceived domain.toNat m stamp s)

/-- PDELAY_REQ_SEND: a request on each port that is up, 2^LOGPDELAY s after the last, its timestamp corrected by TXLAT (R446). -/
def doPdelayReqSend (stamp0 stamp1 : Nat) (s : State) : State :=
  if s.ptpRuns = false then s
  else
    let s0 := s.reach (s.net.delayAt + secondsPow (s.getInt Reg.NET_PTP_CFG_LOGPDELAY))
    let s1 : State := { s0 with net := { s0.net with delayAt := s0.now } }
    ([0, 1].filter (fun p => s1.netUp p)).foldl (fun s p =>
      let seq := (s.ptpPort p).delaySeq
      (s.modPtpPort p (fun x => { x with
        delaySeq := (seq + 1) % 65536, answer := none,
        sentAt := some ((s.onLine 12 (if p = 0 then stamp0 else stamp1) : Int) + s.get Reg.NET_PTP_LAT_TXLAT) })).queueTx
        { port := p, cls := 1, kind := sentPdelayReq, fields := [(seq : Int)], len := 72, time := s.now }) s1

def execPdelayReqSend (stamp0 stamp1 : Nat) (s : State) : Host.Outcome State Fault Refusal := .next (doPdelayReqSend stamp0 stamp1 s)

/-- ANNOUNCE_TIMEOUT: the selected master has not been heard for three Announce intervals: it goes, and the best of the rest is selected
(R446). -/
def doAnnounceTimeout (s : State) : State :=
  match s.ptpMaster with
  | none => s
  | some m =>
    let s1 := s.reach (m.heard + 3 * m.interval)
    { s1 with net := { s1.net with masters := s1.net.masters.filter (fun b => !(b == m)) } }

def execAnnounceTimeout (s : State) : Host.Outcome State Fault Refusal := .next (doAnnounceTimeout s)

/-- ACTIVE_PORT_CHANGE: no valid Sync on the active port for 2 s, and one on the other within that time; a Sync on the old port in that very
clock has been used (R447, R454). -/
def doActivePortChange (s : State) : State :=
  match (s.ptpPort (s.get Reg.NET_STAT_PTPPORT)).due with
  | none => s
  | some t => (s.reach t).changePort t

def execActivePortChange (s : State) : Host.Outcome State Fault Refusal := .next (doActivePortChange s)

/-! ### GOOSE (R448, R449) -/

/-- A packet for queue GOOSEQ, when its EN is 1. -/
def State.gooseDeliver (s : State) (len : Nat) (words : List Nat) : State × Bool :=
  if s.on Reg.NET_QSEL_GOOSEEN then s.netDeliver (s.get Reg.NET_QSEL_GOOSEQ) len words else (s, true)

/-- A subscription whose timeAllowedToLive ended at `t` is STALE; a notice of one content word is delivered, or dropped and counted (R364,
R448). -/
def State.gooseStale (s : State) (n : Nat) : State :=
  let s1 := (s.modGoose n (fun _ => {})).set (Reg.NET_GSUB_STAT_STATE n) 2
  (s1.gooseDeliver 4 [n + 256]).1

/-- A frame of a class that arrived by TIME `t` waits for its engine. -/
def State.arrived (s : State) (c : NetClass) (n t : Nat) : Bool :=
  s.net.given.any (fun g => g.cls == c && g.index == n && decide (g.time ≤ t))

/-- GOOSE_TAL_EXPIRY: not where a message of the subscription arrived by then, nor in Kickstand (R448, R454). -/
def doGooseTalExpiry (n : Nat) (s : State) : State :=
  match (s.goose n).expires with
  | none => s
  | some t => if s.inKickstand = true ∨ s.arrived .goose n t = true then s else (s.reach t).gooseStale n

def execGooseTalExpiry (n : Fin 16) (s : State) : Host.Outcome State Fault Refusal := .next (doGooseTalExpiry n.val s)

/-- A message of subscription `n` judged (R448). -/
def State.gooseMessage (s : State) (n : Nat) (g : NetGiven) (st sq tal : Nat) : State :=
  let live (s : State) : State :=
    (s.modGoose n (fun _ => { last := some (st, sq), expires := some (g.time + countsPerMs * tal) })).set (Reg.NET_GSUB_STAT_STATE n) 1
  let fresh : State :=
    let o := typeAt g.bytes + 2
    let apdu := (g.bytes.drop o).take (beField g.bytes (o + 2) 2)
    let r := s.gooseDeliver (12 + apdu.length) ([n, g.time % 0x100000000, g.time / 0x100000000 % 0x100000000] ++ wordsOfBytes apdu)
    if r.2 then (live r.1).set (Reg.NET_GSUB_STAT_STNUM n) (st % 65536) else r.1
  match (s.goose n).last with
  | none => fresh
  | some (st0, sq0) =>
    if st0 ≠ st then fresh
    else if sq0 < sq then live s
    else s.count (Reg.NET_GSUB_STAT_GDUP n) 1

/-- GOOSE_MESSAGE_RECEIVED: the oldest GOOSE frame; a timeAllowedToLive that ended before it arrived counts first (R448, R454). -/
def doGooseMessageReceived (st sq tal : Nat) (s : State) : State :=
  match s.takeGiven .goose with
  | none => s
  | some (g, s1) =>
    if s1.on (Reg.NET_GSUB_CFG_EN g.index) = false ∨ s1.inKickstand = true then s1
    else
      let s2 := match (s1.goose g.index).expires with
        | none => s1
        | some t => if t < g.time then s1.gooseStale g.index else s1
      s2.gooseMessage g.index g st sq tal

def execGooseMessageReceived (st sq tal : Nat) (s : State) : Host.Outcome State Fault Refusal :=
  .next (doGooseMessageReceived st sq tal s)

/-- One publication set. -/
def State.setPub (s : State) (j : Nat) (p : Option GoosePub) : State :=
  { s with net := { s.net with pubs := tblSet none s.net.pubs j p } }

/-- A publication's frame with its resend count at SQOFS. -/
def State.countedFrame (s : State) (j count : Nat) (f : List Nat) : List Nat :=
  putBytes f (s.get (Reg.NET_GPUB_CFG_SQOFS j)) (beBytes (count % 0x100000000) 4)

/-- GOOSE_PUBLISH: the head packet of GPUBQ is sent at once with sqNum 0, if its publication is enabled (R449). -/
def doGoosePublish (s : State) : State :=
  if s.on Reg.NET_QSEL_GPUBEN = false ∨ s.inKickstand = true then s
  else match s.takePacket (s.get Reg.NET_QSEL_GPUBQ) 8 with
    | (s1, none) => s1
    | (s1, some (len, words)) =>
      let j := words.headD 0 % 4
      if s1.on (Reg.NET_GPUB_CFG_EN j) = false then s1
      else
        let f := (bytesOfWords (words.drop 1)).take (len - 4)
        let gap := s1.get (Reg.NET_GPUB_TMIN_TMIN j)
        let s2 := s1.originateAny 4 sentGoose (s1.countedFrame j 0 f)
        s2.setPub j (some { frame := f, count := 0, gap := gap, nextAt := s1.now + countsPerMs * gap })

def execGoosePublish (s : State) : Host.Outcome State Fault Refusal := .next (doGoosePublish s)

/-- GOOSE_RESEND: at TMIN, then at twice the previous gap up to TMAX, with the resend count (R449). -/
def doGooseResend (j : Nat) (s : State) : State :=
  match tblGet none s.net.pubs j with
  | none => s
  | some p =>
    if s.inKickstand then s
    else
      let s1 := s.reach p.nextAt
      let gap := min (2 * p.gap) (s.get (Reg.NET_GPUB_CFG_TMAX j))
      let s2 := s1.originateAny 4 sentGoose (s1.countedFrame j (p.count + 1) p.frame)
      s2.setPub j (some { p with count := p.count + 1, gap := gap, nextAt := s1.now + countsPerMs * gap })

def execGooseResend (j : Fin 4) (s : State) : Host.Outcome State Fault Refusal := .next (doGooseResend j.val s)

/-! ### Sampled Values (R450 to R452) -/

/-- The flags of an entry's word 0 that its writer decides. -/
structure EntryKind where
  lost : Bool := false
  resync : Bool := false
  subst : Bool := false

/-- One entry of stream `n`, of TIME `at_`, written whole, ESEQ and WIDX counted on (R450). -/
def State.svEntry (s : State) (n k at_ : Nat) (e : EntryKind) (ms : List (Nat × Nat)) : State :=
  let x := s.stream n
  let b (c : Bool) (i : Nat) : Nat := if c then 2 ^ i else 0
  let eseq := (x.eseq + 1) % 65536
  let w0 := eseq * 65536 + x.synch % 4 * 16384 + b (ms.any (fun m => m.2 % 4 != 0)) 12
    + b (x.simulated || ms.any (fun m => m.2.testBit 11)) 11 + b e.lost 10 + b e.resync 9 + b e.subst 8
  let words := [w0, k % 65536, at_ % 0x100000000, at_ / 0x100000000 % 0x100000000, 0, 0, 0, 0] ++ ms.flatMap (fun m => [m.1, m.2])
  let base := s.get (Reg.NET_SVS_BASE_BASE n) + 128 * s.get (Reg.NET_SVS_STAT_WIDX n)
  let s1 := (List.range 32).foldl (fun s i => s.setWord (base + 4 * i) (words.getD i 0)) s
  (s1.modStream n (fun x => { x with eseq := eseq })).set (Reg.NET_SVS_STAT_WIDX n) ((s.get (Reg.NET_SVS_STAT_WIDX n) + 1) % 64)

/-- A quality with its validity put: 1 invalid, 3 questionable. -/
def withValidity (v : Nat) (m : Nat × Nat) : Nat × Nat := (m.1, m.2 / 4 * 4 + v)

/-- WRAP + 1, the modulus of sample numbers (R451). -/
def State.svModulus (s : State) (n : Nat) : Nat := s.get (Reg.NET_SVS_RATE_WRAP n) + 1

/-- The stream enters LOST at sample `k` and TIME `at_`: one entry with LOST and every quality invalid; source 87 reports (R451). -/
def State.svLose (s : State) (n k at_ : Nat) : State :=
  let s1 := (s.svEntry n k at_ { lost := true } ((s.stream n).members.map (withValidity 1))).set (Reg.NET_SVS_STAT_STATE n) 4
  let s2 := s1.modStream n (fun x => { x with absent := 0, late := 0 })
  State.fault { s2 with net := { s2.net with lost := setBit s2.net.lost n } } 87 n

/-- Sample e absent at TIME `at_`: substituted, or the stream lost at the LOSSN-th in a row (R451). -/
def State.svAbsent (s : State) (n at_ : Nat) : State :=
  let x := s.stream n
  if s.get (Reg.NET_SVS_SUP_LOSSN n) ≤ x.absent + 1 then s.svLose n x.expected at_
  else
    let s1 := (s.svEntry n x.expected at_ { subst := true } (x.members.map (withValidity 3))).count (Reg.NET_SVS_STAT_SUBST n) 1
    s1.modStream n (fun x => { x with absent := x.absent + 1, expected := (x.expected + 1) % s.svModulus n })

/-- When sample e is due (R451). -/
def State.svDue (s : State) (n : Nat) : Nat :=
  let x := s.stream n
  let m := s.svModulus n
  x.anchorAt + (x.expected + m - x.anchor % m) % m * (40 * s.get (Reg.NET_SVS_RATE_TSMP n)) + 400 * s.get (Reg.NET_SVS_SUP_TOL n)

/-- SV_SAMPLE_DUE: sample e is absent at its due time, unless a frame of the stream that arrived by then is still to be taken (R451). -/
def doSvSampleDue (n : Nat) (s : State) : State :=
  if s.get (Reg.NET_SVS_STAT_STATE n) = 3 ∧ s.arrived .sv n (s.svDue n) = false then (s.reach (s.svDue n)).svAbsent n (s.svDue n) else s

def execSvSampleDue (n : Fin 8) (s : State) : Host.Outcome State Fault Refusal := .next (doSvSampleDue n.val s)

/-- Samples whose due time came before a frame's arrival are absent; one that falls in its clock has arrived (R451). -/
def State.svCatchUp (s : State) (n time : Nat) : Nat → State
  | 0 => s
  | fuel + 1 =>
    if s.get (Reg.NET_SVS_STAT_STATE n) = 3 ∧ s.svDue n < time then (s.svAbsent n (s.svDue n)).svCatchUp n time fuel else s

/-- An accepted sample is written; it is the anchor, and e the sample after it. -/
def State.svWrite (s : State) (n k time : Nat) (resync : Bool) (ms : List (Nat × Nat)) : State :=
  let s1 := s.modStream n (fun x => { x with
    members := ms, anchor := k, anchorAt := time, expected := (k + 1) % s.svModulus n, absent := 0, late := 0 })
  s1.svEntry n k time { resync := resync } ms

/-- In RESYNC with `c` samples in order: the RESYNCN-th is the first of VALID (R451). -/
def State.svResync (s : State) (n k time c : Nat) (ms : List (Nat × Nat)) : State :=
  if s.get (Reg.NET_SVS_SUP_RESYNCN n) ≤ c then
    let s1 : State := { s with net := { s.net with lost := clearBit s.net.lost n } }
    (s1.svWrite n k time false ms).set (Reg.NET_SVS_STAT_STATE n) 3
  else
    ((s.modStream n (fun x => { x with inOrder := c })).svWrite n k time true ms).set (Reg.NET_SVS_STAT_STATE n) 2

/-- The samples from e on that a later sample passed at TIME `at_`, all absent. -/
def State.svSkip (s : State) (n at_ : Nat) : Nat → State
  | 0 => s
  | d + 1 => (s.svAbsent n at_).svSkip n at_ d

/-- One sample `k` of stream `n` (R451). -/
def State.svSample (s : State) (n k time : Nat) (ms : List (Nat × Nat)) : State :=
  let x := s.stream n
  let m := s.svModulus n
  let d := (k % m + m - x.expected % m) % m
  let lossn := s.get (Reg.NET_SVS_SUP_LOSSN n)
  match s.get (Reg.NET_SVS_STAT_STATE n) with
  | 0 => s
  | 2 => if d = 0 then s.svResync n k time (x.inOrder + 1) ms else s.svResync n k time 1 ms
  | 3 =>
    if d = 0 then s.svWrite n k time false ms
    else if m ≤ 2 * d then
      let s1 := s.count (Reg.NET_SVS_STAT_LATE n) 1
      if lossn ≤ x.late + 1 then (s1.modStream n (fun x => { x with late := 0 })).svResync n k time 1 ms
      else s1.modStream n (fun x => { x with late := x.late + 1 })
    else if lossn ≤ x.absent + d then s.svLose n ((x.expected + (lossn - x.absent - 1)) % m) time
    else (s.svSkip n time d).svWrite n k time false ms
  | _ => s.svResync n k time 1 ms

/-- The members of a data set: an INT32 and a 32-bit quality each, most significant byte first. -/
def membersOf (d : List Nat) : List (Nat × Nat) :=
  (List.range (d.length / 8)).map (fun i => (beField d (8 * i) 4, beField d (8 * i + 4) 4))

/-- SV_FRAME_RECEIVED: the oldest Sampled Values frame: an ASDU of another length than 8 × NMEM is discarded and counted, the others are
judged in order (R450, R451). -/
def doSvFrameReceived (asdus : List SvAsdu) (sim : Bool) (s : State) : State :=
  match s.takeGiven .sv with
  | none => s
  | some (g, s1) =>
    let n := g.index
    if s1.on (Reg.NET_SVS_CFG_EN n) = false ∨ s1.inKickstand = true then s1
    else asdus.foldl (fun s a =>
      if a.data.length ≠ 8 * s.get (Reg.NET_SVS_RATE_NMEM n) then s.count (Reg.NET_SVS_STAT_FORM n) 1
      else
        let s2 := s.modStream n (fun x => { x with synch := a.smpSynch % 4, simulated := sim })
        s2.svSample n a.smpCnt g.time (membersOf (a.data.map (fun b => b.toNat)))) (s1.svCatchUp n g.time 256)

def execSvFrameReceived (asdus : List SvAsdu) (sim : Bool) (s : State) : Host.Outcome State Fault Refusal :=
  .next (doSvFrameReceived asdus sim s)

/-- The value and quality of metering channel `c` in a published stream: I0 to I3 in mA, V0 to V3 in 10 mV, saturating; validity invalid
with CHFLT, the overflow bit with OVL (R452). -/
def State.svMember (s : State) (j c : Nat) : Nat × Nat :=
  let x := (s.mchan c).raw.headD 0
  let scale : Int := if 4 ≤ c then s.get (Reg.NET_SVP_FSI_FSI j) * 1000 else s.get (Reg.NET_SVP_FSV_FSV j) * 100
  let v := clampInt (roundHalfEven (x * scale) 0x80000000) (-0x80000000) 0x7FFFFFFF
  let q := (if s.bit Reg.MTR_STAT_CHFLT c then 1 else 0) + (if s.bit Reg.MTR_STAT_OVL c then 4 else 0)
  (bitsOf 32 v, q)

/-- The data set of a published stream: I0 to I3, then V0 to V3. -/
def State.svDataSet (s : State) (j : Nat) : List Nat :=
  [4, 5, 6, 7, 0, 1, 2, 3].flatMap (fun c => beBytes (s.svMember j c).1 4 ++ beBytes (s.svMember j c).2 4)

/-- SV_PUBLISH: for the metering sample whose result came last, at every sample or every second one, the template with smpCnt, smpSynch and
the data set (R452). -/
def doSvPublish (j : Nat) (s : State) : State :=
  match s.mtr.lastAt with
  | none => s
  | some t =>
    let step := if s.on (Reg.NET_SVP_CFG_DEC j) then 100000 else 50000
    if s.on (Reg.NET_SVP_CFG_EN j) = false ∨ s.inKickstand = true ∨ t % step ≠ 0 ∨ tblGet none s.net.published j = some t then s
    else
      let len := s.get (Reg.NET_SVP_CFG_LEN j)
      let tpl := (List.range len).map (fun i => (s.byteAt (s.get (Reg.NET_SVP_TPL_TPL j) + i)).toNat)
      let o := s.get (Reg.NET_SVP_OFS_SMPOFS j)
      let f1 := putBytes tpl o (beBytes (t % 400000000 / step) 2)
      let f2 := putBytes f1 (o + 6) [if s.get Reg.CAD_STAT_SYNC = 2 then 2 else 1]
      let f3 := putBytes f2 (s.get (Reg.NET_SVP_OFS_DSOFS j)) (s.svDataSet j)
      State.originateAny { s with net := { s.net with published := tblSet none s.net.published j (some t) } } 3 sentSv f3

def execSvPublish (j : Fin 2) (s : State) : Host.Outcome State Fault Refusal := .next (doSvPublish j.val s)

/-! ### Safety frames (R453) -/

/-- The frame that carries a status PDU back to the source of a command, with its VLAN tag, padded. -/
def State.safetyFrame (s : State) (g : NetGiven) (pdu : List Nat) : List Nat :=
  let b := g.bytes
  let tag := (b.drop 12).take (typeAt b - 12)
  let f := (b.drop 6).take 6 ++ beBytes s.netMac 6 ++ tag ++ beBytes (s.get Reg.NET_SAF_CFG_SAFTYPE) 2 ++ [pdu.length, 0] ++ pdu
  f ++ List.replicate (60 - f.length) 0

/-- SAFETY_FRAME_RECEIVED: the oldest safety frame's PDU goes to the connection of its CONNID with CARRIER 2, or is counted in SAFDROP; the
status PDU of an accepted one returns to its source, under RED 0 on the port of arrival (R453). -/
def doSafetyFrameReceived (s : State) : State :=
  match s.takeGiven .safety with
  | none => s
  | some (g, s1) =>
    let o := typeAt g.bytes + 2
    let pdu := (g.bytes.drop (o + 2)).take (g.bytes.getD o 0)
    match (List.range 4).find? (fun c => s1.get (Reg.SAF_C_CFG_CARRIER c) == 2 && s1.get (Reg.SAF_C_ID_CONNID c) == pduField pdu 4 4) with
    | none => s1.count Reg.NET_DROP_SAFDROP 1
    | some c =>
      let s2 := doSafetyPduReceived c 2 0 pdu g.time s1
      if (s1.watchdogDue c).pduReason c 2 0 pdu g.time = 0 then
        match s2.out.getLast? with
        | some (.safetyPdu _ bytes) => s2.originate [g.port] 2 sentSafety s1.now (s2.safetyFrame g bytes)
        | _ => s2
      else s2

def execSafetyFrameReceived (s : State) : Host.Outcome State Fault Refusal := .next (doSafetyFrameReceived s)

/-! ### Frames sent (R440, R444, R445) -/

/-- The supervision frame of IEC 62439-3 (R440; PRESUMED, log 86): its multicast address, NET_MAC, EtherType 0x88FB, version 1, a sequence
number, and the TLV of PRP or HSR with NET_MAC. -/
def State.supervisionFrame (s : State) : List Nat :=
  beBytes 0x01154E000100 6 ++ beBytes s.netMac 6 ++ [0x88, 0xFB, 0, 1] ++ beBytes s.net.superSeq 2
    ++ [if s.get Reg.NET_CTRL_RED = 1 then 20 else 23, 6] ++ beBytes s.netMac 6 ++ [0, 0]

/-- SUPERVISION_FRAME_SEND: under PRP and HSR every 2 s (R440). -/
def doSupervisionFrameSend (s : State) : State :=
  if s.get Reg.NET_CTRL_RED = 0 then s
  else
    let s1 := s.reach (s.net.superAt + 800000000)
    State.originate { s1 with net := { s1.net with superAt := s1.now, superSeq := (s1.net.superSeq + 1) % 65536 } } [0, 1] 6 sentSupervision
      s1.now s.supervisionFrame

def execSupervisionFrameSend (s : State) : Host.Outcome State Fault Refusal := .next (doSupervisionFrameSend s)

/-- EN and queue of a general transmit queue (NET_TXQ). -/
def txQueue (i : Nat) : Fld × Fld :=
  match i with
  | 0 => (Reg.NET_TXQ_EN0, Reg.NET_TXQ_Q0)
  | 1 => (Reg.NET_TXQ_EN1, Reg.NET_TXQ_Q1)
  | 2 => (Reg.NET_TXQ_EN2, Reg.NET_TXQ_Q2)
  | _ => (Reg.NET_TXQ_EN3, Reg.NET_TXQ_Q3)

/-- The queues in turn, each used by its EN as a consumer uses it (R369, R444). -/
def State.consumeGeneral (s : State) : State :=
  (List.range 4).foldl (fun s i => if s.on (txQueue i).1 then s.consume (s.get (txQueue i).2) 8 else s) s

/-- The first general transmit queue in turn that has a packet (R444). -/
def State.nextGeneral (s : State) : Option Nat :=
  ((List.range 4).map (fun i => (s.net.lastTx + 1 + i) % 4)).find? (fun i =>
    s.on (txQueue i).1 && (s.headPacket (s.get (txQueue i).2) 8).isSome)

/-- The EtherTypes that no general frame may carry (R445). -/
def State.guardedType (s : State) (t : Nat) : Bool :=
  t == 0x88F7 || t == 0x88B8 || t == 0x88BA || t == s.get Reg.NET_SAF_CFG_SAFTYPE

/-- GENERAL_FRAME_TRANSMIT: one packet of the queues in turn: it waits for its port with NET_MAC as its source, or discarded and counted in GUARD (R444,
R445). -/
def doGeneralFrameTransmit (s : State) : State :=
  let s0 := s.consumeGeneral
  match s0.nextGeneral with
  | none => s0
  | some i => match s0.takePacket (s0.get (txQueue i).2) 8 with
  | (s1, none) => s1
  | (s1, some (len, words)) =>
    let s2 : State := { s1 with net := { s1.net with lastTx := i } }
    let f := (bytesOfWords words).take len
    if len < 14 ∨ 1518 < len ∨ s.guardedType (beField f 12 2) = true ∨ s.guardedType (frameType f) = true then
      s2.count Reg.NET_DROP_GUARD 1
    else s2.originateAny 6 sentGeneral (putBytes f 6 (beBytes s.netMac 6))

def execGeneralFrameTransmit (s : State) : Host.Outcome State Fault Refusal := .next (doGeneralFrameTransmit s)

/-! ### Links, Kickstand and registers (R442, R454, R455) -/

/-- The link of a port put; its loss is reported by source 85 until it returns (R442). -/
def State.linkPut (s : State) (p : Nat) (up : Bool) : State :=
  let s1 := s.putBit Reg.NET_STAT_LINK p up
  { s1 with net := { s1.net with down := Sys2Proof.putBit s1.net.down p (!up) } }

/-- STATION_LINK_CHANGE: a port loses or regains its link (R442); not a port held by SSCHOLD, nor in Kickstand another than KSPORT (R454,
R505). -/
def doStationLinkChange (p : Nat) (up : Bool) (s : State) : State :=
  if s.bit Reg.NET_CTRL_EN p = false ∨ s.on Reg.CLK_REF_SSCHOLD = true ∨ (s.inKickstand = true ∧ s.get Reg.NET_CTRL_KSPORT ≠ p) then s
  else if up then s.linkPut p true
  else (s.linkPut p false).fault 85 p

def execStationLinkChange (p : Fin 2) (up : Bool) (s : State) : Host.Outcome State Fault Refusal := .next (doStationLinkChange p.val up s)

/-- The PTP engine forgets what it heard. -/
def State.ptpStop (s : State) : State := { s with net := { s.net with masters := [], ptpPorts := [] } }

/-- Entry to Kickstand: PTP, GOOSE and Sampled Values stop, every enabled stream goes to WAIT, and only port KSPORT stays linked (R454). -/
def State.netKickstand (s : State) : State :=
  let s1 := (List.range 8).foldl (fun s n =>
    if s.get (Reg.NET_SVS_STAT_STATE n) = 0 then s else s.set (Reg.NET_SVS_STAT_STATE n) 1) s.ptpStop
  s1.putBit Reg.NET_STAT_LINK (1 - s.get Reg.NET_CTRL_KSPORT) false

/-- The EN field and the address of CFG of the subscription, publication or stream that a register configures. -/
def netUnit (offset : Nat) : Option Fld :=
  if 0x100 ≤ offset ∧ offset < 0x180 then some (Reg.NET_GSUB_CFG_EN ((offset - 0x100) / 8))
  else if 0x180 ≤ offset ∧ offset < 0x1A0 then some (Reg.NET_GPUB_CFG_EN ((offset - 0x180) / 8))
  else if 0x200 ≤ offset ∧ offset < 0x280 then some (Reg.NET_SVS_CFG_EN ((offset - 0x200) / 16))
  else if 0x300 ≤ offset ∧ offset < 0x340 then some (Reg.NET_SVP_CFG_EN ((offset - 0x300) / 32))
  else none

/-- EN of a subscription, publication or stream put, with what follows from it (R448, R449, R451). -/
def State.netEnable (s : State) (offset : Nat) (en : Fld) (on : Bool) : State :=
  let s1 := s.setBool en on
  if offset < 0x180 then
    let n := (offset - 0x100) / 8
    (s1.modGoose n (fun _ => {})).set (Reg.NET_GSUB_STAT_STATE n) 0
  else if offset < 0x1A0 then s1.setPub ((offset - 0x180) / 8) none
  else if offset < 0x280 then
    let n := (offset - 0x200) / 16
    s1.setBool (Reg.NET_SVS_STAT_STATE n) on
  else s1

/-- A write to NET_CTRL: a port disabled has no link; PTPEN 0 stops the engine. -/
def State.netCtrl (s : State) (v : Nat) : State :=
  let s1 := s.storeRW Reg.NET_CTRL_EN.addr v
  let s2 := [0, 1].foldl (fun s p => if s.bit Reg.NET_CTRL_EN p then s else s.linkPut p false) s1
  let s3 : State := { s2 with net := { s2.net with down := s2.net.down &&& s2.get Reg.NET_CTRL_EN } }
  if s3.on Reg.NET_CTRL_PTPEN then s3 else s3.ptpStop

/-- NET_REGISTER_WRITE: a reserved value leaves the register and sets CFGERR; a unit's configuration changes only while its EN is 0, its EN
may be cleared (R455). -/
def doNetRegisterWrite (offset v : Nat) (s : State) : State :=
  let addr := 0x40140000 + offset
  let misplaced := (0x200 ≤ offset ∧ offset < 0x280 ∧ offset % 16 = 12 ∧ v % 128 ≠ 0)
    ∨ (0x300 ≤ offset ∧ offset < 0x340 ∧ offset % 32 = 4 ∧ v % 4 ≠ 0)
  let refused := s.set Reg.NET_STAT_CFGERR 1
  if offset = 0x4 then s.clearOnes addr v
  else match netUnit offset with
    | none => if wordAllowed addr v = false then refused else if offset = 0 then s.netCtrl v else s.storeRW addr v
    | some en =>
      if s.on en then
        if addr = en.addr ∧ v.testBit 31 = false then s.netEnable offset en false else refused
      else if wordAllowed addr v = false ∨ misplaced then refused
      else
        let s1 := s.storeRW addr v
        if addr = en.addr ∧ v.testBit 31 = true then s1.netEnable offset en true else s1

def execNetRegisterWrite (offset : Fin 16384) (v : Word) (s : State) : Host.Outcome State Fault Refusal :=
  .next (doNetRegisterWrite offset.val v.toNat s)

/-- The counters of NET and their word: NET_DROP, NET_PORT_CNT0 and 1, NET_GSUBn_STAT, NET_SVSn_STAT. -/
def netCounters (i : Nat) : Nat × List Fld :=
  if i = 0 then (Reg.NET_DROP_GUARD.addr, [Reg.NET_DROP_GUARD, Reg.NET_DROP_RXFULL, Reg.NET_DROP_SAFDROP, Reg.NET_DROP_FWDDROP])
  else if i < 3 then ((Reg.NET_PORT_CNT_FCS (i - 1)).addr, [Reg.NET_PORT_CNT_FCS (i - 1), Reg.NET_PORT_CNT_SIZE (i - 1)])
  else if i < 19 then ((Reg.NET_GSUB_STAT_GDUP (i - 3)).addr, [Reg.NET_GSUB_STAT_GDUP (i - 3)])
  else ((Reg.NET_SVS_STAT_SUBST (i - 19)).addr, [Reg.NET_SVS_STAT_SUBST (i - 19), Reg.NET_SVS_STAT_LATE (i - 19), Reg.NET_SVS_STAT_FORM (i - 19)])

/-- A register's word, assembled from its stored fields. -/
def State.storedWord (s : State) (addr : Nat) : Nat :=
  (fieldsAt addr).foldl (fun w r => w + s.get (r.fld addr) * 2 ^ r.lo) 0

/-- NET_COUNTER_READ: the read returns the register and clears its counters (R347). -/
def doNetCounterRead (i : Nat) (s : State) : State :=
  (netCounters i).2.foldl (fun s f => s.set f 0) (s.answer (s.storedWord (netCounters i).1))

def execNetCounterRead (which : Fin 27) (s : State) : Host.Outcome State Fault Refusal := .next (doNetCounterRead which.val s)

end Sys2Proof.Machine
end

