-- ==== Sys2Proof/Machine/Peloton.lean ====
section
/-!
DEFINITION. The Peloton (R456 to R476): lanes, ring frames, admission, the leader's time, the exchange of a tick, blocks, loss of the leader.
-/

namespace Sys2Proof.Machine

/-! ### Parts -/

def State.modPel (s : State) (f : PelState → PelState) : State := { s with pel := f s.pel }
def State.modDev (s : State) (d : Nat) (f : PelDevice → PelDevice) : State := s.modPel (fun p => { p with devs := tblMod {} p.devs d f })

/-- This device's index, its role, the leader. -/
def State.ownIndex (s : State) : Nat := s.get Reg.PEL_STAT_INDEX
def State.role (s : State) : Nat := s.get Reg.PEL_STAT_ROLE
def State.leader (s : State) : Nat := s.get Reg.PEL_STAT_LEADER

/-- The lanes run: EN, not held by SSCHOLD, not in Kickstand (R475, R505). -/
def State.lanesRun (s : State) : Bool := s.on Reg.PEL_CTRL_EN && !s.on Reg.CLK_REF_SSCHOLD && !s.inKickstand

/-- A lane is UP. -/
def State.laneUp (s : State) (l : Nat) : Bool := s.lanesRun && s.bit Reg.PEL_STAT_LANEUP l

/-- MISSN of device `i`. -/
def missFld (i : Nat) : Fld := ⟨Reg.PEL_MISS_MISSN0.addr, 4 * i, 4⟩

/-! ### Lanes (R459, R462) -/

/-- A lane's delay is to be measured anew. -/
def State.laneFresh (s : State) (l : Nat) : State :=
  s.modPel (fun p => { p with echoAt := tblErase p.echoAt l, avg := tblSet none p.avg l (some (0, 0)), rejects := tblErase p.rejects l })

/-- LANE_ALIGNMENT_CHANGE: DOWN to ALIGN, to UP, or the loss of alignment, counted and reported by source 88 (R459). -/
def doLaneAlignmentChange (l : Nat) (e : LaneEvent) (s : State) : State :=
  if s.lanesRun = false then s
  else match e with
  | .transitions => if s.get (Reg.PEL_LANE_LSTATE l) = 1 then s.set (Reg.PEL_LANE_LSTATE l) 2 else s
  | .aligned =>
    if s.get (Reg.PEL_LANE_LSTATE l) = 3 then s
    else ((s.set (Reg.PEL_LANE_LSTATE l) 3).putBit Reg.PEL_STAT_LANEUP l true).laneFresh l
  | .lost =>
    let s1 := (s.set (Reg.PEL_LANE_LSTATE l) 1).putBit Reg.PEL_STAT_LANEUP l false
    ((s1.set (Reg.PEL_LANE_NVALID l) 0).count (Reg.PEL_ERR_ALIGN l) 1).fault 88 l

def execLaneAlignmentChange (lane : Fin 2) (e : LaneEvent) (s : State) : Host.Outcome State Fault Refusal :=
  .next (doLaneAlignmentChange lane.val e s)

/-- A missing or rejected echo of a lane counted. -/
def State.laneEchoMissed (s : State) (l : Nat) : State := s.count (Reg.PEL_ERR_ECHO l) 1

/-- A sample of a lane's delay, ten times its value given: the first 16 are averaged; then d moves by a sixteenth of the difference, or the
sample is rejected where the difference exceeds 0.5 ns; 16 rejections restart the averaging (R265, R462). -/
def State.laneSample (s : State) (l : Nat) (ten : Int) : State :=
  let d : Int := s.get (Reg.PEL_LANE_DLY l)
  let put (s : State) (v : Int) : State := s.set (Reg.PEL_LANE_DLY l) (bitsOf 20 (if 0 ≤ v ∧ v < 0x100000 then v else Config.outOfRange v))
  match tblGet none s.pel.avg l with
  | some (sum, n) =>
    if n + 1 < 16 then s.modPel (fun p => { p with avg := tblSet none p.avg l (some (sum + ten, n + 1)) })
    else put (s.modPel (fun p => { p with avg := tblSet none p.avg l none })) (intOf (mkRat (sum + ten) 160))
  | none =>
    let diff : Rat := mkRat (ten - 10 * d) 10
    if 32 / 5 < absRat diff then
      let n := tblGet 0 s.pel.rejects l + 1
      let s1 := s.laneEchoMissed l
      if n < 16 then s1.modPel (fun p => { p with rejects := tblSet 0 p.rejects l n })
      else s1.laneFresh l
    else put (s.modPel (fun p => { p with rejects := tblErase p.rejects l })) (d + nearest (diff / 16))

/-- PELOTON_ECHO: sent at the first character boundary 2.0 µs after the tick start; a request of the far end returned; a reply measured, d := (t2 − t1 − 128 ns) / 2, that is
ten times d in 78.125 ps units is 5 (t2 − t1) − 8,192 (R462). -/
def doPelotonEcho (l : Nat) (e : LaneEcho) (s : State) : State :=
  if s.laneUp l = false then s
  else match e with
  | .send =>
    if s.cad.inTick = false then s
    else
      let s1 := s.reach (s.cad.tickStart + 800)
      let s2 := if (tblGet 0 s1.pel.echoAt l) = 0 then s1 else s1.laneEchoMissed l
      (s2.modPel (fun p => { p with echoAt := tblSet 0 p.echoAt l (laneBoundary s1.now) })).emit (.laneEcho l)
  | .answer => s.emit (.laneEcho l)
  | .reply t2 =>
    let t1 := tblGet 0 s.pel.echoAt l
    if t1 = 0 then s
    else ((s.reach (t2 / 32)).modPel (fun p => { p with echoAt := tblErase p.echoAt l })).laneSample l (5 * ((t2 : Int) - t1) - 8192)

def execPelotonEcho (lane : Fin 2) (e : LaneEcho) (s : State) : Host.Outcome State Fault Refusal := .next (doPelotonEcho lane.val e s)

/-! ### Ring frames (R460, R461) -/

/-- ORIG and HOP of a ring frame. -/
def ringOrig (f : LineFrame) : Nat := f.byte 2 % 8
def ringHop (f : LineFrame) : Nat := f.byte 2 / 16 % 8

/-- A frame forwarded: HOP counted on, `more` added to CORR of a TIME frame, the CRC formed anew (R461, R468). -/
def forwardBytes (f : LineFrame) (kind : Nat) (more : Int) : List Nat :=
  let b := f.bytes.map (fun x => x.toNat)
  let n := (ringStart kind).2
  let b1 := putBytes b 2 [f.byte 2 + 16]
  let b2 := if kind = laneTime then putBytes b1 20 (bytesOfNat (((f.field 20 3 : Nat) : Int) + more).toNat 3) else b1
  putBytes b2 (n - 4) (bytesOfNat (crc32c ((b2.take (n - 4)).drop 1)) 4)

/-- A frame forwarded out of the other lane, unless it has reached the hop limit; a TIME frame with this device's residence time, which is
open (log 35), and the lane delay (R461, R468). -/
def State.ringForward (s : State) (l : Nat) (f : LineFrame) (kind : Nat) : State :=
  let out := 1 - l
  if ringHop f + 1 < s.hopLimit kind out ∧ s.laneUp out = true then
    let more : Int := (Config.residence s.free : Int) + s.get (Reg.PEL_LANE_DLY l)
    (if kind = laneTime then s.nextFree else s).emit (.laneFrame out (forwardBytes f kind more))
  else s

/-- The frame has been received before, by ORIG, type and SEQ; of each origin and type the last 16 are kept (R461). -/
def State.ringSeen (s : State) (f : LineFrame) (kind : Nat) : Bool := s.pel.seen.contains (ringOrig f, kind, f.seq)

def State.ringRemember (s : State) (f : LineFrame) (kind : Nat) : State :=
  let same (e : Nat × Nat × Nat) : Bool := e.1 == ringOrig f && e.2.1 == kind
  s.modPel (fun p => { p with
    seen := (ringOrig f, kind, f.seq) :: ((p.seen.filter same).take 15 ++ p.seen.filter (fun e => !same e)) })

/-- A ring frame that arrives on a lane held to the rules of its form: errors are counted and reported, a discarded frame counted. True where
it stands; `legal` says that it carries no reserved value (R459, R460). -/
def State.ringSound (s : State) (l : Nat) (f : LineFrame) (kind : Nat) (legal : Bool) : State × Bool :=
  let start := ringStart kind
  if s.laneUp l = false then (s, false)
  else
    let bad := s.injected 12 l
    let s0 := if bad then s.injectionDone else s
    if f.codeError then ((s0.count (Reg.PEL_ERR_CODE l) 1).fault 88 l, false)
    else if f.bytes.length ≠ start.2 ∨ f.byte 0 ≠ start.1 then (s0.count (Reg.PEL_ERR_CODE l) 1, false)
    else if bad = true ∨ crc32c (((f.bytes.take (start.2 - 4)).drop 1).map (fun b => b.toNat)) ≠ f.field (start.2 - 4) 4 then
      ((s0.count (Reg.PEL_ERR_CRC l) 1).fault 88 l, false)
    else if f.ver = 0 ∨ f.ver = 3 ∨ f.byte 2 / 8 % 2 = 1 ∨ 128 ≤ f.byte 2 ∨ legal = false then (s0.count (Reg.PEL_ERR_CODE l) 1, false)
    else (s0, true)

/-- A device first heard of, by any frame, is sent this one's CONFIG (R464; DEDUCED, log 37). -/
def State.meet (s : State) (d : Nat) : State :=
  if (s.pelDev d).met then s else (s.modDev d (fun x => { x with met := true })).sendConfig

/-- A ring frame that arrives on a lane: the neighbour is noted, own frames and copies are removed, the rest forwarded. True where the frame is
new and to be taken (R461). -/
def State.ringTake (s : State) (l : Nat) (f : LineFrame) (kind : Nat) (legal : Bool) : State × Bool :=
  let r := s.ringSound l f kind legal
  if r.2 = false ∨ ringOrig f = s.ownIndex then (r.1, false)
  else
    let s1 := if ringHop f = 0 then (r.1.set (Reg.PEL_LANE_NEIGH l) (ringOrig f)).set (Reg.PEL_LANE_NVALID l) 1 else r.1
    if s1.ringSeen f kind then (s1, false) else ((((s1.ringRemember f kind).ringForward l f kind)).meet (ringOrig f), true)

/-! ### Admission (R464 to R467) -/

/-- The devices heard, this one included: admitted ones that are heard, and those that send HELLO. -/
def State.heardSet (s : State) : List Nat :=
  (List.range 8).filter (fun d => d == s.ownIndex || s.heard d || (s.pelDev d).present)

/-- The devices heard number more than half of MEMBERS (R467). -/
def State.majority (s : State) : Bool :=
  decide (s.memberCount < 2 * (s.heardSet.filter (fun d => s.bit Reg.PEL_CTRL_MEMBERS d)).length)

/-- Check 4 of R465: TOPO, FNOM, bases, VMAX, NCELL and K agree with this device's, and once every member's CONFIG is known the local cell
counts of each arm sum to NCELL. -/
def State.configAgrees (s : State) (k : ConverterConfig) : Bool :=
  let own := s.ownConfig
  let members := (List.range 8).filter (fun d => s.bit Reg.PEL_CTRL_MEMBERS d && d != s.ownIndex)
  let known := members.all (fun d => (s.pelDev d).config.isSome)
  let cells (a : Nat) : Nat := (s.armCells a).length + members.foldl (fun n d => n + (s.pelDev d).cellsOf a) 0
  k.topo == own.topo && k.fnom == own.fnom && k.baseV == own.baseV && k.baseS == own.baseS && k.baseVdc == own.baseVdc && k.vmax == own.vmax
    && k.arms == own.arms && (!known || (List.range s.arms).all (fun a => cells a == s.get (Reg.SYS_ARM_CFG_NCELL a)))

/-- The first check of R465 that a device fails; 0 none. -/
def State.refusalReason (s : State) (d : Nat) (k : ConverterConfig) : Nat :=
  let v := s.get Reg.PEL_STAT_VER
  if s.bit Reg.PEL_CTRL_MEMBERS d = false then 1
  else if (s.pelDev d).twin then 2
  else if v ≠ 0 ∧ (s.pelDev d).verMap.testBit v = false then 3
  else if s.configAgrees k = false then 4 else 0

/-- The version in use: the highest of VERMIN to VERMAX that every admitted device supports; none leaves it (R466). -/
def State.chooseVersion (s : State) : State :=
  let others := (List.range 8).filter (fun d => s.bit Reg.PEL_STAT_ADMIT d && d != s.ownIndex)
  let fits (v : Nat) : Bool := decide (s.get Reg.PEL_CTRL_VERMIN ≤ v) && decide (v ≤ s.get Reg.PEL_CTRL_VERMAX)
    && others.all (fun d => (s.pelDev d).verMap.testBit v)
  if fits 2 then s.set Reg.PEL_STAT_VER 2 else if fits 1 then s.set Reg.PEL_STAT_VER 1 else s

/-- A device admitted: heard from now on, its summaries counted anew. -/
def State.admitDevice (s : State) (d : Nat) : State :=
  ((s.putBit Reg.PEL_STAT_ADMIT d true).putBit Reg.PEL_STAT_HEARD d true).set (missFld d) 0

/-- The leader records the first check that a device fails; source 90 reports it for as long as it fails (R465). -/
def State.refuseDevice (s : State) (d r : Nat) : State :=
  let s1 := ((s.set Reg.PEL_ADM_VALID 1).set Reg.PEL_ADM_DEVICE d).set Reg.PEL_ADM_REASON r
  (s1.modDev d (fun x => { x with refused := r })).fault 90 d

/-- ADMISSION: a device whose HELLO and CONFIG are known is admitted, or on the leader its refusal recorded and reported by source 90 while it
lasts (R465). A follower counts as admitted what its own checks admit (DESIGN CHOICE, log 37). -/
def State.admission (s : State) (d : Nat) : State :=
  let x := s.pelDev d
  match x.config with
  | none => s
  | some k =>
    if x.present = false ∨ s.bit Reg.PEL_STAT_ADMIT d = true ∨ (s.role ≠ 1 ∧ s.role ≠ 2) then s
    else
      let r := s.refusalReason d k
      if r = 0 then
        let s1 := (s.modDev d (fun x => { x with refused := 0, summary := none, arrived := none, blkArms := 0 })).admitDevice d
        if s1.role = 1 then s1.chooseVersion else s1
      else if s.role = 2 then s
      else
        s.refuseDevice d r

/-- Every device known judged. -/
def State.admitAll (s : State) : State :=
  (List.range 8).foldl (fun s d => if d = s.ownIndex then s else s.admission d) s

/-- PELOTON_HELLO: until it is admitted, a device sends HELLO every 1 ms on each lane that is UP (R464). -/
def doPelotonHello (s : State) : State :=
  if s.lanesRun = false ∨ s.bit Reg.PEL_STAT_ADMIT s.ownIndex = true then s
  else
    let s1 := s.reach (s.pel.helloAt + countsPerMs)
    (s1.modPel (fun p => { p with helloAt := s1.now, greeted := true })).laneTell laneHello
      [s.ownIndex, s.get Reg.PEL_STAT_CAND, 6, s.partWord]

def execPelotonHello (s : State) : Host.Outcome State Fault Refusal := .next (doPelotonHello s)

/-- No leader exists and none may be elected: NOLEADER, and source 30 for every arm (R475). -/
def State.noLeader (s : State) : State :=
  ((s.set Reg.PEL_STAT_ROLE 3).modPel (fun p => { p with noLeader := true, electDue := false })).tripLatch 30 63

/-- A leader exists; the blocks of one that was lost are no longer active (R475). -/
def State.leaderFound (s : State) (d : Nat) : State :=
  let s1 := if s.pel.leaderLost then s.modDev s.leader (fun x => { x with blkArms := 0 }) else s
  (s1.set Reg.PEL_STAT_LEADER d).modPel (fun p => { p with noLeader := false, electDue := false, leaderLost := false })

/-- LEADER_ELECTION: with no leader and a majority heard, the candidate with the lowest index becomes leader, at the tick start that follows a
loss; it takes SRC from LDRSRC, the others follow. Without a majority or candidate after a loss: NOLEADER (R467, R475). -/
def doLeaderElection (s : State) : State :=
  let lost := s.pel.electDue || (s.role == 3 && s.on Reg.PEL_CTRL_ELECT)
  if s.lanesRun = false ∨ (s.role ≠ 0 ∧ lost = false) then s
  else
    let cands := s.heardSet.filter (fun d => if d == s.ownIndex then s.on Reg.PEL_STAT_CAND else (s.pelDev d).cand)
    let s0 := if s.pel.electDue && s.running then s.reach (s.cad.nextTick.getD s.now) else s
    match cands with
    | [] => if s.pel.electDue then s0.noLeader else s
    | d :: _ =>
      if s.majority = false then (if s.pel.electDue then s0.noLeader else s)
      else
        let s1 := (if lost then s0.count Reg.PEL_CNT_ELECTS 1 else s0).leaderFound d
        if d = s.ownIndex then
          let s2 := (((s1.set Reg.PEL_STAT_ROLE 1).leaderCapability).admitDevice d).chooseVersion
          (s2.setSource (s2.get Reg.PEL_CTRL_LDRSRC)).admitAll
        else s1.set Reg.PEL_STAT_ROLE 2

def execLeaderElection (s : State) : Host.Outcome State Fault Refusal := .next (doLeaderElection s)

/-! ### TIME frames (R468) -/

/-- The device is FOLLOWER under the origin of a TIME frame, with its version and RING (R466 to R468). -/
def State.underLeader (s : State) (d ver : Nat) (ring : Bool) : State :=
  (((s.leaderFound d).set Reg.PEL_STAT_ROLE 2).set Reg.PEL_STAT_VER ver).setBool Reg.PEL_STAT_RING ring

/-- The device follows its leader: SRC 2, SYNC FOLLOWER, admitted (R38, R467). -/
def State.follow (s : State) : State :=
  let s1 := s.admitDevice s.ownIndex
  let s2 := if s1.get Reg.CAD_SYNC_SRC ≠ 2 then s1.setSource 2 else if s1.get Reg.CAD_STAT_SYNC = 4 then s1 else s1.setSync 4
  s2.admitAll

/-- A follower's TIME, TICK, tick start, anchor, period and apply delay as the frame gives them: TIME so that the frame's arrival is
tick start + CORR + d (R38, R468; DEDUCED, log 38). The anchor stays as it is, in the leader's TIME, while the tick starts stay on its grid (DEDUCED, log 128); what follows from a new period or
apply delay follows (R29, R58, R70, R187, R267). -/
def State.followTime (s : State) (l : Nat) (f : LineFrame) (arrival : Nat) : State :=
  let t0 := f.field 8 8
  let err : Int := (arrival : Int) - (32 * t0 + f.field 20 3 + s.get (Reg.PEL_LANE_DLY l))
  let period := f.field 16 2
  let s1 := ((s.set Reg.CAD_TICK_TICK (f.field 4 4)).set Reg.CAD_PERIOD_PERIOD period).set Reg.CAD_APPLY_DLY_DLY (f.field 18 2)
  let s1 := s1.shiftTime (-(err / 32))
  let onGrid := decide (period = s.get Reg.CAD_PERIOD_PERIOD) && decide (0 < period) && t0 % period == s.cad.anchor % period
  let s2 : State := { s1 with cad := { s1.cad with
    tickStart := t0, anchor := if onGrid then s.cad.anchor else t0, nextTick := s1.cad.nextTick.map (fun _ => t0 + period) } }
  let s3 := s2.modPel (fun p => { p with steer := err })
  if period = s.get Reg.CAD_PERIOD_PERIOD ∧ f.field 18 2 = s.get Reg.CAD_APPLY_DLY_DLY then s3
  else s3.timingPend.timingMoved (period != s.get Reg.CAD_PERIOD_PERIOD)

/-- This device is no longer leader: its own admission begins anew (R475). -/
def State.yield (s : State) : State :=
  if s.role = 1 then (s.putBit Reg.PEL_STAT_ADMIT s.ownIndex false).modPel (fun p => { p with greeted := false }) else s

/-- PELOTON_TIME_FRAME: forwarded with CORR raised; a device that is not leader stands under its origin, and once it is admitted, as it counts
itself after its HELLO (DESIGN CHOICE, log 37), follows it and steers to it (R467, R468). A follower with a leader takes no other's; a leader that
hears no majority yields to another leader (R475; DEDUCED, log 37). -/
def doPelotonTimeFrame (l : Nat) (f : LineFrame) (arrival : Nat) (s : State) : State :=
  let legal := decide (f.byte 3 < 2) && (if f.ver = 1 then f.byte 23 == 0 else decide (f.byte 23 < 5))
    && wordAllowed Reg.CAD_PERIOD_PERIOD.addr (f.field 16 2) && decide (40 ≤ f.field 18 2) && decide (f.field 18 2 ≤ 4000)
  let r := s.ringTake l f laneTime legal
  let d := ringOrig f
  if r.2 = false ∨ (s.role = 1 ∧ s.majority = true) ∨ (s.role = 2 ∧ d ≠ s.leader) then r.1
  else
    let s1 := r.1.yield.underLeader d f.ver (f.byte 3 == 1)
    if s1.pel.greeted || s1.bit Reg.PEL_STAT_ADMIT s.ownIndex then s1.follow.followTime l f arrival else s1

def execPelotonTimeFrame (lane : Fin 2) (f : LineFrame) (arrival : Nat) (s : State) : Host.Outcome State Fault Refusal :=
  .next (doPelotonTimeFrame lane.val f arrival s)

/-- The leader's TIME frame of a tick, at the first character boundary from its start on, which CORR counts (R460, R468). -/
def State.sendTime (s : State) : State :=
  if s.lanesRun && s.role == 1 then
    s.laneSend laneTime ([s.get Reg.PEL_STAT_RING] ++ bytesOfNat s.tick 4 ++ bytesOfNat s.cad.tickStart 8
      ++ bytesOfNat (s.get Reg.CAD_PERIOD_PERIOD) 2 ++ bytesOfNat (s.get Reg.CAD_APPLY_DLY_DLY) 2
      ++ bytesOfNat (laneBoundary s.cad.tickStart - 32 * s.cad.tickStart) 3
      ++ [if s.get Reg.PEL_STAT_VER = 2 then s.get Reg.CAD_STAT_SYNC else 0])
  else s

/-! ### Summaries (R469 to R473) -/

/-- Arms that this device blocks by a latched trip flag other than source 30 (R469). -/
def State.blockArms (s : State) : Nat :=
  (List.range 64).foldl (fun m src => if src ≠ 30 ∧ s.tripFlag src = true then m ||| s.tripArms src else m) 0

/-- The highest class with fault status set (R469). -/
def State.worstClass (s : State) : Nat :=
  (List.range 4).foldl (fun w i => if (List.range 8).any (fun j => s.get (Reg.FLT_SRC_SRC j) &&& classMask (i + 1) j != 0) then i + 1 else w) 0

/-- The SUMMARY that this device forms now: from the Reports that are good, and predictions for the other cells (R469). -/
def State.formSummary (s : State) : Summary :=
  let u := (s.judgeReports s.tick).computeKeys
  { tick := s.tick, lanes := s.get Reg.PEL_STAT_LANEUP, leader := s.role == 1, blkArms := s.blockArms,
    elig := (List.range 6).map (fun a => (u.eligCells a).length), byp := (List.range 6).map (fun a => s.localBypassed a),
    meanKey := (List.range 6).map (fun a => (intOf ((u.meanKey a).getD 0)).toNat / 256),
    volts := (List.range 6).map (fun a => bitsOf 24 (u.sumVolts a)),
    worst := if s.get Reg.PEL_STAT_VER = 2 then s.worstClass else 0 }

/-- SUMMARY_SEND: at PEL_SUMOFS counts after tick start (R469). -/
def doSummarySend (s : State) : State :=
  if s.lanesRun = false ∨ s.cad.inTick = false then s
  else
    let s1 := s.reach (s.cad.tickStart + s.get Reg.PEL_SUMOFS_OFS)
    let m := s1.formSummary
    let arm (a : Nat) : List Nat := [m.elig.getD a 0, m.byp.getD a 0] ++ bytesOfNat (m.meanKey.getD a 0) 3 ++ bytesOfNat (m.volts.getD a 0) 3
    (s1.modDev s.ownIndex (fun x => { x with arrived := some m })).laneSend laneSummary
      ([m.lanes + (if m.leader then 4 else 0)] ++ bytesOfNat m.tick 4 ++ [m.blkArms, 0] ++ (List.range 6).flatMap arm ++ [m.worst])

def execSummarySend (s : State) : Host.Outcome State Fault Refusal := .next (doSummarySend s)

/-- A SUMMARY frame's contents. -/
def summaryOf (f : LineFrame) : Summary :=
  { tick := f.field 4 4, lanes := f.byte 3 % 4, leader := (f.byte 3).testBit 2, blkArms := f.byte 8,
    elig := (List.range 6).map (fun a => f.byte (10 + 8 * a)), byp := (List.range 6).map (fun a => f.byte (11 + 8 * a)),
    meanKey := (List.range 6).map (fun a => f.field (12 + 8 * a) 3), volts := (List.range 6).map (fun a => f.field (15 + 8 * a) 3),
    worst := f.byte 58 }

/-- SUMMARY_RECEIVED: stored for the next Acquire deadline; the arms that it names keep source 30 active; of a device not admitted it is
ignored (R469, R471, R474, R475). -/
def doSummaryReceived (l : Nat) (f : LineFrame) (s : State) : State :=
  let legal := decide (f.byte 3 < 8) && decide (f.byte 8 < 64) && f.byte 9 == 0 && f.byte 59 == 0
    && (if f.ver = 1 then f.byte 58 == 0 else decide (f.byte 58 < 5))
  let r := s.ringTake l f laneSummary legal
  let d := ringOrig f
  if r.2 = false ∨ s.bit Reg.PEL_STAT_ADMIT d = false then r.1
  else
    let m := summaryOf f
    r.1.modDev d (fun x => { x with arrived := some m, blkArms := m.blkArms })

def execSummaryReceived (lane : Fin 2) (f : LineFrame) (s : State) : Host.Outcome State Fault Refusal :=
  .next (doSummaryReceived lane.val f s)

/-- The summaries fixed at the Acquire deadline: one not of this tick is missing, and counts (R471); RING on the leader (R461). -/
def State.pelotonAcquire (s : State) : State :=
  if s.on Reg.PEL_CTRL_EN = false then s
  else
    let fix (s : State) (d : Nat) : State :=
      let x := s.pelDev d
      let whole : Bool := match x.arrived with
        | none => false
        | some m => m.tick == s.tick
      let s1 := s.modDev d (fun x => { x with summary := if x.arrived.isSome then x.arrived else x.summary })
      if d = s.ownIndex ∨ s.bit Reg.PEL_STAT_ADMIT d = false then s1
      else if whole then s1.set (missFld d) 0 else s1.count (missFld d) 1
    let s1 := (List.range 8).foldl fix s
    if s1.role = 1 then
      let others := (List.range 8).filter (fun d => s1.bit Reg.PEL_STAT_ADMIT d && d != s1.ownIndex)
      s1.setBool Reg.PEL_STAT_RING (s1.get Reg.PEL_STAT_LANEUP == 3 && others.all (fun d => match (s1.pelDev d).summary with
        | none => false
        | some m => m.lanes == 3))
    else s1

/-- DEVICE_UNHEARD: LOSSN summaries missing: HEARD clears, its cells count as lost, interrupt 15. Where it was the leader: LDRLOSS, source 89;
an election is due, until which its blocks stay active, or NOLEADER (R473, R475). -/
def doDeviceUnheard (d : Nat) (s : State) : State :=
  if s.heard d = false ∨ d = s.ownIndex ∨ s.get (missFld d) < s.get Reg.PEL_CTRL_LOSSN then s
  else
    let s1 := ((s.putBit Reg.PEL_STAT_HEARD d false).putBit Reg.PEL_STAT_ADMIT d false).irq 15
    let s2 := s1.modDev d (fun x => { x with
      summary := none, arrived := none, blkArms := 0, present := false, twin := false, hops := [], met := false })
    if s.role = 2 ∧ d = s.leader then
      let s3 := (((s2.modDev d (fun x => { x with blkArms := (s.pelDev d).blkArms })).count Reg.PEL_CNT_LDRLOSS 1).modPel (fun p => { p with leaderLost := true })).fault 89 0
      let s4 := if s3.get Reg.CAD_SYNC_SRC = 2 then s3.setSync 3 else s3
      if s4.on Reg.PEL_CTRL_ELECT && s4.majority then s4.modPel (fun p => { p with electDue := true }) else s4.noLeader
    else s2

def execDeviceUnheard (d : Fin 8) (s : State) : Host.Outcome State Fault Refusal := .next (doDeviceUnheard d.val s)

/-! ### GRID frames (R472) -/

/-- The leader's GRID frame, at its Acquire deadline: words 0x080 to 0x093 (R460, R472). -/
def State.sendGrid (s : State) : State :=
  if s.lanesRun && s.role == 1 then
    s.laneSend laneGrid ([0, 0, 0, 0, 0] ++ (List.range 20).flatMap (fun i => bytesOfNat (tblGet (0 : Word) s.cle.inMap (0x80 + i)).toNat 4))
  else s

/-- A word of the input map put. -/
def State.putGridWord (s : State) (a v : Nat) : State :=
  { s with cle := { s.cle with inMap := tblSet (0 : Word) s.cle.inMap a (BitVec.ofNat 32 v) } }

/-- GRID_FRAME_RECEIVED: on a follower the leader's words 0x080 to 0x093, with 0x094 to 0x0BF at 0; the first of a tick counts. Bytes 3 to 7 of the
frame, which carry nothing, are reserved (R460, R472). -/
def doGridFrameReceived (l : Nat) (f : LineFrame) (s : State) : State :=
  let r := s.ringTake l f laneGrid (f.field 3 5 == 0)
  if r.2 = false ∨ s.role ≠ 2 ∨ ringOrig f ≠ s.leader ∨ s.pel.gridTick = some s.tick then r.1
  else
    let s1 := (List.range 64).foldl (fun s i => s.putGridWord (0x80 + i) (if i < 20 then f.field (8 + 4 * i) 4 else 0)) r.1
    s1.exportWatch.modPel (fun p => { p with gridTick := some s.tick })

def execGridFrameReceived (lane : Fin 2) (f : LineFrame) (s : State) : Host.Outcome State Fault Refusal :=
  .next (doGridFrameReceived lane.val f s)

/-- At the Solve deadline a follower that has had no GRID frame of the tick advances θ by 2 × f_nom × ω × CAD_PERIOD half-turns; a frame later in
the tick is not taken (R472; DEDUCED, log 38). -/
def State.gridCoast (s : State) : State :=
  if s.lanesRun = false ∨ s.role ≠ 2 ∨ s.pel.gridTick = some s.tick then s
  else
    let th : Rat := mkRat (signedOf 32 (tblGet (0 : Word) s.cle.inMap 0x80).toNat) 0x80000000
    let w := puOf (tblGet (0 : Word) s.cle.inMap 0x81).toNat
    (s.putGridWord 0x80 (angleWord (th + s.advance w (s.get Reg.CAD_PERIOD_PERIOD)))).modPel (fun p => { p with gridTick := some s.tick })

/-! ### BLOCK frames (R474) -/

/-- PELOTON_BLOCK_FRAME: source 30 latches for its arms, active while its origin is heard; a frame that names none latches nothing (R474). -/
def doPelotonBlockFrame (l : Nat) (f : LineFrame) (s : State) : State :=
  let r := s.ringTake l f laneBlock (decide (f.byte 3 < 64))
  if r.2 = false then r.1
  else
    let s1 := if s.heard (ringOrig f) then r.1.modDev (ringOrig f) (fun x => { x with blkArms := x.blkArms ||| f.byte 3 }) else r.1
    if f.byte 3 = 0 then s1 else (s1.count Reg.PEL_CNT_BLKRX 1).tripLatch 30 (f.byte 3)

def execPelotonBlockFrame (lane : Fin 2) (f : LineFrame) (s : State) : Host.Outcome State Fault Refusal :=
  .next (doPelotonBlockFrame lane.val f s)

/-! ### SERVICE frames (R463, R464) -/

/-- HELLO of another device: a second device under its index shows by another part word, or by
another HOP on the same lane (DESIGN CHOICE, log 37). -/
def State.takeHello (s : State) (l hop d : Nat) (cand : Bool) (verMap part : Nat) : State :=
  let x := s.pelDev d
  let other : Bool := x.part != part || (match tblGet none x.hops l with | none => false | some h => h != hop)
  let s1 := s.modDev d (fun x => { x with
    present := true, cand := cand, verMap := verMap, part := part, twin := x.twin || (x.present && other)
    hops := tblSet none x.hops l (some hop) })
  s1.admission d

/-- An integrator-defined frame delivered to INQ; one that finds it full is dropped and counted among the discarded frames of its lane (R364,
R463; PEL_ERR). -/
def State.inbound (s : State) (l : Nat) (f : LineFrame) : State :=
  let n := f.byte 4
  let r := s.deliver (s.get Reg.PEL_SVC_Q_INQ) 9 (4 + n)
      ((ringOrig f + 256 * f.byte 3 + 65536 * n) :: wordsOfBytes ((List.range n).map (fun i => f.byte (6 + i))))
  if r.2 then r.1 else r.1.count (Reg.PEL_ERR_CODE l) 1

/-- PELOTON_SERVICE_FRAME: forwarded, and delivered where ALL is 1 or DEST is this device: HELLO and CONFIG with ADMISSION, an image request
answered while an accepted image runs, other types to INQ (R463 to R465, R513). An admitted device sends no HELLO, so that one under the
leader's own index is a second device's (R464, R465; DESIGN CHOICE, log 37). -/
def doPelotonServiceFrame (l : Nat) (f : LineFrame) (c : PelService) (s : State) : State :=
  let t := f.byte 3
  let legal := (t == 1 || t == 2 || t == 3 || decide (0x80 ≤ t)) && decide (f.byte 4 < 55) && decide (f.byte 5 < 16)
  let r := s.ringTake l f laneService legal
  let d := ringOrig f
  let own := d == s.ownIndex && t == 1 && s.role == 1 && s.bit Reg.PEL_STAT_ADMIT d && (s.ringSound l f laneService legal).2
  if own then r.1.refuseDevice d 2
  else if r.2 = false ∨ ((f.byte 5).testBit 3 = false ∧ f.byte 5 % 8 ≠ s.ownIndex) then r.1
  else match t, c with
    | 1, .hello cand verMap part => r.1.takeHello l (ringHop f) d cand verMap.toNat part.toNat
    | 2, .config k => ((r.1.modDev d (fun x => { x with config := some k })).leaderCapability).admission d
    | 3, _ => if s.boot.image.isSome then r.1.laneTell laneImage [d] else r.1
    | t, _ => if 0x80 ≤ t then r.1.inbound l f else r.1

def execPelotonServiceFrame (lane : Fin 2) (f : LineFrame) (c : PelService) (s : State) : Host.Outcome State Fault Refusal :=
  .next (doPelotonServiceFrame lane.val f c s)

/-- PELOTON_SERVICE_SEND: the head packet of OUTQ: sent, or discarded where its type or LEN is not one to send; it waits where a frame may not
start (R463). -/
def doPelotonServiceSend (s : State) : State :=
  if s.lanesRun = false ∨ s.serviceFits = false then s
  else match s.takePacket (s.get Reg.PEL_SVC_Q_OUTQ) 9 with
    | (s1, none) => s1
    | (s1, some (_, words)) =>
      let w := words.headD 0
      let t := w / 256 % 256
      let n := w / 65536 % 256
      if t < 0x80 ∨ 54 < n then s1
      else s1.laneSend laneService ([t, n, w % 16] ++ (bytesOfWords (words.drop 1)).take n)

def execPelotonServiceSend (s : State) : Host.Outcome State Fault Refusal := .next (doPelotonServiceSend s)

/-! ### Start, stop and registers (R475, R476) -/

/-- The lanes stop: nothing is heard or admitted any more. -/
def State.lanesStop (s : State) : State :=
  let s1 := [0, 1].foldl (fun s l => ((s.set (Reg.PEL_LANE_LSTATE l) 0).set (Reg.PEL_LANE_NVALID l) 0).laneFresh l) s
  let s2 := [Reg.PEL_STAT_HEARD, Reg.PEL_STAT_ADMIT, Reg.PEL_STAT_RING, Reg.PEL_STAT_LANEUP, Reg.PEL_STAT_VER, Reg.PEL_STAT_ROLE].foldl
    (fun s f => s.set f 0) s1
  let s3 := (List.range 8).foldl (fun s d => s.set (missFld d) 0) s2
  s3.modPel (fun p => { p with
    devs := [], seen := [], gridTick := none, noLeader := false, electDue := false, leaderLost := false, services := [], greeted := false })

/-- The lanes start: DOWN, until they see transitions (R459). -/
def State.lanesStart (s : State) : State :=
  if s.lanesRun then [0, 1].foldl (fun s l => s.set (Reg.PEL_LANE_LSTATE l) 1) s else s

/-- EN of PEL_CTRL put. -/
def State.pelEnable (s : State) (on : Bool) : State :=
  let s1 := s.setBool Reg.PEL_CTRL_EN on
  if on = s.on Reg.PEL_CTRL_EN then s1 else if on then s1.lanesStart else s1.lanesStop

/-- A write to PEL_CTRL, MEMBERS, ELECT and LDRSRC only while every arm is BLOCKED (R476). -/
def State.pelCtrl (s : State) (v : Nat) : State :=
  let addr := Reg.PEL_CTRL_EN.addr
  let part (f : Fld) : Nat := fieldPart f v
  let moved := [Reg.PEL_CTRL_MEMBERS, Reg.PEL_CTRL_ELECT, Reg.PEL_CTRL_LDRSRC].any (fun f => part f != s.get f)
  if wordAllowed addr v = false ∨ part Reg.PEL_CTRL_VERMAX < part Reg.PEL_CTRL_VERMIN ∨ (moved = true ∧ s.pulsesEnabled = true) then
    s.set Reg.PEL_STAT_CFGERR 1
  else
    let old := s.get Reg.PEL_CTRL_EN
    ((s.storeRW addr v).set Reg.PEL_CTRL_EN old).pelEnable (v.testBit 0)

/-- PEL_REGISTER_WRITE: a reserved value, or a write outside the rules, leaves the register and sets CFGERR; PEL_SUMOFS waits for its tick
start (R476). -/
def doPelRegisterWrite (offset v : Nat) (s : State) : State :=
  let addr := 0x400D0000 + offset
  if offset = 0 then s.pelCtrl v
  else if wordAllowed addr v = false then s.set Reg.PEL_STAT_CFGERR 1
  else if offset = 8 then (if s.running then s.await Reg.PEL_SUMOFS_OFS v else s.set Reg.PEL_SUMOFS_OFS v)
  else (s.clearOnes addr v).storeRW addr v

def execPelRegisterWrite (offset : Fin 16384) (v : Word) (s : State) : Host.Outcome State Fault Refusal :=
  .next (doPelRegisterWrite offset.val v.toNat s)

/-- PEL_ERR_READ: the read returns the register and clears its counters (R347). -/
def doPelErrRead (l : Nat) (s : State) : State :=
  [Reg.PEL_ERR_CRC l, Reg.PEL_ERR_CODE l, Reg.PEL_ERR_ALIGN l, Reg.PEL_ERR_ECHO l].foldl (fun s f => s.set f 0)
    (s.answer (s.storedWord (Reg.PEL_ERR_CRC l).addr))

def execPelErrRead (lane : Fin 2) (s : State) : Host.Outcome State Fault Refusal := .next (doPelErrRead lane.val s)

end Sys2Proof.Machine
end

