-- ==== Sys2Proof/Machine/Tricycle.lean ====
section
/-!
DEFINITION. The Tricycle (R286 to R309): the voter, outvotes and stop safe, resynchronisation, takeout and core test, the start-up voter
test, debug halts, Split mode, the device CSRs and the TRI registers.
-/

namespace Sys2Proof.Machine

/-- STATE of the cluster (TRI_STAT). -/
def State.cluster (s : State) : Nat := s.get Reg.TRI_STAT_STATE

/-- CSTAT of core `x`: 0 IN, 1 OUTVOTED, 2 TAKEN, 3 FAILED. -/
def cstatFld (x : Nat) : Fld := ⟨Reg.TRI_STAT_CSTAT_A.addr, 6 + 2 * x, 2⟩
def State.cstat (s : State) (x : Nat) : Nat := s.get (cstatFld x)

/-- The outvote counter of core `x` in TRI_CNT. -/
def outvotesFld (x : Nat) : Fld := ⟨Reg.TRI_CNT_OUTV_A.addr, 8 + 8 * x, 8⟩

/-- The cores in the vote. -/
def State.inVote (s : State) : List Nat := [0, 1, 2].filter (fun x => s.cstat x == 0)

/-- RSPEND shows a pending resynchronisation: one asked for, of a core that is not under test (R297, R301). -/
def State.showPending (s : State) : State :=
  s.setBool Reg.TRI_STAT_RSPEND ([0, 1, 2].any (fun x => (s.core x).rsAt.isSome && (s.core x).testSince.isNone))

/-! ### The voter (R293 to R295) -/

/-- The six output groups in their order (R293). -/
def busGroups (o : BusOut) : List Nat :=
  [o.fetchAddr.toNat, o.fetchCtl.toNat, o.dataAddr.toNat, o.writeData.toNat, o.dataCtl.toNat, o.side.toNat]

/-- The data control group asks for a write: request in bit 0, write in bit 1 (DESIGN CHOICE, log 29). -/
def busIsWrite (o : BusOut) : Bool := o.dataCtl.toNat.testBit 0 && o.dataCtl.toNat.testBit 1

/-- Bit 0 of the write data inverted (R386, checker 13). -/
def busFlipped (o : BusOut) : BusOut := { o with writeData := o.writeData ^^^ 1#32 }

/-- The lowest-numbered group that differs among outputs, and its lowest differing bit (R294). -/
def firstDifference (os : List BusOut) : Nat × Nat :=
  let diff (g : Nat) : Nat := (os.zip os.tail).foldl (fun m p => m ||| (((busGroups p.1).getD g 0) ^^^ ((busGroups p.2).getD g 0))) 0
  match (List.range 6).find? (fun g => diff g != 0) with
  | none => (0, 0)
  | some g => (g, ((List.range 32).find? (fun b => (diff g).testBit b)).getD 0)

/-- The first disagreement since VALID was cleared is recorded (R294). -/
def State.recordDisagreement (s : State) (os : List BusOut) (cores : Nat) : State :=
  if s.on Reg.TRI_DIS_INFO_VALID then s
  else
    let d := firstDifference os
    (((((s.set Reg.TRI_DIS_INFO_VALID 1).set Reg.TRI_DIS_INFO_CORES cores).set Reg.TRI_DIS_INFO_BUS d.1).set
      Reg.TRI_DIS_INFO_BIT d.2).set Reg.TRI_DIS_INFO_TICK s.tick).set64 Reg.TRI_DIS_TS_LO_TIME Reg.TRI_DIS_TS_HI_TIME s.now

/-- Stop safe: every core held in reset, STOPPED, a Fatal fault; a running core test is abandoned (R295, R302). -/
def State.stopSafe (s : State) : State :=
  let s1 := s.holdCores
  (({ s1 with tri := { s1.tri with stopSafe := true } } : State).set Reg.TRI_STAT_STATE 3).fault 54 0

/-- A core is outvoted: DUPLEX, the fault and interrupt 17; the RSLIM-th time within RSWIN sets it FAILED, else AUTORS asks for its
resynchronisation (R294, R297, R300). -/
def State.outvote (s : State) (x : Nat) : State :=
  let recent := ((s.core x).outvotes.filter (fun t => decide (s.now < t + 400000000 * s.get Reg.TRI_CTRL_RSWIN))) ++ [s.now]
  let failed := decide (s.get Reg.TRI_CTRL_RSLIM ≤ recent.length)
  let s1 := (((s.set (cstatFld x) (if failed then 3 else 1)).set Reg.TRI_STAT_STATE 2).count (outvotesFld x) 1).modCore x (fun c => { c with
    outvotes := recent, rsSoft := false, rsAt := if !failed && s.on Reg.TRI_CTRL_AUTORS then some s.now else none })
  ((s1.showPending).fault 53 x).irq 17

/-- A voted output leaves the cluster. -/
def State.passVoted (s : State) (o : BusOut) : State := ({ s with tri := { s.tri with voted := some o } } : State).emit (.voted o)

/-- CLUSTER_BUS_OUTPUT: the delayed outputs of the cores compared (R293 to R295). An armed voter injection inverts bit 0 of one core's write
data at the next write (R386). Split mode and a cluster in reset have no comparison. -/
def doClusterBusOutput (a b c : BusOut) (s : State) : State :=
  let st := s.cluster
  if (st ≠ 1 ∧ st ≠ 2) ∨ s.inKickstand = true then s
  else
    let inj (x : Nat) (o : BusOut) : Bool := st == 1 && busIsWrite o && s.injected 13 x
    let a' := if inj 0 a then busFlipped a else a
    let b' := if inj 1 b then busFlipped b else b
    let c' := if inj 2 c then busFlipped c else c
    let s0 := if inj 0 a || inj 1 b || inj 2 c then s.injectionDone else s
    if st = 1 then
      if a' = b' then
        if b' = c' then s0.passVoted a'
        else ((s0.passVoted a').recordDisagreement [a', c'] 4).outvote 2
      else if b' = c' then ((s0.passVoted b').recordDisagreement [a', b'] 1).outvote 0
      else if a' = c' then ((s0.passVoted a').recordDisagreement [a', b'] 2).outvote 1
      else (s0.recordDisagreement [a', b', c'] 7).stopSafe
    else
      let os := s0.inVote.map (fun x => if x = 0 then a' else if x = 1 then b' else c')
      match os with
      | o :: p :: _ =>
        if o = p then s0.passVoted o
        else (s0.recordDisagreement [o, p] (s0.inVote.foldl setBit 0)).stopSafe
      | _ => s0

def execClusterBusOutput (a b c : BusOut) (s : State) : Host.Outcome State Fault Refusal := .next (doClusterBusOutput a b c s)

/-! ### Resynchronisation (R297 to R299) -/

/-- RSREQ: software asks for the resynchronisation of a core that is OUTVOTED or TAKEN; one that AUTORS has made pending is then asked for
by software too (R297). -/
def doRsreq (x : Nat) (s : State) : State :=
  if s.cluster = 2 ∧ (s.cstat x = 1 ∨ s.cstat x = 2) then
    (s.modCore x (fun c => { c with rsAt := some (c.rsAt.getD s.now), rsSoft := true })).showPending
  else s

/-- AUTORS has changed: set, every OUTVOTED core's resynchronisation is pending; cleared, only those that RSREQ asked for are (R297). -/
def State.autoResync (s : State) : State :=
  if s.cluster ≠ 2 then s
  else ([0, 1, 2].foldl (fun s x =>
    if s.cstat x ≠ 1 then s
    else s.modCore x (fun c => { c with
      rsAt := if s.on Reg.TRI_CTRL_AUTORS then some (c.rsAt.getD s.now) else if c.rsSoft then c.rsAt else none })) s).showPending

def execRsreq (core : Fin 3) (s : State) : Host.Outcome State Fault Refusal := .next (doRsreq core.val s)

/-- The core whose resynchronisation is due: pending since before the present tick start, or with RUN 0; not under test, the cluster not
halted by debug (R297, R301). -/
def State.resyncTarget (s : State) : Option Nat :=
  if s.cluster ≠ 2 ∨ (s.on Reg.TRI_STAT_DBGHALT = true ∧ s.tri.stepped = false) then none
  else [0, 1, 2].find? (fun x => (s.cstat x == 1 || s.cstat x == 2) && (s.core x).testSince.isNone
    && (match (s.core x).rsAt with | none => false | some t => !s.running || decide (t ≤ s.cad.tickStart)))

/-- RESYNC_FREEZE: the state of the lower-lettered core in the vote is copied to the target and read back: verified, the target is IN and
the cluster TRIPLEX; else the target is FAILED and the cluster stays in DUPLEX (R297 to R299). A TAKEOUT due at the same tick start is
ignored (R302). -/
def doResyncFreeze (verified : Bool) (s : State) : State :=
  match s.resyncTarget, s.inVote with
  | some x, a :: _ =>
    let s0 := if s.running then s else s.reach ((s.now + 7999) / 8000 * 8000)
    let src := s0.core a
    let take := if s.running then s.tri.takeout.filter (fun p => decide (s.cad.tickStart < p.2)) else s.tri.takeout
    let s1 := ({ s0 with tri := { s0.tri with takeout := take, stepped := false } } : State).modCore x (fun c => { c with
      rsAt := none, rsSoft := false, priv := src.priv, irqen := src.irqen, irqpend := src.irqpend, words := src.words })
    if verified then
      ((((s1.set (cstatFld x) 0).set Reg.TRI_STAT_STATE 1).count Reg.TRI_CNT_RESYNC 1).showPending).irq 17
    else ((s1.set (cstatFld x) 3).showPending).fault 55 x
  | _, _ => s

def execResyncFreeze (verified : Bool) (s : State) : Host.Outcome State Fault Refusal := .next (doResyncFreeze verified s)

/-! ### Taking a core out (R301, R302) -/

/-- TAKEOUT: in TRIPLEX a core is named to leave the vote at the next tick start (R301). -/
def doTakeout (x : Nat) (s : State) : State :=
  if s.cluster = 1 then { s with tri := { s.tri with takeout := some (x, s.now) } } else s

def execTakeout (core : Fin 3) (s : State) : Host.Outcome State Fault Refusal := .next (doTakeout core.val s)

/-- TAKEOUT_EFFECT: at the tick start the named core is TAKEN and the cluster DUPLEX; with TEST 1 its self-test starts. Where an outvote
came first the TAKEOUT is ignored (R301, R302). -/
def doTakeoutEffect (s : State) : State :=
  match s.tri.takeout with
  | none => s
  | some (x, t) =>
    if s.running = false ∨ s.cad.tickStart < t then s
    else
      let s0 : State := { s with tri := { s.tri with takeout := none } }
      if s0.cluster ≠ 1 then s0
      else
        let s1 := (s0.set (cstatFld x) 2).set Reg.TRI_STAT_STATE 2
        if s1.on Reg.TRI_CTRL_TEST then (s1.set (lbistFld x) 1).modCore x (fun c => { c with testSince := some s1.now }) else s1

def execTakeoutEffect (s : State) : Host.Outcome State Fault Refusal := .next (doTakeoutEffect s)

/-- LBIST_COMPLETE: the self-test ends after 1.5 ms: a core that passes stays TAKEN; one that fails is FAILED, with a Recoverable fault;
interrupt 17. An RSREQ held during the test is pending from its end (R290, R297, R301). -/
def doLbistComplete (x : Nat) (passed : Bool) (s : State) : State :=
  match (s.core x).testSince with
  | none => s
  | some t =>
    let s0 := s.reach (t + 600000)
    let s1 := s0.modCore x (fun c => { c with testSince := none, rsAt := c.rsAt.map (fun _ => s0.now) })
    if passed then ((s1.showPending).set (lbistFld x) 2).irq 17
    else ((((s1.modCore x (fun c => { c with rsAt := none })).set (lbistFld x) 3).set (cstatFld x) 3).showPending.fault 56 x).irq 17

def execLbistComplete (core : Fin 3) (passed : Bool) (s : State) : Host.Outcome State Fault Refusal :=
  .next (doLbistComplete core.val passed s)

/-! ### Split mode (R308) -/

/-- The place of pc among the words of R298: after x1 to x31. -/
def pcPlace : Nat := 31

/-- Core `x` started at an entry address in Split mode; ignored in Voted mode (R308). -/
def State.startCore (s : State) (x entry : Nat) : State :=
  if s.cluster = 4 ∧ (s.core x).started = false then
    s.modCore x (fun c => { c with started := true, words := tblSet 0 c.words pcPlace (2 * entry) })
  else s

/-- GOB: core B starts at TRI_SPLIT_ENTRY_B (R308). -/
def doGob (s : State) : State := s.startCore 1 (s.get Reg.TRI_SPLIT_ENTRY_B_ENTRY)

def execGob (s : State) : Host.Outcome State Fault Refusal := .next (doGob s)

/-- GOC: core C starts at TRI_SPLIT_ENTRY_C (R308). -/
def doGoc (s : State) : State := s.startCore 2 (s.get Reg.TRI_SPLIT_ENTRY_C_ENTRY)

def execGoc (s : State) : Host.Outcome State Fault Refusal := .next (doGoc s)

/-! ### Release and the voter test (R303, R304, R309) -/

/-- Every core at its reset state; the TIME snapshots are Cadence's and stay (R289, R303). -/
def State.coresReset (s : State) : State :=
  [0, 1, 2].foldl (fun s x => s.modCore x (fun c => { timeSnap := c.timeSnap })) s

/-- The cluster enters reset and its voter test starts: every core at its reset state, HELD, results of the last release gone
(R303). -/
def State.startVoterTest (s : State) : State :=
  let s1 : State := { s with tri := { s.tri with takeout := none, voted := none, testing := some s.now } }
  let s2 := [0, 1, 2].foldl (fun s x => (s.set (cstatFld x) 0).set (lbistFld x) 0) s1.coresReset
  ((((((s2.set Reg.TRI_STAT_STATE 0).set Reg.TRI_STAT_DBGHALT 0).set Reg.TRI_STAT_RSPEND 0).set Reg.TRI_VTEST_DONE 0).set
    Reg.TRI_VTEST_PASS 0).set Reg.TRI_VTEST_STEP 0).set Reg.TRI_VTEST_BUS 0

/-- TRI_RESET: 0xA5 from the MGC or from BAR2: the cores are reset, FAILED cleared, and the voter test runs; the boot ROM then reloads the
control TCM (R309, R512). -/
def doTriReset (master : Nat) (s : State) : State :=
  if master = 3 ∨ master = 5 then
    let s1 := s.startVoterTest
    { s1 with tri := { s1.tri with reload := true } }
  else s

def execTriReset (master : Fin 32) (s : State) : Host.Outcome State Fault Refusal := .next (doTriReset master.val s)

/-- The group of a voter test step (R303). -/
def stepGroup (k : Nat) : Nat := if k < 18 then k / 3 else if k < 36 then (k - 18) / 3 else k - 36

/-- The cluster is released from the voter test, its cores reset again: TRI_MODE latches the staged mode; in Split mode core A runs, the connections close
(R303, R308, R391). -/
def State.releaseCluster (s : State) : State :=
  let split := s.tri.stagedMode == 2
  let s0 := s.coresReset
  let s1 : State := { s0 with tri := { s0.tri with testing := none, stopSafe := false, vtFailed := false } }
  let s2 := ((((s1.set Reg.TRI_VTEST_DONE 1).set Reg.TRI_VTEST_PASS 1).set Reg.TRI_MODE_MODE s.tri.stagedMode).setBool
    Reg.TRI_MODE_SAFEUNAV split).set Reg.TRI_STAT_STATE (if split then 4 else 1)
  let at_ (s : State) (x : Nat) : State := match s.tri.entry with
    | none => s
    | some e => s.modCore x (fun c => { c with words := tblSet 0 c.words pcPlace e })
  let s3a := (if split then [0] else [0, 1, 2]).foldl at_ (s2.modCore 0 (fun c => { c with started := true }))
  let s3 : State := { s3a with tri := { s3a.tri with
    entry := none, releasedAt := if s.tri.entry.isSome then s3a.now else s.tri.releasedAt } }
  if split then [0, 1, 2, 3].foldl (fun s c => if s.get (Reg.SAF_C_STAT_CSTATE c) = 0 then s else s.connClose c) s3
  else s3.reopen.safUpdate

/-- VOTER_TEST_COMPLETE: every step passed, and the cluster is released; or a step failed: VTFAIL, the step and its group, a Fatal fault, the
cores stay in reset and TRI_MODE as it was (R303, R304, R308). -/
def doVoterTestComplete (failed : Option (Fin 42)) (s : State) : State :=
  if s.tri.testing = none then s
  else match failed with
  | none => s.releaseCluster
  | some k =>
    let s0 := s.coresReset
    let s1 : State := { s0 with tri := { s0.tri with testing := none, vtFailed := true } }
    ((((s1.set Reg.TRI_VTEST_DONE 1).set Reg.TRI_VTEST_STEP k.val).set Reg.TRI_VTEST_BUS (stepGroup k.val)).set
      Reg.TRI_STAT_STATE 5).fault 57 k.val

def execVoterTestComplete (failed : Option (Fin 42)) (s : State) : Host.Outcome State Fault Refusal :=
  .next (doVoterTestComplete failed s)

/-! ### Debug (R305 to R307) -/

/-- The harts that a request on one hart reaches: all three cores in Voted mode, through hart 0; one core in Split mode (R306, R307). -/
def State.debugCores (s : State) (hart : Nat) : List Nat :=
  if s.cluster = 4 then (if (s.core hart).started then [hart] else [])
  else if (s.cluster = 1 ∨ s.cluster = 2) ∧ hart = 0 then [0, 1, 2] else []

/-- The cores of a request halted: those that run stop with the words their program left. -/
def State.haltCores (s : State) (cs : List Nat) : State :=
  match cs.filter (fun x => !(s.core x).halted) with
  | [] => cs.foldl (fun s x => s.modCore x (fun c => { c with haltHeld := false })) s
  | x :: xs => s.stopCores (x :: xs) 3

/-- DEBUG_HALT_REQUEST: taken at once with no arm ENABLED; with one ENABLED, held until every arm is BLOCKED, or with HALTRUN 1 taken at once
with a Serious fault. A closed port makes none (R305 to R307). -/
def doDebugHaltRequest (hart : Nat) (s : State) : State :=
  let cs := s.debugCores hart
  if s.on Reg.LCS_STATE_DBGOPEN = false ∨ cs.isEmpty = true then s
  else if s.pulsesEnabled && !s.on Reg.TRI_CTRL_HALTRUN then
    cs.foldl (fun s x => s.modCore x (fun c => { c with haltHeld := true })) s
  else
    let s1 := ((s.haltCores cs).set Reg.TRI_STAT_DBGHALT 1).freshHalt
    if s.pulsesEnabled then s1.fault 58 0 else s1

def execDebugHaltRequest (hart : Fin 3) (s : State) : Host.Outcome State Fault Refusal := .next (doDebugHaltRequest hart.val s)

/-! ### Device CSRs (R288, R289) -/

/-- The cores that share one bus master with core `x`: all in Voted mode. -/
def State.sameMaster (s : State) (x : Nat) : List Nat := if s.get Reg.TRI_MODE_MODE = 2 then [x] else [0, 1, 2]

/-- The master whose snapshot a core's time CSRs use: the cluster's, number 0, in Voted mode; its own in Split mode (R289, R340). -/
def State.csrMaster (s : State) (x : Nat) : Nat := if s.get Reg.TRI_MODE_MODE = 2 then x else 0

/-- A read of time takes the snapshot of TIME[63:32] of the CSR pair's own (R289). -/
def State.snapTime (s : State) (x : Nat) : State :=
  s.modCore (s.csrMaster x) (fun c => { c with timeSnap := s.now / 0x100000000 % 0x100000000 })

/-- TIME_CSR_READ: TIME[31:0], with the snapshot (R289). -/
def doTimeCsrRead (x : Nat) (s : State) : State := if s.inKickstand then s else (s.snapTime x).answer (s.now % 0x100000000)

def execTimeCsrRead (core : Fin 3) (s : State) : Host.Outcome State Fault Refusal := .next (doTimeCsrRead core.val s)

/-- TIMEH_CSR_READ: the snapshot (R289). -/
def doTimehCsrRead (x : Nat) (s : State) : State := if s.inKickstand then s else s.answer (s.core (s.csrMaster x)).timeSnap

def execTimehCsrRead (core : Fin 3) (s : State) : Host.Outcome State Fault Refusal := .next (doTimehCsrRead core.val s)

/-- TCIRQPEND_WRITE: bits written as 0 are cleared, unless an event of their source falls in the same cycle (R288). -/
def doTcirqpendWrite (x v events : Nat) (s : State) : State :=
  if s.inKickstand then s else (s.sameMaster x).foldl (fun s y => s.modCore y (fun c => { c with irqpend := ((c.irqpend &&& v) ||| events) % 0x40000 })) s

def execTcirqpendWrite (core : Fin 3) (v events : Word) (s : State) : Host.Outcome State Fault Refusal :=
  .next (doTcirqpendWrite core.val v.toNat events.toNat s)

/-! ### Registers (R309) -/

/-- A write to a TRI register: reserved values leave their field; TRI_CMD and TRI_RESET act (R309). -/
def State.triRegisterWrite (s : State) (master addr v : Nat) : State :=
  if addr = Reg.TRI_CMD_CORE.addr then
    if v % 4 = 3 then s
    else
      let s1 := if v.testBit 7 then doRsreq (v % 4) s else s
      let s2 := if v.testBit 6 then doTakeout (v % 4) s1 else s1
      let s3 := if v.testBit 8 then doGob s2 else s2
      if v.testBit 9 then doGoc s3 else s3
  else if addr = Reg.TRI_RESET_KEY.addr then (if v % 256 = 0xA5 then doTriReset master s else s)
  else if addr = Reg.TRI_CTRL_AUTORS.addr then
    let t := s.storeAllowed addr v
    if t.on Reg.TRI_CTRL_AUTORS = s.on Reg.TRI_CTRL_AUTORS then t else t.autoResync
  else if addr = Reg.TRI_CNT_RESYNC.addr ∧ s.cluster = 4 then s
  else (s.clearOnes addr v).storeAllowed addr v

/-! ### Exceptions of the cores (R286) -/

/-- The word of a core's state at its place in the list of R298. -/
def CoreState.word (c : CoreState) (k : Nat) : Nat := tblGet 0 c.words k

/-- The range of bytes of PMP entry `i` and its permissions (R286; the encodings of the privileged architecture, PRESUMED, log 158): OFF, TOR
and NAPOT; a granularity of 32 bytes has no NA4. -/
def CoreState.pmpRange (c : CoreState) (i : Nat) : Option (Nat × Nat × Nat) :=
  let cfg := c.word (48 + i / 4) / 2 ^ (8 * (i % 4)) % 256
  let a := c.word (52 + i)
  match cfg / 8 % 4 with
  | 1 => some (if i = 0 then 0 else c.word (51 + i) / 8 * 32, a / 8 * 32, cfg)
  | 3 =>
    let b := a ||| 3
    let n := ((List.range 32).find? (fun k => !b.testBit k)).getD 32
    some (b / 2 ^ n * 2 ^ n * 4, b / 2 ^ n * 2 ^ n * 4 + 8 * 2 ^ n, cfg)
  | _ => none

/-- PMP lets an access pass: the first entry that holds any of its bytes must hold all and permit it, in Machine mode if it is locked; with
no such entry only Machine mode passes (R286). -/
def CoreState.pmpLets (c : CoreState) (kind : AccessKind) (size a : Nat) : Bool :=
  let mode := if kind ≠ .fetch ∧ (c.word 32).testBit 17 then c.word 32 / 0x800 % 4 else c.priv
  let bit := match kind with
    | .read => 0
    | .write => 1
    | .fetch => 2
  match ((List.range 16).filterMap c.pmpRange).find? (fun r => decide (r.1 < a + size) && decide (a < r.2.1)) with
  | none => mode == 3
  | some (lo, hi, cfg) => decide (lo ≤ a) && decide (a + size ≤ hi) && ((mode == 3 && !cfg.testBit 7) || cfg.testBit bit)

/-- The exception an access of a core raises before it reaches the bus: misaligned, or a PMP violation (R286; the codes of the privileged
architecture, PRESUMED, log 158). -/
def State.coreStops (s : State) (x : Nat) (kind : AccessKind) (size a : Nat) : Option Nat :=
  let code := match kind with
    | .fetch => 0
    | .read => 4
    | .write => 6
  if kind ≠ .fetch ∧ a % size ≠ 0 then some code
  else if (s.core x).pmpLets kind size a = false then some (code + 1) else none

/-- The exception taken: mepc, mcause and mtval, MIE into MPIE, the mode into MPP, Machine mode, and pc at the base of mtvec; on the three
cores alike in Voted mode (R286, R287; PRESUMED, log 158). -/
def State.takeTrap (s : State) (x cause tval : Nat) : State :=
  (s.sameMaster x).foldl (fun s y => s.modCore y (fun c =>
    let st := c.word 32
    let st' := st - (st &&& 0x1888) + (if st.testBit 3 then 0x80 else 0) + 0x800 * c.priv
    let put (t : Tbl Nat) (p : Nat × Nat) : Tbl Nat := tblSet 0 t p.1 p.2
    { c with
      priv := 3
      words := [(40, c.word pcPlace), (41, cause), (42, tval), (32, st'), (pcPlace, c.word 38 / 4 * 4)].foldl put c.words })) s

end Sys2Proof.Machine
end

