-- ==== Sys2Proof/Machine/Power.lean ====
section
/-!
DEFINITION. Power, Kickstand, the always-on domain, the stores (R477 to R499, R509), and what a reset of the main domain leaves.
-/

namespace Sys2Proof.Machine

def State.modPwr (s : State) (f : PwrState → PwrState) : State := { s with pwr := f s.pwr }

/-- STATE of PWR_STAT (R483): 2 KICKSTAND, 3 RUN, 4 ENTERING, 5 EXITING. -/
def State.power (s : State) : Nat := s.get Reg.PWR_STAT_STATE

/-! ### Resets (R388, R480 to R482) -/

/-- The address of a register key. -/
def keyAddr (k : Nat) : Nat := k / 32

/-- A register that every reset of the main domain leaves as it is: the always-on PWR registers (R482), the Hamper's (R357), the straps
(R457, R500). -/
def keptAlways (k : Nat) : Bool :=
  (decide (0x40020000 ≤ keyAddr k) && decide (keyAddr k < 0x40030000) && keyAddr k != 0x40020004 && keyAddr k != 0x40020038)
    || keyAddr k == Reg.MEM_HAMPER_HSTATE.addr || k == Reg.PEL_STAT_INDEX.key || k == Reg.PEL_STAT_CAND.key || k == Reg.CLK_REF_XBYP.key

/-- A register that only power-on reset restores, beside those: PWR_STAT and PWR_TJ, CAD LOCK and HOLDLIM, the hard limits and their LOCK, the
escalation timers and their LOCK, SAF, the metering locks, LOCK of the lifecycle block; and REFOK and LOCK of the PLLs, which show what is (log 137) (R33, R241, R381, R401, R425, R430, R399). MTR_CTRL.CALLOCK stays, the LK
trims do not (DESIGN CHOICE, log 113). -/
def keptByDeviceReset (k : Nat) : Bool :=
  keptAlways k || keyAddr k == 0x40020004 || keyAddr k == 0x40020038
    || [Reg.CLK_REF_REFOK, Reg.CLK_PLL0_CFG_LOCK, Reg.CLK_PLL1_CFG_LOCK, Reg.CLK_PLL2_CFG_LOCK, Reg.CAD_CTRL_LOCK, Reg.CAD_CTRL_HOLDLIM, Reg.TRP_HL_LOCK_LOCK, Reg.FLT_CTRL_LOCK, Reg.FLT_ESC0_TMO_N, Reg.FLT_ESC1_TMO_R,
      Reg.FLT_ESC1_TMO_S, Reg.MTR_CTRL_CALLOCK, Reg.MTR_CTRL_TOTLOCK, Reg.LCS_CTRL_LOCK, Reg.SAF_STAT_STARTOK, Reg.SAF_STAT_SETUSE].any (fun f => f.key == k)
    || [Reg.TRP_HL_IARM_LIMIT, Reg.TRP_HL_VCELL_LIMIT, Reg.TRP_HL_PEXP_LIMIT, Reg.TRP_HL_VDC_VDCMAX, Reg.TRP_HL_DVDT_DVDT].any
      (fun f => f.addr == keyAddr k)
    || keyAddr k == Reg.TRP_HL_FREQ_FMAX.addr
    || (decide (0x40130000 ≤ keyAddr k) && decide (keyAddr k < 0x40130200) && keyAddr k != 0x40130004
      && !((List.range 4).any (fun c => keyAddr k == (Reg.SAF_C_STAT_SEQ c).addr || keyAddr k == (Reg.SAF_C_CNT_REJ c).addr
        || keyAddr k == (Reg.SAF_C_RX_PAYLOAD c).addr)))

/-- Bytes that a reset leaves: the Hamper's, and MRAM (R356, R358). -/
def keptByte (a : Nat) : Bool := (decide (0x12000000 ≤ a) && decide (a ≤ 0x1203FFFF)) || (decide (0x14000000 ≤ a) && decide (a ≤ 0x141FFFFF))

/-- The cells' ageing baselines, as MRAM holds them (R175). -/
def State.cellBases (s : State) : Tbl (Option (Rat × Rat)) :=
  (List.range 96).foldl (fun t c => match (tblGet {} s.cel.cells c).base with
    | none => t
    | some b => tblSet none t c (some b)) s.boot.record.bases

/-- Every lasting condition reports again in the first clock after a reset, every pair that is invalid too (R378, R388). -/
def State.relatch (s : State) : State :=
  let s1 := (List.range 256).foldl (fun s n => if s.faultWhile n then s.fault n (s.whileInfo n) else s) s
  (List.range 256).foldl (fun s n => if s.flt.railBad.contains n then s.railInvalid n else s) s1

/-- The debug port is open in a lifecycle state: by the state, or by a DEBUG token held (R521). -/
def debugOpen (state : Nat) (token : Bool) : Bool := state == 0 || state == 1 || state == 4 || ((state == 2 || state == 3) && token)

/-- The lifecycle registers show the records and tokens held, and the Hamper is closed by the state (R357, R518, R521; LCS_STATE, LCS_BOOT,
LCS_RBC, LCS_KEYS, LCS_SERIAL). -/
def State.lifeRegs (s : State) : State :=
  let r := s.boot.record
  let s1 := ((((s.set Reg.LCS_STATE_STATE r.state).setBool Reg.LCS_STATE_DBGOPEN (debugOpen r.state s.boot.debugToken)).setBool
    Reg.LCS_STATE_TOKENOK s.boot.returnToken).set Reg.LCS_KEYS_PRESENT r.present).set Reg.LCS_KEYS_REVOKED r.revoked
  let s2 := ((s1.set Reg.LCS_BOOT_PREF r.pref).setBool Reg.LCS_BOOT_TRIAL r.trial).set Reg.LCS_BOOT_ATTEMPTS r.attempts
  let s3 := (((s2.set Reg.LCS_RBC_COUNTER0 (r.counters.getD 0 0)).set Reg.LCS_RBC_COUNTER1 (r.counters.getD 1 0)).set
    Reg.LCS_RBC_COUNTER2 (r.counters.getD 2 0)).set Reg.LCS_RBC_COUNTER3 (r.counters.getD 3 0)
  let s4 := s3.set64 Reg.LCS_SERIAL_LO_SERIAL Reg.LCS_SERIAL_HI_SERIAL r.serial
  { s4 with memt := { s4.memt with hamperClosed := decide (4 ≤ r.state) } }

/-- Where the owner's key slots 1 to 3 stand in the lifecycle and identity region, 64 bytes each (DESIGN CHOICE, log 163). -/
def keySlots : Nat × Nat := (0x14000040, 0x14000100)

/-- A key slot written in DEV holds a key (R520). -/
def State.keyWritten (s : State) (m a : Nat) : State :=
  if m = 10 ∧ s.boot.record.state = 1 ∧ keySlots.1 ≤ a ∧ a < keySlots.2 then
    State.lifeRegs { s with boot := { s.boot with record := { s.boot.record with
      present := setBit s.boot.record.present ((a - 0x14000000) / 64) } } }
  else s

/-- The main domain reset: what a list of registers, MRAM, the Hamper and the always-on domain hold stays. -/
def State.restart (s : State) (keep : Nat → Bool) : State :=
  let r : State := {
    regs := s.regs.filter (fun e => keep e.1), mem := s.mem.filter (fun e => keptByte e.1),
    mtr := { lastCopy := s.mtr.lastCopy, saves := s.mtr.saves },
    pwr := s.pwr, boot := { record := { s.boot.record with bases := s.cellBases }, debugToken := s.boot.debugToken, returnToken := s.boot.returnToken },
    flt := { railBad := s.flt.railBad }
    bus := { readData := s.bus.readData }, out := s.out, free := s.free, pending := s.pending }
  r.lifeRegs.pinReset.relatch

/-- The host engine stalls while its clock, output 6, is stopped (R502, R507). -/
def State.stallFollow (s : State) : State := s.modPwr (fun p => { p with stalled := !s.on (Reg.CLK_OUT_ON 6) })

/-- The outputs of the PLLs that are locked run as their EN asks. -/
def State.lockedOutputs (s : State) : State :=
  ([(Reg.CLK_PLL0_CFG_LOCK, [0, 1, 2, 3]), (Reg.CLK_PLL1_CFG_LOCK, [4, 5]), (Reg.CLK_PLL2_CFG_LOCK, [6, 7])].foldl (fun s p =>
    if s.on p.1 then p.2.foldl (fun s m => s.set (Reg.CLK_OUT_ON m) (s.get (Reg.CLK_OUT_EN m))) s else s) s).stallFollow

/-- The main domain powered down (R481): it is at its reset state until it is powered again; the state is AON, or OFF without the Cup. -/
def State.mainDown (s : State) : State :=
  (s.modPwr (fun p => { p with
    main := .off, begun := false, thenEnter := false, exitFrom := none, stalled := false, pllLost := 0, railBad := 0 })).restart keptAlways

/-! ### The Jug (R494, R495, R499) -/

/-- JUGMODE as it acts: 0 without a Jug. -/
def State.jugMode (s : State) : Nat := if s.get Reg.PWR_JUG_CFG_CJUG = 0 then 0 else s.get Reg.PWR_CTRL_JUGMODE

/-- E_J is at least a threshold in 0.1 J. -/
def State.jugHas (s : State) (f : Fld) : Bool := decide (100 * s.get f ≤ s.get Reg.PWR_GAUGE_JUG_ENERGY)

/-! ### Entry into Kickstand (R484, R485) -/

/-- The entry proceeds: the save on entry and the exchange of the Spoke rate (R283, R435, R484). -/
def State.entryBegin (s : State) : State := (s.startSave.sendRate s.now true).modPwr (fun p => { p with begun := true })

/-- ENTERING: the entry waits until SAVEBUSY reads 0 (R484); a wake admitted in the clock of the entry is held (R488). -/
def State.enter (s : State) : State :=
  let s1 := (s.set Reg.PWR_STAT_STATE 4).modPwr (fun p => { p with
    begun := false, thenEnter := false, raised := if p.woken.1 = s.now then p.raised ||| p.woken.2 else p.raised })
  if s1.on Reg.MTR_STAT_SAVEBUSY then s1 else s1.entryBegin

/-- A forced entry: trip source 31 for every arm if one is ENABLED (R499). -/
def State.forcedEntry (s : State) : State := (if s.pulsesEnabled then s.tripLatch 31 63 else s).enter

/-- SAVE_COMPLETE, and an entry that waited for the save proceeds (R435, R484). -/
def execSaveComplete (s : State) : Host.Outcome State Fault Refusal :=
  .next (let s1 := doSaveComplete s
    if s.mtr.save.isSome && s1.power == 4 && !s1.pwr.begun then s1.entryBegin else s1)

/-- KSREQ: accepted in RUN with every arm BLOCKED, else KSREF (R484). An accepted one ends its clock: an enable request of that clock stands
before it (R488, log 15). -/
def doKsreq (s : State) : State := if s.power = 3 ∧ s.pulsesEnabled = false then s.enter.endClock else s.set Reg.PWR_STAT_KSREF 1

def execKsreq (s : State) : Host.Outcome State Fault Refusal := .next (doKsreq s)

/-- The cell voltages that a prediction starts from are forgotten: TICK of the Reports counts in another unit from now on (R278, R284). -/
def State.dropVolts (s : State) : State := (List.range 96).foldl (fun s p => s.modPort p (fun x => { x with goodV := [] })) s

/-- Everything that R485 shows as stopped stops: ticks and the CLE, sensing, metering, the station but KSPORT, the lanes, PLL2 with its outputs, the
local PWM outputs, the escalation timers. -/
def State.stopForKickstand (s : State) : State :=
  let s0 := (if s.cleRunning then s.cleDiscard s.now else s).dropVolts
  let s1 : State := { s0 with cad := { s0.cad with inTick := false, nextTick := none, stopAt := none } }
  let s2 := ((s1.set Reg.CAD_STAT_PHASE 0).meterStop.netKickstand).lanesStop.convertersStop
  let s3 := (((s2.set Reg.CLK_PLL2_CFG_LOCK 0).set (Reg.CLK_OUT_ON 6) 0).set (Reg.CLK_OUT_ON 7) 0).stallFollow
  let s4 : State := { s3 with flt := { s3.flt with frozenAt := some s3.now } }
  (List.range 6).foldl (fun s n => s.pwmApply n (32 * s.now) false) (s4.set Reg.PWR_STAT_STATE 2)

/-- A reset that ends in KICKSTAND: the links at their slow rate, and everything stopped (R284, R485). -/
def State.kickstandReset (s : State) : State :=
  ((List.range 96).foldl (fun s p => s.modPort p (fun x => { x with slow := true })) (s.set Reg.SPK_STAT_KS 1)).stopForKickstand

/-- What SAF keeps over a device reset beside its registers: the changes of limits that wait, the selection in use, and how long SAFE_EN has been
open since power-on reset; a selection that ends with the connections waits for its tick start (R399 to R401). -/
def State.safKept (s u : State) : State :=
  let s1 : State := { s with saf := { s.saf with
    changes := u.saf.changes.map (fun c => { c with time := s.now })
    openBefore := if u.on Reg.SAF_STAT_SENLVL then 0 else u.saf.openBefore + (u.now - u.saf.senSince) } }
  s1.selectionAfter (match s1.saf.changes.getLast? with | some c => c.select | none => s1.on Reg.SAF_STAT_SETUSE)

/-- A device reset (R303, R388, R524, R525). A PLL that is locked stays so and its outputs run; one that is not stays without. STATE stays, as
R483 gives no other transition: Kickstand lasts, with its timers frozen, and an entry or an exit begins anew (log 137). -/
def State.deviceReset (s : State) : State :=
  let s0 := ((s.restart keptByDeviceReset).modPwr (fun p => { p with begun := false, thenEnter := false, exitFrom := none })).lockedOutputs
  let s1 := (s0.safKept s).safUpdate
  if s1.power = 2 then s1.kickstandReset
  else if s1.power = 4 then s1.enter
  else if s1.power = 5 then s1.modPwr (fun p => { p with exitFrom := some s1.now })
  else s1

/-- KICKSTAND_ENTRY_COMPLETE: the save has finished and every port has changed rate or gone to DOWN (R484). -/
def doKickstandEntryComplete (s : State) : State :=
  if s.power = 4 ∧ s.pwr.begun = true ∧ s.on Reg.MTR_STAT_SAVEBUSY = false ∧ s.spk.rateTo = none ∧ s.spk.alignWait = 0 then
    s.stopForKickstand
  else s

def execKickstandEntryComplete (s : State) : Host.Outcome State Fault Refusal := .next (doKickstandEntryComplete s)

/-- KICKSTAND_ALIGN_TIMEOUT: a port not aligned within 10 ms of the rate change goes to DOWN, its cell declared lost (R283). -/
def doKickstandAlignTimeout (p : Nat) (s : State) : State :=
  if s.spk.alignWait.testBit p then
    let s1 := s.reach ((s.port p).rateSince + 10 * countsPerMs)
    let s2 : State := { s1 with spk := { s1.spk with alignWait := clearBit s1.spk.alignWait p } }
    (s2.declareLost p).linkDown p 1
  else s

def execKickstandAlignTimeout (port : Fin 96) (s : State) : Host.Outcome State Fault Refusal := .next (doKickstandAlignTimeout port.val s)

/-! ### Wakes and exit (R487, R488) -/

/-- A wake cause raised; one whose bit in PWR_WAKE is 0 is ignored. -/
def State.raiseWake (s : State) (c : Nat) : State :=
  if s.bit Reg.PWR_WAKE_WEN (c - 1) then s.modPwr (fun p => { p with raised := setBit p.raised (c - 1) }) else s

/-- The requests of the Hub (2), the station (3) and the host (4) turned into causes. -/
def State.collectWakes (s : State) : State :=
  let s1 := if s.spk.wakeReq then s.raiseWake 2 else s
  let s2 := if s.net.wakeReq then s1.raiseWake 3 else s1
  let s3 := if s.hst.wakeReq then s2.raiseWake 4 else s2
  { s3 with spk := { s3.spk with wakeReq := false }, net := { s3.net with wakeReq := false }, hst := { s3.hst with wakeReq := false } }

/-- A wake may be admitted: VAUX at or above 4.6 V, or JUGMODE 2 with JWAKE in the Jug. -/
def State.admits (s : State) : Bool := s.pwr.vauxHigh || (s.jugMode == 2 && s.jugHas Reg.PWR_JUG_LIM_JWAKE)

/-- EXITING begins: WAKECAUSE recorded, the exchange of the Spoke rate to 250 Mb/s 50 µs later (R487). -/
def State.exitBegin (s : State) (c : Nat) : State :=
  let s1 := ((s.set Reg.PWR_STAT_WAKECAUSE c).set Reg.PWR_STAT_STATE 5).modPwr (fun p => { p with exitFrom := some s.now })
  s1.dropVolts.sendRate (s.now + 20000) false

/-- WAKE: the lowest cause raised or waiting. Not admitted, it waits in PENDWAKE; admitted, it starts EXITING from KICKSTAND, or powers the
main domain from AON, from VAUX or from the Jug, towards KICKSTAND for every cause but VAUX. In ENTERING and EXITING it is held; in RUN it
has nothing to wake, and counts for an entry of that clock alone (R487, R488). -/
def doWake (s : State) : State :=
  let s1 := s.collectWakes
  let all := s1.pwr.raised ||| s1.get Reg.PWR_STAT_PENDWAKE
  match bitList 6 all with
  | [] => s1
  | c :: _ =>
    if s1.admits = false then (s1.set Reg.PWR_STAT_PENDWAKE all).modPwr (fun p => { p with raised := 0 })
    else
      let taken := (s1.set Reg.PWR_STAT_PENDWAKE 0).modPwr (fun p => { p with raised := 0 })
      if s1.pwr.main = .off then
        if s1.pwr.aon then taken.modPwr (fun p => { p with
          main := .starting, fromJug := !p.vauxHigh, toKickstand := c != 0, cause := c + 1 }) else s1
      else if s1.pwr.main = .starting then s1
      else if s1.power = 2 then taken.exitBegin (c + 1)
      else if s1.power = 3 then taken.modPwr (fun p => { p with woken := (s.now, all % 64) })
      else s1

def execWake (s : State) : Host.Outcome State Fault Refusal := .next (doWake s)

/-- Escalation timers run on after the time they stood (R388). -/
def State.thawTimers (s : State) : State :=
  match s.flt.frozenAt with
  | none => s
  | some t => { s with flt := { s.flt with
      frozenAt := none, timers := s.flt.timers.map (fun e => (e.1, { e.2 with start := e.2.start + (s.now - max t e.2.start) })) } }

/-- The first tick start from `least` on: with ALIGN 1 tick-aligned, else on the anchor grid (R37, R487). -/
def State.gridFrom (s : State) (least : Nat) : Nat :=
  let p := s.get Reg.CAD_PERIOD_PERIOD
  if s.aligns then s.alignedFrom least else s.cad.anchor + (least - s.cad.anchor + p - 1) / p * p

/-- KICKSTAND_EXIT_COMPLETE: the comparators judge again (R225), PLL2 and its outputs run, lanes start, timers run on; ticks resume at the first tick start on the anchor grid
100 µs after the wake, and STATE is RUN; an entry forced meanwhile follows. What R487 puts 50 µs after the wake is done here too (log 136)
(R487, R499). -/
def doKickstandExitComplete (s : State) : State :=
  match s.pwr.exitFrom with
  | none => s
  | some t =>
    if s.power ≠ 5 then s
    else
      let at_ := s.gridFrom (t + 40000)
      let s0 := (s.reach (if s.running then at_ else t + 40000)).set Reg.PWR_STAT_STATE 3
      let s1 : State := if s0.running then { s0 with cad := { s0.cad with nextTick := some at_ } } else s0
      let s2 := (s1.setBool Reg.CLK_PLL2_CFG_LOCK (s1.on Reg.CLK_PLL2_CFG_EN)).thawTimers.lanesStart
      let s3 := (s2.modPwr (fun p => { p with
        pllLost := if s1.on Reg.CLK_PLL2_CFG_EN then clearBit p.pllLost 2 else p.pllLost })).lockedOutputs
      let s4 := ((List.range 6).foldl (fun s n => s.pwmApply n (32 * s.now) (s.pwmAHigh n)) s3).comparatorJudgeAll
      let again := s4.pwr.thenEnter
      let s5 := s4.modPwr (fun p => { p with exitFrom := none, thenEnter := false })
      if again then s5.forcedEntry else s5

def execKickstandExitComplete (s : State) : Host.Outcome State Fault Refusal := .next (doKickstandExitComplete s)

/-! ### VAUX (R478, R480, R481, R497, R499) -/

/-- VAUX_RISE: VAUX reaches 4.6 V: SRC is VAUX; a device fed from the Jug is raised the VAUX wake; without main power it is powered up, once
the always-on domain runs, woken by VAUX where that domain ran already and WEN admits the cause (R480, R483, R487, R499). -/
def doVauxRise (s : State) : State :=
  let fed := s.on Reg.PWR_STAT_SRC
  let s1 := ((s.set Reg.PWR_STAT_VAUXOK 1).set Reg.PWR_STAT_SRC 0).modPwr (fun p => { p with vauxHigh := true })
  match s1.pwr.main with
  | .off => s1.modPwr (fun p => { p with
      main := .starting, fromJug := false, toKickstand := false, cause := if p.aon && s1.bit Reg.PWR_WAKE_WEN 0 then 1 else 0 })
  | .starting => (if s1.pwr.fromJug then s1.raiseWake 1 else s1).modPwr (fun p => { p with fromJug := false })
  | .on => if fed then s1.raiseWake 1 else s1

def execVauxRise (s : State) : Host.Outcome State Fault Refusal := .next (doVauxRise s)

/-- POWER_ON_RESET: the power-up ends: the main domain at its reset state, reference, PLLs and rails good, the read-back of a wiped Hamper and
the voter test running, the boot ROM next; a tamper met without power is reported; STATE is RUN, or KICKSTAND after a wake that ends there
(R357, R480, R487, R491). -/
def doPowerOnReset (s : State) : State :=
  if s.pwr.main ≠ .starting ∨ s.pwr.aon = false then s
  else
    let s1 := (s.modPwr (fun p => { p with
      main := .on, fromJug := false, toKickstand := false, tampered := false, tjSeen := false, cause := 0, pllLost := 0 })).restart
      keptAlways
    let s2 := State.lifeRegs { s1 with boot := { s1.boot with debugToken := false, returnToken := false } }
    let s3 := ((((s2.set Reg.CLK_REF_REFOK 1).set Reg.CLK_PLL0_CFG_LOCK 1).set Reg.CLK_PLL1_CFG_LOCK 1).set Reg.CLK_PLL2_CFG_LOCK 1).set
      Reg.PWR_STAT_RAILOK 15
    let s4 := (List.range 8).foldl (fun s m => s.set (Reg.CLK_OUT_ON m) (s.get (Reg.CLK_OUT_EN m))) s3
    let s5 := (((s4.setBool Reg.PWR_STAT_VAUXOK s.pwr.vauxHigh).setBool Reg.PWR_STAT_RPGON s.pwr.vauxHigh).setBool Reg.PWR_STAT_SRC
      s.pwr.fromJug).set Reg.PWR_STAT_WAKECAUSE s.pwr.cause
    let s6 := (if s.pwr.tampered then s5.fault 7 0 else s5).safUpdate
    if s.pwr.toKickstand then s6.kickstandReset else s6.stallFollow

def execPowerOnReset (s : State) : Host.Outcome State Fault Refusal := .next (doPowerOnReset s)

/-- VAUX_LOSS: VAUX falls below 4.2 V: by JUGMODE, STATE and E_J the Jug takes over, an entry being forced where R499 says so, or the main
domain goes down (R481, R499). -/
def doVauxLoss (s : State) : State :=
  let s1 := (s.set Reg.PWR_STAT_VAUXOK 0).modPwr (fun p => { p with vauxHigh := false })
  if s1.pwr.main = .off ∨ s1.on Reg.PWR_STAT_SRC = true then s1
  else if s1.pwr.main = .starting then s1.mainDown
  else
    let st := s1.power
    let enough := if st = 2 then s1.jugHas Reg.PWR_JUG_KS_JKSMIN else s1.jugHas Reg.PWR_JUG_LIM_JRUNMIN
    if s1.jugMode = 0 ∨ enough = false then s1.mainDown
    else
      let s2 := s1.set Reg.PWR_STAT_SRC 1
      if s1.jugMode = 1 ∧ st = 3 then s2.forcedEntry
      else if s1.jugMode = 1 ∧ st = 5 then s2.modPwr (fun p => { p with thenEnter := true })
      else s2

def execVauxLoss (s : State) : Host.Outcome State Fault Refusal := .next (doVauxLoss s)

/-- EARLY_WARNING: VAUX below EWTH for 10 µs: EW and EWACT, source 4, the metering save, a notice to the MGC (R497). -/
def doEarlyWarning (s : State) : State :=
  if s.pwr.main ≠ .on then s else ((((s.set Reg.PWR_STAT_EW 1).set Reg.PWR_STAT_EWACT 1).fault 4 0).startSave).notice noticePower 0

def execEarlyWarning (s : State) : Host.Outcome State Fault Refusal := .next (doEarlyWarning s)

/-- EARLY_WARNING_CLEAR: VAUX above EWTH + EWHYS for 1 ms (R497). -/
def doEarlyWarningClear (s : State) : State := if s.pwr.main ≠ .on then s else s.set Reg.PWR_STAT_EWACT 0

def execEarlyWarningClear (s : State) : Host.Outcome State Fault Refusal := .next (doEarlyWarningClear s)

/-- JUG_THRESHOLD_CROSSED: on the Jug, E_J below JRUNMIN in RUN forces entry; below JKSMIN in KICKSTAND the main domain goes down (R499). -/
def doJugThresholdCrossed (s : State) : State :=
  if s.on Reg.PWR_STAT_SRC = false then s
  else if s.power = 3 ∧ s.jugHas Reg.PWR_JUG_LIM_JRUNMIN = false then s.forcedEntry
  else if s.power = 2 ∧ s.jugHas Reg.PWR_JUG_KS_JKSMIN = false then s.mainDown
  else s

def execJugThresholdCrossed (s : State) : Host.Outcome State Fault Refusal := .next (doJugThresholdCrossed s)

/-- REVERSE_CURRENT: RPG is pulled to VIN_S (R478). -/
def doReverseCurrent (s : State) : State := s.set Reg.PWR_STAT_RPGON 0

def execReverseCurrent (s : State) : Host.Outcome State Fault Refusal := .next (doReverseCurrent s)

/-- SUPPLY_RETURN: VIN_S is positive again: RPG is driven (R478). -/
def doSupplyReturn (s : State) : State := s.set Reg.PWR_STAT_RPGON 1

def execSupplyReturn (s : State) : Host.Outcome State Fault Refusal := .next (doSupplyReturn s)

/-- RAIL_OUT_OF_BAND, while the main domain runs: a rail has left its band for 2 µs, reported by source 5 while it stays out, or is good again (R479). -/
def doRailOutOfBand (r : Nat) (out : Bool) (s : State) : State :=
  if s.pwr.main ≠ .on then s
  else
  let s1 := (s.putBit Reg.PWR_STAT_RAILOK r (!out)).modPwr (fun p => { p with railBad := Sys2Proof.putBit p.railBad r out })
  if out then s1.fault 5 r else s1

def execRailOutOfBand (rail : Fin 4) (out : Bool) (s : State) : Host.Outcome State Fault Refusal := .next (doRailOutOfBand rail.val out s)

/-! ### The always-on domain (R483, R489 to R496) -/

/-- The always-on registers at their reset values: those that R482 names. -/
def State.aonReset (s : State) : State :=
  { s with regs := s.regs.filter (fun e => !(decide (0x40020000 ≤ keyAddr e.1) && decide (keyAddr e.1 < 0x40030000)
      && keyAddr e.1 != 0x40020004 && keyAddr e.1 != 0x40020038)) }

/-- CUP_THRESHOLD_CROSSED: at 2.2 V the always-on domain leaves reset, the Hamper wiped with cause 3, its first wipe, and the RTC at 0; below 1.8 V it is off,
and the main domain with it (R356, R483, R490). -/
def doCupThresholdCrossed (above : Bool) (s : State) : State :=
  if above then
    if s.pwr.aon then s
    else ((s.aonReset.modPwr (fun p => { p with aon := true, opens := (0, 0), tampered := false, raised := 0, cups := [], jugs := [] })).set Reg.MEM_HAMPER_WIPECNT 0).wipeHamper 3
  else if s.pwr.aon = false then s
  else (if s.pwr.main = .off then s else s.mainDown).aonReset.modPwr (fun p => { p with aon := false })

def execCupThresholdCrossed (above : Bool) (s : State) : Host.Outcome State Fault Refusal := .next (doCupThresholdCrossed above s)

/-- Usable energy ½ C (V² − V_floor²) in units where it is k × (V² − floor²) / 10⁶ with V in mV; 0 below the floor (R495, log 7). -/
def usable (k floor mv : Nat) : Nat :=
  if mv ≤ floor then 0 else (intOf (mkRat ((k * (mv * mv - floor * floor) : Nat) : Int) 1000000)).toNat

/-- A trend: the change over the last ten measurements, one second, in units of ten of the energy's, saturating. Before ten, against the
oldest (DESIGN CHOICE, log 39). -/
def trendOf (w : Nat) (now : Nat) (past : List Nat) : Nat :=
  let d := intOf (mkRat ((now : Int) - (past.getLast?.getD now)) 10)
  bitsOf w (clampInt d (-(2 ^ (w - 1))) (2 ^ (w - 1) - 1))

/-- GAUGE_MEASUREMENT: every 100 ms: energy and trend of each store from its voltage in mV (R495). -/
def doGaugeMeasurement (cupMv jugMv : Nat) (s : State) : State :=
  let s0 := if s.pwr.main = .on then s.reach (s.pwr.gaugeAt + 40000000) else s
  let cup := min 0xFFFF (usable 50 1800 cupMv)
  let jug := min 0xFFFFF (usable (5 * s0.get Reg.PWR_JUG_CFG_CJUG) 2000 jugMv)
  let s1 := (s0.set Reg.PWR_GAUGE_CUP_ENERGY cup).set Reg.PWR_GAUGE_CUP_TREND (trendOf 16 cup s0.pwr.cups)
  let s2 := (s1.set Reg.PWR_GAUGE_JUG_ENERGY jug).set Reg.PWR_GAUGE_JUG_TREND (trendOf 12 jug s0.pwr.jugs)
  s2.modPwr (fun p => { p with cups := (cup :: p.cups).take 10, jugs := (jug :: p.jugs).take 10, gaugeAt := s2.now })

def execGaugeMeasurement (cupMv jugMv : Nat) (s : State) : Host.Outcome State Fault Refusal := .next (doGaugeMeasurement cupMv jugMv s)

/-- JUG_CAPACITANCE_MEASURED: ICHG × Δt / ΔV posted in 0.01 F, with VALID (R496). ICHG is in 10 mA, Δt in ms, ΔV in mV. -/
def doJugCapacitanceMeasured (ms mv : Nat) (s : State) : State :=
  let c := if mv = 0 then Config.outOfRange 0 else intOf (mkRat ((s.get Reg.PWR_JUG_CFG_ICHG * ms : Nat) : Int) mv)
  (s.setInt Reg.PWR_JUG_CMEAS_C (if 0 ≤ c ∧ c < 0x10000 then c else Config.outOfRange c)).set Reg.PWR_JUG_CMEAS_VALID 1

def execJugCapacitanceMeasured (ms mv : Nat) (s : State) : Host.Outcome State Fault Refusal := .next (doJugCapacitanceMeasured ms mv s)

/-- RTC_SECOND: one second counted; the alarm's second raises the RTC wake (R490). -/
def doRtcSecond (s : State) : State :=
  if s.pwr.aon = false then s
  else
    let n := (s.get Reg.PWR_RTC_SECONDS + 1) % 0x100000000
    let s1 := s.set Reg.PWR_RTC_SECONDS n
    if s.get Reg.PWR_RTC_ALARM_SECONDS ≠ 0 ∧ s.get Reg.PWR_RTC_ALARM_SECONDS = n then s1.raiseWake 5 else s1

def execRtcSecond (s : State) : Host.Outcome State Fault Refusal := .next (doRtcSecond s)

/-- PWR_RTC_WRITE: the RTC set; a passed alarm is not raised (R490). -/
def doPwrRtcWrite (v : Nat) (s : State) : State := s.set Reg.PWR_RTC_SECONDS v

def execPwrRtcWrite (v : Word) (s : State) : Host.Outcome State Fault Refusal := .next (doPwrRtcWrite v.toNat s)

/-- A tamper: the Hamper wiped with cause 1, the tamper wake, and source 7, at once or when the main domain is powered (R491). -/
def State.tamper (s : State) : State :=
  let s1 := (s.wipeHamper 1).raiseWake 6
  if s1.pwr.main = .on then s1.fault 7 0 else s1.modPwr (fun p => { p with tampered := true })

/-- TAMPER_SAMPLE: every 1 ms; an enabled input open at two consecutive samples is a tamper (R491). -/
def doTamperSample (opens : Nat) (s : State) : State :=
  if s.pwr.aon = false then s
  else
    let run (k n : Nat) : Nat := if opens.testBit k && s.bit Reg.PWR_TAMP_EN k then min 3 (n + 1) else 0
    let a := run 0 s.pwr.opens.1
    let b := run 1 s.pwr.opens.2
    let s1 := (s.set Reg.PWR_TAMP_OPEN opens).modPwr (fun p => { p with opens := (a, b) })
    if a = 2 ∨ b = 2 then s1.tamper else s1

def execTamperSample (opens : BitVec 2) (s : State) : Host.Outcome State Fault Refusal := .next (doTamperSample opens.toNat s)

/-! ### Registers (R509) -/

/-- PWR_REGISTER_WRITE: a reserved value, JKSMIN above JRUNMIN or JRUNMIN above JWAKE leaves the register; KSREQ acts; with CJUG 0 the gauge of the
Jug reads 0 (R494); a tamper input is not
disabled once LOCK of the lifecycle block is set (R491, R509). -/
def doPwrRegisterWrite (offset v : Nat) (s : State) : State :=
  let addr := 0x40020000 + offset
  let low := v % 65536
  if offset = 4 then s.clearOnes addr v
  else if wordAllowed addr v = false then s
  else if offset = 0x1C ∧ (v / 65536 < low ∨ low < s.get Reg.PWR_JUG_KS_JKSMIN) then s
  else if offset = 0x20 ∧ s.get Reg.PWR_JUG_LIM_JRUNMIN < low then s
  else if offset = 0x34 then s.set Reg.PWR_TAMP_EN (if s.on Reg.LCS_CTRL_LOCK then s.get Reg.PWR_TAMP_EN ||| (v % 4) else v % 4)
  else if offset = 0 then
    let s1 := s.storeRW addr v
    if v.testBit 8 then doKsreq s1 else s1
  else if offset = 0x18 ∧ (s.storeRW addr v).get Reg.PWR_JUG_CFG_CJUG = 0 then
    (((s.storeRW addr v).set Reg.PWR_GAUGE_JUG_ENERGY 0).set Reg.PWR_GAUGE_JUG_TREND 0).modPwr (fun p => { p with jugs := [] })
  else s.storeRW addr v

def execPwrRegisterWrite (offset : Fin 16384) (v : Word) (s : State) : Host.Outcome State Fault Refusal :=
  .next (doPwrRegisterWrite offset.val v.toNat s)

end Sys2Proof.Machine
end

