-- ==== Sys2Proof/Machine/Clocks.lean ====
section
/-!
DEFINITION. The PLLs, the clock outputs and the junction temperature (R500 to R508, R510).
-/

namespace Sys2Proof.Machine

/-! ### Lock (R506) -/

/-- LOCK and EN of a PLL. -/
def pllLockFld (n : Nat) : Fld := if n = 0 then Reg.CLK_PLL0_CFG_LOCK else if n = 1 then Reg.CLK_PLL1_CFG_LOCK else Reg.CLK_PLL2_CFG_LOCK
def pllEnFld (n : Nat) : Fld := if n = 0 then Reg.CLK_PLL0_CFG_EN else if n = 1 then Reg.CLK_PLL1_CFG_EN else Reg.CLK_PLL2_CFG_EN

/-- The outputs that a PLL feeds (R502). -/
def pllOutputs (n : Nat) : List Nat := if n = 0 then [0, 1, 2, 3] else if n = 1 then [4, 5] else [6, 7]

/-- The outputs of a PLL stop low. -/
def State.outputsStop (s : State) (n : Nat) : State :=
  let s1 := ((pllOutputs n).foldl (fun s m => s.set (Reg.CLK_OUT_ON m) 0) s).set (pllLockFld n) 0
  if n = 2 then s1.stallFollow else s1

/-- The outputs of a PLL that has locked run as their EN asks. -/
def State.outputsRun (s : State) (n : Nat) : State :=
  let s1 := ((pllOutputs n).foldl (fun s m => s.set (Reg.CLK_OUT_ON m) (s.get (Reg.CLK_OUT_EN m))) s).set (pllLockFld n) 1
  if n = 2 then s1.stallFollow else s1

/-- PLL2 is stopped for Kickstand (R485). -/
def State.pllIdle (s : State) (n : Nat) : Bool := n == 2 && (s.power == 2 || s.power == 5)

/-- PLL_LOCK_LOSS: UNLOCK, LOSS counted, the outputs stopped; PLL0: fault source 2; the others: source 3 until lock returns (R506). -/
def doPllLockLoss (n : Nat) (s : State) : State :=
  if s.pwr.main ≠ .on ∨ s.on (pllEnFld n) = false ∨ s.pwr.pllLost.testBit n = true ∨ s.pllIdle n = true then s
  else
    let s1 := (((s.outputsStop n).set (Reg.CLK_PLL_STAT_UNLOCK n) 1).count (Reg.CLK_PLL_STAT_LOSS n) 1).modPwr (fun p => { p with
      pllLost := setBit p.pllLost n })
    if n = 0 then s1.fault 2 0 else s1.fault 3 n

def execPllLockLoss (pll : Fin 3) (s : State) : Host.Outcome State Fault Refusal := .next (doPllLockLoss pll.val s)

/-- PLL_RELOCK: a PLL without lock locks and its outputs run again; the delay lines start their calibration over with the timebase PLL
(R207, R506). -/
def doPllRelock (n : Nat) (s : State) : State :=
  if s.pwr.main ≠ .on ∨ s.on (pllEnFld n) = false ∨ s.on (pllLockFld n) = true ∨ s.pllIdle n = true then s
  else
    let s1 := (s.outputsRun n).modPwr (fun p => { p with pllLost := clearBit p.pllLost n })
    if n = 0 then State.set { s1 with dl := { s1.dl with done := 0 } } Reg.EDG_STAT_DLRDY 0 else s1

def execPllRelock (pll : Fin 3) (s : State) : Host.Outcome State Fault Refusal := .next (doPllRelock pll.val s)

/-! ### PLL2 and the outputs (R501 to R503, R507, R510) -/

/-- The VCO of a PLL in 0.5 MHz: 25, 50 or 100 half-megahertz times N (R501). -/
def vcoHalfMHz (refsel n : Nat) : Nat := 25 * 2 ^ refsel * n

/-- PLL2's VCO as its register stands. -/
def State.vco2 (s : State) : Nat := vcoHalfMHz (s.get Reg.CLK_PLL2_CFG_REFSEL) (s.get Reg.CLK_PLL2_CFG_N)

/-- Output `m` of PLL2 with divider `div` stays within its frequency: 1.0 GHz for output 6, 200 MHz for output 7 (R507). -/
def outputAllowed (vco m div : Nat) : Bool := decide (vco ≤ div * (if m = 6 then 2000 else 400))

/-- The depth is within the limit of its spread mode (R503, R507). -/
def depthAllowed (ssc depth : Nat) : Bool :=
  match ssc with
  | 0 => true
  | 1 => decide (depth ≤ 40)
  | 2 => decide (depth ≤ 20)
  | _ => false

/-- CLK_PLL2_CFG_WRITE: refused with CFGERR for a reserved value, a VCO outside 3.2 to 6.4 GHz, an output above its frequency or a depth above
its limit; else stored, and with EN 1 PLL2 loses its lock until it relocks, with EN 0 it is off (R507). -/
def doClkPll2CfgWrite (v : Nat) (s : State) : State :=
  let part (f : Fld) : Nat := (v >>> f.lo) % 2 ^ f.width
  let refsel := part Reg.CLK_PLL2_CFG_REFSEL
  let n := part Reg.CLK_PLL2_CFG_N
  let ssc := part Reg.CLK_PLL2_CFG_SSC
  let depth := part Reg.CLK_PLL2_CFG_DEPTH
  let vco := vcoHalfMHz refsel n
  let good := decide (refsel < 3) && decide (64 ≤ n) && depthAllowed ssc depth && decide (6400 ≤ vco) && decide (vco ≤ 12800)
    && outputAllowed vco 6 (s.get (Reg.CLK_OUT_DIV 6)) && outputAllowed vco 7 (s.get (Reg.CLK_OUT_DIV 7))
  if good = false then s.set Reg.CLK_REF_CFGERR 1
  else
    let s1 := (((s.set Reg.CLK_PLL2_CFG_EN (part Reg.CLK_PLL2_CFG_EN)).set Reg.CLK_PLL2_CFG_REFSEL refsel).set Reg.CLK_PLL2_CFG_N n).set
      Reg.CLK_PLL2_CFG_SSC ssc
    ((s1.set Reg.CLK_PLL2_CFG_DEPTH depth).outputsStop 2).modPwr (fun p => { p with pllLost := clearBit p.pllLost 2 })

def execClkPll2CfgWrite (v : Word) (s : State) : Host.Outcome State Fault Refusal := .next (doClkPll2CfgWrite v.toNat s)

/-- CLK_OUT_WRITE: outputs 0 and 1 take no write; 2 to 5 take EN and DLY; 6 and 7 DIV too, within its range and the output's frequency, else
the write is refused with CFGERR (R502, R507, R510). -/
def doClkOutWrite (m v : Nat) (s : State) : State :=
  let part (f : Fld) : Nat := (v >>> f.lo) % 2 ^ f.width
  let div := part (Reg.CLK_OUT_DIV m)
  if m < 2 then s
  else if 6 ≤ m ∧ (div < (if m = 6 then 4 else 20) ∨ outputAllowed s.vco2 m div = false) then s.set Reg.CLK_REF_CFGERR 1
  else
    let s1 := (s.set (Reg.CLK_OUT_EN m) (part (Reg.CLK_OUT_EN m))).set (Reg.CLK_OUT_DLY m) (part (Reg.CLK_OUT_DLY m))
    let s2 := if 6 ≤ m then s1.set (Reg.CLK_OUT_DIV m) div else s1
    let n := if m < 4 then 0 else if m < 6 then 1 else 2
    let s3 := if s2.on (pllLockFld n) then s2.set (Reg.CLK_OUT_ON m) (s2.get (Reg.CLK_OUT_EN m)) else s2
    if m = 6 then s3.stallFollow else s3

def execClkOutWrite (output : Fin 8) (v : Word) (s : State) : Host.Outcome State Fault Refusal := .next (doClkOutWrite output.val v.toNat s)

/-- CLK_PLL_STAT_READ: UNLOCK and LOSS; LOSS is cleared by the read (R347). -/
def doClkPllStatRead (n : Nat) (s : State) : State :=
  (s.set (Reg.CLK_PLL_STAT_LOSS n) 0).answer (s.get (Reg.CLK_PLL_STAT_UNLOCK n) * 256 + s.get (Reg.CLK_PLL_STAT_LOSS n))

def execClkPllStatRead (pll : Fin 3) (s : State) : Host.Outcome State Fault Refusal := .next (doClkPllStatRead pll.val s)

/-- A write to a CLK register without a row of its own: W1C fields; the configuration of PLL0 and PLL1 takes none (R510). -/
def State.clkRegisterWrite (s : State) (addr v : Nat) : State := s.clearOnes addr v

/-! ### Junction temperature (R508) -/

/-- JUNCTION_TEMPERATURE_SAMPLE: TJ and the highest value since power-on reset; above 125 °C fault source 6 (R508). -/
def doJunctionTemperatureSample (v : Nat) (s : State) : State :=
  if s.pwr.main ≠ .on then s
  else
  let s1 := s.set Reg.PWR_TJ_TJ v
  let higher := !s.pwr.tjSeen || decide (signedOf 16 (s.get Reg.PWR_TJ_MAX) < signedOf 16 v)
  let s2 := (if higher then s1.set Reg.PWR_TJ_MAX v else s1).modPwr (fun p => { p with tjSeen := true })
  if 1250 < signedOf 16 v then s2.fault 6 0 else s2

def execJunctionTemperatureSample (tenths : BitVec 16) (s : State) : Host.Outcome State Fault Refusal :=
  .next (doJunctionTemperatureSample tenths.toNat s)

end Sys2Proof.Machine
end

