-- ==== Sys2Proof/Machine/Boot.lean ====
section
/-!
DEFINITION. Boot, images, lifecycle and ageing (R511 to R529).
-/

namespace Sys2Proof.Machine

def State.modBoot (s : State) (f : BootState → BootState) : State := { s with boot := f s.boot }

/-- The lifecycle record, boot record, keys and plan levels written, and shown (R518). -/
def State.modRecord (s : State) (f : LifeRecord → LifeRecord) : State := (s.modBoot (fun b => { b with record := f b.record })).lifeRegs

/-! ### The image (R514, R515) -/

/-- A little-endian field of an image's bytes. Bytes that the source does not hold read 0 (DESIGN CHOICE, log 41). -/
def imgField (b : List Nat) (i n : Nat) : Nat := leField b i n

/-- A segment entry (R515), its reserved bytes, and whether it is all 0. -/
structure Segment where
  target : Nat
  load : Nat
  offset : Nat
  len : Nat
  spare : Nat
  empty : Bool

def segment (b : List Nat) (k : Nat) : Segment :=
  let at_ := 64 + 64 * k
  { target := imgField b at_ 1, load := imgField b (at_ + 4) 4, offset := imgField b (at_ + 8) 4, len := imgField b (at_ + 12) 4,
    spare := imgField b (at_ + 1) 3, empty := ((b.drop at_).take 64).all (fun x => x == 0) }

def imgNseg (b : List Nat) : Nat := imgField b 6 1
def imgLength (b : List Nat) : Nat := imgField b 8 4
def imgFmt (b : List Nat) : Nat := imgField b 4 1
def imgFlags (b : List Nat) : Nat := imgField b 5 1
def imgSvn (b : List Nat) : Nat := imgField b 15 1
def imgSerial (b : List Nat) : Nat := imgField b 16 8
def imgMode (b : List Nat) : Nat := imgField b 25 1
def imgRefsel (b : List Nat) : Nat := imgField b 26 1
def imgSsc (b : List Nat) : Nat := imgField b 27 1
def imgSegments (b : List Nat) : List Segment := (List.range (imgNseg b)).map (segment b)

/-- The first and the past-the-end unit of a target, and the bytes of one unit (R515). -/
def targetRange (t : Nat) : Option (Nat × Nat × Nat) :=
  match t with
  | 1 => some (0x01000000, 0x01100000, 1)
  | 2 => some (0x10000000, 0x10E00000, 1)
  | 3 => some (0, 16384, 4)
  | 4 => some (0, 4096, 4)
  | 5 => some (0, 4096, 4)
  | 6 => some (0x14100000, 0x14200000, 1)
  | _ => none

/-- Units of its target that a segment fills. -/
def Segment.units (g : Segment) : Nat :=
  match targetRange g.target with
  | some (_, _, u) => (g.len + u - 1) / u
  | none => 0

/-- A segment lies inside its target and inside the image (R517, check 8). -/
def Segment.inside (g : Segment) (length : Nat) : Bool :=
  decide (1280 ≤ g.offset) && decide (g.offset + g.len ≤ length)
    && (match targetRange g.target with
      | none => false
      | some (lo, hi, _) => decide (lo ≤ g.load) && decide (g.load + g.units ≤ hi))

/-- Two ranges meet. -/
def meets (a n b m : Nat) : Bool := decide (a < b + m) && decide (b < a + n)

/-- Two segments overlap, in the image or in one target (DEDUCED, log 41). -/
def Segment.overlaps (g h : Segment) : Bool :=
  meets g.offset g.len h.offset h.len || (g.target == h.target && meets g.load g.units h.load h.units)

/-- No two segments of a list overlap. -/
def noOverlap : List Segment → Bool
  | [] => true
  | g :: rest => rest.all (fun h => !g.overlaps h) && noOverlap rest

/-! ### Judging (R516, R517, R520, R521) -/

/-- Reserved fields are 0 and no field holds a reserved value (check 2; the fields with reserved values beside FMTVER: DEDUCED, log 41). -/
def fieldsOk (b : List Nat) : Bool :=
  let zero (i n : Nat) : Bool := ((b.drop i).take n).all (fun x => x == 0)
  let one := imgFmt b == 1
  let ssc := imgSsc b % 4
  decide (imgFlags b < 8) && decide (imgNseg b ≤ 15) && decide (imgField b 14 1 < 4) && (imgMode b == 1 || imgMode b == 2)
    && decide (imgRefsel b < 16) && imgRefsel b % 4 != 3 && imgRefsel b / 4 != 3 && depthAllowed ssc (imgSsc b / 4)
    && zero 36 28 && zero 1216 64 && (!one || (imgField b 14 1 == 0 && imgSerial b == 0))
    && (List.range 15).all (fun k => if k < imgNseg b then (segment b k).spare == 0 else (segment b k).empty)

/-- The key of an image is admitted: the ROM key in BLANK; else a slot of the state, present, not revoked, and holding the key (R520, R521). -/
def State.keyAdmitted (s : State) (keyidx : Nat) (keyOk : Bool) : Bool :=
  let r := s.boot.record
  keyOk && (r.state == 0
    || (r.present.testBit keyidx && !r.revoked.testBit keyidx && (match r.state with
      | 1 => decide (keyidx < 4)
      | 2 => decide (1 ≤ keyidx ∧ keyidx < 4)
      | 3 => decide (1 ≤ keyidx ∧ keyidx < 4)
      | 4 => keyidx == 0
      | _ => false)))

/-- The reason of R517: the first check that fails, or 0. Rollback holds in PROVISIONED and DEPLOYED (R521; log 41). -/
def State.judge (s : State) (b : List Nat) (v : Sys2Proof.ImageVerdict) : Nat :=
  let r := s.boot.record
  let len := imgLength b
  let flags := imgFlags b
  if imgField b 0 4 ≠ 0x48535342 ∨ len % 64 ≠ 0 ∨ len = 0 ∨ 0x800000 < len then 1
  else if s.bit Reg.LCS_INFO_FMTMAP (imgFmt b) = false ∨ fieldsOk b = false then 2
  else if imgField b 12 2 ≠ 0x96 ∨ (imgSerial b ≠ 0 ∧ imgSerial b ≠ r.serial) then 3
  else if s.keyAdmitted (imgField b 7 1) v.keyOk = false then 4
  else if v.sigOk = false then 5
  else if (r.state = 2 ∨ r.state = 3) ∧ imgSvn b < r.counters.getD (imgField b 14 1) 0 then 6
  else if (imgField b 24 1).testBit r.state = false then 7
  else if ((imgSegments b).all (fun g => g.inside len) && noOverlap (imgSegments b)) = false then 8
  else if (match v.badSegment with | none => false | some k => decide (k.val < imgNseg b)) then 9
  else if (if flags.testBit 0 then imgNseg b != 0 else flags.testBit 1 || flags.testBit 2) then 10
  else 0

/-- A rejection recorded: LCS_IMG and fault source 92; the source is 0 slot A, 1 slot B, 2 host, 3 Peloton (R517). -/
def State.rejectImage (s : State) (source reason : Nat) : State :=
  (((s.set Reg.LCS_IMG_VALID 1).set Reg.LCS_IMG_SOURCE source).set Reg.LCS_IMG_REASON reason).fault 92 source

/-! ### Copying (R516, R512) -/

/-- One unit of a target written by the image loader: a byte, or a word of the CLE program store, data memory or object store (R106, R109). -/
def State.putUnit (s : State) (target place v : Nat) : State :=
  match target with
  | 3 => doClePdataWrite (BitVec.ofNat 32 v) (s.set Reg.CLE_PADDR_ADDR place)
  | 4 => if h : place < 4096 then doWriteQueueDrain (doCleMemoryBusWrite (.data ⟨place, h⟩) (BitVec.ofNat 32 v) s) else s
  | 5 => if h : place < 4096 then doWriteQueueDrain (doCleMemoryBusWrite (.object ⟨place, h⟩) (BitVec.ofNat 32 v) s) else s
  | _ => s.setByte place (BitVec.ofNat 8 v)

/-- A segment's contents copied to its target; zeros in their place where the image is rejected. -/
def State.copySegment (s : State) (b : List Nat) (zero : Bool) (g : Segment) : State :=
  match targetRange g.target with
  | none => s
  | some (_, _, u) => (List.range g.units).foldl (fun s i =>
      s.putUnit g.target (g.load + i) (if zero then 0 else imgField (b.take (g.offset + g.len)) (g.offset + u * i) u)) s

/-- The segments that a judgement with this reason has written before it fails: up to the bad one, or all (R516). -/
def writtenOf (b : List Nat) (v : Sys2Proof.ImageVerdict) (reason : Nat) : List Segment :=
  if reason = 0 ∨ reason = 10 then imgSegments b
  else if reason = 9 then (imgSegments b).take (match v.badSegment with | none => 0 | some k => k.val + 1)
  else []

/-- An image judged, its segments of the given targets copied as they are hashed, and the regions written zeroed where it is rejected; the
rejection recorded (R516, R517). -/
def State.takeImage (s : State) (b : List Nat) (v : Sys2Proof.ImageVerdict) (source : Nat) (only : Nat → Bool) : State × Nat :=
  let reason := s.judge b v
  let gs := (writtenOf b v reason).filter (fun g => only g.target)
  let s1 := gs.foldl (fun s g => s.copySegment b (reason != 0) g) s
  if reason = 0 then (s1, 0) else (s1.rejectImage source reason, reason)

/-! ### Acceptance (R501, R505, R511, R521) -/

/-- An accepted image with TOKEN 1 is a token where its SERIAL is not 0, and is held until power-on reset (R521). -/
def State.holdToken (s : State) (b : List Nat) : State :=
  let f := imgFlags b
  if imgSerial b = 0 then s
  else (s.modBoot (fun r => { r with debugToken := r.debugToken || f.testBit 1, returnToken := r.returnToken || f.testBit 2 })).lifeRegs

/-- N of a PLL for a VCO of `mhz`, with the PFD of REFSEL (R501). -/
def pllN (mhz refsel : Nat) : Nat := 2 * mhz / (25 * 2 ^ refsel)

/-- The configuration table applied: PLL0 at 4.000 GHz, PLL1 at 5.000 GHz; a spread of PLL1 holds the station ports and the lanes in reset
(R501, R505). -/
def State.applyConfig (s : State) (b : List Nat) : State :=
  let r0 := imgRefsel b % 4
  let r1 := imgRefsel b / 4 % 4
  let s1 := ((s.set Reg.CLK_PLL0_CFG_REFSEL r0).set Reg.CLK_PLL0_CFG_N (pllN 4000 r0)).set Reg.CLK_PLL1_CFG_REFSEL r1
  let s2 := ((s1.set Reg.CLK_PLL1_CFG_N (pllN 5000 r1)).set Reg.CLK_PLL1_CFG_SSC (imgSsc b % 4)).set Reg.CLK_PLL1_CFG_DEPTH (imgSsc b / 4)
  if imgSsc b % 4 = 0 then s2
  else
    let s3 := ((s2.set Reg.CLK_REF_SSCHOLD 1).set Reg.NET_STAT_LINK 0).lanesStop
    { s3 with net := { s3.net with down := 0 } }

/-- Steps 4 to 6 of R511 for an accepted image: its configuration, LCS_BOOT, the mode and the entry staged, the second release's voter test.
SRC is 0 QSPI, 1 host, 2 Peloton. -/
def State.startImage (s : State) (b : List Nat) (src slot : Nat) : State :=
  let s1 := (((s.applyConfig b).set Reg.LCS_BOOT_SRC src).set Reg.LCS_BOOT_SLOT slot).set Reg.LCS_BOOT_FMTVER (imgFmt b)
  let trial := src == 0 && s1.boot.record.trial && slot == s1.boot.record.pref
  let run : RunImage := ⟨imgFmt b, imgSvn b, src, slot, trial, imgField b 28 4, imgField b 32 4⟩
  let s2 := (s1.set Reg.LCS_BOOT_SVN (imgSvn b)).modBoot (fun r => { r with
    due := false, waiting := none, failedAt := none, transfer := none, image := some run })
  let s3 : State := { s2 with tri := { s2.tri with stagedMode := imgMode b, entry := some (imgField b 28 4), reload := false } }
  s3.startVoterTest

/-- An image that its source offers: 0 it boots, 1 it is a token or holds nothing to boot, 2 it is rejected. -/
def State.offer (s : State) (b : List Nat) (v : Sys2Proof.ImageVerdict) (source : Nat) : State × Nat :=
  let r := s.takeImage b v source (fun _ => true)
  if r.2 ≠ 0 then (r.1, 2)
  else if (imgFlags b).testBit 0 then (r.1.holdToken b, 1)
  else (r.1, 0)

/-! ### The sources (R513, R519) -/

def imgBytes (i : Sys2Proof.Image) : List Nat := i.bytes.map (fun x => x.toNat)

/-- The other slot preferred, the trial over: FALLBK (R519). -/
def State.fallBack (s : State) (slot : Nat) : State :=
  (s.modRecord (fun r => { r with pref := slot, trial := false })).set Reg.LCS_BOOT_FALLBK 1

/-- QSPI: the preferred slot, then the other; none where neither boots (R519). -/
def State.bootQspi (s : State) (offers : Sys2Proof.ImageOffers) : State × Bool :=
  let r0 := s.boot.record
  let s0 := if r0.trial && decide (3 ≤ r0.attempts) then s.fallBack (1 - r0.pref) else s
  let img (k : Nat) : Sys2Proof.Image := if k = 0 then offers.slotA else offers.slotB
  let p := s0.boot.record.pref
  let first := s0.offer (imgBytes (img p)) (img p).verdict p
  if first.2 = 0 then
    let s1 := if s0.boot.record.trial then first.1.modRecord (fun r => { r with attempts := r.attempts + 1 }) else first.1
    (s1.startImage (imgBytes (img p)) 0 p, true)
  else
    let q := 1 - p
    let second := first.1.offer (imgBytes (img q)) (img q).verdict q
    if second.2 = 0 then
      let s1 := if first.2 = 2 then second.1.fallBack q else second.1
      (s1.startImage (imgBytes (img q)) 0 q, true)
    else (second.1, false)

/-- Peloton: EN set, the request sent to both lanes, the image of the first device that answers (R463, R513). -/
def State.bootPeloton (s : State) (offers : Sys2Proof.ImageOffers) : State × Bool :=
  let s1 := (((if s.on Reg.PEL_CTRL_EN then s else s.pelEnable true).laneTell laneImage []))
  match offers.peloton with
  | none => (s1, false)
  | some i =>
    let r := s1.offer (imgBytes i) i.verdict 3
    if r.2 = 0 then (r.1.startImage (imgBytes i) 2 0, true) else (r.1, false)

/-- The sources from a place of BOOTORD on: the first that yields an image boots; the host is waited for; after the last the whole order is
due again 1 s later (R511, R513). -/
def State.bootSources (offers : Sys2Proof.ImageOffers) (place : Nat) : List Nat → State → State
  | [], s => s.modBoot (fun b => { b with waiting := none, transfer := none, failedAt := some s.now })
  | src :: rest, s =>
    if src = 1 then s.modBoot (fun b => { b with waiting := some (place, s.now), transfer := none })
    else
      let r := if src = 0 then s.bootQspi offers else s.bootPeloton offers
      if r.2 then r.1 else State.bootSources offers (place + 1) rest r.1

/-- The order from a place on. -/
def State.bootFrom (s : State) (offers : Sys2Proof.ImageOffers) (place : Nat) : State :=
  State.bootSources offers place (s.boot.record.order.drop place) s

/-! ### Steps 1 and 2 (R425, R436, R511) -/

/-- What the ageing plans ask of the device at the levels held: VCORE's set-point, the background test, the ADC calibration (R528). -/
def State.agePlans (s : State) : State :=
  let l (k : Nat) : Nat := s.boot.record.levels.getD k 0
  let request := [0, 5000, 2000, 1000].getD (l 1) 0
  let s1 := (((s.set Reg.AGE_HEALTH_LVCORE (l 0)).set Reg.AGE_HEALTH_LBT (l 1)).set Reg.AGE_HEALTH_LADC (l 2)).set Reg.AGE_HEALTH_LEVEL
    (max (l 0) (max (l 1) (l 2)))
  let s2 := ((s1.set Reg.AGE_PLAN_VOFS ([0, 5, 10, 20].getD (l 0) 0)).set Reg.AGE_PLAN_ADCUSE
    (max 1 (s.get Reg.AGE_CTRL_ADCINT / 2 ^ (l 2)))).set Reg.AGE_PLAN_BTREQ request
  State.btUse { s2 with memt := { s2.memt with asked := if request = 0 then none else some request } }

/-- Step 2: trims, CALLOCK where the trim is certified, baselines, plans, totals; then metering is enabled (R436; log 85). It loads the LK trims too where CALLOCK
was kept through a device reset (R511; DESIGN CHOICE, log 113: R6 leaves a locked trim until power-on reset). -/
def State.loadTrims (s : State) : State :=
  let r := s.boot.record
  let s1 : State := { s with regs := r.trims.foldl (fun t e => tblSet (Reg.resetOfKey e.1) t e.1 e.2) s.regs }
  let s2 := if r.certified then s1.set Reg.MTR_CTRL_CALLOCK 1 else s1
  let s3 : State := { s2 with cel := { s2.cel with cells := (List.range 96).foldl (fun t c =>
    tblMod {} t c (fun x => { x with base := tblGet none r.bases c })) s2.cel.cells } }
  let s4 := (List.range 96).foldl (fun s c => match tblGet none r.bases c with
    | none => s
    | some b => s.set (Reg.CEL_HEALTH_C0 c) (min 15 (intOf b.1).toNat)) s3
  s4.agePlans.restoreTotals.meterAwait (.field Reg.MTR_CTRL_EN 1)

/-- The cluster runs the boot ROM: released, its voter test passed. -/
def State.romRuns (s : State) : Bool := s.tri.testing.isNone && (s.cluster == 1 || s.cluster == 2)

/-- BOOT: at the first release after a device reset: the lifecycle (in SCRAPPED the boot ROM stops), LOCK in DEPLOYED, the trims, then the
sources in order (R491, R511). -/
def doBoot (offers : Sys2Proof.ImageOffers) (s : State) : State :=
  if s.boot.due = false ∨ s.romRuns = false ∨ s.boot.waiting.isSome = true ∨ s.boot.failedAt.isSome = true then s
  else
    let s1 := s.lifeRegs
    if s1.boot.record.state = 5 then s1
    else
      let s2 := if s1.boot.record.state = 3 then s1.set Reg.LCS_CTRL_LOCK 1 else s1
      s2.loadTrims.bootFrom offers 0

def execBoot (offers : Sys2Proof.ImageOffers) (s : State) : Host.Outcome State Fault Refusal := .next (doBoot offers s)

/-- BOOT_RETRY: one second after every source has failed, the whole order again (R511). -/
def doBootRetry (offers : Sys2Proof.ImageOffers) (s : State) : State :=
  match s.boot.failedAt with
  | none => s
  | some t =>
    if s.boot.due = false ∨ s.romRuns = false then s
    else ((s.reach (t + 400000000)).modBoot (fun b => { b with failedAt := none })).bootFrom offers 0

def execBootRetry (offers : Sys2Proof.ImageOffers) (s : State) : Host.Outcome State Fault Refusal := .next (doBootRetry offers s)

/-- IMAGE_SOURCE_TIMEOUT: 10 s without a block: the host is abandoned and the next source taken, if the boot ROM runs (R295, R513). -/
def doImageSourceTimeout (offers : Sys2Proof.ImageOffers) (s : State) : State :=
  match s.boot.waiting with
  | none => s
  | some (place, t) =>
    if s.romRuns = false then s
    else ((s.reach (t + 4000000000)).modBoot (fun b => { b with waiting := none, transfer := none })).bootFrom offers (place + 1)

def execImageSourceTimeout (offers : Sys2Proof.ImageOffers) (s : State) : Host.Outcome State Fault Refusal :=
  .next (doImageSourceTimeout offers s)

/-- The cluster is out of reset: TRIPLEX, DUPLEX or SPLIT. -/
def State.released (s : State) : Bool := [1, 2, 4].contains s.cluster

/-- CLUSTER_IMAGE_RELOAD: after TRI_RESET the image is taken again from the source that LCS_BOOT records; accepted, its control-TCM segments
are copied and the cluster goes on at its TENTRY; rejected, the cluster waits in the boot ROM and tries again 1 s later (R512). A token gives it
nothing to run: it is held, and the cluster waits as well (R521; DEDUCED, log 41). -/
def doClusterImageReload (i : Sys2Proof.Image) (s : State) : State :=
  match s.boot.image with
  | none => s
  | some run =>
    if s.tri.reload = false ∨ s.tri.testing.isSome = true ∨ s.released = false then s
    else
      let source := if run.source = 0 then run.slot else run.source + 1
      let b := imgBytes i
      let bad := i.verdict.badSegment.filter (fun k => (segment b k.val).target == 1)
      let s0 : State := match s.boot.failedAt with
        | none => s
        | some t => (s.reach (t + 400000000)).modBoot (fun r => { r with failedAt := none })
      let wait (s : State) : State := s.modBoot (fun r => { r with failedAt := some s.now })
      let r := s0.takeImage b { i.verdict with badSegment := bad } source (fun t => t == 1)
      if r.2 ≠ 0 then wait r.1
      else if (imgFlags b).testBit 0 then wait (r.1.holdToken b)
      else
        let s1 := (if s.cluster = 4 then [0] else [0, 1, 2]).foldl (fun s x =>
          s.modCore x (fun c => { c with words := tblSet 0 c.words pcPlace (imgField b 28 4) })) r.1
        { s1 with tri := { s1.tri with reload := false } }

def execClusterImageReload (image : Sys2Proof.Image) (s : State) : Host.Outcome State Fault Refusal := .next (doClusterImageReload image s)

/-! ### IMAGE descriptors (R322, R513, R522) -/

/-- The transfer after a block: none where the block is out of order. -/
def nextTransfer (transfer : Option (List Nat)) (offset : Nat) (first : Bool) (block : List Nat) : Option (List Nat) :=
  if first then (if offset = 0 then some block else none)
  else match transfer with
    | some b => if b.length = offset then some (b ++ block) else none
    | none => none

/-- The last block of the boot phase: the image is judged; it boots, or the host goes on being waited for (R513, R522; log 41). -/
def State.hostImage (s : State) (t q : Nat) (b : List Nat) (v : Sys2Proof.ImageVerdict) : State :=
  let reason := s.judge b v
  let r := s.offer b v 2
  let s1 := r.1.finishOp t q 0 reason
  if r.2 = 0 then s1.startImage b 1 0 else s1

/-- IMAGE: a block out of order ends the transfer with reason 11. In the boot phase the loader, while it runs, takes the blocks of tenant 0, and LAST judges the
image; at run time the MGC handles them, and passes a token to the loader, which judges and holds it (R522). -/
def doImageDescriptor (t q : Nat) (block : List Nat) (v : Sys2Proof.ImageVerdict) (dma : Bool) (s : State) : State :=
  match s.firstOp t q with
  | none => s
  | some o =>
    let phase := s.boot.due
    if o.opc ≠ 9 ∨ (phase = true ∧ (t ≠ 0 ∨ s.boot.waiting.isNone = true ∨ s.romRuns = false)) then s
    else if o.allowed = false then s.toMgc t q o
    else if dma = false then s.finishOp t q 5 0
    else
      let bytes := (List.range o.len).map (fun i => block.getD i 0)
      let s0 := s.modBoot (fun r => { r with waiting := r.waiting.map (fun w => (w.1, s.now)) })
      match nextTransfer (s.boot.transfer.map (fun bs => bs.map (fun x => x.toNat))) o.arg0 ((o.args.getD 0 0).testBit 0) bytes with
      | none => ((s0.modBoot (fun r => { r with transfer := none })).rejectImage 2 11).finishOp t q 0 11
      | some b =>
        if (o.args.getD 0 0).testBit 1 = false then
          let s1 := s0.modBoot (fun r => { r with transfer := some (b.map (fun n => BitVec.ofNat 8 n)) })
          if phase then s1.finishOp t q 0 0 else s1.toMgc t q o
        else
          let s1 := s0.modBoot (fun r => { r with transfer := none })
          if phase then s1.hostImage t q b v
          else if (imgField b 5 1).testBit 0 then ((s1.offer b v 2).1).finishOp t q 0 (s1.judge b v)
          else s1.toMgc t q o

def execImageDescriptor (tenant : Fin 16) (sq : Fin 4) (block : List Byte) (verdict : Sys2Proof.ImageVerdict) (dma : Bool) (s : State) :
    Host.Outcome State Fault Refusal :=
  .next (doImageDescriptor tenant.val sq.val (block.map (fun b => b.toNat)) verdict dma s)

/-! ### Lifecycle commands (R520, R524, R525, R529) -/

/-- R521 lists the present state as one from which `target` is entered, with a RETURN token for RETURNED. -/
def State.mayEnter (s : State) (target : Nat) : Bool :=
  let now := s.get Reg.LCS_STATE_STATE
  match target with
  | 1 => now == 0
  | 2 => now == 1
  | 3 => now == 2
  | 4 => (now == 2 || now == 3) && s.on Reg.LCS_STATE_TOKENOK
  | 5 => true
  | _ => false

/-- The configuration region of MRAM erased. -/
def State.eraseConfig (s : State) : State :=
  { s with mem := s.mem.filter (fun e => decide (e.1 < 0x14100000) || decide (0x141FFFFF < e.1)) }

/-- The owner's key slots in MRAM erased (R524). -/
def State.eraseKeys (s : State) : State :=
  { s with mem := s.mem.filter (fun e => decide (e.1 < keySlots.1) || decide (keySlots.2 ≤ e.1)) }

/-- LCS_TRANS: with KEY 0x3C and a state as TARGET: carried out with every arm BLOCKED from a state that R521 lists, else TREF. The record is
written, the Hamper wiped with cause 2, owner keys and configuration erased on entry to RETURNED or SCRAPPED, the factory key written on
entry to DEV, and the device reset (R520, R524). -/
def doLcsTrans (v : Nat) (s : State) : State :=
  let target := v % 8
  if (v / 256) % 256 ≠ 0x3C ∨ 5 < target then s
  else if s.pulsesEnabled = true ∨ s.mayEnter target = false then s.set Reg.LCS_STATE_TREF 1
  else
    let s1 := s.modRecord (fun r => { r with
      state := target, present := if target = 1 then setBit r.present 0 else if 4 ≤ target then r.present % 2 else r.present })
    let s2 := s1.wipeHamper 2
    (if 4 ≤ target then s2.eraseConfig.eraseKeys else s2).deviceReset

def execLcsTrans (v : Word) (s : State) : Host.Outcome State Fault Refusal := .next (doLcsTrans v.toNat s)

/-- LCS_SELECT: with KEY 0x69: PREF := SLOT, TRIAL := 1, ATTEMPTS := 0. It ends its clock: a confirm of that clock stands before it (R525,
log 15). -/
def doLcsSelect (v : Nat) (s : State) : State :=
  if (v / 256) % 256 = 0x69 then (s.modRecord (fun r => { r with pref := v % 2, trial := true, attempts := 0 })).endClock else s

def execLcsSelect (v : Word) (s : State) : Host.Outcome State Fault Refusal := .next (doLcsSelect v.toNat s)

/-- LCS_CONFIRM: with 0x96: each rollback counter rises to the running image's SVN where that is higher, then TRIAL is cleared (R525). -/
def doLcsConfirm (v : Nat) (s : State) : State :=
  if v % 256 ≠ 0x96 then s
  else
    let svn := match s.boot.image with | none => 0 | some i => i.svn
    (s.modRecord (fun r => { r with counters := r.counters.map (fun c => max c svn), trial := false })).modBoot (fun b => { b with
      image := b.image.map (fun i => { i with trial := false }) })

def execLcsConfirm (v : Word) (s : State) : Host.Outcome State Fault Refusal := .next (doLcsConfirm v.toNat s)

/-- CONFIRM_TIMEOUT: a trial image has not been confirmed within CONFTMO s of its release: a device reset (R525). -/
def doConfirmTimeout (s : State) : State :=
  match s.boot.image with
  | none => s
  | some i =>
    let c := s.get Reg.LCS_CTRL_CONFTMO
    if i.trial = false ∨ c = 0 ∨ s.tri.testing.isSome = true then s else (s.reach (s.tri.releasedAt + 400000000 * c)).deviceReset

def execConfirmTimeout (s : State) : Host.Outcome State Fault Refusal := .next (doConfirmTimeout s)

/-- KEY_REVOKE: the REVOKED bits written as 1 are set for good (R520). -/
def doKeyRevoke (slots : Nat) (s : State) : State := s.modRecord (fun r => { r with revoked := r.revoked ||| slots })

def execKeyRevoke (slots : BitVec 4) (s : State) : Host.Outcome State Fault Refusal := .next (doKeyRevoke slots.toNat s)

/-- LCS_LOCK: LOCK of LCS_CTRL set (R491). -/
def doLcsLock (s : State) : State := s.set Reg.LCS_CTRL_LOCK 1

def execLcsLock (s : State) : Host.Outcome State Fault Refusal := .next (doLcsLock s)

/-- A write to an LCS register (R529). -/
def State.lcsRegisterWrite (s : State) (addr v : Nat) : State :=
  if addr = Reg.LCS_TRANS_KEY.addr then doLcsTrans v s
  else if addr = Reg.LCS_SELECT_KEY.addr then doLcsSelect v s
  else if addr = Reg.LCS_CONFIRM_KEY.addr then doLcsConfirm v s
  else if addr = Reg.LCS_KEYS_REVOKED.addr then doKeyRevoke (v / 16 % 16) s
  else
    let s1 := if addr = Reg.LCS_CTRL_LOCK.addr ∧ v.testBit 31 then doLcsLock s else s
    (s1.clearOnes addr v).storeRW addr v

/-! ### Ageing (R527, R528) -/

/-- The limit of a monitor in the units of its VALUE (R527). -/
def ageLimit (m : Nat) : Nat := [600, 4, 2048, 2000, 1024].getD m 1

/-- SCORE of a drift. -/
def ageScore (m drift : Nat) : Nat := min 255 (100 * drift / ageLimit m)

/-- The level of a score. -/
def ageLevel (score : Nat) : Nat := if score < 50 then 0 else if score < 80 then 1 else if score < 100 then 2 else 3

/-- The monitors that drive a plan: VCORE 0, background test 1, ADC calibration 2. -/
def planMonitors (p : Nat) : List Nat := [[0, 2], [1], [3, 4]].getD p []

/-- A plan's level rises to the highest of its monitors' levels, with fault source 91 and that monitor as INFO; it never falls. -/
def State.raisePlan (s : State) (p : Nat) : State :=
  let level (m : Nat) : Nat := s.get (Reg.AGE_MON_LEVEL m)
  let old := s.boot.record.levels.getD p 0
  let top := (planMonitors p).foldl (fun x m => max x (level m)) 0
  if top ≤ old then s
  else
    let m := ((planMonitors p).find? (fun m => level m == top)).getD 0
    (s.modRecord (fun r => { r with levels := r.levels.set p top })).fault 91 m

/-- The drift of monitor 2, the change of the delay-line trim mean TMEAN from its factory baseline, and of monitor 4, the largest change of
CONV_OFS among the eight converters, each with the shift that brings the reading to Tj 60 °C (R74, R208, R527). -/
def State.trimDrift (s : State) (shift : Int) : Nat :=
  min 0xFFFF ((s.get Reg.EDG_DLCAL_STAT_TMEAN : Int) + shift - Config.trimBaseline).natAbs
def State.offsetChange (s : State) (shift : Int) (c : Nat) : Nat :=
  min 0xFFFF (s.getInt (Reg.ADC_CONV_OFS_OFS c) + shift - Config.offsetBaseline c).natAbs
def State.offsetDrift (s : State) (shift : Int) : Nat := (List.range 8).foldl (fun m c => max m (s.offsetChange shift c)) 0

/-- AGEING_MEASUREMENT: every INT minutes in RUN each monitor's drift, score and level; the plans' levels follow (R527, R528). The
drifts of monitors 0, 1 and 3 are measured outside; the readings of monitors 2 and 4 are the device's own, and the command brings what the
factory coefficients, which the spec does not give, add to them at the present temperature (log 131). -/
def doAgeingMeasurement (d0 d1 : Nat) (shift2 : Int) (d3 : Nat) (shift4 : Int) (s : State) : State :=
  if s.on Reg.AGE_CTRL_EN = false ∨ s.power ≠ 3 then s
  else
    let drifts := [d0, d1, s.trimDrift shift2, d3, s.offsetDrift shift4]
    let s0 := s.reach (s.boot.agedAt + 24000000000 * s.get Reg.AGE_CTRL_INT)
    let s1 := (s0.modBoot (fun b => { b with agedAt := s0.now }))
    let s2 := (List.range 5).foldl (fun s m =>
      let x := ageScore m (drifts.getD m 0)
      ((s.set (Reg.AGE_MON_VALUE m) (drifts.getD m 0)).set (Reg.AGE_MON_SCORE m) x).set (Reg.AGE_MON_LEVEL m) (ageLevel x)) s1
    let top := (List.range 5).foldl (fun x m => max x (s2.get (Reg.AGE_MON_SCORE m))) 0
    let s3 := (s2.set Reg.AGE_HEALTH_SCOREMAX top).setBool Reg.AGE_HEALTH_EOL (decide (100 ≤ top))
    ([0, 1, 2].foldl (fun s p => s.raisePlan p) s3).agePlans

def execAgeingMeasurement (drift0 drift1 : BitVec 16) (shift2 : Int) (drift3 : BitVec 16) (shift4 : Int) (s : State) :
    Host.Outcome State Fault Refusal :=
  .next (doAgeingMeasurement drift0.toNat drift1.toNat shift2 drift3.toNat shift4 s)

/-- A write to an AGE register: a reserved value leaves it; the ADC calibration interval in use follows (R528). -/
def State.ageRegisterWrite (s : State) (addr v : Nat) : State := if wordAllowed addr v then (s.storeRW addr v).agePlans else s

end Sys2Proof.Machine
end

