-- ==== Sys2Proof/Machine/Tick.lean ====
section
/-!
DEFINITION. The phases of a tick (R10 to R23): tick start, the Acquire, Solve, Plan and Dispatch deadlines, the start of the Plan frames, and
the clearing of RUN (R32, R549).
-/

namespace Sys2Proof.Machine

/-- PHASE of CAD_STAT put: 0 Acquire, 1 Solve, 2 Plan, 3 Dispatch (R11). -/
def State.setPhase (s : State) (p : Nat) : State := s.set Reg.CAD_STAT_PHASE p

/-- A deadline of the tick in progress is the next: the phase that it ends lasts (R11). -/
def State.inPhase (s : State) (p : Nat) : Bool :=
  s.cad.inTick && !s.inKickstand && !s.pwr.pllLost.testBit 0 && s.get Reg.CAD_STAT_PHASE == p

/-- At the first tick after RUN went to 1 no plan has been dispatched and none built (R22, R32, R157, R158). -/
def State.firstAfterRun (s : State) : State :=
  if s.cad.starting then
    { s with
      cad := { s.cad with starting := false, nullPlan := true }
      cel := { s.cel with
        firstPlan := true
        arms := (List.range 6).foldl (fun t a => tblMod {} t a (fun x => { x with lastSet := [], short := false })) s.cel.arms }
      edg := s.edg.noPrevious }
  else s

/-- TICK_START: once the tick in progress has passed its phases, TICK counts on, Acquire begins, interrupt 0; a permitted phase step, the fallback ramp, what the trip network, the PWM channels
and the safety functions do at a tick start, and the leader's TIME frame (R10, R11, R35, R213, R229, R335, R468). -/
def doTickStart (s : State) : State :=
  match s.cad.nextTick with
  | none => s
  | some t =>
    if s.running = false ∨ s.cad.stopAt.isSome = true ∨ s.ticksHeld = true ∨ s.pwr.pllLost.testBit 0 = true ∨ s.tickWhole = false then s
    else
      let s0 := s.firstAfterRun
      let s1 := (s0.reach t).set Reg.CAD_TICK_TICK ((s.tick + 1) % 0x100000000)
      let s2 : State := { s1 with cad := { s1.cad with
        tickStart := t, nextTick := some (s1.tickAfter t), inTick := true, dispatched := false, holdTick := false, overrun := false } }
      let s3 := ((s2.setPhase 0).irq 0).phaseStep
      ((((s3.fallbackRamp).tripTick).pwmTick).safUpdate).sendTime

def execTickStart (s : State) : Host.Outcome State Fault Refusal := .next (doTickStart s)

/-- The words of every cell in the CLE input map (R263). -/
def State.putCellWords (s : State) : State :=
  let m := (List.range 96).foldl (fun m c => (List.range 8).foldl (fun m j =>
    tblSet (0 : Word) m (0x100 + 8 * c + j) (BitVec.ofNat 32 (s.cellWord c j))) m) s.cle.inMap
  { s with cle := { s.cle with inMap := m } }

/-- ACQUIRE_DEADLINE: the summaries and Reports of the tick are judged, the cells and arms evaluated, the grid functions make their
evaluation, the limits are checked, the CLE starts its run, the leader sends its GRID frame (R12, R45, R75, R114, R155, R162, R245, R263,
R471, R472). -/
def doAcquireDeadline (s : State) : State :=
  if s.inPhase 0 = false then s
  else
    let s1 := ((s.reach (s.cad.tickStart + s.get Reg.CAD_DL_ACQ_DL)).setPhase 1).irq 1
    let s2 : State := { s1 with cel := { s1.cel with acqAt := s1.now } }
    let s3 := ((s2.pelotonAcquire).judgeReports s2.tick).cellsAcquire
    (((((s3.putCellWords).evaluate).checkCellVolts).safAcquire).cleStart).sendGrid

def execAcquireDeadline (s : State) : Host.Outcome State Fault Refusal := .next (doAcquireDeadline s)

/-- No plan of this tick is built. -/
def State.noPlans (s : State) : State := { s with edg := { s.edg with built := [], builtArms := [], incomplete := false, readyAt := 0 } }

/-- SOLVE_DEADLINE: a run that has not ended is aborted; else the sort and the plans (R18, R156, R183, R472). -/
def doSolveDeadline (s : State) : State :=
  if s.inPhase 1 = false then s
  else
    let s1 := ((s.reach (s.cad.tickStart + s.get Reg.CAD_DL_SOLVE_DL)).setPhase 2).irq 2
    let s2 := (s1.gridCoast).cleSolve
    if s2.cad.overrun then s2.noPlans.holdDirections else s2.solvePlans

def execSolveDeadline (s : State) : Host.Outcome State Fault Refusal := .next (doSolveDeadline s)

/-- PLAN_FRAME_START: 64 counts before the Plan deadline the Plan frames start on every port, once in a tick (R13). -/
def doPlanFrameStart (s : State) : State :=
  if s.inPhase 2 = false ∨ s.cad.tickStart < s.spk.planAt then s
  else (s.reach (s.cad.tickStart + s.get Reg.CAD_DL_PLAN_DL - 64)).startPlans

def execPlanFrameStart (s : State) : Host.Outcome State Fault Refusal := .next (doPlanFrameStart s)

/-- PLAN_DEADLINE: incomplete plans are a Plan overrun; then the plans, or the previous ones again, are dispatched to the edges and the
frames. Before a first plan since RUN was set the previous plan is the null plan; a tick that has met both deadlines sets HOLDCNT to 0
(R18 to R22). A Plan overrun after a Solve overrun of the same tick does not count in CAD_OVR_PLAN (DESIGN CHOICE, log 109). -/
def doPlanDeadline (incomplete : Bool) (s : State) : State :=
  if s.inPhase 2 = false then s
  else
    let s1 := ((s.reach (s.cad.tickStart + s.get Reg.CAD_DL_PLAN_DL)).setPhase 3).irq 3
    let late := !s1.cad.overrun && (incomplete || s1.edg.incomplete || decide (s1.now < s1.edg.readyAt))
    let s2 := if late then ((s1.count Reg.CAD_OVR_PLAN_COUNT 1).noteOverrun).noPlans else s1
    let s3 := if s2.cad.overrun then s2 else s2.set Reg.CAD_STAT_HOLDCNT 0
    let hold := s3.cad.holdTick
    let s4 : State := if s3.cad.nullPlan && hold then { s3 with edg := { s3.edg with sent := [] } } else s3
    let s5 := ((if hold then s4 else s4.gateUpdate).dispatchEdges hold).sendPlans hold
    { s5 with cad := { s5.cad with nullPlan := false } }

def execPlanDeadline (incomplete : Bool) (s : State) : Host.Outcome State Fault Refusal := .next (doPlanDeadline incomplete s)

/-- DISPATCH_DEADLINE: a Plan frame still on the line counts, with a Serious fault (R18). -/
def doDispatchDeadline (stalled : Bool) (s : State) : State :=
  if s.inPhase 3 = false ∨ s.cad.dispatched = true then s
  else
    let s1 := s.reach (s.cad.tickStart + s.get Reg.CAD_DL_DISP_DL)
    let s2 : State := { s1 with cad := { s1.cad with dispatched := true } }
    if stalled then ((s2.count Reg.CAD_OVR_DISP_COUNT 1).set Reg.CAD_OVR_TICK_TICK s2.tick).fault 18 s2.tick else s2

def execDispatchDeadline (stalled : Bool) (s : State) : Host.Outcome State Fault Refusal := .next (doDispatchDeadline stalled s)

/-- What waits for a tick start takes effect within one clock once RUN is 0 (R549). Waiting register writes act before waiting setpoints
(DESIGN CHOICE, log 110); a timing set comes first, and the period it gives judges the active sampling set before a waiting one is judged (DESIGN
CHOICE, log 147). -/
def State.settleAll (s : State) : State :=
  let s1 := doMailboxCopy (doSamplingSetActivate (doConverterSetCheck (doTimingSetActivate s)))
  let s2 := doSetpointApply (doDeferredWriteEffect s1)
  { s2 with cle := { s2.cle with wqWait := false } }

/-- RUN_CLEAR: ticks stop after the tick in progress, sequenced samples at once; enabled pulses are blocked at once by source 25; what waits takes
effect (R32, R74, R107, R231, R549). -/
def doRunClear (s : State) : State :=
  if s.running = false then s
  else
    let stop := if s.cad.stopAt.isSome then s.cad.stopAt else if s.cad.inTick then s.cad.nextTick else none
    let s1 := State.set { s with cad := { s.cad with stopAt := stop, nextTick := none } } Reg.CAD_CTRL_RUN 0
    let s1 := s1.samplingStops
    let s2 : State := if s.pulsesEnabled then
        State.tripLatch { s1 with trp := { s1.trp with cause25 := setBit s1.trp.cause25 0 } } 25 63
      else s1
    s2.settleAll

def execRunClear (s : State) : Host.Outcome State Fault Refusal := .next (doRunClear s)

end Sys2Proof.Machine
end

