-- ==== Sys2Proof/Machine/Read.lean ====
section
/-!
DEFINITION. What registers read as (R6, R25, R323, R343, R346, R374): words assembled from their fields, and the words that follow the state
of their block.
-/

namespace Sys2Proof.Machine

/-- The stored fields of a register as they read: WO fields read 0 (R6). -/
def State.plainWord (s : State) (addr : Nat) : Nat :=
  (fieldsAt addr).foldl (fun w r => if r.acc == .WO then w else w + s.get (r.fld addr) * 2 ^ r.lo) 0

/-- A register's word with one field replaced by a value as it stands now. -/
def State.wordWith (s : State) (f : Fld) (v : Nat) : Nat := s.plainWord f.addr - s.get f * 2 ^ f.lo + v * 2 ^ f.lo

/-- BYPFAIL and BYPCAUSE of a cell as they stand (CEL_CELL_STAT, R177 to R181). -/
def State.cellStatWord (s : State) (c : Nat) : Nat :=
  let x := s.cellPort c
  let w := s.plainWord (Reg.CEL_CELL_STAT_ELIG c).addr
  w - s.get (Reg.CEL_CELL_STAT_BYPFAIL c) * 128 - s.get (Reg.CEL_CELL_STAT_BYPCAUSE c) * 256
    + (if x.bypFail then 128 else 0) + x.bypCause * 256

/-- CEL_BYP_STAT: the cells of word `j` that are bypassed, each shown at the cell its port maps to (R181). -/
def State.bypStat (s : State) (j : Nat) : Nat :=
  (List.range 32).foldl (fun w b => if (s.cellPort (32 * j + b)).bypCause ≠ 0 then setBit w b else w) 0

/-- EDG_CARRY of a cell: under MOD 2 the lowest cell of an arm shows the arm carry as LEG1, the others 0 (EDG_CARRY). -/
def State.carryWord (s : State) (c : Nat) : Nat :=
  let a := s.cellArm c
  if s.cellOn c && s.get (Reg.EDG_ARM_CFG_MOD a) == 2 then
    if (s.armCells a).head? = some c then bitsOf 16 (s.arm a).carry else 0
  else s.plainWord (Reg.EDG_CARRY_LEG1 c).addr

/-- STATE of every tenant (HST_TEN_STATE). -/
def State.tenantStates (s : State) : Nat := (List.range 16).foldl (fun w t => w + s.tenState t * 2 ^ (2 * t)) 0

/-- What POP, XFER and ALLOC return to a permitted read, without its effect (R374). -/
def State.queueReads (s : State) (q o : Nat) : Nat :=
  if o = 0x04 then s.queueStat q
  else if o = 0x10 then s.popValue q
  else if o = 0x14 then s.peekWord q
  else if o = 0x1C then s.xferValue q
  else s.plainWord (0x40100100 + 0x20 * q + o)

/-- The CLE's windows: object store, data memory, mailbox-in staging, mailbox-out (R105). -/
def State.cleWindow (s : State) (o : Nat) : Nat :=
  if o < 0x8000 then (tblGet (0 : Word) s.cle.obj ((o - 0x4000) / 4)).toNat
  else if o < 0xC000 then (tblGet (0 : Word) s.cle.data ((o - 0x8000) / 4)).toNat
  else if o < 0xC400 then (tblGet (0 : Word) s.cle.mbxStage ((o - 0xC000) / 4)).toNat
  else (tblGet (0 : Word) s.cle.mbxOut ((o - 0xC400) / 4)).toNat

/-- A CLE window offset. -/
def inCleWindow (addr : Nat) : Bool := decide (0x40064000 ≤ addr) && decide (addr < 0x4006C800)

/-- An address that some register description assigns (R339). -/
def assigned (addr : Nat) : Bool := (Reg.find addr).isSome || inCleWindow addr

/-- The word of a register now, each half of a pair by itself. -/
def State.liveWord (s : State) (addr : Nat) : Nat :=
  let o := addr % 0x10000
  match Reg.blockOf addr with
  | 0 =>
    if addr = Reg.SYS_PART_ID_PART.addr then s.partWord else s.plainWord addr
  | 3 =>
    if o = 0x20 then s.wordWith Reg.CAD_STAT_PHASE s.phaseNow
    else if o = 0x28 then s.now % 0x100000000
    else if o = 0x2C then s.now / 0x100000000 % 0x100000000
    else s.plainWord addr
  | 4 =>
    if 0x60 ≤ o ∧ o < 0x80 then s.urgWord ((o - 0x60) / 4)
    else if 0x200 ≤ o ∧ o < 0x280 then s.rawWord ((o - 0x200) / 4)
    else if 0x280 ≤ o ∧ o < 0x300 then s.filtWord ((o - 0x280) / 4)
    else s.plainWord addr
  | 5 =>
    if 0x400 ≤ o ∧ o < 0x500 then
      s.maccVisible ((o - 0x400) / 8) / (if o % 8 = 0 then 1 else 0x100000000) % 0x100000000
    else if 0x220 ≤ o ∧ o < 0x260 ∧ s.elementUsed ((o - 0x220) / 16) = false then 0
    else s.plainWord addr
  | 6 =>
    if inCleWindow addr then s.cleWindow o
    else if o = 0x24 then (tblGet (0 : Word) s.cle.prog (s.get Reg.CLE_PADDR_ADDR)).toNat
    else s.plainWord addr
  | 7 => if o = 4 then s.wordWith Reg.GRD_STAT_WEAK (if s.weakNow then 1 else 0) else s.plainWord addr
  | 8 =>
    if 0xC0 ≤ o ∧ o ≤ 0xC8 then s.bypStat ((o - 0xC0) / 4)
    else if (Reg.CEL_CELL_STAT_ELIG 0).addr ≤ addr then s.cellStatWord ((addr - (Reg.CEL_CELL_STAT_ELIG 0).addr) / 4) else s.plainWord addr
  | 9 => if 0x300 ≤ o then s.carryWord ((o - 0x300) / 4) else s.plainWord addr
  | 10 =>
    if 0x100 ≤ o ∧ o < 0x280 ∧ o % 0x40 = 0x1C then s.pwmStat ((o - 0x100) / 0x40)
    else if 0x100 ≤ o ∧ o < 0x280 ∧ o % 0x40 = 0x20 then
      (s.pwmCounter ((o - 0x100) / 0x40)).1 + (if (s.pwmCounter ((o - 0x100) / 0x40)).2 then 65536 else 0)
    else s.plainWord addr
  | 11 => if o = 0x18 then s.actWord false else if o = 0x1C then s.actWord true else s.plainWord addr
  | 14 => if addr = Reg.TRI_CNT_RESYNC.addr ∧ s.get Reg.TRI_STAT_STATE = 4 then 0 else s.plainWord addr
  | 15 =>
    if o = 0x04 then
      s.wordWith Reg.HST_STAT_INFLIGHT s.inFlight - s.get Reg.HST_STAT_RAMP * 4 + (if s.ramping then 4 else 0)
    else if o = 0x18 then s.tenantStates
    else s.plainWord addr
  | 16 =>
    if o = 0 then s.poolWord
    else if o = 4 then s.allocValue
    else if 0x100 ≤ o ∧ o < 0x900 then s.queueReads ((o - 0x100) / 32) (o % 32)
    else s.plainWord addr
  | 17 =>
    if o = Reg.MEM_HAMPER_HSTATE.addr % 0x10000 then s.wordWith Reg.MEM_HAMPER_HSTATE s.hamperState
    else if o = Reg.MEM_BT_STAT_BUSY.addr % 0x10000 then s.wordWith Reg.MEM_BT_STAT_BUSY (if s.testBusy then 1 else 0)
    else s.plainWord addr
  | 18 =>
    if o = 4 then s.fltStat
    else if 0x120 ≤ o ∧ o < 0x140 then s.fltAct ((o - 0x120) / 4)
    else s.plainWord addr
  | 19 => if o = 4 then s.safStatWord else if o = 8 then s.linkMax else s.plainWord addr
  | _ => s.plainWord addr

/-! ### 64-bit pairs (R25, R346) -/

/-- The _LO registers of 64-bit values but those of the captured TIME, which do not snapshot (R27); the pairs of bit arrays (TRP_SRC, TRP_ACT, QUE_PTRERR, QUE_EVT) and the 48-bit pairs hold no 64-bit
value (DEDUCED, log 42). A tenant's registers stand at 0x2_0000_0000 + 0x2000 × tenant + offset. -/
def isLo (addr : Nat) : Bool :=
  [0x40030028, 0x40070060, 0x400B0024, 0x400E0014, 0x40120018, 0x40150020].contains addr
    || (decide (0x40050400 ≤ addr) && decide (addr < 0x40050600) && addr % 8 == 0)
    || (decide (0x200000000 ≤ addr) && (addr % 0x2000 == 0x10
      || (decide (0x20 ≤ addr % 0x2000) && decide (addr % 0x2000 < 0xA0) && addr % 16 == 0)))

/-- The _HI register of such a pair. -/
def isHi (addr : Nat) : Bool := decide (4 ≤ addr) && isLo (addr - 4)

/-- What a 32-bit read by a master returns: of _HI its last snapshot (R346). -/
def State.readWord (s : State) (m addr : Nat) : Nat := if isHi addr then s.snap (addr - 4) m else s.liveWord addr

/-- The effect of a read of a _LO register: the high half snapshotted for the master. -/
def State.readLo (s : State) (m addr : Nat) : State := if isLo addr then s.takeSnap addr m (s.liveWord (addr + 4)) else s

/-- REGISTER_PAIR_LO_READ: the low half, with the snapshot of the high half for this master (R346). -/
def doRegisterPairLoRead (m addr : Nat) (s : State) : State :=
  if isLo addr then (s.readLo m addr).answer (s.readWord m addr) else s

def execRegisterPairLoRead (master : Fin 32) (addr : Word) (s : State) : Host.Outcome State Fault Refusal :=
  .next (doRegisterPairLoRead master.val addr.toNat s)

/-- RC fields cleared by a read (R6). -/
def State.clearRc (s : State) (addr : Nat) : State :=
  (fieldsAt addr).foldl (fun s r => if r.acc == .RC then s.set (r.fld addr) 0 else s) s

/-- A read by a master of the CLE's object store or data memory meets an injection armed for the word (R386). -/
def State.cleBusEcc (s : State) (m type addr : Nat) : State :=
  let o : FaultOrigin := { master := m, type := type, addr := some addr }
  if 0x40064000 ≤ addr ∧ addr < 0x40068000 then s.cleEcc 8 ((addr - 0x40064000) / 4) o
  else if 0x40068000 ≤ addr ∧ addr < 0x4006C000 then s.cleEcc 7 ((addr - 0x40068000) / 4) o
  else s

/-! ### READ_REGS (R323, R325, R331) -/

/-- An address lies in a window of the operation's tenant. -/
def HostOp.inside (o : HostOp) (addr : Nat) : Bool :=
  let page := (addr - 0x40000000) / 4096
  o.wins.any (fun w => decide (w.1 ≤ page) && decide (page < w.1 + w.2))

/-- A word of READ_REGS: 0 outside the tenant's windows, else what a 32-bit read would return. -/
def State.windowWord (s : State) (o : HostOp) (m addr : Nat) : Nat := if o.inside addr then s.readWord m addr else 0

/-- The words of a READ_REGS in address order, each _LO with its snapshot. -/
def State.readRun (o : HostOp) (m : Nat) : Nat → Nat → State → State × List Nat
  | _, 0, s => (s, [])
  | addr, n + 1, s =>
    let w := s.windowWord o m addr
    let r := State.readRun o m (addr + 4) n (if o.inside addr then (s.readLo m addr).cleBusEcc m 0 addr else s)
    (r.1, w :: r.2)

/-- Some word of a READ_REGS lies in no window of its tenant. -/
def HostOp.outside (o : HostOp) : Bool :=
  (List.range (o.len / 4)).any (fun i => !o.inside (o.arg0 + 4 * i))

/-- READ_REGS carried out for the operation `o`: the words to the buffer; zeros without the right, and for words outside the windows; one
violation counted for either; RESULT the bytes written. -/
def State.readRegs (s : State) (t q : Nat) (o : HostOp) (dma : Bool) : State :=
  let s1 := if o.allowed && !o.outside then s else s.tenViol t
  let r := if o.allowed then State.readRun o (16 + t) o.arg0 (o.len / 4) s1 else (s1, List.replicate (o.len / 4) 0)
  let put (x : HostOp) : HostOp := { x with stage := .done, status := if dma then 0 else 5, result := if dma then o.len else 0 }
  let s2 := if dma then r.1.emit (.hostWrite t o.addr r.2) else r.1
  (s2.modTenant t (fun x => { x with ops := updFirst (fun y => y.sq == q && y.stage == o.stage && y.opc == 2) put x.ops })).postDone t q

/-- READ_REGS: without SNAP it is carried out as it executes; with SNAP it waits for the next Acquire deadline (R323). -/
def doReadRegs (t q : Nat) (dma : Bool) (s : State) : State :=
  match s.firstOp t q with
  | none => s
  | some o =>
    if o.opc ≠ 2 then s
    else if o.flags.testBit 1 then s.updOp t q (fun x => { x with stage := .accepted, time := s.now })
    else s.readRegs t q o dma

def execReadRegs (tenant : Fin 16) (sq : Fin 4) (dma : Bool) (s : State) : Host.Outcome State Fault Refusal :=
  .next (doReadRegs tenant.val sq.val dma s)

/-- READ_REGS_SNAPSHOT: a READ_REGS with SNAP that waited reads its words together after the Acquire deadline that followed it (R323). -/
def doReadRegsSnapshot (t q : Nat) (dma : Bool) (s : State) : State :=
  match (s.tenant t).ops.find? (fun o => o.sq == q && o.opc == 2 && o.stage == .accepted) with
  | none => s
  | some o => if o.time < s.cel.acqAt then s.readRegs t q o dma else s

def execReadRegsSnapshot (tenant : Fin 16) (sq : Fin 4) (dma : Bool) (s : State) : Host.Outcome State Fault Refusal :=
  .next (doReadRegsSnapshot tenant.val sq.val dma s)

end Sys2Proof.Machine
end

