-- ==== Sys2Proof/Machine/Bus.lean ====
section
/-!
DEFINITION. Accesses on the fabric (R338 to R348): rights, alignment, widths, the registers by block, the memories, and the tenants' BAR0.
-/

namespace Sys2Proof.Machine

/-! ### Register writes that no row of their own names -/

/-- A write to a CAD register: in CAD_CTRL LOCK first, then HOLDLIM, ALIGN, RUN and APPLY (R30 to R33; DESIGN CHOICE, log 43). -/
def State.cadRegisterWrite (s : State) (o v : Nat) : State :=
  if o = 0 then
    let s1 := if v.testBit 31 then doCadLock s else s
    let s2 := (doHoldlimWrite (v / 16 % 8) s1).putAlign (v.testBit 2)
    let s3 := if v.testBit 0 then doRunSet s2 else doRunClear s2
    if v.testBit 1 then doApply s3 else s3
  else if o = 0x04 then doTimingSetWrite .period v s
  else if o = 0x08 then doTimingSetWrite .dlAcq v s
  else if o = 0x0C then doTimingSetWrite .dlSolve v s
  else if o = 0x10 then doTimingSetWrite .dlPlan v s
  else if o = 0x14 then doTimingSetWrite .dlDisp v s
  else if o = 0x18 then doTimingSetWrite .applyDly v s
  else if o = 0x1C then doTimingSetWrite .tickPhase v s
  else if o = 0x30 then (if v.testBit 0 then doCap s else s)
  else if o = 0x50 then s.cadSyncWrite v
  else (s.clearOnes (0x40030000 + o) v).storeAllowed (0x40030000 + o) v

/-- A write to the CLE: its windows go through the write queue or to mailbox-in staging; mailbox-out takes none (R106, R110). -/
def State.cleWrite (s : State) (o v : Nat) : State :=
  if o < 0x4000 then s.cleRegisterWrite o v
  else if o < 0x8000 then doCleMemoryBusWrite (.object (Fin.ofNat 4096 ((o - 0x4000) / 4))) (BitVec.ofNat 32 v) s
  else if o < 0xC000 then doCleMemoryBusWrite (.data (Fin.ofNat 4096 ((o - 0x8000) / 4))) (BitVec.ofNat 32 v) s
  else if o < 0xC400 then s.stageMailbox ((o - 0xC000) / 4) (BitVec.ofNat 32 v)
  else s

/-- A write to a TRP register. -/
def State.trpWrite (s : State) (o v : Nat) : State :=
  if o = 0x00 then doPulseEnableRequest (v % 64) s
  else if o = 0x08 then doTrpBlkReq (v % 64) s
  else if o = 0x10 then doTripFlagClear false v s
  else if o = 0x14 then doTripFlagClear true v s
  else if o = 0x200 then (if v.testBit 0 then doHlLock s else s)
  else if o = 0x204 then doHardLimitWrite .iarm v s
  else if o = 0x208 then doHardLimitWrite .vcell v s
  else if o = 0x20C then doHardLimitWrite .pexp v s
  else if o = 0x210 then doHardLimitWrite .vdc v s
  else if o = 0x214 then doHardLimitWrite .freq v s
  else if o = 0x218 then doHardLimitWrite .dvdt v s
  else s.trpRegisterWrite (0x400B0000 + o) v

/-- A write to a QUE register by a master: the port registers act (R361 to R368), the others take their fields (R345, R374). -/
def State.queWrite (s : State) (m o v : Nat) : State :=
  let addr := 0x40100000 + o
  if o = 8 then doQueFree m (v % 4096) s
  else if 0x100 ≤ o ∧ o < 0x900 then
    let q := (o - 0x100) / 32
    if o % 32 = 0x08 then doPush m q v s
    else if o % 32 = 0x0C then doClose m q v s
    else if o % 32 = 0x18 then s.queueCommand q v
    else if o % 32 = 0x1C then doXferWrite m q v s
    else (s.clearOnes addr v).storeAllowed addr v
  else (s.clearOnes addr v).storeAllowed addr v

/-- A write to a MEM register (R373); the conflict counters of reserved masters and of 17 to 31 have no field (R350). -/
def State.memWrite (s : State) (addr v : Nat) : State :=
  let s1 := s.clearOnes addr v
  if wordAllowed addr v then (s1.storeRW addr v).btUse else s1

/-- A write to a FLT register by a master (R381, R384, R386, R387, R390). -/
def State.fltWrite (s : State) (m o v : Nat) : State :=
  let addr := 0x40120000 + o
  if o = 0 then
    let s1 := s.storeAllowed addr v
    if v.testBit 31 then doFltLock s1 else s1
  else if o = 8 then s.escWrite Reg.FLT_ESC0_TMO_N (v % 0x10000)
  else if o = 0xC then (s.escWrite Reg.FLT_ESC1_TMO_R (v % 0x10000)).escWrite Reg.FLT_ESC1_TMO_S (v / 0x10000 % 0x10000)
  else if o = 0x28 then
    if v.testBit 31 then doArm v s
    else
      let s1 := s.injFields v
      if v.testBit 30 then doCancel s1 else s1
  else if 0x100 ≤ o ∧ o < 0x120 then doFltSrcClear ((o - 0x100) / 4) v s
  else if 0x140 ≤ o ∧ o < 0x160 then doFltAckWrite ((o - 0x140) / 4) v s
  else if 0x180 ≤ o ∧ o < 0x1A0 then doFltForceWrite m ((o - 0x180) / 4) v s
  else (s.clearOnes addr v).storeRW addr v

/-- A 32-bit write to a register by a master that has the right to it, by its block (R345). -/
def State.writeRegister (s : State) (m addr v : Nat) : State :=
  let o := addr % 0x10000
  match Reg.blockOf addr with
  | 0 => s.sysRegisterWrite addr v
  | 1 =>
    if o = 0x30 then doClkPll2CfgWrite v s
    else if 0x100 ≤ o ∧ o < 0x120 then doClkOutWrite ((o - 0x100) / 4) v s
    else s.clkRegisterWrite addr v
  | 2 => if o = 0x2C then doPwrRtcWrite v s else doPwrRegisterWrite o v s
  | 3 => s.cadRegisterWrite o v
  | 4 => s.adcRegisterWrite addr v
  | 5 => doMtrRegisterWrite o v s
  | 6 => s.cleWrite o v
  | 7 => doGrdRegisterWrite o v s
  | 8 => doCelRegisterWrite o v s
  | 9 => doEdgRegisterWrite o v s
  | 10 => if o = 0 then doPwmCtrlWrite v s else s.pwmRegisterWrite addr v
  | 11 => s.trpWrite o v
  | 12 => doSpkRegisterWrite o v s
  | 13 => doPelRegisterWrite o v s
  | 14 => s.triRegisterWrite m addr v
  | 15 => doHstRegisterWrite o v s
  | 16 => s.queWrite m o v
  | 17 => s.memWrite addr v
  | 18 => s.fltWrite m o v
  | 19 => doSafRegisterWrite m o v s
  | 20 => doNetRegisterWrite o v s
  | 21 => s.lcsRegisterWrite addr v
  | 22 => s.ageRegisterWrite addr v
  | _ => s

/-- A 32-bit read of a register, with its effects: a pair's snapshot, a pop, an allocation, the program store's address, RC fields cleared. -/
def State.readRegister (s : State) (m : Nat) (kind : AccessKind) (addr : Nat) : State :=
  let o := addr % 0x10000
  let b := Reg.blockOf addr
  if isLo addr then doRegisterPairLoRead m addr s
  else if b = 16 ∧ o = 4 then doQueAlloc m s
  else if b = 16 ∧ 0x100 ≤ o ∧ o < 0x900 ∧ o % 32 = 0x10 then doPop m ((o - 0x100) / 32) s
  else if b = 16 ∧ 0x100 ≤ o ∧ o < 0x900 ∧ o % 32 = 0x1C then doXferRead m ((o - 0x100) / 32) s
  else if b = 16 ∧ 0x100 ≤ o ∧ o < 0x900 ∧ o % 32 = 0x14 then s.peek m ((o - 0x100) / 32)
  else if b = 6 ∧ o = 0x24 then doClePdataRead s
  else ((s.cleBusEcc m (kindCode kind) addr).answer (s.readWord m addr)).clearRc addr

/-! ### Rights (R341, R357, R511, R521, R523) -/

/-- A part of MRAM that a master may access (R435, R523); the owner's key slots are written in DEV alone (R520). -/
def mramAllowed (s : State) (m : Nat) (kind : AccessKind) (a : Nat) : Bool :=
  let write := kind == .write
  let o := a - 0x14000000
  if write then
    if o < 0x10000 then m == 10 && (decide (s.get Reg.LCS_STATE_STATE = 1) || decide (a < keySlots.1) || decide (keySlots.2 ≤ a))
    else if o < 0x20000 then m == 10 && decide (s.get Reg.LCS_STATE_STATE ≤ 1)
    else if o < 0x21000 then m == 12
    else if o < 0x100000 then m == 0 || m == 3
    else m == 0 || m == 3 || m == 10
  else m == 0 || m == 3

/-- A master may make this access to a region (R341); for the pool only blocks that it owns (R359), for the Hamper only while it is OPEN
(R357), for the debug port only while it is open (R521). -/
def State.permits (s : State) (m : Nat) (kind : AccessKind) (a : Nat) : Bool :=
  let write := kind == .write
  match regionOf a with
  | .rom => !write && (decide (m ≤ 3) || m == 10)
  | .tcm => decide (m ≤ 3) || m == 10
  | .sram => decide (m ≤ 3) || m == 8 || m == 10
  | .dp => decide (m ≤ 3) || m == 8 || m == 9
  | .hamper => decide (m ≤ 3) && s.hamperOpen
  | .pool => decide (m ≤ 3) && s.tag ((a - 0x13000000) / 64) == 0x40 + m
  | .mram => mramAllowed s m kind a
  | .regs => (decide (m ≤ 3) || m == 5 || (m == 6 && s.on Reg.LCS_STATE_DBGOPEN)) && assigned a
  | .unassigned => false

/-- In SCRAPPED only the LCS and FLT registers serve (R511). -/
def State.serves (s : State) (a : Nat) : Bool :=
  s.get Reg.LCS_STATE_STATE != 5 || Reg.blockOf a == 21 || Reg.blockOf a == 18

/-! ### One access of at most 32 bits (R342 to R344, R352) -/

/-- The part of a word that a narrow read at an address returns. -/
def narrowPart (w a size : Nat) : Nat := (w >>> (8 * (a % 4))) % 2 ^ (8 * size)

/-- A port register of a queue that a master may not use: PUSH, CLOSE and XFER written by another than the producer, POP, PEEK and XFER read by
another than the consumer (R360). -/
def State.portRefused (s : State) (m : Nat) (write : Bool) (word : Nat) : Bool :=
  let o := word % 0x10000
  let q := (o - 0x100) / 32
  Reg.blockOf word == 16 && decide (0x100 ≤ o ∧ o < 0x900)
    && (if write then [0x08, 0x0C, 0x1C].contains (o % 32) && !s.mayWrite q m else [0x10, 0x14, 0x1C].contains (o % 32) && !s.mayRead q m)

/-- What a read of a port register or of QUE_ALLOC refused under R342 returns: what a permitted read would; 0 elsewhere (R342, R374). -/
def State.refusedWord (s : State) (word : Nat) : Nat :=
  let o := word % 0x10000
  if Reg.blockOf word = 16 ∧ (o = 4 ∨ 0x100 ≤ o ∧ o < 0x900 ∧ (o % 32 = 0x10 ∨ o % 32 = 0x1C)) then s.liveWord word else 0

/-- An access to a register: narrow writes are ignored, narrow reads have no effect (R343); at a queue's port by a master it is not for, either
counts (R360). -/
def State.regAccess (s : State) (m : Nat) (kind : AccessKind) (size a v : Nat) : State :=
  let word := a / 4 * 4
  if s.serves word = false then (if kind = .write then s else s.answer 0)
  else if kind = .write then
    if size = 4 then s.writeRegister m word v
    else if s.portRefused m true word then s.violate m kind a else s
  else if size = 4 then s.readRegister m kind word
  else (if s.portRefused m false word then s.violate m kind a else s).answer (narrowPart (s.readWord m word) a size)

/-- An access to a memory: a write narrower than a word first reads the word, and is discarded at a double-bit error; a write to a key slot puts a key there (R344, R352, R520). -/
def State.memAccess (s0 : State) (m : Nat) (kind : AccessKind) (size a v : Nat) : State :=
  let s := s0.touch a
  if kind = .write then
    if size = 4 then (s.setBytes a 4 v).keyWritten m a
    else
      let r := s.eccCheck m .write a
      if r.2 then r.1 else (r.1.setBytes a size v).keyWritten m a
  else (s.eccCheck m kind a).1.answer (s.bytesAt a size)

/-- An access that is not permitted or not aligned reads as zero, is ignored as a write, and counts (R342). -/
def State.access (s : State) (m : Nat) (kind : AccessKind) (size a v : Nat) : State :=
  if a % size ≠ 0 ∨ s.permits m kind (a / 4 * 4) = false then
    let s1 := s.violate m kind a
    if kind = .write then s1 else s1.answer (if a % size = 0 then narrowPart (s.refusedWord (a / 4 * 4)) a size else 0)
  else if regionOf a = .regs then s.regAccess m kind size a v
  else s.memAccess m kind size a v

/-! ### BAR0 (R312, R325) -/

/-- A 32-bit read of a tenant's BAR0; an offset not assigned reads 0 and counts (R325). -/
def State.bar0Read (s : State) (t off : Nat) : State :=
  let addr := 0x200000000 + 0x2000 * t + off
  if 0x2000 ≤ off ∧ off < 0x2080 then s.answer (s.vecWord t ((off - 0x2000) / 4))
  else if off = 0x3000 then s.answer (s.tenant t).pba
  else if off = 0x3004 then s.answer 0
  else if off < 0x2000 ∧ (Reg.find addr).isSome then (s.readLo (16 + t) addr).answer (s.readWord (16 + t) addr)
  else (s.tenViol t).answer 0

/-- An offset of BAR0 that a register, a doorbell or the MSI-X structures take. -/
def bar0Assigned (t off : Nat) : Bool :=
  (decide (off < 0x1000) && (Reg.find (0x200000000 + 0x2000 * t + off)).isSome) || (decide (0x1000 ≤ off) && decide (off < 0x1020)) || off == 0x1040
    || (decide (0x2000 ≤ off) && decide (off < 0x2080)) || off == 0x3000 || off == 0x3004

/-- A host access to the BAR0 of a tenant whose function exists: narrow reads have no effect, narrow writes are ignored, and at an offset not
assigned they count (R311, R312, R325, R343). -/
def State.bar0Access (s : State) (t : Nat) (kind : AccessKind) (size off v : Nat) : State :=
  let word := off / 4 * 4
  if s.present t = false then s
  else if off % size ≠ 0 then (if kind = .write then s.tenViol t else (s.tenViol t).answer 0)
  else if kind = .write then (if size = 4 then s.bar0Write t off v else if bar0Assigned t word then s else s.tenViol t)
  else if size = 4 then s.bar0Read t off
  else
    let r := s.bar0Read t word
    ({ r with bus := { r.bus with snaps := s.bus.snaps } } : State).answer (narrowPart r.bus.readData off size)

/-- One access of at most 32 bits, on the fabric or to a tenant's BAR0; a core's misaligned or PMP-refused access raises its exception and
does not reach the fabric; a master whose clock is gated makes none (R286, R485). -/
def State.access32 (s : State) (m : Nat) (kind : AccessKind) (size a v : Nat) : State :=
  if s.gated m then s
  else if 16 ≤ m then s.bar0Access (m - 16) kind size a v
  else if m ≤ 2 then
    match s.coreStops m kind size a with
    | some cause => s.takeTrap m cause a
    | none => s.access m kind size a v
  else s.access m kind size a v

/-- An access of 1, 2 or 4 bytes, or of 8 as two of 4, the lower address first (R343, R344). Other sizes are not on the
fabric. -/
def State.busAccess (s : State) (a : BusAccess) : State :=
  let m := a.master.val
  let v := a.value.toNat
  let at_ := a.addr.toNat
  if a.size = 1 ∨ a.size = 2 ∨ a.size = 4 then s.access32 m a.kind a.size at_ (v % 2 ^ (8 * a.size))
  else if a.size = 8 ∧ s.gated m = false then
    let s1 := s.access32 m a.kind 4 at_ (v % 0x100000000)
    let s2 := s1.access32 m a.kind 4 (at_ + 4) (v / 0x100000000)
    if a.kind = .write then s2 else s2.answer (s1.bus.readData + 0x100000000 * s2.bus.readData)
  else s

/-! ### Two accesses of one cycle (R349 to R351) -/

/-- The access passes R341 and R342 and reaches its memory. -/
def State.reaches (s : State) (a : BusAccess) : Bool :=
  decide (a.master.val < 16) && !s.gated a.master.val && decide (0 < a.size) && a.addr.toNat % a.size == 0 && s.permits a.master.val a.kind (a.addr.toNat / 4 * 4)
    && (decide (2 < a.master.val) || (s.coreStops a.master.val a.kind a.size a.addr.toNat).isNone)

/-- Port A of the dual-port window, or the Tricycle (R349, R351). -/
def ofTricycle (a : BusAccess) : Bool := decide (a.master.val ≤ 2)

/-- The bank or port that two accesses of one cycle both need: a bank of the shared SRAM, or the control TCM's port that all but the Tricycle
share (R349). -/
def sameBank (a b : BusAccess) : Bool :=
  let x := a.addr.toNat
  let y := b.addr.toNat
  match regionOf x, regionOf y with
  | .sram, .sram => (x - 0x10000000) / 64 % 28 == (y - 0x10000000) / 64 % 28
  | .tcm, .tcm => ofTricycle a == ofTricycle b
  | _, _ => false

/-- Two accesses write a common byte. -/
def commonByte (a b : BusAccess) : Bool :=
  a.kind == .write && b.kind == .write && decide (a.addr.toNat < b.addr.toNat + b.size) && decide (b.addr.toNat < a.addr.toNat + a.size)

/-- The access that waits a cycle counts for its master; masters 16 to 31 share a counter (R350). -/
def State.countWait (s : State) (a : BusAccess) : State := s.count (Reg.MEM_CONF_COUNT (min 16 a.master.val)) 1

/-- Two accesses of one cycle. At the two ports of the dual-port window each read sees the word before the other's write, and port A's bytes
stand (R351). At one bank the Tricycle is served first; of others the command's order is that of the round robin (R349, R350; log 101). -/
def State.bothAccess (s : State) (a b : BusAccess) : State :=
  let x := if ofTricycle b && !ofTricycle a then b else a
  let y := if ofTricycle b && !ofTricycle a then a else b
  if regionOf x.addr.toNat = .dp ∧ regionOf y.addr.toNat = .dp ∧ ofTricycle x = true ∧ ofTricycle y = false then
    if x.kind = .write then
      let s1 := (s.busAccess y).busAccess x
      if s.reaches x && s.reaches y && commonByte x y then s1.count Reg.MEM_DP_COLL_COUNT 1 else s1
    else (s.busAccess x).busAccess y
  else
    let s1 := (s.busAccess x).busAccess y
    if s.reaches x && s.reaches y && x.master != y.master && sameBank x y then s1.countWait y else s1

/-- REGISTER_WRITE: an access; a write over several registers as 32-bit writes, lowest address first (R312); two accesses of one cycle; an access to
configuration space (R310); an event of the MGC (R328). -/
def doRegisterWrite (a : FabricCommand) (s : State) : State :=
  match a with
  | .one a => s.busAccess a
  | .burst m addr data => ((List.range data.length).zip data).foldl (fun s p => s.access32 m.val .write 4 ((addr.toNat + 4 * p.1) % 0x100000000) p.2.toNat) s
  | .both a b => s.bothAccess a b
  | .config t r v => s.configAccess t.val r (v.map (fun w => w.toNat))
  | .mgcEvent ring e t arg => s.hostEvent ring.val (0x100 + e.toNat) t.val arg.toNat

def execRegisterWrite (a : FabricCommand) (s : State) : Host.Outcome State Fault Refusal := .next (doRegisterWrite a s)

end Sys2Proof.Machine
end

