-- ==== Sys2Proof/Machine/Debug.lean ====
section
/-!
DEFINITION. The CSRs of the cores (R286 to R290), and debug requests on a halted cluster (R305 to R307): resume, single step, abstract register access and the program buffer.
-/

namespace Sys2Proof.Machine

/-! ### CSRs of the cores (R286 to R290) -/

/-- The place of a machine CSR among the words of R298; its number is that of the privileged architecture (PRESUMED, log 158). -/
def csrPlace (n : Nat) : Option Nat :=
  if 0x3A0 ≤ n ∧ n ≤ 0x3A3 then some (48 + (n - 0x3A0))
  else if 0x3B0 ≤ n ∧ n ≤ 0x3BF then some (52 + (n - 0x3B0))
  else match n with
    | 0x300 => some 32
    | 0x310 => some 33
    | 0x304 => some 34
    | 0x305 => some 38
    | 0x340 => some 39
    | 0x341 => some 40
    | 0x342 => some 41
    | 0x343 => some 42
    | 0x320 => some 43
    | 0xB00 => some 44
    | 0xB80 => some 45
    | 0xB02 => some 46
    | 0xB82 => some 47
    | 0xC00 => some 44
    | 0xC80 => some 45
    | 0xC02 => some 46
    | 0xC82 => some 47
    | 0x7B1 => some 31
    | _ => none

/-- The standard CSRs that read 0 and keep nothing: the identities of R286 and the counters beyond the two of Zicntr (PRESUMED, log 158). -/
def csrZero (n : Nat) : Bool :=
  [0xF11, 0xF12, 0xF13, 0xF15, 0x306].contains n || (decide (0xB03 ≤ n) && decide (n ≤ 0xB1F)) || (decide (0xB83 ≤ n) && decide (n ≤ 0xB9F))
    || (decide (0x323 ≤ n) && decide (n ≤ 0x33F))

/-- Core `x` shows an interrupt: mip.MEIP (R290). -/
def State.meip (s : State) (x : Nat) : Bool := ((s.core x).irqpend &&& (s.core x).irqen) != 0

/-- The value of CSR `n` on core `x`, if it exists: an access to another of the custom ranges is an illegal instruction (R286 to R290). -/
def State.csr (s : State) (x n : Nat) : Option Nat :=
  let c := s.core x
  match csrPlace n with
  | some k => some (c.word k)
  | none =>
    if csrZero n then some 0
    else match n with
      | 0x301 => some 0x40101104
      | 0xF14 => some (s.csrMaster x)
      | 0x344 => some (if s.meip x then 0x800 else 0)
      | 0x7B0 => some (0x40000000 + 64 * c.haltCause + c.priv)
      | 0x7C0 => some c.irqen
      | 0x7C1 => some c.irqpend
      | 0xC01 => some (s.now % 0x100000000)
      | 0xC81 => some (s.core (s.csrMaster x)).timeSnap
      | 0xFC0 => some (s.cluster + (if s.on Reg.TRI_STAT_DBGHALT then 0x2000 else 0))
      | 0xFC1 => some s.tick
      | 0xFC2 => some s.phaseNow
      | _ => none

/-- The bits of a machine CSR that a write keeps (PRESUMED, log 158): MIE, MPIE, MPP, MPRV and TW of mstatus, none of mstatush, the three
enables of mie, mepc and mtvec without their low bits, the two counters of mcountinhibit; pmpaddr as 32-byte granules (R286). -/
def csrKept (n v : Nat) : Nat :=
  if n = 0x300 then v &&& 0x221888
  else if n = 0x310 then 0
  else if n = 0x304 then v &&& 0x888
  else if n = 0x305 then v &&& 0xFFFFFFFD
  else if n = 0x341 ∨ n = 0x7B1 then v &&& 0xFFFFFFFE
  else if n = 0x320 then v &&& 5
  else v

/-- CSR `n` of core `x` written; one that does not exist or is read-only (its two top bits 1) takes no write: the illegal-instruction
exception (R288). tcirqpend loses the bits written as 0 (R288). -/
def State.csrWrite (s : State) (x n v : Nat) : Option State :=
  if 0xC00 ≤ n ∨ (s.csr x n).isNone = true then none
  else some (s.modCore x (fun c => match csrPlace n with
    | some k => { c with words := tblSet 0 c.words k (csrKept n v) }
    | none =>
      if n = 0x7C0 then { c with irqen := v % 0x40000 }
      else if n = 0x7C1 then { c with irqpend := c.irqpend &&& v }
      else if n = 0x7B0 then { c with priv := if v % 4 = 3 then 3 else 0 }
      else c))

/-! ### The debug module (R305 to R307) -/

/-- A register of core `x` by its number for an abstract command: a CSR below 0x1000, x0 to x31 from 0x1000 (R305; PRESUMED, log 158). -/
def State.debugRead (s : State) (x regno : Nat) : Option Nat :=
  if regno < 0x1000 then s.csr x regno
  else if regno = 0x1000 then some 0
  else if regno < 0x1020 then some ((s.core x).word (regno - 0x1001)) else none

/-- The same register written; x0 keeps 0. -/
def State.debugWrite (s : State) (x regno v : Nat) : Option State :=
  if regno < 0x1000 then s.csrWrite x regno v
  else if regno = 0x1000 then some s
  else if regno < 0x1020 then some (s.modCore x (fun c => { c with words := tblSet 0 c.words (regno - 0x1001) v })) else none

/-- The error of an abstract command: 0 none, 3 an exception, 4 the hart is not halted (R305; PRESUMED, log 158). -/
def State.setCmderr (s : State) (e : Nat) : State := { s with tri := { s.tri with cmderr := e } }

/-- The accesses that a core's instructions make, voted and done once (R306): one after the other. -/
def State.doAccesses (s : State) (x : Nat) (as : List Sys2Proof.BusAccess) : State :=
  as.foldl (fun s a => State.busAccess s { a with master := Fin.ofNat 32 (s.csrMaster x) }) s

/-- An abstract command on a hart whose cores are `x` and its like: done where they are halted and no error stands (R305, R306). -/
def State.abstractCommand (s : State) (x : Nat) (f : State → State) : State :=
  if s.tri.cmderr ≠ 0 then s
  else if (s.core x).halted = false then s.setCmderr 4
  else f s

/-- The harts' cores resumed: DBGHALT is 0 once none is halted (R306). -/
def State.resumeCores (s : State) (cs : List Nat) : State :=
  let s1 := cs.foldl (fun s x => s.modCore x (fun c => { c with halted := false })) s
  s1.setBool Reg.TRI_STAT_DBGHALT ([0, 1, 2].any (fun x => (s1.core x).halted))

/-- A step of a halted hart: one instruction runs, its accesses done, and the cores halt again, their words as it left them (a free value,
log 158); a deferred resynchronisation may proceed (R297, R306). -/
def State.stepCores (s : State) (x : Nat) (cs : List Nat) (as : List Sys2Proof.BusAccess) : State :=
  if (s.core x).halted = false then s
  else
    let s1 := (s.doAccesses x as).stopCores cs 4
    { s1 with tri := { s1.tri with stepped := true } }

/-- DEBUG_RESUME: a request on a hart that the module shows, through an open port, carried out on each core it reaches; reads return the
lowest core's value (R305 to R307). -/
def doDebugResume (hart : Nat) (r : DebugRequest) (s : State) : State :=
  match s.on Reg.LCS_STATE_DBGOPEN, s.debugCores hart with
  | true, x :: xs =>
    let cs := x :: xs
    match r with
    | .resume => s.resumeCores cs
    | .step as => s.stepCores x cs as
    | .readReg n => s.abstractCommand x (fun s =>
      match s.debugRead x n.toNat with
      | none => s.setCmderr 3
      | some v =>
        let s1 := if n.toNat = 0xC01 then s.snapTime x else s
        { s1 with tri := { s1.tri with data0 := v } })
    | .writeReg n v => s.abstractCommand x (fun s => (cs.foldl (fun o y => o.bind (fun s => s.debugWrite y n.toNat v.toNat)) (some s)).getD
      (s.setCmderr 3))
    | .programWord i v => { s with tri := { s.tri with progbuf := tblSet 0 s.tri.progbuf i.val v.toNat } }
    | .runProgram as raised => s.abstractCommand x (fun s => ((s.doAccesses x as).stopCores cs (s.core x).haltCause).setCmderr (if raised then 3 else 0))
    | .clearError => s.setCmderr 0
  | _, _ => s

def execDebugResume (request : Sys2Proof.HartRequest) (s : State) : Host.Outcome State Fault Refusal :=
  .next (doDebugResume request.hart.val request.request s)

end Sys2Proof.Machine
end

