-- ==== Sys2Proof/Machine/Dispatch.lean ====
section
/-!
DEFINITION. The one dispatch: each command to its meaning.
-/

namespace Sys2Proof.Machine

def exec (i : Instr) (s : State) : Host.Outcome State Fault Refusal :=
  match i with
  | .planDeadline incomplete => Sys2Proof.Machine.execPlanDeadline incomplete s
  | .dispatchDeadline stalled => Sys2Proof.Machine.execDispatchDeadline stalled s
  | .holdlimWrite v => Sys2Proof.Machine.execHoldlimWrite v s
  | .cadTimeLoRead master => Sys2Proof.Machine.execCadTimeLoRead master s
  | .cadTimeHiRead master => Sys2Proof.Machine.execCadTimeHiRead master s
  | .timingSetWrite reg v => Sys2Proof.Machine.execTimingSetWrite reg v s
  | .converterSetWrite reg v => Sys2Proof.Machine.execConverterSetWrite reg v s
  | .converterPrewake inst => Sys2Proof.Machine.execConverterPrewake inst s
  | .samplingInstant inst => Sys2Proof.Machine.execSamplingInstant inst s
  | .resultPost input code level => Sys2Proof.Machine.execResultPost input code level s
  | .adcUrgReq chan => Sys2Proof.Machine.execAdcUrgReq chan s
  | .urgentSample conv code level => Sys2Proof.Machine.execUrgentSample conv code level s
  | .urgentResultPost conv => Sys2Proof.Machine.execUrgentResultPost conv s
  | .calibrationStep conv event refPpm => Sys2Proof.Machine.execCalibrationStep conv event refPpm s
  | .samplingSetWrite reg v => Sys2Proof.Machine.execSamplingSetWrite reg v s
  | .restart input v => Sys2Proof.Machine.execRestart input v s
  | .cleBr cond target => Sys2Proof.Machine.execCleBr cond target s
  | .cleLoop count last => Sys2Proof.Machine.execCleLoop count last s
  | .cleRuno obj => Sys2Proof.Machine.execCleRuno obj s
  | .cleWaitt cnt => Sys2Proof.Machine.execCleWaitt cnt s
  | .cleLd d m => Sys2Proof.Machine.execCleLd d m s
  | .cleSt d m => Sys2Proof.Machine.execCleSt d m s
  | .cleLd2 d m => Sys2Proof.Machine.execCleLd2 d m s
  | .cleSt2 d m => Sys2Proof.Machine.execCleSt2 d m s
  | .cleLdx d m => Sys2Proof.Machine.execCleLdx d m s
  | .cleStx d m => Sys2Proof.Machine.execCleStx d m s
  | .cleLds d m fresh unsettled => Sys2Proof.Machine.execCleLds d m fresh unsettled s
  | .cleAdd d source t wrap => Sys2Proof.Machine.execCleAdd d source t wrap s
  | .cleSub d source t wrap => Sys2Proof.Machine.execCleSub d source t wrap s
  | .cleNeg d source => Sys2Proof.Machine.execCleNeg d source s
  | .cleAbs d source => Sys2Proof.Machine.execCleAbs d source s
  | .cleMul d source t => Sys2Proof.Machine.execCleMul d source t s
  | .cleDiv d source t => Sys2Proof.Machine.execCleDiv d source t s
  | .cleMinmax d source t max => Sys2Proof.Machine.execCleMinmax d source t max s
  | .cleClamp d source t => Sys2Proof.Machine.execCleClamp d source t s
  | .cleMovi d imm => Sys2Proof.Machine.execCleMovi d imm s
  | .cleMovl d imm => Sys2Proof.Machine.execCleMovl d imm s
  | .cleMov d source => Sys2Proof.Machine.execCleMov d source s
  | .cleSh d source t amt reg kind => Sys2Proof.Machine.execCleSh d source t amt reg kind s
  | .cleLogic d source t op => Sys2Proof.Machine.execCleLogic d source t op s
  | .cleCmp source t => Sys2Proof.Machine.execCleCmp source t s
  | .cleSel d source t cond => Sys2Proof.Machine.execCleSel d source t cond s
  | .cleSetx index source src imm => Sys2Proof.Machine.execCleSetx index source src imm s
  | .cleMac d source t => Sys2Proof.Machine.execCleMac d source t s
  | .cleMsu d source t => Sys2Proof.Machine.execCleMsu d source t s
  | .cleDmac d source t zero => Sys2Proof.Machine.execCleDmac d source t zero s
  | .cleMpy d source t => Sys2Proof.Machine.execCleMpy d source t s
  | .cleAld d source clear => Sys2Proof.Machine.execCleAld d source clear s
  | .cleExt d source k => Sys2Proof.Machine.execCleExt d source k s
  | .cleAadd d source t minus => Sys2Proof.Machine.execCleAadd d source t minus s
  | .cleSincos d source => Sys2Proof.Machine.execCleSincos d source s
  | .cleSqrt d source => Sys2Proof.Machine.execCleSqrt d source s
  | .undefinedInstruction word => Sys2Proof.Machine.execUndefinedInstruction word s
  | .cleMemoryBusWrite word v => Sys2Proof.Machine.execCleMemoryBusWrite word v s
  | .clePdataWrite v => Sys2Proof.Machine.execClePdataWrite v s
  | .grdRegisterWrite offset v => Sys2Proof.Machine.execGrdRegisterWrite offset v s
  | .toneWindowEnd vRe vIm iRe iIm => Sys2Proof.Machine.execToneWindowEnd vRe vIm iRe iIm s
  | .passiveTestTimerExpiry test => Sys2Proof.Machine.execPassiveTestTimerExpiry test s
  | .celRegisterWrite offset v => Sys2Proof.Machine.execCelRegisterWrite offset v s
  | .mpptUpdate cell => Sys2Proof.Machine.execMpptUpdate cell s
  | .mpptScanStart cell => Sys2Proof.Machine.execMpptScanStart cell s
  | .socWindowEnd cell => Sys2Proof.Machine.execSocWindowEnd cell s
  | .gatesat cell => Sys2Proof.Machine.execGatesat cell s
  | .celBypReq j v => Sys2Proof.Machine.execCelBypReq j v s
  | .bypassDecision cell => Sys2Proof.Machine.execBypassDecision cell s
  | .bypassConfirmTimeout cell => Sys2Proof.Machine.execBypassConfirmTimeout cell s
  | .celRjReq j v => Sys2Proof.Machine.execCelRjReq j v s
  | .rejoinJudgement cell => Sys2Proof.Machine.execRejoinJudgement cell s
  | .edgRegisterWrite offset v => Sys2Proof.Machine.execEdgRegisterWrite offset v s
  | .dlCalStep line result => Sys2Proof.Machine.execDlCalStep line result s
  | .dlGroupSwap line => Sys2Proof.Machine.execDlGroupSwap line s
  | .pwmCtrlWrite v => Sys2Proof.Machine.execPwmCtrlWrite v s
  | .pwmCounterEvent channel event => Sys2Proof.Machine.execPwmCounterEvent channel event s
  | .pwmDeadtimeEnd channel => Sys2Proof.Machine.execPwmDeadtimeEnd channel s
  | .tripInputChange k level samples => Sys2Proof.Machine.execTripInputChange k level samples s
  | .tripfClear channel => Sys2Proof.Machine.execTripfClear channel s
  | .pwmChnStatRead channel => Sys2Proof.Machine.execPwmChnStatRead channel s
  | .comparatorOut n level => Sys2Proof.Machine.execComparatorOut n level s
  | .blankingWindowClose n => Sys2Proof.Machine.execBlankingWindowClose n s
  | .pulseEnableRequest arms => Sys2Proof.Machine.execPulseEnableRequest arms s
  | .trpBlkReq arms => Sys2Proof.Machine.execTrpBlkReq arms s
  | .tripFlagClear hi v => Sys2Proof.Machine.execTripFlagClear hi v s
  | .hardLimitWrite reg v => Sys2Proof.Machine.execHardLimitWrite reg v s
  | .echoReplyReceived port t2 => Sys2Proof.Machine.execEchoReplyReceived port t2 s
  | .dlyjump port => Sys2Proof.Machine.execDlyjump port s
  | .dlystale port => Sys2Proof.Machine.execDlystale port s
  | .reportFrameReceived port frame => Sys2Proof.Machine.execReportFrameReceived port frame s
  | .cellDeclaredLost port => Sys2Proof.Machine.execCellDeclaredLost port s
  | .helloOffer port => Sys2Proof.Machine.execHelloOffer port s
  | .hello port frame => Sys2Proof.Machine.execHello port frame s
  | .serviceFrameReceived port frame => Sys2Proof.Machine.execServiceFrameReceived port frame s
  | .serviceRetransmit port seq => Sys2Proof.Machine.execServiceRetransmit port seq s
  | .alignmentFound port => Sys2Proof.Machine.execAlignmentFound port s
  | .alignmentLoss port => Sys2Proof.Machine.execAlignmentLoss port s
  | .resyncTimeout port => Sys2Proof.Machine.execResyncTimeout port s
  | .retrain j v => Sys2Proof.Machine.execRetrain j v s
  | .spkPortEnWrite j v => Sys2Proof.Machine.execSpkPortEnWrite j v s
  | .spkRegisterWrite offset v => Sys2Proof.Machine.execSpkRegisterWrite offset v s
  | .spkErrRead which port => Sys2Proof.Machine.execSpkErrRead which port s
  | .spkSvcRead port => Sys2Proof.Machine.execSpkSvcRead port s
  | .clusterBusOutput a b c => Sys2Proof.Machine.execClusterBusOutput a b c s
  | .resyncFreeze verified => Sys2Proof.Machine.execResyncFreeze verified s
  | .rsreq core => Sys2Proof.Machine.execRsreq core s
  | .takeout core => Sys2Proof.Machine.execTakeout core s
  | .lbistComplete core passed => Sys2Proof.Machine.execLbistComplete core passed s
  | .triReset master => Sys2Proof.Machine.execTriReset master s
  | .voterTestComplete failed => Sys2Proof.Machine.execVoterTestComplete failed s
  | .clusterImageReload image => Sys2Proof.Machine.execClusterImageReload image s
  | .debugHaltRequest hart => Sys2Proof.Machine.execDebugHaltRequest hart s
  | .timeCsrRead core => Sys2Proof.Machine.execTimeCsrRead core s
  | .timehCsrRead core => Sys2Proof.Machine.execTimehCsrRead core s
  | .tcirqpendWrite core v events => Sys2Proof.Machine.execTcirqpendWrite core v events s
  | .sqTailDoorbell tenant sq v => Sys2Proof.Machine.execSqTailDoorbell tenant sq v s
  | .cqHeadDoorbell tenant ring v => Sys2Proof.Machine.execCqHeadDoorbell tenant ring v s
  | .descriptorFetch bytes => Sys2Proof.Machine.execDescriptorFetch bytes s
  | .readRegs tenant sq dma => Sys2Proof.Machine.execReadRegs tenant sq dma s
  | .readRegsSnapshot tenant sq dma => Sys2Proof.Machine.execReadRegsSnapshot tenant sq dma s
  | .setpoint tenant sq => Sys2Proof.Machine.execSetpoint tenant sq s
  | .qsend tenant sq data dma => Sys2Proof.Machine.execQsend tenant sq data dma s
  | .qrecv tenant sq dma => Sys2Proof.Machine.execQrecv tenant sq dma s
  | .timeDescriptor tenant sq dma => Sys2Proof.Machine.execTimeDescriptor tenant sq dma s
  | .safetyDescriptor tenant sq pdu dma => Sys2Proof.Machine.execSafetyDescriptor tenant sq pdu dma s
  | .recordDescriptor tenant sq => Sys2Proof.Machine.execRecordDescriptor tenant sq s
  | .imageDescriptor tenant sq block verdict dma => Sys2Proof.Machine.execImageDescriptor tenant sq block verdict dma s
  | .mgcDefinedOperation tenant sq => Sys2Proof.Machine.execMgcDefinedOperation tenant sq s
  | .mgcOperationComplete tenant sq tag status result => Sys2Proof.Machine.execMgcOperationComplete tenant sq tag status result s
  | .nopDescriptor tenant sq => Sys2Proof.Machine.execNopDescriptor tenant sq s
  | .cqCoalescingTimer tenant cq => Sys2Proof.Machine.execCqCoalescingTimer tenant cq s
  | .attach tenant vermap => Sys2Proof.Machine.execAttach tenant vermap s
  | .detach tenant => Sys2Proof.Machine.execDetach tenant s
  | .hstTReset tenant v => Sys2Proof.Machine.execHstTReset tenant v s
  | .tenantResetComplete tenant => Sys2Proof.Machine.execTenantResetComplete tenant s
  | .functionLevelReset tenant => Sys2Proof.Machine.execFunctionLevelReset tenant s
  | .ringEnableWrite tenant ring v => Sys2Proof.Machine.execRingEnableWrite tenant ring v s
  | .tenantDmaFailure tenant ring => Sys2Proof.Machine.execTenantDmaFailure tenant ring s
  | .hstRegisterWrite offset v => Sys2Proof.Machine.execHstRegisterWrite offset v s
  | .backgroundTestStep underAccess differs => Sys2Proof.Machine.execBackgroundTestStep underAccess differs s
  | .hamperWipe cause => Sys2Proof.Machine.execHamperWipe cause s
  | .hamperVerifyComplete allZero => Sys2Proof.Machine.execHamperVerifyComplete allZero s
  | .push master q v => Sys2Proof.Machine.execPush master q v s
  | .close master q v => Sys2Proof.Machine.execClose master q v s
  | .pop master q => Sys2Proof.Machine.execPop master q s
  | .flush q => Sys2Proof.Machine.execFlush q s
  | .flushEffect q => Sys2Proof.Machine.execFlushEffect q s
  | .skip q => Sys2Proof.Machine.execSkip q s
  | .queueReset q => Sys2Proof.Machine.execQueueReset q s
  | .queueResetComplete q => Sys2Proof.Machine.execQueueResetComplete q s
  | .queAlloc master => Sys2Proof.Machine.execQueAlloc master s
  | .queFree master block => Sys2Proof.Machine.execQueFree master block s
  | .xferWrite master q v => Sys2Proof.Machine.execXferWrite master q v s
  | .xferRead master q => Sys2Proof.Machine.execXferRead master q s
  | .faultReport src info access => Sys2Proof.Machine.execFaultReport src info access s
  | .railPairInvalid src stays => Sys2Proof.Machine.execRailPairInvalid src stays s
  | .escalationExpiry src => Sys2Proof.Machine.execEscalationExpiry src s
  | .faultNReadbackMismatch level => Sys2Proof.Machine.execFaultNReadbackMismatch level s
  | .fltAckWrite j v => Sys2Proof.Machine.execFltAckWrite j v s
  | .fltSrcClear j v => Sys2Proof.Machine.execFltSrcClear j v s
  | .fltForceWrite master j v => Sys2Proof.Machine.execFltForceWrite master j v s
  | .arm v => Sys2Proof.Machine.execArm v s
  | .safetyPduReceived conn carrier tenant pdu => Sys2Proof.Machine.execSafetyPduReceived conn carrier tenant pdu s
  | .safetyWatchdogExpiry conn => Sys2Proof.Machine.execSafetyWatchdogExpiry conn s
  | .safetyConnectionEnWrite conn en => Sys2Proof.Machine.execSafetyConnectionEnWrite conn en s
  | .safeEnChange closed => Sys2Proof.Machine.execSafeEnChange closed s
  | .safRegisterWrite master offset v => Sys2Proof.Machine.execSafRegisterWrite master offset v s
  | .safReadCounters which => Sys2Proof.Machine.execSafReadCounters which s
  | .meteringSample x => Sys2Proof.Machine.execMeteringSample x s
  | .upshift k => Sys2Proof.Machine.execUpshift k s
  | .meteringPulse j => Sys2Proof.Machine.execMeteringPulse j s
  | .mtrClr v => Sys2Proof.Machine.execMtrClr v s
  | .mtrCounterRead which => Sys2Proof.Machine.execMtrCounterRead which s
  | .mtrRegisterWrite offset v => Sys2Proof.Machine.execMtrRegisterWrite offset v s
  | .stationFrameReceived port frame fcsOk bothPorts => Sys2Proof.Machine.execStationFrameReceived port frame fcsOk bothPorts s
  | .ptpMessageReceived domain body stamp => Sys2Proof.Machine.execPtpMessageReceived domain body stamp s
  | .pdelayReqSend stamp0 stamp1 => Sys2Proof.Machine.execPdelayReqSend stamp0 stamp1 s
  | .gooseMessageReceived stNum sqNum timeAllowedToLive => Sys2Proof.Machine.execGooseMessageReceived stNum sqNum timeAllowedToLive s
  | .gooseTalExpiry sub => Sys2Proof.Machine.execGooseTalExpiry sub s
  | .gooseResend pub => Sys2Proof.Machine.execGooseResend pub s
  | .svFrameReceived asdus simulated => Sys2Proof.Machine.execSvFrameReceived asdus simulated s
  | .svSampleDue stream => Sys2Proof.Machine.execSvSampleDue stream s
  | .svPublish stream => Sys2Proof.Machine.execSvPublish stream s
  | .stationLinkChange port up => Sys2Proof.Machine.execStationLinkChange port up s
  | .netRegisterWrite offset v => Sys2Proof.Machine.execNetRegisterWrite offset v s
  | .netCounterRead which => Sys2Proof.Machine.execNetCounterRead which s
  | .laneAlignmentChange lane event => Sys2Proof.Machine.execLaneAlignmentChange lane event s
  | .pelotonTimeFrame lane frame arrival => Sys2Proof.Machine.execPelotonTimeFrame lane frame arrival s
  | .summaryReceived lane frame => Sys2Proof.Machine.execSummaryReceived lane frame s
  | .gridFrameReceived lane frame => Sys2Proof.Machine.execGridFrameReceived lane frame s
  | .pelotonBlockFrame lane frame => Sys2Proof.Machine.execPelotonBlockFrame lane frame s
  | .pelotonServiceFrame lane frame content => Sys2Proof.Machine.execPelotonServiceFrame lane frame content s
  | .pelotonEcho lane event => Sys2Proof.Machine.execPelotonEcho lane event s
  | .deviceUnheard device => Sys2Proof.Machine.execDeviceUnheard device s
  | .pelRegisterWrite offset v => Sys2Proof.Machine.execPelRegisterWrite offset v s
  | .pelErrRead lane => Sys2Proof.Machine.execPelErrRead lane s
  | .cupThresholdCrossed above => Sys2Proof.Machine.execCupThresholdCrossed above s
  | .gaugeMeasurement cupMv jugMv => Sys2Proof.Machine.execGaugeMeasurement cupMv jugMv s
  | .jugCapacitanceMeasured ms mv => Sys2Proof.Machine.execJugCapacitanceMeasured ms mv s
  | .pwrRtcWrite v => Sys2Proof.Machine.execPwrRtcWrite v s
  | .tamperSample opens => Sys2Proof.Machine.execTamperSample opens s
  | .railOutOfBand rail out => Sys2Proof.Machine.execRailOutOfBand rail out s
  | .pwrRegisterWrite offset v => Sys2Proof.Machine.execPwrRegisterWrite offset v s
  | .pllLockLoss pll => Sys2Proof.Machine.execPllLockLoss pll s
  | .pllRelock pll => Sys2Proof.Machine.execPllRelock pll s
  | .clkPll2CfgWrite v => Sys2Proof.Machine.execClkPll2CfgWrite v s
  | .clkOutWrite output v => Sys2Proof.Machine.execClkOutWrite output v s
  | .clkPllStatRead pll => Sys2Proof.Machine.execClkPllStatRead pll s
  | .junctionTemperatureSample tenths => Sys2Proof.Machine.execJunctionTemperatureSample tenths s
  | .boot offers => Sys2Proof.Machine.execBoot offers s
  | .bootRetry offers => Sys2Proof.Machine.execBootRetry offers s
  | .lcsTrans v => Sys2Proof.Machine.execLcsTrans v s
  | .lcsSelect v => Sys2Proof.Machine.execLcsSelect v s
  | .lcsConfirm v => Sys2Proof.Machine.execLcsConfirm v s
  | .keyRevoke slots => Sys2Proof.Machine.execKeyRevoke slots s
  | .ageingMeasurement drift0 drift1 shift2 drift3 shift4 => Sys2Proof.Machine.execAgeingMeasurement drift0 drift1 shift2 drift3 shift4 s
  | .registerWrite a => Sys2Proof.Machine.execRegisterWrite a s
  | .comparatorIn n level => Sys2Proof.Machine.execComparatorIn n level s
  | .blankingCapReached n => Sys2Proof.Machine.execBlankingCapReached n s
  | .registerPairLoRead master addr => Sys2Proof.Machine.execRegisterPairLoRead master addr s
  | .kickstandAlignTimeout port => Sys2Proof.Machine.execKickstandAlignTimeout port s
  | .meteringPulseEnd j => Sys2Proof.Machine.execMeteringPulseEnd j s
  | .imageSourceTimeout offers => Sys2Proof.Machine.execImageSourceTimeout offers s
  | .debugResume request => Sys2Proof.Machine.execDebugResume request s
  | .tickStart => Sys2Proof.Machine.execTickStart s
  | .acquireDeadline => Sys2Proof.Machine.execAcquireDeadline s
  | .solveDeadline => Sys2Proof.Machine.execSolveDeadline s
  | .planFrameStart => Sys2Proof.Machine.execPlanFrameStart s
  | .apply => Sys2Proof.Machine.execApply s
  | .timingSetActivate => Sys2Proof.Machine.execTimingSetActivate s
  | .runSet => Sys2Proof.Machine.execRunSet s
  | .runClear => Sys2Proof.Machine.execRunClear s
  | .ticksStop => Sys2Proof.Machine.execTicksStop s
  | .cadLock => Sys2Proof.Machine.execCadLock s
  | .cap => Sys2Proof.Machine.execCap s
  | .syncHoldoverTimeout => Sys2Proof.Machine.execSyncHoldoverTimeout s
  | .commit => Sys2Proof.Machine.execCommit s
  | .converterSetCheck => Sys2Proof.Machine.execConverterSetCheck s
  | .samplingSetActivate => Sys2Proof.Machine.execSamplingSetActivate s
  | .adcUrgCntRead => Sys2Proof.Machine.execAdcUrgCntRead s
  | .cleNop => Sys2Proof.Machine.execCleNop s
  | .cleEnd => Sys2Proof.Machine.execCleEnd s
  | .waittRelease => Sys2Proof.Machine.execWaittRelease s
  | .writeQueueDrain => Sys2Proof.Machine.execWriteQueueDrain s
  | .holdwClear => Sys2Proof.Machine.execHoldwClear s
  | .clePdataRead => Sys2Proof.Machine.execClePdataRead s
  | .mailboxCommit => Sys2Proof.Machine.execMailboxCommit s
  | .mailboxCopy => Sys2Proof.Machine.execMailboxCopy s
  | .cleEnClear => Sys2Proof.Machine.execCleEnClear s
  | .cycclr => Sys2Proof.Machine.execCycclr s
  | .cleImplStatRead => Sys2Proof.Machine.execCleImplStatRead s
  | .deferredWriteEffect => Sys2Proof.Machine.execDeferredWriteEffect s
  | .grdRestart => Sys2Proof.Machine.execGrdRestart s
  | .bsreq => Sys2Proof.Machine.execBsreq s
  | .observerLocked => Sys2Proof.Machine.execObserverLocked s
  | .observerLost => Sys2Proof.Machine.execObserverLost s
  | .rejoin => Sys2Proof.Machine.execRejoin s
  | .shadowLock => Sys2Proof.Machine.execShadowLock s
  | .freewheelTimeout => Sys2Proof.Machine.execFreewheelTimeout s
  | .alignEnd => Sys2Proof.Machine.execAlignEnd s
  | .handover => Sys2Proof.Machine.execHandover s
  | .blackstartTimeout => Sys2Proof.Machine.execBlackstartTimeout s
  | .rtHoldExpiry => Sys2Proof.Machine.execRtHoldExpiry s
  | .ageingHourEnd => Sys2Proof.Machine.execAgeingHourEnd s
  | .baseline => Sys2Proof.Machine.execBaseline s
  | .edgWinCntRead => Sys2Proof.Machine.execEdgWinCntRead s
  | .hlLock => Sys2Proof.Machine.execHlLock s
  | .trpHlLockRead => Sys2Proof.Machine.execTrpHlLockRead s
  | .exportLimitTimeout => Sys2Proof.Machine.execExportLimitTimeout s
  | .echo => Sys2Proof.Machine.execEcho s
  | .serviceFrameSend => Sys2Proof.Machine.execServiceFrameSend s
  | .rate => Sys2Proof.Machine.execRate s
  | .kickstandPlan => Sys2Proof.Machine.execKickstandPlan s
  | .takeoutEffect => Sys2Proof.Machine.execTakeoutEffect s
  | .gob => Sys2Proof.Machine.execGob s
  | .goc => Sys2Proof.Machine.execGoc s
  | .setpointApply => Sys2Proof.Machine.execSetpointApply s
  | .linkReset => Sys2Proof.Machine.execLinkReset s
  | .dispatchStale => Sys2Proof.Machine.execDispatchStale s
  | .backgroundTestStepTimeout => Sys2Proof.Machine.execBackgroundTestStepTimeout s
  | .memEccCntRead => Sys2Proof.Machine.execMemEccCntRead s
  | .freeListRebuild => Sys2Proof.Machine.execFreeListRebuild s
  | .freeListRebuildComplete => Sys2Proof.Machine.execFreeListRebuildComplete s
  | .cancel => Sys2Proof.Machine.execCancel s
  | .fltLock => Sys2Proof.Machine.execFltLock s
  | .demand => Sys2Proof.Machine.execDemand s
  | .spdTimeout => Sys2Proof.Machine.execSpdTimeout s
  | .safLimitChangeEffect => Sys2Proof.Machine.execSafLimitChangeEffect s
  | .safLock => Sys2Proof.Machine.execSafLock s
  | .meteringResult => Sys2Proof.Machine.execMeteringResult s
  | .meteringWindowEnd => Sys2Proof.Machine.execMeteringWindowEnd s
  | .snap => Sys2Proof.Machine.execSnap s
  | .savenow => Sys2Proof.Machine.execSavenow s
  | .periodicSave => Sys2Proof.Machine.execPeriodicSave s
  | .saveComplete => Sys2Proof.Machine.execSaveComplete s
  | .saveTimeout => Sys2Proof.Machine.execSaveTimeout s
  | .callock => Sys2Proof.Machine.execCallock s
  | .totlock => Sys2Proof.Machine.execTotlock s
  | .mtrStatRead => Sys2Proof.Machine.execMtrStatRead s
  | .announceTimeout => Sys2Proof.Machine.execAnnounceTimeout s
  | .activePortChange => Sys2Proof.Machine.execActivePortChange s
  | .goosePublish => Sys2Proof.Machine.execGoosePublish s
  | .safetyFrameReceived => Sys2Proof.Machine.execSafetyFrameReceived s
  | .supervisionFrameSend => Sys2Proof.Machine.execSupervisionFrameSend s
  | .generalFrameTransmit => Sys2Proof.Machine.execGeneralFrameTransmit s
  | .summarySend => Sys2Proof.Machine.execSummarySend s
  | .pelotonHello => Sys2Proof.Machine.execPelotonHello s
  | .leaderElection => Sys2Proof.Machine.execLeaderElection s
  | .vauxRise => Sys2Proof.Machine.execVauxRise s
  | .powerOnReset => Sys2Proof.Machine.execPowerOnReset s
  | .vauxLoss => Sys2Proof.Machine.execVauxLoss s
  | .earlyWarning => Sys2Proof.Machine.execEarlyWarning s
  | .earlyWarningClear => Sys2Proof.Machine.execEarlyWarningClear s
  | .ksreq => Sys2Proof.Machine.execKsreq s
  | .kickstandEntryComplete => Sys2Proof.Machine.execKickstandEntryComplete s
  | .wake => Sys2Proof.Machine.execWake s
  | .kickstandExitComplete => Sys2Proof.Machine.execKickstandExitComplete s
  | .jugThresholdCrossed => Sys2Proof.Machine.execJugThresholdCrossed s
  | .rtcSecond => Sys2Proof.Machine.execRtcSecond s
  | .reverseCurrent => Sys2Proof.Machine.execReverseCurrent s
  | .confirmTimeout => Sys2Proof.Machine.execConfirmTimeout s
  | .lcsLock => Sys2Proof.Machine.execLcsLock s
  | .supplyReturn => Sys2Proof.Machine.execSupplyReturn s
  | .pelotonServiceSend => Sys2Proof.Machine.execPelotonServiceSend s

end Sys2Proof.Machine
end

