-- ==== Sys2Proof/Machine/Idle.lean ====
section
/-!
DEFINITION. What an empty queue does: one period of the 400 MHz clock (R7). The table has no row for the clock.
-/

namespace Sys2Proof.Machine

/-- The 400 MHz clock runs: the main domain is powered and PLL0 has its lock (R7, R481, R508). -/
def State.clocked (s : State) : Bool := s.pwr.main == .on && !s.pwr.pllLost.testBit 0

/-- One period of the clock on an empty queue: the engine executes an instruction that is due at this TIME, TIME counts, steered by its
source, the station ports take the frames whose time has come, and a SERVICE frame that waits starts where it may (R7, R80, R444, R463). DESIGN CHOICE, log 1. -/
def State.idle (s : State) : State :=
  if s.clocked then s.cleClock.timeClock.netServe.laneServe else s

end Sys2Proof.Machine
end

