-- ==== Sys2Proof/WellFormed.lean ====
section
/-!
DEFINITION. What a command must be beyond its types: each check has the rule that gives its bound. A meaning is total on ill-formed
commands too; a sender that follows the rules sends well-formed ones.
-/

namespace Sys2Proof

/-- A register access names a word: registers are 32 bits wide and naturally aligned (R343). -/
def wordOffset (offset : Fin 16384) : Bool := offset.val % 4 == 0

/-- A signed 24-bit metering code (R418). -/
def code24 (x : Int) : Bool := decide (-(2 ^ 23) ≤ x) && decide (x < 2 ^ 23)

/-- A metering sample gives the eight codes of path 1 and the four of path 2 (R417, R418). -/
def MeterSample.wf (x : MeterSample) : Bool :=
  x.path1.length == 8 && x.path2.length == 4 && x.path1.all code24 && x.path2.all code24

/-- Nanoseconds of a PTP time stay below one second (R446). -/
def PtpBody.wf : PtpBody → Bool
  | .sync _ _ _ _ ns _ => decide (ns < 1000000000)
  | .followUp _ _ _ ns _ => decide (ns < 1000000000)
  | .pdelayResp _ _ _ ns _ => decide (ns < 1000000000)
  | .pdelayRespFollowUp _ _ ns _ => decide (ns < 1000000000)
  | .announce .. => true
  | .pdelayReq .. => true

/-- A bus access is of 1, 2, 4 or 8 bytes, and its value fits in them (R343, R344). -/
def BusAccess.wf (a : BusAccess) : Bool :=
  (a.size == 1 || a.size == 2 || a.size == 4 || a.size == 8) && decide (a.value.toNat < 2 ^ (8 * a.size))

/-- Every access of a command on the fabric is well formed. -/
def FabricCommand.wf : FabricCommand → Bool
  | .one a => a.wf
  | .burst _ a _ => a.toNat % 4 == 0
  | .both a b => a.wf && b.wf
  | .config .. => true
  | .mgcEvent .. => true

/-- The check of a command. -/
def Instr.wf : Instr → Bool
  | .registerWrite a => a.wf
  | .descriptorFetch bytes => bytes.length == 64
  | .meteringSample x => x.wf
  | .ptpMessageReceived _ body _ => body.wf
  | .grdRegisterWrite o _ => wordOffset o
  | .celRegisterWrite o _ => wordOffset o
  | .edgRegisterWrite o _ => wordOffset o
  | .spkRegisterWrite o _ => wordOffset o
  | .hstRegisterWrite o _ => wordOffset o
  | .safRegisterWrite _ o _ => wordOffset o
  | .mtrRegisterWrite o _ => wordOffset o
  | .netRegisterWrite o _ => wordOffset o
  | .pelRegisterWrite o _ => wordOffset o
  | .pwrRegisterWrite o _ => wordOffset o
  | .registerPairLoRead _ a => a.toNat % 4 == 0
  | _ => true

/-- A well-formed command. -/
abbrev Instr.WellFormed (i : Instr) : Prop := i.wf = true

end Sys2Proof
end

