-- ==== Sys2Proof/Safety.lean ====
section
/-!
DEFINITION. The terms that claims use: what a command does, what it leaves alone, and the states that a run keeps to.
-/

namespace Sys2Proof.Machine

/-- Completion: exec ANSWERS A NEXT STATE for the command in the state, and `P` holds of it. It is no implication: a command that stopped would
make it false. -/
def Does (i : Instr) (s : State) (P : State → Prop) : Prop := ∃ t, exec i s = .next t ∧ P t

/-- The parts of State beside the register fields. -/
inductive Part where
  | mem | cad | sys | adc | cle | grd | cel | edg | dl | pwm | trp | spk | pel | tri | hst | memt | pool | flt | saf | mtr | net | pwr
  | boot | bus | out | free | pending
deriving DecidableEq, Repr

/-- One part reads the same in two states; of the memory, every byte. -/
def Part.same (s t : State) : Part → Prop
  | .mem => ∀ a, t.byteAt a = s.byteAt a
  | .cad => t.cad = s.cad
  | .sys => t.sys = s.sys
  | .adc => t.adc = s.adc
  | .cle => t.cle = s.cle
  | .grd => t.grd = s.grd
  | .cel => t.cel = s.cel
  | .edg => t.edg = s.edg
  | .dl => t.dl = s.dl
  | .pwm => t.pwm = s.pwm
  | .trp => t.trp = s.trp
  | .spk => t.spk = s.spk
  | .pel => t.pel = s.pel
  | .tri => t.tri = s.tri
  | .hst => t.hst = s.hst
  | .memt => t.memt = s.memt
  | .pool => t.pool = s.pool
  | .flt => t.flt = s.flt
  | .saf => t.saf = s.saf
  | .mtr => t.mtr = s.mtr
  | .net => t.net = s.net
  | .pwr => t.pwr = s.pwr
  | .boot => t.boot = s.boot
  | .bus => t.bus = s.bus
  | .out => t.out = s.out
  | .free => t.free = s.free
  | .pending => t.pending = s.pending

/-- A field is one of a list. -/
def fldOneOf (fs : List Fld) (g : Fld) : Bool := fs.any (fun f => f.key == g.key)

/-- The number of the 64 KB register window that a field, or its shadow copy, lies in: its address bits [31:16] (R6). -/
def fldBlock (g : Fld) : Nat := g.addr / 0x10000 % 0x10000

/-! The windows by block; a tenant's BAR0 registers lie in two of their own. -/

abbrev Win.sys : Nat := 0x4000
abbrev Win.clk : Nat := 0x4001
abbrev Win.pwr : Nat := 0x4002
abbrev Win.cad : Nat := 0x4003
abbrev Win.adc : Nat := 0x4004
abbrev Win.mtr : Nat := 0x4005
abbrev Win.cle : Nat := 0x4006
abbrev Win.grd : Nat := 0x4007
abbrev Win.cel : Nat := 0x4008
abbrev Win.edg : Nat := 0x4009
abbrev Win.pwm : Nat := 0x400a
abbrev Win.trp : Nat := 0x400b
abbrev Win.spk : Nat := 0x400c
abbrev Win.pel : Nat := 0x400d
abbrev Win.tri : Nat := 0x400e
abbrev Win.hst : Nat := 0x400f
abbrev Win.que : Nat := 0x4010
abbrev Win.mem : Nat := 0x4011
abbrev Win.flt : Nat := 0x4012
abbrev Win.saf : Nat := 0x4013
abbrev Win.net : Nat := 0x4014
abbrev Win.lcs : Nat := 0x4015
abbrev Win.age : Nat := 0x4016
abbrev Win.bar0 : List Nat := [0, 1]

/-- Nothing changes from `s` to `t` but the parts of `ps`, the register fields `fs`, and the register fields of the windows `bs`. -/
def Frame (ps : List Part) (bs : List Nat) (fs : List Fld) (s t : State) : Prop :=
  (∀ p, p ∉ ps → p.same s t) ∧ ∀ g : Fld, fldOneOf fs g = false → fldBlock g ∉ bs → t.get g = s.get g

/-! What the report of a fault and the latch of a trip source touch, beside what a command does itself. -/

/-- The parts and windows of a reported fault: the collector's own, the interrupt, the notice to the MGC. -/
abbrev Part.ofFault : List Part := [.flt, .tri, .out]
abbrev Win.ofFault : List Nat := [Win.flt]

/-- The parts and windows of a trip latch: the trip network, the plans that yield, the PWM cut, the Spoke lines that yield, the block symbols and
the Peloton's Block frame, the Tricycle's interrupt and held halts. -/
abbrev Part.ofTrip : List Part := [.trp, .edg, .pwm, .spk, .pel, .tri, .out]
abbrev Win.ofTrip : List Nat := [Win.trp, Win.pwm, Win.tri]

/-- The tables of State are canonical: registers, memory, the uncommitted words of a run and the block tags list their keys strictly rising, and nothing that
an unlisted key reads as. -/
def State.Canonical (s : State) : Prop :=
  tblWf Reg.resetOfKey s.regs = true ∧ Memory.wf s.mem = true
    ∧ tblWf (fun _ => none) s.cle.runObj = true ∧ tblWf (fun _ => none) s.cle.runOut = true
    ∧ tblWf (fun _ => 0xFF) s.pool.tags = true

end Sys2Proof.Machine
end

