-- ==== Sys2Proof/Certificates/Slice0/Obligations.lean ====
section
/-!
DEFINITION. The statements for the provers. Each says in its docstring what it states and the rules it rests on; Does, Frame and Canonical
are those of Sys2Proof/Safety.lean.
-/

open Sys2Proof Sys2Proof.Machine

/-- A read of CAD_TIME_LO answers TIME[31:0] and snapshots TIME[63:32] for that master alone; a read of CAD_TIME_HI answers that master's last
snapshot; CAP captures TIME, TICK[15:0] and the phase (0 while RUN is 0), its 5-bit fraction being 0 while the delay lines are not ready
or the capture line (the last of the 13, the model's choice, log 112) is bad, and left open else. Nothing else changes. Completes:
cadTimeLoRead, cadTimeHiRead, cap. (R25, R26, R27, R207, R208, R346.) -/
def Obligations.CadenceReadsTime : Prop :=
  ∀ (s : State) (m : Fin 32),
    Does (.cadTimeLoRead m) s (fun t =>
      t.bus.readData = s.now % 0x100000000
      ∧ t.snap Reg.CAD_TIME_LO_TIME.addr m.val = s.now / 0x100000000 % 0x100000000
      ∧ (∀ m' : Fin 32, m' ≠ m → t.snap Reg.CAD_TIME_LO_TIME.addr m'.val = s.snap Reg.CAD_TIME_LO_TIME.addr m'.val)
      ∧ Frame [.bus] [] [] s t)
    ∧ Does (.cadTimeHiRead m) s (fun t =>
      t.bus.readData = s.snap Reg.CAD_TIME_LO_TIME.addr m.val ∧ t.bus.snaps = s.bus.snaps ∧ Frame [.bus] [] [] s t)
    ∧ Does .cap s (fun t =>
      t.get64 Reg.CAD_CAP_LO_TIME Reg.CAD_CAP_HI_TIME = s.now % 0x10000000000000000
      ∧ t.get Reg.CAD_CAP_FRAC_TICK = s.tick % 0x10000
      ∧ t.get Reg.CAD_CAP_FRAC_PHASE = (if s.get Reg.CAD_CTRL_RUN = 0 then 0 else s.get Reg.CAD_STAT_PHASE % 4)
      ∧ t.get Reg.CAD_CAP_FRAC_FRAC < 32
      ∧ (s.get Reg.EDG_STAT_DLRDY = 0 ∨ (List.range 5).any (fun g => s.dl.bad.testBit (60 + g)) = true → t.get Reg.CAD_CAP_FRAC_FRAC = 0)
      ∧ Frame [.free] []
        [Reg.CAD_CAP_LO_TIME, Reg.CAD_CAP_HI_TIME, Reg.CAD_CAP_FRAC_TICK, Reg.CAD_CAP_FRAC_PHASE, Reg.CAD_CAP_FRAC_FRAC] s t)

/-- CAD_LOCK sets LOCK. A write of HOLDLIM stores 1 to 4, except that with LOCK set a value above the present one leaves HOLDLIM unchanged; a
reserved value leaves it unchanged. Nothing else changes, so no command of this pair clears LOCK. Completes: cadLock, holdlimWrite. (R33,
R345.) -/
def Obligations.CadenceLockAndHoldLimit : Prop :=
  ∀ (s : State) (v : BitVec 3),
    Does .cadLock s (fun t => t.get Reg.CAD_CTRL_LOCK = 1 ∧ Frame [] [] [Reg.CAD_CTRL_LOCK] s t)
    ∧ Does (.holdlimWrite v) s (fun t =>
      if 1 ≤ v.toNat ∧ v.toNat ≤ 4 ∧ (s.get Reg.CAD_CTRL_LOCK = 0 ∨ v.toNat ≤ s.get Reg.CAD_CTRL_HOLDLIM)
      then t.get Reg.CAD_CTRL_HOLDLIM = v.toNat ∧ Frame [] [] [Reg.CAD_CTRL_HOLDLIM] s t
      else t = s)

/-- A write to a register of the timing set goes to its shadow copy; the active value stays; PEND is 1 exactly while some shadow copy differs
from its active value. Completes: timingSetWrite. (R29.) -/
def Obligations.TimingSetWritesAreShadowed : Prop :=
  ∀ (s : State) (r : TimingReg) (v : Word),
    Does (.timingSetWrite r v) s (fun t =>
      t.get (timingFld r).shadow = v.toNat % 2 ^ (timingFld r).width
      ∧ t.get (timingFld r) = s.get (timingFld r)
      ∧ (t.get Reg.CAD_STAT_PEND = 1 ↔ ∃ q : TimingReg, t.get (timingFld q).shadow ≠ t.get (timingFld q))
      ∧ (t.get Reg.CAD_STAT_PEND = 0 ∨ t.get Reg.CAD_STAT_PEND = 1)
      ∧ Frame [] [] [(timingFld r).shadow, Reg.CAD_STAT_PEND] s t)

/-- APPLY requests the shadow set; while RUN is 0 it acts at once, otherwise it waits for a tick start at least 40 counts after it, where
TIMING_SET_ACTIVATE judges it, the copies as they then stand; several requests wait each for its own tick start. For a device that is no
Peloton follower: a set that satisfies the ranges and R14 becomes active whole; one that breaks any condition changes nothing but CFGERR,
and the shadow copies stay. A request that is not due waits. Completes: apply, timingSetActivate. (R14, R29, R30.) -/
def Obligations.ApplyChecksTheWholeSet : Prop :=
  ∀ (s : State),
    let v (r : TimingReg) : Nat := s.get (timingFld r).shadow
    let passes : Prop := 4000 ≤ v .period ∧ v .period ≤ 40000 ∧ 40 ≤ v .applyDly ∧ v .applyDly ≤ 4000
      ∧ 400 ≤ v .dlAcq ∧ v .dlAcq < v .dlSolve ∧ v .dlSolve + 400 ≤ v .dlPlan ∧ v .dlPlan + 960 ≤ v .dlDisp
      ∧ v .dlDisp ≤ v .period ∧ v .tickPhase < v .period
    let active (t : State) : Prop := (∀ r : TimingReg, t.get (timingFld r) = v r % 2 ^ (timingFld r).width ∧ t.get (timingFld r).shadow = v r)
      ∧ t.get Reg.CAD_STAT_CFGERR = s.get Reg.CAD_STAT_CFGERR
      ∧ Frame [.cad, .adc, .flt, .tri, .out] [Win.cad, Win.adc, Win.spk, Win.flt] [] s t
    let refused (t : State) : Prop := t.get Reg.CAD_STAT_CFGERR = 1 ∧ Frame [.cad] [] [Reg.CAD_STAT_CFGERR] s t
    s.get Reg.CAD_SYNC_SRC ≠ 2 →
      (s.get Reg.CAD_CTRL_RUN = 0 ∧ passes → Does .apply s active)
      ∧ (s.get Reg.CAD_CTRL_RUN = 0 ∧ ¬passes → Does .apply s refused)
      ∧ (s.get Reg.CAD_CTRL_RUN ≠ 0 → Does .apply s (fun t => t.cad = { s.cad with applyReq := s.cad.applyReq ++ [s.now] } ∧ Frame [.cad] [] [] s t))
      ∧ ∀ at_ : Nat, s.cad.applyReq = [at_] →
        ((s.get Reg.CAD_CTRL_RUN = 0 ∨ at_ + 40 ≤ s.cad.tickStart) ∧ passes → Does .timingSetActivate s active)
        ∧ ((s.get Reg.CAD_CTRL_RUN = 0 ∨ at_ + 40 ≤ s.cad.tickStart) ∧ ¬passes → Does .timingSetActivate s refused)
        ∧ (s.get Reg.CAD_CTRL_RUN ≠ 0 ∧ s.cad.tickStart < at_ + 40 → Does .timingSetActivate s (fun t => t = s))

/-- Setting RUN schedules the first tick: with ALIGN 0 at the later of 400 counts after the write and the end of a tick still in progress;
with ALIGN 1 at the first tick-aligned TIME value from there, and under SRC 2 at the first tick start of the leader's grid from there; the
next tick start is the first one (the previous plan is then the null plan, see TickPhasesFollowInOrder). Setting RUN again changes
nothing. When the tick in progress at the clearing of RUN has passed all its phases and ends, ticks stop and the phase reads 0; before
that nothing happens. Three seconds without a valid Sync while LOCKED put SYNC to HOLDOVER and latch source 86. Completes: runSet,
ticksStop, syncHoldoverTimeout. (R11, R32, R34, R37, R38, R389.) -/
def Obligations.RunStartsAndStopsTicks : Prop :=
  ∀ (s : State),
    let least := max (s.now + 400) (s.cad.stopAt.getD 0)
    let whole : Prop := s.cad.inTick = false ∨ (s.get Reg.CAD_STAT_PHASE = 3 ∧ s.cad.dispatched = true)
    (s.get Reg.CAD_CTRL_RUN = 0 → Does .runSet s (fun t =>
      t.get Reg.CAD_CTRL_RUN = 1 ∧ t.cad.starting = true ∧ t.cad.nullPlan = s.cad.nullPlan ∧ t.cad.stopAt = s.cad.stopAt
      ∧ (s.get Reg.CAD_SYNC_SRC ≠ 2 ∧ s.get Reg.CAD_CTRL_ALIGN = 0 → t.cad.nextTick = some least)
      ∧ (s.get Reg.CAD_SYNC_SRC = 2 ∧ s.get Reg.CAD_PERIOD_PERIOD ≠ 0 → ∃ k : Nat, t.cad.nextTick = some (least + k)
        ∧ k < s.get Reg.CAD_PERIOD_PERIOD ∧ (least + k) % s.get Reg.CAD_PERIOD_PERIOD = s.cad.anchor % s.get Reg.CAD_PERIOD_PERIOD)
      ∧ (s.get Reg.CAD_SYNC_SRC ≠ 2 ∧ s.get Reg.CAD_CTRL_ALIGN ≠ 0 ∧ s.get Reg.CAD_TICK_PHASE_PHASE < s.get Reg.CAD_PERIOD_PERIOD →
        ∃ k, t.cad.nextTick = some (s.get Reg.CAD_TICK_PHASE_PHASE + k * s.get Reg.CAD_PERIOD_PERIOD)
          ∧ least ≤ s.get Reg.CAD_TICK_PHASE_PHASE + k * s.get Reg.CAD_PERIOD_PERIOD
          ∧ s.get Reg.CAD_TICK_PHASE_PHASE + k * s.get Reg.CAD_PERIOD_PERIOD < least + s.get Reg.CAD_PERIOD_PERIOD)
      ∧ Frame [.cad] [] [Reg.CAD_CTRL_RUN] s t))
    ∧ (s.get Reg.CAD_CTRL_RUN ≠ 0 → Does .runSet s (fun t => t = s))
    ∧ (whole ∧ s.cad.stopAt = none ∨ ¬whole → Does .ticksStop s (fun t => t = s))
    ∧ (∀ e, whole ∧ s.cad.stopAt = some e → Does .ticksStop s (fun t =>
      t.get Reg.CAD_STAT_PHASE = 0 ∧ t.cad.inTick = false ∧ t.cad.stopAt = none
      ∧ (s.now < e → e < 0x10000000000000000 → t.now = e) ∧ Frame [.cad] [] [Reg.CAD_STAT_PHASE] s t))
    ∧ (s.get Reg.CAD_STAT_SYNC = 2 → Does .syncHoldoverTimeout s (fun t =>
      t.get Reg.CAD_STAT_SYNC = 3 ∧ t.fltBit Reg.FLT_SRC_SRC 86 = true
      ∧ Frame [.cad, .flt, .tri, .out] [Win.flt] [Reg.CAD_STAT_SYNC] s t))

/-- With ticks running and the tick in progress, if any, past its last deadline, TICK_START counts TICK on by one modulo 2^32, begins Acquire
and raises interrupt 0; at the first one since RUN was set the previous plan is the null plan and no plan has been built. A tick start
before the phases of a tick are over, or while the device leaves Kickstand, does nothing. In Acquire the Acquire deadline begins Solve, in
Solve the Solve deadline begins Plan, in Plan the Plan deadline begins Dispatch, each at its programmed count from tick start; a Plan
deadline with no overrun in the tick sets HOLDCNT to 0. In Dispatch a Plan frame still in transmission at the Dispatch deadline counts in
CAD_OVR_DISP and latches source 18, and the phase lasts until the next tick start. No phase writes memory. Completes: tickStart,
acquireDeadline, solveDeadline, planFrameStart, planDeadline, dispatchDeadline. (R10, R11, R13, R18, R21, R22, R24.) -/
def Obligations.TickPhasesFollowInOrder : Prop :=
  ∀ (s : State),
    let ticking : Prop := s.inKickstand = false ∧ s.pwr.pllLost.testBit 0 = false
    let whole : Prop := s.cad.inTick = false ∨ (s.get Reg.CAD_STAT_PHASE = 3 ∧ s.cad.dispatched = true)
    let inPhase (p : Nat) : Prop := ticking ∧ s.cad.inTick = true ∧ s.get Reg.CAD_STAT_PHASE = p
    let reached (t : State) (dl : Fld) : Prop :=
      s.now < s.cad.tickStart + s.get dl → s.cad.tickStart + s.get dl < 0x10000000000000000 → t.now = s.cad.tickStart + s.get dl
    (¬whole ∨ s.get Reg.PWR_STAT_STATE = 5 → Does .tickStart s (fun t => t = s))
    ∧ (∀ at_, whole ∧ ticking ∧ s.get Reg.PWR_STAT_STATE ≠ 5 ∧ s.get Reg.CAD_CTRL_RUN ≠ 0 ∧ s.cad.stopAt = none ∧ s.cad.nextTick = some at_ → Does .tickStart s (fun t =>
      t.tick = (s.tick + 1) % 0x100000000 ∧ t.get Reg.CAD_STAT_PHASE = 0 ∧ t.cad.inTick = true
      ∧ (s.cad.starting = true → t.cad.nullPlan = true ∧ t.cel.firstPlan = true ∧ t.edg.sent = [] ∧ t.cad.starting = false)
      ∧ (s.cad.pendingStep = 0 → t.cad.tickStart = at_ ∧ (s.now < at_ → at_ < 0x10000000000000000 → t.now = at_))
      ∧ Part.same s t .mem ∧ Part.same s t .pending))
    ∧ (inPhase 0 → Does .acquireDeadline s (fun t =>
      t.get Reg.CAD_STAT_PHASE = 1 ∧ reached t Reg.CAD_DL_ACQ_DL ∧ t.tick = s.tick ∧ Part.same s t .mem ∧ Part.same s t .pending))
    ∧ (inPhase 1 → Does .solveDeadline s (fun t =>
      t.get Reg.CAD_STAT_PHASE = 2 ∧ reached t Reg.CAD_DL_SOLVE_DL ∧ t.tick = s.tick ∧ Part.same s t .mem ∧ Part.same s t .pending))
    ∧ (inPhase 2 ∧ s.spk.planAt ≤ s.cad.tickStart → Does .planFrameStart s (fun t =>
      (s.now < s.cad.tickStart + s.get Reg.CAD_DL_PLAN_DL - 64 → s.cad.tickStart + s.get Reg.CAD_DL_PLAN_DL - 64 < 0x10000000000000000 →
        t.now = s.cad.tickStart + s.get Reg.CAD_DL_PLAN_DL - 64)
      ∧ t.spk.planAt = t.now ∧ Frame [.cad, .spk] [] [] s t))
    ∧ (∀ incomplete, inPhase 2 → Does (.planDeadline incomplete) s (fun t =>
      t.get Reg.CAD_STAT_PHASE = 3 ∧ reached t Reg.CAD_DL_PLAN_DL ∧ t.tick = s.tick
      ∧ (s.cad.overrun = false ∧ t.cad.overrun = false → t.get Reg.CAD_STAT_HOLDCNT = 0)
      ∧ (incomplete = true ∧ s.cad.overrun = false → t.get Reg.CAD_OVR_PLAN_COUNT = min (s.get Reg.CAD_OVR_PLAN_COUNT + 1) 0xFFFFFFFF)
      ∧ Part.same s t .mem ∧ Part.same s t .pending))
    ∧ (inPhase 3 ∧ s.cad.dispatched = false → Does (.dispatchDeadline false) s (fun t =>
      t.cad.dispatched = true ∧ reached t Reg.CAD_DL_DISP_DL ∧ Frame [.cad] [] [] s t))
    ∧ (inPhase 3 ∧ s.cad.dispatched = false → Does (.dispatchDeadline true) s (fun t =>
      t.get Reg.CAD_OVR_DISP_COUNT = min (s.get Reg.CAD_OVR_DISP_COUNT + 1) 0xFFFFFFFF ∧ t.get Reg.CAD_OVR_TICK_TICK = s.tick % 0x100000000
      ∧ t.fltBit Reg.FLT_SRC_SRC 18 = true ∧ t.cad.dispatched = true ∧ reached t Reg.CAD_DL_DISP_DL
      ∧ Frame [.cad, .flt, .tri, .out] [Win.flt] [Reg.CAD_OVR_DISP_COUNT, Reg.CAD_OVR_TICK_TICK] s t))

/-- The first overrun of a tick, while HOLDCNT is below HOLDLIM, makes the tick a hold tick, counts HOLDCNT on and latches Note source 16; at
HOLDLIM it sets HOLDBLK, latches trip source 24 so that no arm stays ENABLED, leaves HOLDCNT and latches Serious source 17. A second
overrun of the same tick changes nothing but CAD_OVR_TICK. (R18, R21.) -/
def Obligations.OverrunsHoldThenBlock : Prop :=
  ∀ (s : State),
    (s.cad.overrun = false ∧ s.get Reg.CAD_STAT_HOLDCNT < s.get Reg.CAD_CTRL_HOLDLIM ∧ s.get Reg.CAD_CTRL_HOLDLIM ≤ 4 →
      s.noteOverrun.cad.holdTick = true ∧ s.noteOverrun.cad.overrun = true
      ∧ s.noteOverrun.get Reg.CAD_STAT_HOLDCNT = s.get Reg.CAD_STAT_HOLDCNT + 1
      ∧ s.noteOverrun.fltBit Reg.FLT_SRC_SRC 16 = true
      ∧ Frame [.cad, .flt] [Win.flt] [Reg.CAD_OVR_TICK_TICK, Reg.CAD_STAT_HOLDCNT] s s.noteOverrun)
    ∧ (s.cad.overrun = false ∧ s.get Reg.CAD_CTRL_HOLDLIM ≤ s.get Reg.CAD_STAT_HOLDCNT →
      s.noteOverrun.get Reg.CAD_STAT_HOLDBLK = 1 ∧ s.noteOverrun.tripFlag 24 = true ∧ s.noteOverrun.get Reg.TRP_PULSE_EN_EN = 0
      ∧ s.noteOverrun.get Reg.CAD_STAT_HOLDCNT = s.get Reg.CAD_STAT_HOLDCNT ∧ s.noteOverrun.fltBit Reg.FLT_SRC_SRC 17 = true
      ∧ s.noteOverrun.cad.holdTick = s.cad.holdTick)
    ∧ (s.cad.overrun = true → Frame [] [] [Reg.CAD_OVR_TICK_TICK] s s.noteOverrun)

/-- Clearing RUN sets RUN to 0, keeps the tick in progress to its end as the last one, blocks every arm at once by trip source 25 if any was
ENABLED, and brings every request that waits for a tick start to its effect: none still waits. Completes: runClear. (R32, R231, R549.) -/
def Obligations.ClearingRunBlocksAndSettles : Prop :=
  ∀ (s : State), s.get Reg.CAD_CTRL_RUN ≠ 0 → Does .runClear s (fun t =>
      t.get Reg.CAD_CTRL_RUN = 0 ∧ t.cad.nextTick = none
      ∧ (s.cad.stopAt = none → s.cad.inTick = true → t.cad.stopAt = s.cad.nextTick)
      ∧ (s.get Reg.TRP_PULSE_EN_EN ≠ 0 → t.tripFlag 25 = true ∧ t.get Reg.TRP_PULSE_EN_EN = 0)
      ∧ t.cad.applyReq = [] ∧ t.sys.commitReq = none ∧ t.adc.setReq = [] ∧ t.cle.mbxReq = none ∧ t.bus.waiting = []
      ∧ Part.same s t .pending)

/-- A write to the converter set stores each of its fields in the shadow and leaves the active values; any value is stored but the reserved
encodings: CELL 96 to 126 of the port map, ARM 6 and 7 and KIND 3 of a cell, which leave that field's shadow unchanged while the rest of
the write takes effect. PEND is 1 exactly while a shadow value differs. Completes: converterSetWrite. (R49, R550.) -/
def Obligations.ConverterSetWritesAreShadowed : Prop :=
  ∀ (s : State) (v : Word),
    let n := v.toNat
    let pend (t : State) : Prop := (t.get Reg.SYS_CONV_STAT_PEND = 1 ↔ ∃ f ∈ converterSet, t.get f.shadow ≠ t.get f)
    let stored (t : State) (f : Fld) : Prop := t.get f.shadow = n / 2 ^ f.lo % 2 ^ f.width
    let kept (t : State) (f : Fld) : Prop := t.get f.shadow = s.get f.shadow
    let only (t : State) (fs : List Fld) : Prop := pend t ∧ Frame [] [] (Reg.SYS_CONV_STAT_PEND :: fs.map Fld.shadow) s t
    Does (.converterSetWrite .topo v) s (fun t => stored t Reg.SYS_TOPO_TOPO ∧ stored t Reg.SYS_TOPO_FNOM ∧ only t [Reg.SYS_TOPO_TOPO, Reg.SYS_TOPO_FNOM])
    ∧ Does (.converterSetWrite .baseV v) s (fun t => stored t Reg.SYS_BASE_V_VALUE ∧ only t [Reg.SYS_BASE_V_VALUE])
    ∧ Does (.converterSetWrite .baseS v) s (fun t => stored t Reg.SYS_BASE_S_VALUE ∧ only t [Reg.SYS_BASE_S_VALUE])
    ∧ Does (.converterSetWrite .baseVdc v) s (fun t => stored t Reg.SYS_BASE_VDC_VALUE ∧ only t [Reg.SYS_BASE_VDC_VALUE])
    ∧ Does (.converterSetWrite .vmax v) s (fun t => stored t Reg.SYS_VMAX_VMAX ∧ only t [Reg.SYS_VMAX_VMAX])
    ∧ (∀ a : Fin 6, Does (.converterSetWrite (.armCfg a) v) s (fun t =>
        stored t (Reg.SYS_ARM_CFG_NCELL a.val) ∧ stored t (Reg.SYS_ARM_CFG_K a.val) ∧ only t [Reg.SYS_ARM_CFG_NCELL a.val, Reg.SYS_ARM_CFG_K a.val]))
    ∧ (∀ p : Fin 96, Does (.converterSetWrite (.portMap p) v) s (fun t =>
        (if n % 128 < 96 ∨ n % 128 = 127 then stored t (Reg.SYS_PORT_MAP_CELL p.val) else kept t (Reg.SYS_PORT_MAP_CELL p.val))
        ∧ only t [Reg.SYS_PORT_MAP_CELL p.val]))
    ∧ (∀ c : Fin 96, Does (.converterSetWrite (.cellCap c) v) s (fun t =>
        stored t (Reg.SYS_CELL_CAP_CAP c.val) ∧ only t [Reg.SYS_CELL_CAP_CAP c.val]))
    ∧ (∀ c : Fin 96, Does (.converterSetWrite (.cellCfg c) v) s (fun t =>
        stored t (Reg.SYS_CELL_CFG_VNOM c.val) ∧ stored t (Reg.SYS_CELL_CFG_LEGS c.val) ∧ stored t (Reg.SYS_CELL_CFG_EN c.val)
        ∧ (if n / 16 % 8 < 6 then stored t (Reg.SYS_CELL_CFG_ARM c.val) else kept t (Reg.SYS_CELL_CFG_ARM c.val))
        ∧ (if n / 2 % 4 < 3 then stored t (Reg.SYS_CELL_CFG_KIND c.val) else kept t (Reg.SYS_CELL_CFG_KIND c.val))
        ∧ only t [Reg.SYS_CELL_CFG_VNOM c.val, Reg.SYS_CELL_CFG_LEGS c.val, Reg.SYS_CELL_CFG_EN c.val, Reg.SYS_CELL_CFG_ARM c.val,
          Reg.SYS_CELL_CFG_KIND c.val]))

/-- COMMIT with RUN 0 and CONVERTER_SET_CHECK of a request that is due judge the shadow set by the ten checks: a set that passes them all
becomes active whole, with ACTIVE set; one that fails any of them changes nothing but CFGERR, ERRCODE (not 0) and ERRIDX. With RUN 1
COMMIT waits, and a further COMMIT is merged into the request that waits; a request that is not due waits. Completes: commit,
converterSetCheck. (R40, R49, R50.) -/
def Obligations.ConverterCommitIsWholeOrNothing : Prop :=
  ∀ (s : State),
    let v (f : Fld) : Nat := s.get f.shadow
    let topo := v Reg.SYS_TOPO_TOPO
    let arms := if topo = 3 then 6 else 3
    let on (c : Nat) : Prop := v (Reg.SYS_CELL_CFG_EN c) = 1
    let map (p : Nat) : Nat := v (Reg.SYS_PORT_MAP_CELL p)
    let passes : Prop :=
      s.get Reg.TRP_PULSE_EN_EN = 0
      ∧ 1 ≤ topo ∧ topo ≤ 3
      ∧ 1000 ≤ v Reg.SYS_BASE_V_VALUE ∧ v Reg.SYS_BASE_V_VALUE ≤ 400000 ∧ 100 ≤ v Reg.SYS_BASE_S_VALUE
      ∧ v Reg.SYS_BASE_S_VALUE ≤ 2000000 ∧ 1000 ≤ v Reg.SYS_VMAX_VMAX ∧ v Reg.SYS_VMAX_VMAX ≤ 2000
      ∧ (topo = 3 → 1000 ≤ v Reg.SYS_BASE_VDC_VALUE ∧ v Reg.SYS_BASE_VDC_VALUE ≤ 800000)
      ∧ (∀ a : Fin 6, if a.val < arms
          then 1 ≤ v (Reg.SYS_ARM_CFG_NCELL a.val) ∧ v (Reg.SYS_ARM_CFG_NCELL a.val) ≤ (if topo = 3 then 128 else 256)
            ∧ v (Reg.SYS_ARM_CFG_K a.val) < v (Reg.SYS_ARM_CFG_NCELL a.val)
            ∧ v (Reg.SYS_ARM_CFG_NCELL a.val) = v (Reg.SYS_ARM_CFG_NCELL 0)
          else v (Reg.SYS_ARM_CFG_NCELL a.val) = 0)
      ∧ (∀ p ∈ List.range 96, ∀ q ∈ List.range 96, map p < 96 → map p = map q → p = q)
      ∧ (∀ c ∈ List.range 96, on c → ∃ p ∈ List.range 96, map p = c)
      ∧ (∀ c ∈ List.range 96, on c → v (Reg.SYS_CELL_CFG_ARM c) < arms)
      ∧ (∀ c ∈ List.range 96, on c → topo ≠ 3 → v (Reg.SYS_CELL_CFG_LEGS c) ≠ 0)
      ∧ (∀ a : Fin 6, ((List.range 96).filter (fun c => v (Reg.SYS_CELL_CFG_EN c) == 1 && v (Reg.SYS_CELL_CFG_ARM c) == a.val)).length
          ≤ v (Reg.SYS_ARM_CFG_NCELL a.val))
      ∧ (∀ c ∈ List.range 96, on c → v (Reg.SYS_CELL_CFG_VNOM c) ≠ 0 ∧ v (Reg.SYS_CELL_CAP_CAP c) ≠ 0)
    let active (t : State) : Prop := (∀ f ∈ converterSet, t.get f = v f % 2 ^ f.width ∧ t.get f.shadow = v f)
      ∧ t.get Reg.SYS_CONV_STAT_ACTIVE = 1 ∧ t.sys.commitReq = none ∧ Frame [.sys, .pel, .out] [Win.sys] [] s t
    let refused (t : State) : Prop := t.get Reg.SYS_CONV_STAT_CFGERR = 1 ∧ t.get Reg.SYS_CONV_STAT_ERRCODE ≠ 0
      ∧ (s.get Reg.TRP_PULSE_EN_EN ≠ 0 → t.get Reg.SYS_CONV_STAT_ERRCODE = 1) ∧ t.sys.commitReq = none
      ∧ Frame [.sys] [] [Reg.SYS_CONV_STAT_CFGERR, Reg.SYS_CONV_STAT_ERRCODE, Reg.SYS_CONV_STAT_ERRIDX] s t
    (s.get Reg.CAD_CTRL_RUN = 0 ∧ passes → Does .commit s active)
    ∧ (s.get Reg.CAD_CTRL_RUN = 0 ∧ ¬passes → Does .commit s refused)
    ∧ (s.get Reg.CAD_CTRL_RUN ≠ 0 → Does .commit s (fun t =>
        t.sys.commitReq = some (s.sys.commitReq.getD s.now) ∧ Frame [.sys] [] [] s t))
    ∧ ∀ at_ : Nat, s.sys.commitReq = some at_ →
      ((s.get Reg.CAD_CTRL_RUN = 0 ∨ at_ + 40 ≤ s.cad.tickStart) ∧ passes → Does .converterSetCheck s active)
      ∧ ((s.get Reg.CAD_CTRL_RUN = 0 ∨ at_ + 40 ≤ s.cad.tickStart) ∧ ¬passes → Does .converterSetCheck s refused)
      ∧ (s.get Reg.CAD_CTRL_RUN ≠ 0 ∧ s.cad.tickStart < at_ + 40 → Does .converterSetCheck s (fun t => t = s))

/-- A write to the sampling set goes to the shadow copy and requests the whole shadow set; BGCAL and CONV_EN of ADC_CTRL act at once. Where
every request that waits is due (with RUN 0, or 40 counts before the tick start) the whole set becomes active if it holds no reserved
value, every instant lies below the period and the spans of its instants do not overlap modulo the period; else nothing changes but
CFGERR, and the refused values stay in the shadow. Completes: samplingSetWrite, samplingSetActivate. (R56, R57, R70, R74.) -/
def Obligations.SamplingSetIsJudgedWhole : Prop :=
  ∀ (s : State),
    let v (f : Fld) : Nat := s.get f.shadow
    let p := s.get Reg.CAD_PERIOD_PERIOD
    let slots := (List.range 4).foldl (fun m k => max m (v (Reg.ADC_PAIR_SEQ_NSLOT k))) 0
    let n := 48 + 40 * slots
    let apart (a b : Nat) : Prop := ∀ i ∈ List.range n, ∀ j ∈ List.range n, (a + i) % p ≠ (b + j) % p
    let two (a b : Nat) : Prop := a < p ∧ b < p ∧ (0 < slots → apart a b)
    let passes : Prop := v (Reg.ADC_INST_OFS 0) < 40000 ∧ v (Reg.ADC_INST_OFS 1) < 40000 ∧ slots ≤ 4
      ∧ (v Reg.ADC_CTRL_MODE = 0 ∧ v (Reg.ADC_INST_OFS 0) < p
        ∨ v Reg.ADC_CTRL_MODE = 1 ∧ two (v (Reg.ADC_INST_OFS 0)) ((v (Reg.ADC_INST_OFS 0) + p / 2) % p)
        ∨ v Reg.ADC_CTRL_MODE = 2 ∧ two (v (Reg.ADC_INST_OFS 0)) (v (Reg.ADC_INST_OFS 1)))
    let waits (t : State) : Prop := t.adc.setReq.map (fun q => q.1) = s.adc.setReq.map (fun q => q.1) ++ [s.now]
      ∧ t.adc.due.all (fun x => s.adc.due.contains x) = true ∧ t.adc.urgent = s.adc.urgent
      ∧ (t.get Reg.ADC_STAT_PEND = 1 ↔ ∃ f ∈ samplingSet, t.get f.shadow ≠ t.get f)
    (∀ w : Word, s.get Reg.CAD_CTRL_RUN ≠ 0 →
      Does (.samplingSetWrite .ctrl w) s (fun t => t.get Reg.ADC_CTRL_MODE.shadow = w.toNat / 0x10000 % 4
        ∧ t.get Reg.ADC_CTRL_BGCAL = w.toNat / 256 % 2 ∧ t.get Reg.ADC_CTRL_CONV_EN = w.toNat % 256 ∧ waits t
        ∧ (∀ c : Fin 8, w.getLsbD c.val = false ∧ s.bit Reg.ADC_CTRL_CONV_EN c.val = true →
          t.bit Reg.ADC_STAT_CALBUSY c.val = false ∧ ∀ x ∈ t.adc.due, x.conv ≠ c.val)
        ∧ Frame [.adc] [] [Reg.ADC_STAT_PEND, Reg.ADC_CTRL_MODE.shadow, Reg.ADC_CTRL_BGCAL, Reg.ADC_CTRL_CONV_EN, Reg.ADC_STAT_CALBUSY] s t)
      ∧ (∀ k : Fin 2, Does (.samplingSetWrite (.inst k) w) s (fun t => t.get (Reg.ADC_INST_OFS k.val).shadow = w.toNat % 0x10000 ∧ waits t
        ∧ Frame [.adc] [] [Reg.ADC_STAT_PEND, (Reg.ADC_INST_OFS k.val).shadow] s t))
      ∧ (∀ k : Fin 4, Does (.samplingSetWrite (.pairSeq k) w) s (fun t => t.get (Reg.ADC_PAIR_SEQ_NSLOT k.val).shadow = w.toNat / 0x10000 % 8
        ∧ t.get (Reg.ADC_PAIR_SEQ_SLOT k.val).shadow = w.toNat % 0x10000 ∧ waits t
        ∧ Frame [.adc] [] [Reg.ADC_STAT_PEND, (Reg.ADC_PAIR_SEQ_NSLOT k.val).shadow, (Reg.ADC_PAIR_SEQ_SLOT k.val).shadow] s t)))
    ∧ (∀ (r : SampReg) (w : Word), s.get Reg.CAD_CTRL_RUN = 0 → Does (.samplingSetWrite r w) s (fun t =>
      t.adc.setReq = [] ∧ Frame [.adc] [Win.adc] [] s t))
    ∧ (4000 ≤ p ∧ 48 + 40 * slots ≤ p ∧ s.adc.setReq ≠ []
      ∧ (∀ q ∈ s.adc.setReq, s.get Reg.CAD_CTRL_RUN = 0 ∨ q.1 + 40 ≤ s.cad.tickStart) →
      (passes → Does .samplingSetActivate s (fun t => (∀ f ∈ samplingSet, t.get f = v f % 2 ^ f.width ∧ t.get f.shadow = v f)
        ∧ t.adc.oneInstant = false ∧ Frame [.adc] [Win.adc] [] s t))
      ∧ (¬passes → Does .samplingSetActivate s (fun t => t.get Reg.ADC_STAT_CFGERR = 1 ∧ Frame [.adc] [] [Reg.ADC_STAT_CFGERR] s t)))

/-- A pre-wake, 48 counts before a sampling instant, wakes the enabled converters of active pairs and ends calibration steps on them. While
RUN is 0 neither happens. At a sampling instant T, slot i of every active pair is due at T + 40 × i counts on each enabled converter, on
the input its multiplexer selects. The result of the oldest due sample of an input is posted 48 counts after its instant: the raw word
holds the corrected value rounded half to even to 16 bits and saturated, with OVR where the level at the input lies beyond ±2.625 V, and
the code at its end beyond full scale, ±2.5 V; under ORDER 0 the filtered word of a sample that is not NV holds the 24-bit value (rounded
half to even, the model's choice, log 114). A changed ORDER or LEN, or RESTART, restarts the filter. Completes: converterPrewake,
samplingInstant, resultPost, restart. (R54, R55, R60, R66, R67, R69, R70, R73, R74.) -/
def Obligations.SequencedSamplesAreCorrectedAndFiltered : Prop :=
  ∀ (s : State),
    (∀ k : Fin 2, s.cad.inTick = true ∧ s.get Reg.CAD_CTRL_RUN ≠ 0 ∧ s.inKickstand = false ∧ k.val < s.instants.length ∧ s.now < s.cad.tickStart + s.instants.getD k.val 0 →
      let at_ := s.cad.tickStart + s.instants.getD k.val 0 - 48
      let used (c : Nat) : Bool := s.bit Reg.ADC_CTRL_CONV_EN c && decide (0 < s.get (Reg.ADC_PAIR_SEQ_NSLOT (c / 2)))
      Does (.converterPrewake k) s (fun t =>
        (∀ c : Fin 8, t.bit Reg.ADC_STAT_CALBUSY c.val = (s.bit Reg.ADC_STAT_CALBUSY c.val && !used c.val)
          ∧ t.adc.awake.testBit c.val = (s.adc.awake.testBit c.val || used c.val))
        ∧ (s.now < at_ → at_ < 0x10000000000000000 → t.now = at_)
        ∧ Frame [.cad, .adc] [] [Reg.ADC_STAT_CALBUSY] s t))
    ∧ (∀ k : Fin 2, s.get Reg.CAD_CTRL_RUN = 0 → Does (.converterPrewake k) s (fun t => t = s) ∧ Does (.samplingInstant k) s (fun t => t = s))
    ∧ (∀ k : Fin 2, s.cad.inTick = true ∧ s.get Reg.CAD_CTRL_RUN ≠ 0 ∧ s.inKickstand = false ∧ k.val < s.instants.length ∧ s.adc.urgent = [] →
      let at_ := s.cad.tickStart + s.instants.getD k.val 0
      Does (.samplingInstant k) s (fun t =>
        (s.now < at_ → at_ < 0x10000000000000000 → t.now = at_)
        ∧ (∀ (i : Fin 4) (c : Fin 8), i.val < s.get (Reg.ADC_PAIR_SEQ_NSLOT (c.val / 2)) ∧ s.bit Reg.ADC_CTRL_CONV_EN c.val = true →
          (⟨c.val / 2, i.val, c.val, 8 * (s.get (Reg.ADC_PAIR_SEQ_SLOT (c.val / 2)) / 2 ^ (4 * i.val + 2 * (c.val % 2)) % 4) + c.val,
            at_ + 40 * i.val⟩ : SlotSample) ∈ t.adc.due)
        ∧ (∀ x ∈ t.adc.due, x ∈ s.adc.due ∨ ∃ i : Fin 4, x.slot = i.val ∧ x.time = at_ + 40 * i.val)
        ∧ Frame [.cad, .adc] [] [] s t))
    ∧ (∀ (n : Fin 32) (word : BitVec 16) (level : Int), ∀ x ∈ s.adc.due, s.adc.due.find? (fun y => y.input == n.val) = some x →
      let code := if 25000000 < level then 0x7FFF#16 else if level < -25000000 then 0x8000#16 else word
      let ovr := decide (26250000 < level.natAbs)
      let v := clampInt (roundHalfEven ((code.toInt * 256 - s.getInt (Reg.ADC_CONV_OFS_OFS (n.val % 8)) - s.getInt (Reg.ADC_CAL_CH_OFS n.val))
        * (s.get (Reg.ADC_CAL_GAIN n.val) : Int)) 16384) (-0x800000) 0x7FFFFF
      Does (.resultPost n word level) s (fun t =>
        t.get (Reg.ADC_RAW_RESULT n.val) % 0x80000000 = (if ovr then 0x40000000 else 0) + n.val * 0x1000000
          + ((256 * clampInt (roundHalfEven v 256) (-0x8000) 0x7FFF) % 0x1000000).toNat
        ∧ (s.now < x.time + 48 → x.time + 48 < 0x10000000000000000 → t.now = x.time + 48)
        ∧ t.adc.due = s.adc.due.erase x
        ∧ (s.get (Reg.ADC_CH_CFG_ORDER n.val) = 0 ∧ t.inputNv n.val = false → t.get (Reg.ADC_FILT_RESULT n.val)
            = (if ovr then 0x40000000 else 0) + n.val * 0x1000000 + (v % 0x1000000).toNat)
        ∧ Part.same s t .mem ∧ Part.same s t .pending))
    ∧ (∀ (n : Fin 32) (w : Word), Does (.restart n w) s (fun t =>
      t.get (Reg.ADC_CH_CFG_LEN n.val) = (if w.toNat / 256 % 256 = 0 then s.get (Reg.ADC_CH_CFG_LEN n.val) else w.toNat / 256 % 256)
      ∧ t.get (Reg.ADC_CH_CFG_ORDER n.val) = (if w.toNat % 8 ≤ 4 then w.toNat % 8 else s.get (Reg.ADC_CH_CFG_ORDER n.val))
      ∧ (w.getLsbD 31 = true ∨ t.get (Reg.ADC_CH_CFG_LEN n.val) ≠ s.get (Reg.ADC_CH_CFG_LEN n.val)
          ∨ t.get (Reg.ADC_CH_CFG_ORDER n.val) ≠ s.get (Reg.ADC_CH_CFG_ORDER n.val) → t.filter n.val = {})
      ∧ Frame [.adc] [] [Reg.ADC_CH_CFG_LEN n.val, Reg.ADC_CH_CFG_ORDER n.val] s t))

/-- An urgent request on a disabled converter only marks its urgent word NV with its channel (OVR 0, the model's choice, log 118); a third
request held is dropped and counted; else it is queued. The oldest request not yet sampled is sampled 48 counts after it was made, or at
the end of a conversion then running on its pair, and the oldest request posted 48 counts after its sample, with its sample time; NV where
its converter is faulted or stopped; the raw and filtered words do not change. A read of ADC_URG_CNT returns and clears both counters. A
calibration step wakes its converter and sets CALBUSY in an idle gap of 1 µs where one is due, while RUN is 0 whenever the converter is
idle, and clears it at its end, where it moves CONV_OFS by at most one unit; a reference more than 2 % off sets CONVFLT and latches the
converter's Serious source, and one within 1 % clears CONVFLT. Completes: adcUrgReq, urgentSample, urgentResultPost, adcUrgCntRead,
calibrationStep. (R61, R63, R64, R74, R347.) -/
def Obligations.UrgentConversionsAndCalibration : Prop :=
  ∀ (s : State),
    (∀ n : Fin 32,
      let c := n.val % 8
      let held := ((s.urgentOf c).filter (fun r => r.isHeld s.now)).length
      (s.bit Reg.ADC_CTRL_CONV_EN c = false → Does (.adcUrgReq n) s (fun t =>
        t.get (Reg.ADC_URG_RES_RESULT c) = 0x80000000 + n.val * 0x1000000 + s.get (Reg.ADC_URG_RES_RESULT c) % 0x1000000
        ∧ Frame [] [] [Reg.ADC_URG_RES_RESULT c] s t))
      ∧ (s.bit Reg.ADC_CTRL_CONV_EN c = true ∧ 2 ≤ held → Does (.adcUrgReq n) s (fun t =>
        t.get Reg.ADC_URG_CNT_DROP = min (s.get Reg.ADC_URG_CNT_DROP + 1) 0xFFFF ∧ Frame [] [] [Reg.ADC_URG_CNT_DROP] s t))
      ∧ (s.bit Reg.ADC_CTRL_CONV_EN c = true ∧ held < 2 → Does (.adcUrgReq n) s (fun t =>
        t.urgentOf c = s.urgentOf c ++ [⟨n.val, s.now, 0, false, 0, false⟩]
        ∧ (∀ d : Fin 8, d.val ≠ c → t.urgentOf d.val = s.urgentOf d.val)
        ∧ t.bit Reg.ADC_STAT_CALBUSY c = false ∧ Frame [.adc] [] [Reg.ADC_STAT_CALBUSY] s t)))
    ∧ (∀ (c : Fin 8) (word : BitVec 16) (level : Int),
      ((s.urgentOf c.val).all (fun x => x.sampled) = true → Does (.urgentSample c word level) s (fun t => t = s))
      ∧ (∀ r ∈ (s.urgentOf c.val).find? (fun x => !x.sampled),
        let done := (s.urgentOf c.val).takeWhile (fun x => x.sampled)
        let rest := (s.urgentOf c.val).drop (done.length + 1)
        let at_ := s.pairFree (c.val / 2) (r.made + 48)
        Does (.urgentSample c word level) s (fun t => t.urgentOf c.val = done ++ ⟨r.input, r.made, at_, true,
            if 25000000 < level then 0x7FFF#16 else if level < -25000000 then 0x8000#16 else word, decide (26250000 < level.natAbs)⟩ :: rest
          ∧ r.made + 48 ≤ at_ ∧ (s.adc.due = [] ∧ (∀ d : Fin 8, d.val / 2 = c.val / 2 → ∀ x ∈ s.urgentOf d.val, x.sampled = false) → at_ = r.made + 48)
          ∧ (s.now < at_ → at_ < 0x10000000000000000 → t.now = at_)
          ∧ (∀ d : Fin 8, d ≠ c → t.urgentOf d.val = s.urgentOf d.val)
          ∧ Frame [.cad, .adc] [] [Reg.ADC_URG_CNT_DISP] s t)))
    ∧ (∀ c : Fin 8,
      ((∀ r ∈ (s.urgentOf c.val).head?, r.sampled = false) → Does (.urgentResultPost c) s (fun t => t = s))
      ∧ (∀ r ∈ (s.urgentOf c.val).head?, r.sampled = true →
        let v := clampInt (roundHalfEven ((r.code.toInt * 256 - s.getInt (Reg.ADC_CONV_OFS_OFS (r.input % 8)) - s.getInt (Reg.ADC_CAL_CH_OFS r.input))
          * (s.get (Reg.ADC_CAL_GAIN r.input) : Int)) 16384) (-0x800000) 0x7FFFFF
        Does (.urgentResultPost c) s (fun t =>
          t.urgentOf c.val = (s.urgentOf c.val).tail ∧ t.get (Reg.ADC_URG_TS_TIME c.val) = r.sampleAt % 0x100000000
          ∧ t.get (Reg.ADC_URG_RES_RESULT c.val) = (if s.convOut c.val then 0x80000000 else 0) + (if r.ovr then 0x40000000 else 0)
            + r.input % 32 * 0x1000000 + ((256 * clampInt (roundHalfEven v 256) (-0x8000) 0x7FFF) % 0x1000000).toNat
          ∧ (s.now < r.sampleAt + 48 → r.sampleAt + 48 < 0x10000000000000000 → t.now = r.sampleAt + 48)
          ∧ Frame [.cad, .adc] [] [Reg.ADC_URG_RES_RESULT c.val, Reg.ADC_URG_TS_TIME c.val] s t)))
    ∧ Does .adcUrgCntRead s (fun t =>
      t.bus.readData = s.get Reg.ADC_URG_CNT_DROP * 0x10000 + s.get Reg.ADC_URG_CNT_DISP
      ∧ t.get Reg.ADC_URG_CNT_DROP = 0 ∧ t.get Reg.ADC_URG_CNT_DISP = 0
      ∧ Frame [.bus] [] [Reg.ADC_URG_CNT_DROP, Reg.ADC_URG_CNT_DISP] s t)
    ∧ (∀ (c : Fin 8) (ppm : Int),
      let used := 0 < s.get (Reg.ADC_PAIR_SEQ_NSLOT (c.val / 2))
      let far (at_ : Nat) : Prop := ∀ o ∈ s.instants, s.now + 448 ≤ at_ + o
      let may : Prop := s.get Reg.ADC_CTRL_BGCAL ≠ 0 ∧ s.bit Reg.ADC_CTRL_CONV_EN c.val = true ∧ s.inKickstand = false
        ∧ (∀ x ∈ s.adc.due, x.conv ≠ c.val) ∧ s.urgentOf c.val = []
      let isDue : Prop := ∀ x ∈ tblGet none s.adc.calAt c.val, x + 400000 * s.get Reg.AGE_PLAN_ADCUSE ≤ s.now
      let starts : Prop := Does (.calibrationStep c .start ppm) s (fun t => t.bit Reg.ADC_STAT_CALBUSY c.val = true
        ∧ t.adc.awake.testBit c.val = true ∧ Frame [.adc] [] [Reg.ADC_STAT_CALBUSY] s t)
      (may ∧ s.get Reg.CAD_CTRL_RUN = 0 → starts)
      ∧ (may ∧ s.get Reg.CAD_CTRL_RUN ≠ 0 ∧ isDue ∧ (used → s.cad.inTick = false ∧ ∀ n ∈ s.cad.nextTick, far n) → starts)
      ∧ (¬may ∨ s.get Reg.CAD_CTRL_RUN ≠ 0 ∧ (¬isDue ∨ used ∧ s.cad.inTick = false ∧ ∃ n ∈ s.cad.nextTick, ¬far n) →
        Does (.calibrationStep c .start ppm) s (fun t => t = s)))
    ∧ (∀ (c : Fin 8) (zero ppm : Int), s.bit Reg.ADC_STAT_CALBUSY c.val = false → Does (.calibrationStep c (.finish zero) ppm) s (fun t => t = s))
    ∧ (∀ (c : Fin 8) (zero ppm : Int), s.bit Reg.ADC_STAT_CALBUSY c.val = true →
      Does (.calibrationStep c (.finish zero) ppm) s (fun t =>
        t.bit Reg.ADC_STAT_CALBUSY c.val = false ∧
        let was := s.getInt (Reg.ADC_CONV_OFS_OFS c.val)
        let now := t.getInt (Reg.ADC_CONV_OFS_OFS c.val)
        (now - was).natAbs ≤ 1
        ∧ (20000 < ppm ∨ ppm < -20000 → t.bit Reg.ADC_STAT_CONVFLT c.val = true
          ∧ (s.bit Reg.ADC_STAT_CONVFLT c.val = false → t.fltBit Reg.FLT_SRC_SRC (20 + c.val) = true))
        ∧ (-10000 ≤ ppm ∧ ppm ≤ 10000 → t.bit Reg.ADC_STAT_CONVFLT c.val = false)
        ∧ Frame [.adc, .flt, .tri, .out] [Win.flt] [Reg.ADC_CONV_OFS_OFS c.val, Reg.ADC_STAT_CONVFLT, Reg.ADC_STAT_CALBUSY] s t))

/-- For every instruction of the control engine and every value of every operand that its encoding admits, the word laid out by the opcode map
and the formats decodes to that instruction with those operands; every word with an undefined opcode, all-zero and all-one words among
them, decodes to none. (R81, R82, R83.) -/
def Obligations.CleWordsDecodeToTheirInstructions : Prop :=
  (∀ (d s t : Fin 16), ∀ b : Bool,
    cleDecode (encR 0x10 d s t (fBit b)) = some (.cleAdd d s t b) ∧ cleDecode (encR 0x11 d s t (fBit b)) = some (.cleSub d s t b)
    ∧ cleDecode (encR 0x12 d s 0 0) = some (.cleNeg d s) ∧ cleDecode (encR 0x13 d s 0 0) = some (.cleAbs d s)
    ∧ cleDecode (encR 0x14 d s t 0) = some (.cleMul d s t) ∧ cleDecode (encR 0x15 d s t 0) = some (.cleDiv d s t)
    ∧ cleDecode (encR 0x16 d s t (fBit b)) = some (.cleMinmax d s t b) ∧ cleDecode (encR 0x17 d s t 0) = some (.cleClamp d s t)
    ∧ cleDecode (encR 0x1A d s 0 0) = some (.cleMov d s) ∧ cleDecode (encR 0x1D 0 s t 0) = some (.cleCmp s t)
    ∧ cleDecode (encR 0x20 d s t 0) = some (.cleMac d s t) ∧ cleDecode (encR 0x21 d s t 0) = some (.cleMsu d s t)
    ∧ cleDecode (encR 0x22 d s t (fBit b)) = some (.cleDmac d s t b) ∧ cleDecode (encR 0x23 d s t 0) = some (.cleMpy d s t)
    ∧ cleDecode (encR 0x24 d s 0 (fBit b)) = some (.cleAld d s b) ∧ cleDecode (encR 0x26 d s t (fBit b)) = some (.cleAadd d s t b)
    ∧ cleDecode (encR 0x28 d s 0 0) = some (.cleSincos d s) ∧ cleDecode (encR 0x29 d s 0 0) = some (.cleSqrt d s)
    ∧ (∀ (op : Fin 4), cleDecode (encR 0x1C d s t op) = some (.cleLogic d s t op))
    ∧ (∀ (c : Fin 16), cleDecode (encR 0x1E d s t c) = some (.cleSel d s t c) ∧ cleDecode (encR 0x25 d s 0 c) = some (.cleExt d s c))
    ∧ (∀ (amt : Fin 64) (kind : Fin 8),
      cleDecode (encR 0x1B d s t (amt.val * 256 + (if b then 128 else 0) + kind.val)) = some (.cleSh d s t amt b kind))
    ∧ (∀ (x : Fin 4) (imm : BitVec 12),
      cleDecode (encR 0x1F x s 0 ((if b then 4096 else 0) + imm.toNat)) = some (.cleSetx x s b imm)))
  ∧ (∀ (d : Fin 16) (imm : BitVec 18), cleDecode (encR 0x18 d 0 0 imm.toNat) = some (.cleMovi d imm))
  ∧ (∀ (d : Fin 16) (imm : BitVec 14), cleDecode (encR 0x19 d 0 0 imm.toNat) = some (.cleMovl d imm))
  ∧ (∀ (d : Fin 16) (m : MemOperand), ∀ fr u : Bool,
    cleDecode (encM 0x08 d m false false) = some (.cleLd d m) ∧ cleDecode (encM 0x09 d m false false) = some (.cleSt d m)
    ∧ cleDecode (encM 0x0A d m false false) = some (.cleLd2 d m) ∧ cleDecode (encM 0x0B d m false false) = some (.cleSt2 d m)
    ∧ cleDecode (encM 0x0C d m false false) = some (.cleLdx d m) ∧ cleDecode (encM 0x0D d m false false) = some (.cleStx d m)
    ∧ cleDecode (encM 0x0E d m fr u) = some (.cleLds d m fr u))
  ∧ (∀ (c : Fin 16) (target : Fin 16384), cleDecode (encWord 0x03 (c.val * 2 ^ 22 + target.val)) = some (.cleBr c target))
  ∧ (∀ (count : Fin 4096) (last : Fin 16384), cleDecode (encWord 0x04 (count.val * 2 ^ 14 + last.val)) = some (.cleLoop count last))
  ∧ (∀ (obj : Fin 256), cleDecode (encWord 0x05 (obj.val * 2 ^ 18)) = some (.cleRuno obj))
  ∧ (∀ (cnt : Fin 65536), cleDecode (encWord 0x06 cnt.val) = some (.cleWaitt cnt))
  ∧ cleDecode (encWord 0x01 0) = some .cleNop ∧ cleDecode (encWord 0x02 0) = some .cleEnd
  ∧ ∀ (op : Fin 64) (low : BitVec 26), op.val ∈ [0x00, 0x07, 0x0F, 0x27, 0x2A, 0x2B, 0x2C, 0x2D, 0x2E, 0x2F] ∨ 0x30 ≤ op.val →
    cleDecode (encWord op.val low.toNat) = none

/-- Each arithmetic instruction, issued as the next one of a run, leaves in W[D] the exact result on signed numbers of 2^-31, rounded half to
even where a rounding is stated and held to the Q1.31 range, sets Z, N and V by it, counts a V in CLE_SAT_CNT (and a division by 0 in
CLE_DZ_CNT), takes its cycles, and changes nothing else of the engine: no other W, accumulator, index register, flag, memory or map word.
Completes: cleAdd, cleSub, cleNeg, cleAbs, cleMul, cleDiv, cleMinmax, cleClamp, cleSh, cleLogic, cleCmp. (R80, R83, R85, R86, R87, R111.) -/
def Obligations.CleArithmeticIsExactThenSaturated : Prop :=
  ∀ (s : State) (d a b : Fin 16),
    let at_ := max s.now s.cle.issue
    let ready : Prop := s.get Reg.CLE_STAT_STATE = 2 ∧ at_ < s.cad.tickStart + s.get Reg.CAD_DL_SOLVE_DL ∧ at_ < 0x10000000000000000
      ∧ s.cle.pc < 16384 ∧ s.cle.progBad.contains s.cle.pc = false ∧ s.get Reg.FLT_INJ_CTRL_ARM = 0
    let took (c : Nat) (t : State) : Prop := t.now = at_ ∧ t.cle.issue = at_ + c ∧ (s.cle.loops = [] → t.cle.pc = s.cle.pc + 1)
    let x := s.wInt a
    let y := s.wInt b
    let sat (v : Int) : Int := max (-0x80000000) (min v 0x7FFFFFFF)
    let flags (t : State) (r : Int) (v : Bool) : Prop :=
      t.cle.flags = { s.cle.flags with z := decide (r = 0), n := decide (r < 0), v := v }
      ∧ t.get Reg.CLE_SAT_CNT_COUNT = (if v then min (s.get Reg.CLE_SAT_CNT_COUNT + 1) 0xFFFFFFFF else s.get Reg.CLE_SAT_CNT_COUNT)
    let rest (c : Nat) (t : State) : Prop := took c t
      ∧ t.cle = { s.cle with w := t.cle.w, flags := t.cle.flags, pc := t.cle.pc, loops := t.cle.loops, issue := t.cle.issue }
      ∧ Frame [.cad, .cle] [] [Reg.CLE_SAT_CNT_COUNT, Reg.CLE_DZ_CNT_COUNT] s t
    let wrote (c : Nat) (r : Int) (v : Bool) (t : State) : Prop := t.wInt d = r ∧ (∀ j : Fin 16, j ≠ d → t.wInt j = s.wInt j)
      ∧ flags t r v ∧ rest c t
    let exact (c : Nat) (v : Int) (t : State) : Prop := wrote c (sat v) (decide (sat v ≠ v)) t ∧ t.get Reg.CLE_DZ_CNT_COUNT = s.get Reg.CLE_DZ_CNT_COUNT
    s.get Reg.CLE_SAT_CNT_COUNT ≤ 0xFFFFFFFF ∧ ready →
      Does (.cleAdd d a b false) s (exact 1 (x + y)) ∧ Does (.cleSub d a b false) s (exact 1 (x - y))
      ∧ Does (.cleAdd d a b true) s (wrote 1 (signedOf 32 ((x + y) % 0x100000000).toNat) false)
      ∧ Does (.cleSub d a b true) s (wrote 1 (signedOf 32 ((x - y) % 0x100000000).toNat) false)
      ∧ Does (.cleNeg d a) s (exact 1 (-x)) ∧ Does (.cleAbs d a) s (exact 1 x.natAbs)
      ∧ Does (.cleMul d a b) s (exact 1 (roundHalfEven (x * y) 0x80000000))
      ∧ (0 < y → Does (.cleDiv d a b) s (exact 12 (roundHalfEven (x * 0x80000000) y)))
      ∧ (y < 0 → Does (.cleDiv d a b) s (exact 12 (roundHalfEven (-x * 0x80000000) (-y))))
      ∧ (y = 0 → Does (.cleDiv d a b) s (fun t => wrote 12 (if 0 < x then 0x7FFFFFFF else if x < 0 then -0x80000000 else 0) true t
        ∧ t.get Reg.CLE_DZ_CNT_COUNT = min (s.get Reg.CLE_DZ_CNT_COUNT + 1) 0xFFFFFFFF))
      ∧ Does (.cleMinmax d a b false) s (exact 1 (min x y)) ∧ Does (.cleMinmax d a b true) s (exact 1 (max x y))
      ∧ Does (.cleClamp d a b) s (exact 1 (max x (min (s.wInt d) y)))
      ∧ (∀ (n : Fin 64), let k := n.val
        Does (.cleSh d a 0 n false 0) s (exact 1 (x * 2 ^ k))
        ∧ Does (.cleSh d a 0 n false 1) s (exact 1 (x / 2 ^ k))
        ∧ Does (.cleSh d a 0 n false 2) s (exact 1 (roundHalfEven x (2 ^ k)))
        ∧ Does (.cleSh d a 0 n false 3) s (exact 1 (if k = 0 then x else ((s.wNat a / 2 ^ k : Nat) : Int)))
        ∧ Does (.cleSh d a 0 n false 4) s (exact 1 (signedOf 32 (s.wNat a * 2 ^ k))))
      ∧ (let k := s.wNat b % 256
        Does (.cleSh d a b 0 true 0) s (exact 1 (x * 2 ^ k))
        ∧ Does (.cleSh d a b 0 true 1) s (exact 1 (x / 2 ^ k))
        ∧ Does (.cleSh d a b 0 true 2) s (exact 1 (roundHalfEven x (2 ^ k)))
        ∧ Does (.cleSh d a b 0 true 3) s (exact 1 (if k = 0 then x else ((s.wNat a / 2 ^ k : Nat) : Int)))
        ∧ Does (.cleSh d a b 0 true 4) s (exact 1 (signedOf 32 (s.wNat a * 2 ^ k))))
      ∧ Does (.cleLogic d a b 0) s (wrote 1 (signedOf 32 (s.wNat a &&& s.wNat b)) false)
      ∧ Does (.cleLogic d a b 1) s (wrote 1 (signedOf 32 (s.wNat a ||| s.wNat b)) false)
      ∧ Does (.cleLogic d a b 2) s (wrote 1 (signedOf 32 (s.wNat a ^^^ s.wNat b)) false)
      ∧ Does (.cleCmp a b) s (fun t => t.cle.w = s.cle.w ∧ flags t (x - y) false ∧ rest 1 t)

/-- Issued as the next instruction of a run: MOVI, MOVL, MOV, SEL and SETX move what they name; LD and LD2 read data memory, ST and ST2 write
it, LDX reads the input map and LDS a result word with its Q flag, STX writes an output or mailbox-out word that stays uncommitted; each
counts its index register on by 1 (2 for the pair forms) where INC is 1, and changes nothing else of the engine. Completes: cleMovi,
cleMovl, cleMov, cleSel, cleSetx, cleLd, cleSt, cleLd2, cleSt2, cleLdx, cleStx, cleLds. (R76, R80, R81, R83, R84, R93, R94, R95.) -/
def Obligations.CleMovesLoadsAndStores : Prop :=
  ∀ (s : State) (d a b : Fin 16),
    let at_ := max s.now s.cle.issue
    let ready : Prop := s.get Reg.CLE_STAT_STATE = 2 ∧ at_ < s.cad.tickStart + s.get Reg.CAD_DL_SOLVE_DL ∧ at_ < 0x10000000000000000
      ∧ s.cle.pc < 16384 ∧ s.cle.progBad.contains s.cle.pc = false ∧ s.get Reg.FLT_INJ_CTRL_ARM = 0
    let took (c : Nat) (t : State) : Prop := t.now = at_ ∧ t.cle.issue = at_ + c ∧ (s.cle.loops = [] → t.cle.pc = s.cle.pc + 1)
    let rest (t : State) : Prop := took 1 t ∧ Frame [.cad, .cle] [] [] s t
    let onlyW (t : State) : Prop := rest t
      ∧ t.cle = { s.cle with w := t.cle.w, idx := t.cle.idx, flags := t.cle.flags, pc := t.cle.pc, loops := t.cle.loops, issue := t.cle.issue }
    let wrote (v : Nat) (t : State) : Prop := t.wNat d = v ∧ (∀ j : Fin 16, j ≠ d → t.wNat j = s.wNat j) ∧ onlyW t
    let sameIdx (t : State) : Prop := t.cle.idx = s.cle.idx
    ready →
      (∀ imm : BitVec 18, Does (.cleMovi d imm) s (fun t => wrote (imm.toNat * 0x4000) t ∧ sameIdx t ∧ t.cle.flags = s.cle.flags))
      ∧ (∀ imm : BitVec 14, Does (.cleMovl d imm) s (fun t =>
        wrote (s.wNat d / 0x4000 * 0x4000 + imm.toNat) t ∧ sameIdx t ∧ t.cle.flags = s.cle.flags))
      ∧ Does (.cleMov d a) s (fun t => wrote (s.wNat a) t ∧ sameIdx t ∧ t.cle.flags = s.cle.flags)
      ∧ (∀ c : Fin 16, c.val < 13 → Does (.cleSel d a b c) s (fun t =>
        wrote (if s.cle.flags.holds c.val then s.wNat a else s.wNat b) t ∧ sameIdx t ∧ t.cle.flags = s.cle.flags))
      ∧ (∀ (i : Fin 4) (imm : BitVec 12),
        Does (.cleSetx i 0 false imm) s (fun t => t.idxNat i.val = imm.toNat ∧ t.cle.w = s.cle.w ∧ t.cle.flags = s.cle.flags
          ∧ (∀ j : Fin 4, j ≠ i → t.idxNat j.val = s.idxNat j.val) ∧ onlyW t)
        ∧ Does (.cleSetx i a true 0) s (fun t => t.idxNat i.val = s.wNat a % 4096 ∧ t.cle.w = s.cle.w ∧ t.cle.flags = s.cle.flags
          ∧ (∀ j : Fin 4, j ≠ i → t.idxNat j.val = s.idxNat j.val) ∧ onlyW t))
      ∧ ∀ m : MemOperand, (m.inc = true → m.xb = true) →
        let ad := ((if m.xb then s.idxNat m.xi.val else 0) + m.ofs.val) % 4096
        let counted (n : Nat) (t : State) : Prop := ∀ j : Fin 4, t.idxNat j.val =
          (if m.inc = true ∧ j = m.xi then (s.idxNat j.val + n) % 4096 else s.idxNat j.val)
        let stores (t : State) : Prop := rest t
          ∧ t.cle = { s.cle with data := t.cle.data, runOut := t.cle.runOut, idx := t.cle.idx, pc := t.cle.pc, loops := t.cle.loops, issue := t.cle.issue }
        Does (.cleLd d m) s (fun t => wrote (s.dataWord ad).toNat t ∧ counted 1 t ∧ t.cle.flags = s.cle.flags)
        ∧ Does (.cleSt d m) s (fun t => (t.dataWord ad).toNat = s.wNat d ∧ (∀ i, i ≠ ad → t.dataWord i = s.dataWord i)
          ∧ t.cle.runOut = s.cle.runOut ∧ counted 1 t ∧ stores t)
        ∧ (d.val % 2 = 0 → Does (.cleLd2 d m) s (fun t => t.wNat d = (s.dataWord ad).toNat ∧ t.wNat (d.val + 1) = (s.dataWord ((ad + 1) % 4096)).toNat
          ∧ (∀ j : Fin 16, j.val ≠ d.val → j.val ≠ d.val + 1 → t.wNat j = s.wNat j) ∧ counted 2 t ∧ t.cle.flags = s.cle.flags ∧ onlyW t))
        ∧ (d.val % 2 = 0 → Does (.cleSt2 d m) s (fun t => (t.dataWord ad).toNat = s.wNat d ∧ (t.dataWord ((ad + 1) % 4096)).toNat = s.wNat (d.val + 1)
          ∧ (∀ i, i ≠ ad → i ≠ (ad + 1) % 4096 → t.dataWord i = s.dataWord i) ∧ t.cle.runOut = s.cle.runOut ∧ counted 2 t ∧ stores t))
        ∧ Does (.cleLdx d m) s (fun t => wrote (s.inputMap ad).toNat t ∧ counted 1 t ∧ t.cle.flags = s.cle.flags)
        ∧ Does (.cleStx d m) s (fun t => t.cle.data = s.cle.data ∧ counted 1 t ∧ stores t
          ∧ (if ad < 0x180 ∨ (0x200 ≤ ad ∧ ad < 0x206) ∨ (0xC00 ≤ ad ∧ ad < 0xD00)
            then (∃ v ∈ tblGet none t.cle.runOut ad, v.toNat = s.wNat d) ∧ (∀ i, i ≠ ad → tblGet none t.cle.runOut i = tblGet none s.cle.runOut i)
            else t.cle.runOut = s.cle.runOut))
        ∧ (∀ fr u : Bool, ad < 0x48 → Does (.cleLds d m fr u) s (fun t =>
          let w := (s.inputMap ad).toNat
          let bad := w.testBit 31 || w.testBit 30 || (u && w.testBit 29)
          wrote (w % 0x1000000 * 256) t ∧ counted 1 t ∧ t.cle.flags = { s.cle.flags with q := if fr then bad else s.cle.flags.q || bad }))

/-- Issued as the next instruction of a run: MAC, MSU, DMAC and AADD leave the exact sum of products held to the Q9.62 range, MPY and ALD the
exact value, EXT the scaled value rounded to Q1.31; SQRT leaves the nearest word to the root, 0 with V for a negative value; SINCOS leaves
two words within 4 LSB of the cosine and sine computed by the model; NOP does nothing. Z, N and V follow where stated and nothing else of
the engine changes. Completes: cleNop, cleMac, cleMsu, cleMpy, cleDmac, cleAld, cleAadd, cleExt, cleSqrt, cleSincos. (R79, R80, R83, R85,
R86.) -/
def Obligations.CleAccumulatorsAndFunctions : Prop :=
  ∀ (s : State) (d a b : Fin 16),
    let at_ := max s.now s.cle.issue
    let ready : Prop := s.get Reg.CLE_STAT_STATE = 2 ∧ at_ < s.cad.tickStart + s.get Reg.CAD_DL_SOLVE_DL ∧ at_ < 0x10000000000000000
      ∧ s.cle.pc < 16384 ∧ s.cle.progBad.contains s.cle.pc = false ∧ s.get Reg.FLT_INJ_CTRL_ARM = 0
    let took (c : Nat) (t : State) : Prop := t.now = at_ ∧ t.cle.issue = at_ + c ∧ (s.cle.loops = [] → t.cle.pc = s.cle.pc + 1)
    let x := s.wInt a
    let y := s.wInt b
    let flags (t : State) (r : Int) (v : Bool) : Prop :=
      t.cle.flags = { s.cle.flags with z := decide (r = 0), n := decide (r < 0), v := v }
    let rest (c : Nat) (t : State) : Prop := took c t
      ∧ t.cle = { s.cle with w := t.cle.w, acc := t.cle.acc, flags := t.cle.flags, pc := t.cle.pc, loops := t.cle.loops, issue := t.cle.issue }
      ∧ Frame [.cad, .cle] [] [Reg.CLE_SAT_CNT_COUNT] s t
    let top : Int := 0x7FFFFFFFFFFFFFFFFF
    let sat (v : Int) : Int := max (-0x800000000000000000) (min v top)
    let acc (v : Int) (t : State) : Prop := t.accInt d = sat v ∧ (∀ j : Fin 16, j ≠ d → t.accInt j = s.accInt j) ∧ t.cle.w = s.cle.w
      ∧ flags t (sat v) (decide (sat v ≠ v)) ∧ rest 1 t
    ready →
      Does .cleNop s (fun t => took 1 t ∧ t.cle = { s.cle with pc := t.cle.pc, loops := t.cle.loops, issue := t.cle.issue } ∧ Frame [.cad, .cle] [] [] s t)
      ∧ Does (.cleMac d a b) s (acc (s.accInt d + x * y)) ∧ Does (.cleMsu d a b) s (acc (s.accInt d - x * y))
      ∧ Does (.cleMpy d a b) s (acc (x * y))
      ∧ (a.val % 2 = 0 ∧ b.val % 2 = 0 →
        Does (.cleDmac d a b false) s (acc (s.accInt d + x * y + s.wInt (a.val + 1) * s.wInt (b.val + 1)))
        ∧ Does (.cleDmac d a b true) s (acc (x * y + s.wInt (a.val + 1) * s.wInt (b.val + 1))))
      ∧ Does (.cleAld d a false) s (acc (x * 0x80000000)) ∧ Does (.cleAld d 0 true) s (acc 0)
      ∧ Does (.cleAadd d a b false) s (acc (s.accInt a + s.accInt b)) ∧ Does (.cleAadd d a b true) s (acc (s.accInt a - s.accInt b))
      ∧ (∀ k : Fin 16, k.val ≤ 8 → Does (.cleExt d a k) s (fun t =>
        let v := roundHalfEven (s.accInt a * 2 ^ k.val) 0x80000000
        let r := max (-0x80000000) (min v 0x7FFFFFFF)
        t.wInt d = r ∧ (∀ j : Fin 16, j ≠ d → t.wInt j = s.wInt j) ∧ t.cle.acc = s.cle.acc ∧ flags t r (decide (r ≠ v)) ∧ rest 1 t))
      ∧ Does (.cleSqrt d a) s (fun t => (∀ j : Fin 16, j ≠ d → t.wInt j = s.wInt j) ∧ t.cle.acc = s.cle.acc ∧ rest 8 t
        ∧ flags t (t.wInt d) (decide (x < 0))
        ∧ (x < 0 → t.wInt d = 0)
        ∧ (0 ≤ x → 0 ≤ t.wInt d ∧ (2 * t.wInt d - 1) * (2 * t.wInt d - 1) ≤ 4 * x * 0x80000000 + 1
          ∧ 4 * x * 0x80000000 < (2 * t.wInt d + 1) * (2 * t.wInt d + 1)))
      ∧ (d.val % 2 = 0 → Does (.cleSincos d a) s (fun t =>
        let e := cosSinScaled (mkRat x (2 ^ 31))
        (e.1.natAbs ≤ 2 ^ 60 → (t.wInt d * 0x20000000 - e.1).natAbs ≤ 4 * 0x20000000)
        ∧ (e.2.natAbs ≤ 2 ^ 60 → (t.wInt (d.val + 1) * 0x20000000 - e.2).natAbs ≤ 4 * 0x20000000)
        ∧ (x = 0 → t.wInt d = 0x7FFFFFFF) ∧ (x = -0x80000000 → t.wInt d = -0x80000000)
        ∧ (∀ j : Fin 16, j.val ≠ d.val → j.val ≠ d.val + 1 → t.wInt j = s.wInt j) ∧ t.cle.acc = s.cle.acc
        ∧ t.cle.flags = s.cle.flags ∧ rest 4 t))

/-- Issued as the next instruction of a run outside any loop: END commits output, mailbox and object words of the run and ends it; a taken BR
continues at its target; LOOP opens a loop, or skips its body for a count of 0; WAITT lets the next instruction issue at max(c + 1, CNT),
WAITT_RELEASE ending the wait; RUNO of a LIMIT or RATE object writes its output and the flag L; an undefined instruction, or a RUNO of an
empty object, stops the run, discards what it has not committed, counts a Solve overrun, records its place and latches source 28.
Completes: cleEnd, cleBr, cleLoop, cleWaitt, cleRuno, undefinedInstruction, cleNop, waittRelease. (R76, R83, R88, R89, R90, R91, R92, R97,
R100.) -/
def Obligations.CleProgramOrderAndStops : Prop :=
  ∀ (s : State),
    let at_ := max s.now s.cle.issue
    let ready : Prop := s.get Reg.CLE_STAT_STATE = 2 ∧ at_ < s.cad.tickStart + s.get Reg.CAD_DL_SOLVE_DL ∧ at_ < 0x10000000000000000
      ∧ s.cle.pc < 16384 ∧ s.cle.progBad.contains s.cle.pc = false ∧ s.get Reg.FLT_INJ_CTRL_ARM = 0
    let words (t : State) : Prop := t.cle.w = s.cle.w ∧ t.cle.acc = s.cle.acc ∧ t.cle.idx = s.cle.idx ∧ t.cle.flags = s.cle.flags
    let same (t : State) : Prop := words t ∧ t.cle.data = s.cle.data ∧ t.cle.obj = s.cle.obj ∧ t.cle.runObj = s.cle.runObj
      ∧ t.cle.runOut = s.cle.runOut ∧ t.cle.outMap = s.cle.outMap ∧ t.cle.mbxOut = s.cle.mbxOut
    let stopped (pc word : Nat) (past : Nat) (t : State) : Prop :=
      t.get Reg.CLE_STAT_UNDEF = 1 ∧ t.get Reg.CLE_UNDEF_PC_PC = pc ∧ t.get Reg.CLE_UNDEF_PC_PAST = past
      ∧ t.get Reg.CLE_UNDEF_PC_TICK = s.tick % 0x10000 ∧ t.get Reg.CLE_UNDEF_INSN_INSN = word
      ∧ t.cle.runObj = [] ∧ t.cle.runOut = [] ∧ t.cle.obj = s.cle.obj ∧ t.cle.outMap = s.cle.outMap ∧ t.cle.mbxOut = s.cle.mbxOut
      ∧ t.get Reg.CLE_STAT_STATE ≠ 2 ∧ t.get Reg.CLE_STAT_STATE ≠ 3 ∧ t.fltBit Reg.FLT_SRC_SRC 28 = true
      ∧ t.get Reg.CAD_OVR_SOLVE_COUNT = min (s.get Reg.CAD_OVR_SOLVE_COUNT + 1) 0xFFFFFFFF
    (ready ∧ s.cle.loops = [] →
      Does .cleEnd s (fun t => t.cle.ended = true ∧ t.cle.runObj = [] ∧ t.cle.runOut = [] ∧ words t
        ∧ t.get Reg.CLE_STAT_STATE = (if s.get Reg.CLE_CTRL_EN = 0 then 0 else 1)
        ∧ t.get Reg.CLE_CYC_LAST = (at_ + 1 - s.cle.runStart) % 0x10000
        ∧ (s.Canonical → ∀ i, i < 0xC00 →
          tblGet (0 : Word) t.cle.outMap i = (tblGet none s.cle.runOut i).getD (tblGet (0 : Word) s.cle.outMap i)
          ∧ tblGet (0 : Word) t.cle.mbxOut i = (tblGet none s.cle.runOut (0xC00 + i)).getD (tblGet (0 : Word) s.cle.mbxOut i)
          ∧ tblGet (0 : Word) t.cle.obj i = (tblGet none s.cle.runObj i).getD (tblGet (0 : Word) s.cle.obj i))
        ∧ Frame [.cad, .cle] [] [Reg.CLE_STAT_STATE, Reg.CLE_CYC_LAST, Reg.CLE_CYC_MAX] s t)
      ∧ (∀ (c : Fin 16) (g : Fin 16384), c.val < 13 → Does (.cleBr c g) s (fun t =>
        t.cle.pc = (if s.cle.flags.holds c.val then g.val else s.cle.pc + 1) ∧ t.cle.loops = []
        ∧ t.cle.issue = at_ + (if s.cle.flags.holds c.val then 2 else 1) ∧ same t ∧ Frame [.cad, .cle] [] [] s t))
      ∧ (∀ (n : Fin 4096) (e : Fin 16384), s.cle.pc < e.val → Does (.cleLoop n e) s (fun t =>
        (if n.val = 0 then t.cle.pc = e.val + 1 ∧ t.cle.loops = []
          else t.cle.pc = s.cle.pc + 1 ∧ t.cle.loops = [⟨s.cle.pc, e.val, n.val - 1⟩])
        ∧ t.cle.issue = at_ + 1 ∧ same t ∧ Frame [.cad, .cle] [] [] s t))
      ∧ (∀ (n : Fin 65536), Does (.cleWaitt n) s (fun t =>
        (if s.cad.tickStart + n.val ≤ at_ + 1 then t.cle.waitUntil = s.cle.waitUntil ∧ t.get Reg.CLE_STAT_STATE = 2 ∧ t.cle.issue = at_ + 1
          else t.cle.waitUntil = some (s.cad.tickStart + n.val) ∧ t.get Reg.CLE_STAT_STATE = 3)
        ∧ t.cle.pc = s.cle.pc + 1 ∧ same t ∧ Frame [.cad, .cle] [] [Reg.CLE_STAT_STATE] s t))
      ∧ (∀ o : Fin 256,
        let h := (s.objWord (16 * o.val)).toNat
        let x := s.wInt (h / 0x10000 % 16)
        let out := h / 0x100000 % 16
        let lo := s.objInt o.val 1
        let hi := s.objInt o.val 2
        (h % 0x10000 / 0x80 = 0 ∧ h / 0x1000000 = 0 ∧ h % 16 = 4 → Does (.cleRuno o) s (fun t =>
          t.wInt out = max lo (min x hi) ∧ t.cle.flags = { s.cle.flags with l := decide (max lo (min x hi) ≠ x) }
          ∧ (∀ j : Fin 16, j.val ≠ out → t.wInt j = s.wInt j) ∧ t.cle.issue = at_ + 3 ∧ t.cle.obj = s.cle.obj ∧ Frame [.cad, .cle] [] [] s t))
        ∧ (h % 0x10000 / 0x80 = 0 ∧ h / 0x1000000 = 0 ∧ h % 16 = 5 → Does (.cleRuno o) s (fun t =>
          let y := s.objInt o.val 3
          t.wInt out = y + max (-(max hi 0)) (min (x - y) (max lo 0)) ∧ t.objInt o.val 3 = t.wInt out
          ∧ t.cle.issue = at_ + 4 ∧ t.cle.obj = s.cle.obj ∧ Frame [.cad, .cle] [] [] s t))
        ∧ (h % 8 = 0 → Does (.cleRuno o) s (stopped s.cle.pc (0x14000000 + o.val * 0x40000) 0)))
      ∧ (∀ w : Word, Does (.undefinedInstruction w) s (stopped s.cle.pc w.toNat 0)))
    ∧ (s.get Reg.CLE_STAT_STATE = 2 ∧ at_ < s.cad.tickStart + s.get Reg.CAD_DL_SOLVE_DL ∧ 16384 ≤ s.cle.pc →
      Does .cleNop s (stopped 0 0 1))
    ∧ (∀ u, s.cle.waitUntil = some u ∧ s.get Reg.CLE_STAT_STATE = 3 ∧ s.now ≤ u ∧ u < s.cad.tickStart + s.get Reg.CAD_DL_SOLVE_DL
        ∧ u < 0x10000000000000000 → Does .waittRelease s (fun t =>
      t.get Reg.CLE_STAT_STATE = 2 ∧ t.cle.issue = u ∧ t.cle.waitUntil = none ∧ t.now = u ∧ same t ∧ Frame [.cad, .cle] [] [Reg.CLE_STAT_STATE] s t))

/-- A bus write to data memory or the object store enters the write queue, or is dropped with WQOVF when 64 wait; the oldest drains, while no
run is in progress and nothing holds the queue, into its word, a header losing HIST. CLE_PDATA is written only with EN 0, and each access
moves CLE_PADDR on by one modulo 16,384. A held batch drains only where it fits before the next Acquire deadline, else it waits. A mailbox
commit copies the staging words at once with RUN 0, else at a tick start at least 40 counts later (not in the clock of a staging write).
Clearing EN stops a run and discards what it has not committed; a read of CLE_IMPL_STAT clears COUNT. Completes: cleMemoryBusWrite,
writeQueueDrain, holdwClear, clePdataWrite, clePdataRead, mailboxCommit, mailboxCopy, cleEnClear, cycclr, cleImplStatRead. (R78, R105,
R106, R107, R108, R109, R110, R111.) -/
def Obligations.CleMemoriesFromTheBus : Prop :=
  ∀ (s : State),
    (∀ (x : CleMemWord) (v : Word), s.cle.wq.length < 64 → Does (.cleMemoryBusWrite x v) s (fun t =>
      t.cle = { s.cle with wq := s.cle.wq ++ [(x, v)] } ∧ t.get Reg.CLE_STAT_WQLVL = s.cle.wq.length + 1 ∧ Frame [.cle] [] [Reg.CLE_STAT_WQLVL] s t))
    ∧ (∀ (x : CleMemWord) (v : Word), 64 ≤ s.cle.wq.length → Does (.cleMemoryBusWrite x v) s (fun t =>
      t.get Reg.CLE_STAT_WQOVF = 1 ∧ Frame [] [] [Reg.CLE_STAT_WQOVF] s t))
    ∧ (∀ (a : Fin 4096) (v : Word), ∀ rest, s.cle.wq = (CleMemWord.data a, v) :: rest ∧ s.cle.wqWait = false
        ∧ s.get Reg.CLE_STAT_STATE < 2 ∧ s.get Reg.CLE_CTRL_HOLDW = 0 → Does .writeQueueDrain s (fun t =>
      t.dataWord a.val = v ∧ (∀ i, i ≠ a.val → t.dataWord i = s.dataWord i) ∧ t.cle.wq = rest ∧ t.cle.obj = s.cle.obj
      ∧ Frame [.cad, .cle] [] [Reg.CLE_STAT_WQLVL] s t))
    ∧ (∀ (a : Fin 4096) (v : Word), ∀ rest, s.cle.wq = (CleMemWord.object a, v) :: rest ∧ s.cle.wqWait = false
        ∧ s.get Reg.CLE_STAT_STATE < 2 ∧ s.get Reg.CLE_CTRL_HOLDW = 0 → Does .writeQueueDrain s (fun t =>
      (tblGet (0 : Word) t.cle.obj a.val).toNat = (if a.val % 16 = 0 ∧ v.getLsbD 6 then v.toNat - 0x40 else v.toNat)
      ∧ (∀ i, i ≠ a.val → tblGet (0 : Word) t.cle.obj i = tblGet (0 : Word) s.cle.obj i) ∧ t.cle.wq = rest ∧ t.cle.data = s.cle.data
      ∧ Frame [.cad, .cle] [] [Reg.CLE_STAT_WQLVL] s t))
    ∧ (s.get Reg.CLE_CTRL_HOLDW ≠ 0 → Does .holdwClear s (fun t => t.get Reg.CLE_CTRL_HOLDW = 0
      ∧ (s.get Reg.CAD_CTRL_RUN = 0 → t.cle.wqWait = false) ∧ t.cle = { s.cle with wqWait := t.cle.wqWait }
      ∧ (s.get Reg.CAD_CTRL_RUN ≠ 0 ∧ s.get Reg.CLE_STAT_STATE < 2 ∧ s.cad.inTick = true ∧ s.get Reg.CAD_STAT_PHASE = 0 →
        t.cle.wqWait = decide (s.cad.tickStart + s.get Reg.CAD_DL_ACQ_DL < s.now + s.cle.wq.length))
      ∧ Frame [.cle] [] [Reg.CLE_CTRL_HOLDW] s t))
    ∧ (∀ v : Word, s.get Reg.CLE_CTRL_EN = 0 → Does (.clePdataWrite v) s (fun t =>
      tblGet (0 : Word) t.cle.prog (s.get Reg.CLE_PADDR_ADDR) = v
      ∧ (∀ i, i ≠ s.get Reg.CLE_PADDR_ADDR → tblGet (0 : Word) t.cle.prog i = tblGet (0 : Word) s.cle.prog i)
      ∧ t.get Reg.CLE_PADDR_ADDR = (s.get Reg.CLE_PADDR_ADDR + 1) % 16384 ∧ Frame [.cle] [] [Reg.CLE_PADDR_ADDR] s t))
    ∧ (∀ v : Word, s.get Reg.CLE_CTRL_EN ≠ 0 → Does (.clePdataWrite v) s (fun t =>
      t.get Reg.CLE_STAT_PWERR = 1 ∧ t.get Reg.CLE_PADDR_ADDR = (s.get Reg.CLE_PADDR_ADDR + 1) % 16384
      ∧ Frame [] [] [Reg.CLE_PADDR_ADDR, Reg.CLE_STAT_PWERR] s t))
    ∧ Does .clePdataRead s (fun t => t.bus.readData = (tblGet (0 : Word) s.cle.prog (s.get Reg.CLE_PADDR_ADDR)).toNat
      ∧ t.get Reg.CLE_PADDR_ADDR = (s.get Reg.CLE_PADDR_ADDR + 1) % 16384 ∧ Frame [.bus] [] [Reg.CLE_PADDR_ADDR] s t)
    ∧ (s.get Reg.CAD_CTRL_RUN = 0 → Does .mailboxCommit s (fun t =>
      t.cle = { s.cle with mbxIn := s.cle.mbxStage, mbxReq := none, mbxCopied := some s.now } ∧ t.get Reg.CLE_MBX_CTRL_PEND = 0
      ∧ Frame [.cle] [] [Reg.CLE_MBX_CTRL_PEND] s t))
    ∧ (s.get Reg.CAD_CTRL_RUN ≠ 0 ∧ s.cle.mbxReq = none → Does .mailboxCommit s (fun t =>
      t.cle = { s.cle with mbxReq := some s.now } ∧ t.get Reg.CLE_MBX_CTRL_PEND = 1 ∧ Frame [.cle] [] [Reg.CLE_MBX_CTRL_PEND] s t))
    ∧ (∀ at_, s.cle.mbxReq = some at_ ∧ (s.get Reg.CAD_CTRL_RUN = 0 ∨ at_ + 40 ≤ s.cad.tickStart ∧ ∀ p ∈ s.cle.mbxNow, p.1 ≠ s.cad.tickStart) →
      Does .mailboxCopy s (fun t =>
      t.cle = { s.cle with mbxIn := s.cle.mbxStage, mbxReq := none, mbxCopied := t.cle.mbxCopied } ∧ t.get Reg.CLE_MBX_CTRL_PEND = 0 ∧ Frame [.cle] [] [Reg.CLE_MBX_CTRL_PEND] s t))
    ∧ (s.get Reg.CLE_CTRL_EN ≠ 0 → Does .cleEnClear s (fun t => t.get Reg.CLE_CTRL_EN = 0 ∧ t.get Reg.CLE_STAT_STATE = 0
      ∧ (2 ≤ s.get Reg.CLE_STAT_STATE ∧ s.get Reg.CLE_STAT_STATE ≤ 3 → t.cle.runObj = [] ∧ t.cle.runOut = []
        ∧ t.get Reg.CLE_CYC_LAST = (s.now - s.cle.runStart) % 0x10000)
      ∧ t.cle.data = s.cle.data ∧ t.cle.obj = s.cle.obj ∧ t.cle.outMap = s.cle.outMap
      ∧ t.get Reg.CAD_OVR_SOLVE_COUNT = s.get Reg.CAD_OVR_SOLVE_COUNT
      ∧ (s.get Reg.TRP_PULSE_EN_EN ≠ 0 → t.tripFlag 25 = true ∧ t.get Reg.TRP_PULSE_EN_EN = 0)))
    ∧ Does .cycclr s (fun t => t.get Reg.CLE_CYC_MAX = 0 ∧ Frame [] [] [Reg.CLE_CYC_MAX] s t)
    ∧ Does .cleImplStatRead s (fun t => t.bus.readData = s.get Reg.CLE_IMPL_STAT_COUNT * 0x10000 + s.get Reg.CLE_IMPL_STAT_OBJ
      ∧ t.get Reg.CLE_IMPL_STAT_COUNT = 0 ∧ Frame [.bus] [] [Reg.CLE_IMPL_STAT_COUNT] s t)

/-- Where the condition of a transition of OBS or MODE holds, its command makes it, with EVT_TICK at a change of MODE, and with what belongs
to it: FORM takes the observer's angle and frequency; FREEWHEEL counts an entry, clamps its rate to FWROC and raises a Note; a rejoin is
counted; a timeout with FWACT 0 goes to FORM with a Note, else a grid-function trip records CAUSE, latches trip source 26, blocks every
arm and raises a Serious fault; a black start is refused but in SYNC on a bus dead for 100 ms with a start time not passed, and goes
ALIGN, RAMP, FORM. A timeout is judged by the last evaluation, and a rejoin that is due goes before it. (The evaluation itself makes its
transitions; a command carries out one that the last evaluation calls for: the model's choice, log 127.) On a Peloton follower nothing
changes. Completes: grdRestart, observerLocked, observerLost, rejoin, shadowLock, freewheelTimeout, bsreq, alignEnd, handover,
blackstartTimeout. (R117, R120, R122, R123, R125, R128, R130, R132, R134, R136, R138, R139.) -/
def Obligations.GridModesChangeAsTheTableSays : Prop :=
  ∀ (s : State),
    let m := s.get Reg.GRD_STAT_MODE
    let modeIs (t : State) (n : Nat) : Prop := t.get Reg.GRD_STAT_MODE = n ∧ (n ≠ m → t.get Reg.GRD_EVT_TICK_TICK = s.tick % 0x100000000)
    let only (ps : List Part) (ws : List Nat) (fs : List Fld) (t : State) : Prop :=
      Frame (ps ++ [.grd, .tri]) ws ([Reg.GRD_STAT_MODE, Reg.GRD_EVT_TICK_TICK] ++ fs) s t
    let tripped (c : Nat) (t : State) : Prop := modeIs t 6 ∧ t.get Reg.GRD_STAT_CAUSE = c ∧ t.tripFlag 26 = true
      ∧ t.get Reg.TRP_PULSE_EN_EN = 0 ∧ t.fltBit Reg.FLT_SRC_SRC 32 = true
      ∧ only (Part.ofFault ++ Part.ofTrip) (Win.ofFault ++ Win.ofTrip) [Reg.GRD_STAT_CAUSE, Reg.GRD_STAT_BSPH] t
    let startAt := max (s.now + s.get Reg.GRD_BS_ANG_TALIGN * 400000) (s.get Reg.GRD_BS_T0_HI_T0 * 0x100000000 + s.get Reg.GRD_BS_T0_LO_T0)
    let dead : Prop := ∃ a ∈ s.grd.lowSince, a + 40000000 ≤ s.now
    let locks : Prop := s.get Reg.GRD_STAT_OBS = 0 ∧ s.get Reg.GRD_OBS_CNT_LOCK_N ≤ s.grd.goods
      ∨ s.get Reg.GRD_STAT_OBS = 2 ∧ (m = 4 → s.grd.aligned = true) ∧ s.get Reg.GRD_OBS_CNT_REJOIN_N ≤ s.grd.goods
    let endAt := max (s.grd.bsAt + s.get Reg.GRD_BS_ANG_TALIGN * 400000) (s.get Reg.GRD_BS_T0_HI_T0 * 0x100000000 + s.get Reg.GRD_BS_T0_LO_T0)
    let angle := wrapHalf (mkRat (s.get Reg.GRD_BS_ANG_ANG) 65536)
    let lasted : Prop := s.grd.freeAt + s.get Reg.GRD_FW_TMO_TMO * 400000 ≤ s.cel.acqAt
    let rate := mkRat (s.get Reg.GRD_FW_CFG_FWROC) (10 * s.fnom)
    (s.get Reg.PEL_STAT_ROLE = 2 → ∀ i ∈ ([.grdRestart, .bsreq, .observerLocked, .observerLost, .rejoin, .shadowLock, .freewheelTimeout,
      .alignEnd, .handover, .blackstartTimeout, .rtHoldExpiry] : List Instr), Does i s (fun t => t = s))
    ∧ (s.get Reg.PEL_STAT_ROLE ≠ 2 →
      (m = 6 → Does .grdRestart s (fun t => modeIs t 1 ∧ t.get Reg.GRD_STAT_OBS = 0 ∧ only [] [] [Reg.GRD_STAT_OBS] t))
      ∧ (m ≠ 6 → Does .grdRestart s (fun t => t = s))
      ∧ (s.get Reg.GRD_CTRL_EN ≠ 0 ∧ locks → Does .observerLocked s (fun t => t.get Reg.GRD_STAT_OBS = 1
        ∧ modeIs t (if m = 1 then (if s.get Reg.GRD_CTRL_FORM = 0 then 2 else 3) else m)
        ∧ (m = 1 ∧ s.get Reg.GRD_CTRL_FORM ≠ 0 → t.grd.rotorTh = wrapHalf s.obsTheta ∧ t.grd.rotorW = clampRat s.grd.obs.w s.freqBand.1 s.freqBand.2)
        ∧ only [] [] [Reg.GRD_STAT_OBS] t))
      ∧ (s.get Reg.GRD_CTRL_EN ≠ 0 ∧ s.get Reg.GRD_STAT_OBS = 1 ∧ s.get Reg.GRD_FW_CFG_LOSS_N ≤ s.grd.bads →
        Does .observerLost s (fun t => t.get Reg.GRD_STAT_OBS = 2
          ∧ modeIs t (if m = 2 then (if s.get Reg.TRP_PULSE_EN_EN = 0 then 1 else 4) else m)
          ∧ (m = 2 ∧ s.get Reg.TRP_PULSE_EN_EN ≠ 0 → t.get Reg.GRD_FW_CNT_ENTRY = min (s.get Reg.GRD_FW_CNT_ENTRY + 1) 0xFFFF
            ∧ -rate ≤ t.grd.rho ∧ t.grd.rho ≤ rate ∧ t.fltBit Reg.FLT_SRC_SRC 33 = true)
          ∧ only Part.ofFault Win.ofFault [Reg.GRD_STAT_OBS, Reg.GRD_STAT_SHADOW, Reg.GRD_FW_CNT_ENTRY] t))
      ∧ (m = 4 ∧ s.get Reg.GRD_STAT_OBS = 2 ∧ locks → Does .rejoin s (fun t =>
        t.get Reg.GRD_STAT_OBS = 1 ∧ modeIs t 2 ∧ t.get Reg.GRD_FW_CNT_REJOIN = min (s.get Reg.GRD_FW_CNT_REJOIN + 1) 0xFFFF
        ∧ only [] [] [Reg.GRD_STAT_OBS, Reg.GRD_FW_CNT_REJOIN] t))
      ∧ (m = 4 ∧ 8 ≤ s.grd.shadowGood → Does .shadowLock s (fun t =>
        t.get Reg.GRD_STAT_SHADOW = 1 ∧ Frame [] [] [Reg.GRD_STAT_SHADOW] s t))
      ∧ (m = 4 ∧ (locks ∨ ¬lasted) → Does .freewheelTimeout s (fun t => t = s))
      ∧ (m = 4 ∧ ¬locks ∧ lasted ∧ s.get Reg.GRD_CTRL_FWACT = 0 → Does .freewheelTimeout s (fun t => modeIs t 3 ∧ t.fltBit Reg.FLT_SRC_SRC 34 = true
        ∧ t.grd.rotorTh = s.grd.rotorTh ∧ t.grd.rotorW = s.grd.rotorW ∧ t.grd.rotorE = puOf (s.get Reg.GRD_VSET_VALUE)
        ∧ only Part.ofFault Win.ofFault [] t))
      ∧ (m = 4 ∧ ¬locks ∧ lasted ∧ s.get Reg.GRD_CTRL_FWACT ≠ 0 → Does .freewheelTimeout s (tripped 9))
      ∧ (m = 1 ∧ dead ∧ s.now ≤ startAt → Does .bsreq s (fun t => modeIs t 5 ∧ t.get Reg.GRD_STAT_BSPH = 1
        ∧ t.grd.bsAt = s.now ∧ t.grd.rotorE = 0 ∧ t.grd.rotorW = 0
        ∧ t.grd.rotorTh = angle ∧ only [] [] [Reg.GRD_STAT_BSPH] t))
      ∧ (¬(m = 1 ∧ dead ∧ s.now ≤ startAt) → Does .bsreq s (fun t => t.get Reg.GRD_STAT_BSREF = 1 ∧ t.fltBit Reg.FLT_SRC_SRC 35 = true
        ∧ Frame Part.ofFault Win.ofFault [Reg.GRD_STAT_BSREF] s t))
      ∧ (m = 5 ∧ s.get Reg.GRD_STAT_BSPH = 1 ∧ endAt < 0x10000000000000000 → Does .alignEnd s (fun t => t.get Reg.GRD_STAT_BSPH = 2 ∧ t.grd.rotorE = 0
        ∧ t.grd.rotorW = mkRat (s.get Reg.GRD_BS_F0_F0) (100 * s.fnom) ∧ t.grd.rotorTh = angle ∧ endAt ≤ t.now
        ∧ Frame [.cad, .grd] [] [Reg.GRD_STAT_BSPH] s t))
      ∧ (m = 5 ∧ s.get Reg.GRD_STAT_BSPH = 2 ∧ s.get Reg.GRD_BS_HAND_NGOOD ≤ s.grd.bsGood → Does .handover s (fun t => modeIs t 3
        ∧ t.get Reg.GRD_STAT_BSPH = 0 ∧ t.grd.rotorTh = s.grd.rotorTh ∧ t.grd.rotorW = s.grd.rotorW ∧ t.grd.rotorE = s.grd.rotorE
        ∧ only [] [] [Reg.GRD_STAT_BSPH] t))
      ∧ (m = 5 ∧ s.grd.bsAt + s.get Reg.GRD_BS_F0_TMO * 40000000 ≤ s.cel.acqAt → Does .blackstartTimeout s (tripped 10))
      ∧ (s.cel.acqAt < s.grd.bsAt + s.get Reg.GRD_BS_F0_TMO * 40000000 → Does .blackstartTimeout s (fun t => t = s)))

/-- While RUN is 1 a write to a field of GRD is judged at once: a reserved value, a crossed pair of settings or a tone FREQ outside 60 to 300
or on a multiple of f_nom changes no field of it but CFGERR, with a Note fault; any other waits with the time of the write. GRD_BS_T0_LO
is staged and waits together with the next GRD_BS_T0_HI. A waiting write takes effect at the first tick start at least 40 counts after it,
and at once while RUN is 0; EN from 0 to 1 then goes to SYNC with OBS in SEARCH, EN to 0 goes to OFF and blocks every arm if one is
enabled. Whatever the offset and value, what a write adds to the waiting writes is fields of its own register, and a write taken while RUN
is 0 leaves none waiting. An entry to FREEWHEEL counted in the clock of a write to its counter is added to the written value. Completes:
grdRegisterWrite, deferredWriteEffect. (R120, R122, R124, R140, R153, R154, R549.) -/
def Obligations.GridWritesAreJudgedThenWait : Prop :=
  ∀ (s : State) (v : Word),
    let n := v.toNat
    let wait (fs : List (Fld × Nat)) (t : State) : Prop :=
      t.bus.waiting = s.bus.waiting ++ fs.map (fun p => (⟨s.now, p.1, p.2⟩ : Waiting)) ∧ Frame [.bus] [] [] s t
    let refused (t : State) : Prop := t.get Reg.GRD_STAT_CFGERR = 1 ∧ t.fltBit Reg.FLT_SRC_SRC 37 = true
      ∧ Frame Part.ofFault Win.ofFault [Reg.GRD_STAT_CFGERR] s t
    let ahead (f : Fld) : Nat := match (s.bus.waiting.filter (fun w => w.fld == f)).getLast? with | some w => w.value | none => s.get f
    let crossed : Prop := ahead Reg.GRD_OBS_LIM_VMIN ≤ ahead Reg.GRD_OBS_LIM_VLOSS
      ∨ ahead Reg.GRD_OBS_LIM_LOSSBAND ≤ ahead Reg.GRD_OBS_LIM_ERRBAND ∨ ahead Reg.GRD_FBAND_FMAX ≤ ahead Reg.GRD_FBAND_FMIN
    let due (w : Waiting) : Bool := s.get Reg.CAD_CTRL_RUN == 0 || decide (w.time + 40 ≤ s.cad.tickStart)
    (∀ o : Fin 16384, Does (.grdRegisterWrite o v) s (fun t => (s.get Reg.CAD_CTRL_RUN = 0 → t.bus.waiting = [])
      ∧ (s.get Reg.CAD_CTRL_RUN ≠ 0 → t.bus.waiting.take s.bus.waiting.length = s.bus.waiting
        ∧ ∀ w ∈ t.bus.waiting.drop s.bus.waiting.length, w.time = s.now
          ∧ (w.fld.addr = 0x40070000 + o.val ∨ (w.fld = Reg.GRD_BS_T0_LO_T0 ∧ o.val = 0x64)))))
    ∧ Does .deferredWriteEffect s (fun t => t.bus.waiting = s.bus.waiting.filter (fun w => !due w))
    ∧ (s.get Reg.CAD_CTRL_RUN ≠ 0 →
      (∀ i : Fin 32, ¬crossed →
        if n % 65536 ≤ 16384 ∨ 49152 ≤ n % 65536 then Does (.grdRegisterWrite (.ofNat _ (0x100 + 4 * i.val)) v) s (wait [(Reg.GRD_PADV_ADV i.val, n % 65536)])
        else Does (.grdRegisterWrite (.ofNat _ (0x100 + 4 * i.val)) v) s refused)
      ∧ (∀ i : Fin 16, ¬crossed → Does (.grdRegisterWrite (.ofNat _ (0x200 + 4 * i.val)) v) s
        (wait [(Reg.GRD_RT_UV_V i.val, n / 65536), (Reg.GRD_RT_UV_T i.val, n % 65536)]))
      ∧ (let lossband : Nat := n / 0x1000000
        let errband : Nat := n / 0x10000 % 256
        let vloss : Nat := n / 256 % 256
        let vmin : Nat := n % 256
        let bad : Prop := lossband ≤ errband ∨ vmin ≤ vloss ∨ errband = 0 ∨ vloss = 0
          ∨ ahead Reg.GRD_FBAND_FMAX ≤ ahead Reg.GRD_FBAND_FMIN
        (bad → Does (.grdRegisterWrite 0x1C v) s refused)
        ∧ (¬bad → Does (.grdRegisterWrite 0x1C v) s (wait [(Reg.GRD_OBS_LIM_LOSSBAND, lossband), (Reg.GRD_OBS_LIM_ERRBAND, errband),
          (Reg.GRD_OBS_LIM_VLOSS, vloss), (Reg.GRD_OBS_LIM_VMIN, vmin)])))
      ∧ (20 ≤ n / 65536 % 256 ∧ n / 65536 % 256 ≤ 200 → (n % 512 < 60 ∨ 300 < n % 512 ∨ 10 * (n % 512) % s.fnom = 0 →
          Does (.grdRegisterWrite 0x68 v) s (fun t => t.get Reg.GRD_STAT_CFGERR = 1
            ∧ t.bus.waiting = s.bus.waiting ++ [⟨s.now, Reg.GRD_TONE_AMP, n / 65536 % 256⟩]))
        ∧ (60 ≤ n % 512 ∧ n % 512 ≤ 300 ∧ 10 * (n % 512) % s.fnom ≠ 0 → Does (.grdRegisterWrite 0x68 v) s
          (wait [(Reg.GRD_TONE_AMP, n / 65536 % 256), (Reg.GRD_TONE_FREQ, n % 512)])))
      ∧ Does (.grdRegisterWrite 0x60 v) s (fun t => t.bus.t0Lo = some n ∧ t.bus.waiting = s.bus.waiting ∧ Frame [.bus] [] [] s t)
      ∧ Does (.grdRegisterWrite 0x64 v) s (fun t => t.bus.t0Lo = none
        ∧ wait [(Reg.GRD_BS_T0_LO_T0, s.bus.t0Lo.getD (ahead Reg.GRD_BS_T0_LO_T0) % 0x100000000), (Reg.GRD_BS_T0_HI_T0, n)] t))
    ∧ (∀ w : Waiting, s.bus.waiting = [w] →
      (¬due w → Does .deferredWriteEffect s (fun t => t = s))
      ∧ (due w ∧ w.fld = Reg.GRD_PSET_VALUE → Does .deferredWriteEffect s (fun t => t.get w.fld = w.value % 0x100000000
        ∧ t.bus.waiting = [] ∧ Frame [.bus] [] [w.fld] s t))
      ∧ (due w ∧ w.fld = Reg.GRD_FW_CNT_ENTRY ∧ s.grd.entryAt = some w.time → Does .deferredWriteEffect s (fun t =>
        t.get w.fld = min (w.value + 1) 0xFFFF ∧ t.bus.waiting = [] ∧ Frame [.bus] [] [w.fld] s t))
      ∧ (due w ∧ w.fld = Reg.GRD_CTRL_EN ∧ s.get Reg.PEL_STAT_ROLE ≠ 2 →
        (s.get Reg.GRD_CTRL_EN = 0 ∧ w.value = 1 → Does .deferredWriteEffect s (fun t => t.get Reg.GRD_CTRL_EN = 1
          ∧ t.get Reg.GRD_STAT_MODE = 1 ∧ t.get Reg.GRD_STAT_OBS = 0 ∧ t.grd.obs.th = 0 ∧ t.grd.obs.w = 1
          ∧ Frame [.bus, .grd, .tri] [Win.grd] [] s t))
        ∧ (s.get Reg.GRD_CTRL_EN ≠ 0 ∧ w.value = 0 → Does .deferredWriteEffect s (fun t => t.get Reg.GRD_CTRL_EN = 0
          ∧ t.get Reg.GRD_STAT_MODE = 0 ∧ t.get Reg.TRP_PULSE_EN_EN = 0
          ∧ (s.get Reg.TRP_PULSE_EN_EN ≠ 0 → t.tripFlag 26 = true)
          ∧ Frame (.bus :: .tri :: Part.ofTrip) (Win.grd :: Win.ofTrip) [] s t))))

/-- A tone window that ends, 100 ms after it began, counts NEST, and its correlations of the voltage and current samples, each part within one
unit of the 24-bit word by the rounding of the correlators (a choice of the model, log 132), give V_tone and I_tone; with IRAT at least
ZIMIN it gives Z_R and Z_X of V_tone / I_tone, X brought to f_nom, and ZVALID once eight windows have completed; with IRAT below ZIMIN it
sets ZOPEN, clears ZVALID, keeps Z_R and Z_X and reads SCR 0. With TONEEN 0 nothing changes. An enabled passive test whose condition has
lasted its time sets its bit and trips with CAUSE 3 to 6, transfers FOLLOW or FREEWHEEL to FORM, or flags only, by ISLACT, once at an
evaluation. RT returns to 0 when recovery has held for HOLD. Completes: toneWindowEnd, passiveTestTimerExpiry, rtHoldExpiry. (R123, R141,
R142, R144, R146, R148.) -/
def Obligations.ImpedanceIslandingAndRecovery : Prop :=
  ∀ (s : State), s.get Reg.PEL_STAT_ROLE ≠ 2 →
    let m := s.get Reg.GRD_STAT_MODE
    (
      (∀ vRe vIm iRe iIm : Int, s.get Reg.GRD_CTRL_TONEEN = 0 → Does (.toneWindowEnd vRe vIm iRe iIm) s (fun t => t = s))
      ∧ (∀ vRe vIm iRe iIm : Int, s.get Reg.GRD_CTRL_TONEEN ≠ 0 ∧ s.get Reg.GRD_CTRL_EN ≠ 0 →
        let unit (x : Int) : Rat := mkRat (max (-1) (min x 1)) 0x800000
        let v := (s.toneVolts.1 + unit vRe, s.toneVolts.2 + unit vIm)
        let i := (s.toneAmps.1 + unit iRe, s.toneAmps.2 + unit iIm)
        let sq := i.1 ^ 2 + i.2 ^ 2
        let open_ := (s.toneEstimate v i).irat < mkRat (s.get Reg.GRD_Z_LIM_ZIMIN) 100
        Does (.toneWindowEnd vRe vIm iRe iIm) s (fun t =>
          t.get Reg.GRD_Z_STAT_NEST = (s.get Reg.GRD_Z_STAT_NEST + 1) % 256
          ∧ t.grd.windows = s.grd.windows + 1 ∧ t.grd.toneAt = s.grd.toneAt + 40000000 ∧ t.grd.toneSum = []
          ∧ (open_ → t.get Reg.GRD_STAT_ZOPEN = 1 ∧ t.get Reg.GRD_STAT_ZVALID = 0 ∧ t.get Reg.GRD_Z_STAT_SCR = 0
            ∧ t.get Reg.GRD_Z_R_VALUE = s.get Reg.GRD_Z_R_VALUE ∧ t.get Reg.GRD_Z_X_VALUE = s.get Reg.GRD_Z_X_VALUE
            ∧ t.grd.iTones = s.grd.iTones)
          ∧ (¬open_ → t.get Reg.GRD_STAT_ZOPEN = 0 ∧ (t.get Reg.GRD_STAT_ZVALID = 1 ↔ 8 ≤ s.grd.windows + 1)
            ∧ (sq ≠ 0 → t.get Reg.GRD_Z_R_VALUE = puWord ((v.1 * i.1 + v.2 * i.2) / sq)
              ∧ t.get Reg.GRD_Z_X_VALUE
                = puWord ((v.2 * i.1 - v.1 * i.2) / sq * mkRat s.fnom (10 * s.get Reg.GRD_TONE_FREQ))))
          ∧ Frame [.cad, .grd] [] [Reg.GRD_Z_R_VALUE, Reg.GRD_Z_X_VALUE, Reg.GRD_Z_STAT_NEST, Reg.GRD_Z_STAT_IRAT, Reg.GRD_Z_STAT_SCR,
            Reg.GRD_STAT_ZOPEN, Reg.GRD_STAT_ZVALID] s t)))
    ∧ (∀ (k : Fin 4) (since : Nat), tblGet none s.grd.testSince k.val = some since →
      let last := s.cel.acqAt
      let ms := match k with | 0 => s.get Reg.GRD_ISL_ROC_TIME | 2 => s.get Reg.GRD_ISL_VWIN_TIME | _ => s.get Reg.GRD_ISL_FWIN_TIME
      let met : Prop := if k = 1 then since < last else since + 400000 * ms ≤ last
      (s.bit Reg.GRD_ISL_EN_TEST k.val = true ∧ s.get Reg.GRD_CTRL_EN ≠ 0 ∧ met ∧ s.grd.testMet.testBit k.val = false → Does (.passiveTestTimerExpiry k) s (fun t =>
        let met1 (n : Nat) : Prop := t.get Reg.GRD_STAT_MODE = n
          ∧ Frame [.grd, .tri] [] [Reg.GRD_ISL_STAT_TEST, Reg.GRD_STAT_MODE, Reg.GRD_EVT_TICK_TICK] s t
        t.bit Reg.GRD_ISL_STAT_TEST k.val = true
        ∧ (s.get Reg.GRD_CTRL_ISLACT = 0 ∧ m ≠ 0 ∧ m ≠ 6 → t.get Reg.GRD_STAT_MODE = 6 ∧ t.get Reg.GRD_STAT_CAUSE = k.val + 3
          ∧ t.tripFlag 26 = true ∧ t.get Reg.TRP_PULSE_EN_EN = 0 ∧ t.fltBit Reg.FLT_SRC_SRC 32 = true
          ∧ Frame (.grd :: Part.ofFault ++ Part.ofTrip) (Win.ofFault ++ Win.ofTrip) [Reg.GRD_ISL_STAT_TEST, Reg.GRD_STAT_MODE,
            Reg.GRD_EVT_TICK_TICK, Reg.GRD_STAT_CAUSE, Reg.GRD_STAT_BSPH] s t)
        ∧ (s.get Reg.GRD_CTRL_ISLACT = 1 ∧ (m = 2 ∨ m = 4) → met1 3)
        ∧ (s.get Reg.GRD_CTRL_ISLACT = 1 ∧ m ≠ 2 ∧ m ≠ 4 → met1 m)
        ∧ (2 ≤ s.get Reg.GRD_CTRL_ISLACT → met1 m)))
      ∧ (s.bit Reg.GRD_ISL_EN_TEST k.val = false ∨ ¬met → Does (.passiveTestTimerExpiry k) s (fun t => t = s)))
    ∧ (∀ since : Nat, s.grd.recSince = some since →
      (s.get Reg.GRD_STAT_RT ≠ 0 ∧ since + 400000 * s.get Reg.GRD_RT_TIM_HOLD ≤ s.cel.acqAt → Does .rtHoldExpiry s (fun t =>
        t.get Reg.GRD_STAT_RT = 0 ∧ Frame [.grd] [] [Reg.GRD_STAT_RT] s t))
      ∧ (s.cel.acqAt < since + 400000 * s.get Reg.GRD_RT_TIM_HOLD → Does .rtHoldExpiry s (fun t => t = s)))

/-- Requests of CEL_BYP_REQ and CEL_RJ_REQ wait for the Acquire deadline, and one made in its clock is judged with it (the model's reading,
log 75). A bypass records the lowest of its due causes unless the port holds one. A commanded bypass not confirmed within 8 ticks while
its link is in operation sets BYPFAIL, latches trip source 27 for every arm and raises a Serious fault. A rejoin request is accepted only
with the cell enabled and admitted, its link in operation, fault flag and BYPFAIL clear, no bypass due, and, while its arm is enabled, V /
VNOM of a good Report within RJLO to RJHI of the mean of the other eligible cells; accepted, the cell is eligible and READY becomes
OPERATE; refused, RJREF is set. A code held at a bound for 1,000 updates sets GATESAT with a Note fault. Completes: celBypReq, celRjReq,
bypassDecision, bypassConfirmTimeout, rejoinJudgement, gatesat. (R44, R173, R177, R178, R179, R180, R181, R269.) -/
def Obligations.BypassAndRejoinOfACell : Prop :=
  ∀ (s : State),
    (∀ (j : Fin 3) (v : Word),
      Does (.celBypReq j v) s (fun t => Frame [.cel] [] [] s t ∧ ∀ k : Nat, t.cel.bypReq.testBit k
        = (s.cel.bypReq.testBit k || (decide (32 * j.val ≤ k) && v.getLsbD (k - 32 * j.val))))
      ∧ Does (.celRjReq j v) s (fun t => Frame [.cel] [] [] s t ∧ ∀ k : Nat, t.cel.rjReq.testBit k
        = (s.cel.rjReq.testBit k || (decide (32 * j.val ≤ k) && v.getLsbD (k - 32 * j.val)))))
    ∧ (∀ (c p : Fin 96), s.portOf c = some p.val →
      let x := s.port p
      let auto : Prop := s.get Reg.CEL_CTRL_AUTOBYP ≠ 0
      let lost : Prop := s.portLost p = true ∨ s.get (Reg.SPK_PSTAT_MISSN p) = 3
      let hot : Prop := (s.cell c).over10 = true ∧ auto
      let due (req dec : Nat) : Prop := dec.testBit c = true ∨ s.now = s.cel.acqAt ∧ req.testBit c = true
      let bypDue : Prop := due s.cel.bypReq s.cel.bypDue
      let rjDue : Prop := due s.cel.rjReq s.cel.rjDue
      let armFlds : List Fld := (List.range 6).flatMap (fun a => [Reg.SYS_ARM_STAT_BYPASSED a, Reg.SYS_ARM_STAT_EXHAUST a])
      let cause : Nat := if bypDue then 1 else if lost then 2 else if x.data.fault = true ∧ auto then 3
        else if s.portAdmitted p = false then 4 else if hot then 5 else 0
      let rel (d : Nat) : Rat := ratio ((s.cellPort d).data.vcap : Rat) (s.vnom d : Rat)
      let peers : List Rat := ((s.eligCells (s.cellArm c)).filter (fun d => d != c.val)).map rel
      let mean : Rat := peers.foldl (· + ·) 0 / (peers.length : Rat)
      let inBand : Prop := s.cellPulses c = false ∨ x.good = true ∧ (peers = []
        ∨ mkRat (s.get Reg.CEL_BYP_CFG_RJLO) 100 * mean ≤ rel c ∧ rel c ≤ mkRat (s.get Reg.CEL_BYP_CFG_RJHI) 100 * mean)
      let okay : Prop := s.cellOn c = true ∧ s.portAdmitted p = true ∧ s.linkUp p = true ∧ x.data.fault = false ∧ x.bypFail = false
        ∧ inBand ∧ ¬hot ∧ s.cel.bypDue.testBit c = false ∧ s.get (Reg.SPK_PSTAT_MISSN p) ≠ 3
      (s.cellOn c = true ∧ cause ≠ 0 → Does (.bypassDecision c) s (fun t => (t.port p).bypCause = (if x.bypCause = 0 then cause else x.bypCause)
        ∧ t.eligible c = false ∧ (s.now ≠ s.cel.acqAt → Frame [.spk] [] [] s t)
        ∧ Frame ([.spk, .cel, .cle] ++ Part.ofFault ++ Part.ofTrip) (Win.ofFault ++ Win.ofTrip) armFlds s t))
      ∧ (¬bypDue ∧ (s.cellOn c = false ∨ cause = 0) → Does (.bypassDecision c) s (fun t => t = s))
      ∧ (∀ k ∈ x.bypSent, 8 < (s.tick + 0x100000000 - k) % 0x100000000 ∧ x.closedSeen = false ∧ x.bypCause ≠ 0 ∧ s.linkUp p = true →
        Does (.bypassConfirmTimeout c) s (fun t => (t.port p).bypFail = true ∧ t.tripFlag 27 = true ∧ t.get Reg.TRP_PULSE_EN_EN = 0
          ∧ t.fltBit Reg.FLT_SRC_SRC 47 = true ∧ Frame (.spk :: Part.ofFault ++ Part.ofTrip) (Win.ofFault ++ Win.ofTrip) [] s t))
      ∧ (s.linkUp p = false → Does (.bypassConfirmTimeout c) s (fun t => t = s))
      ∧ (¬rjDue → Does (.rejoinJudgement c) s (fun t => t = s))
      ∧ (rjDue ∧ okay → Does (.rejoinJudgement c) s (fun t => t.cel.rjDue.testBit c = false
        ∧ (t.port p).bypCause = 0 ∧ t.portLost p = false ∧ t.eligible c = true ∧ t.get (Reg.SPK_PSTAT_LSTATE p) = 5
        ∧ Frame ([.spk, .cel, .cle] ++ Part.ofFault ++ Part.ofTrip) (Win.ofFault ++ Win.ofTrip)
          ([Reg.SPK_LOST_PORT (p.val / 32), Reg.SPK_PSTAT_LSTATE p, Reg.SPK_STAT_NOPER, Reg.CEL_STAT_SCANNING, Reg.CEL_MPPT_STATE c,
            Reg.CEL_MPPT_VREF c, Reg.CEL_MPPT_VP_VOC c, Reg.CEL_MPPT_VOCOK c, Reg.CEL_MPPT_VOCEST c, Reg.CEL_MPPT_NVALID c,
            Reg.CEL_MPPT_NOHIST c] ++ armFlds) s t))
      ∧ (rjDue ∧ ¬okay → Does (.rejoinJudgement c) s (fun t => t.cel.rjDue.testBit c = false
        ∧ t.get (Reg.CEL_CELL_STAT_RJREF c) = 1 ∧ Frame [.cel] [] [Reg.CEL_CELL_STAT_RJREF c] s t)))
    ∧ (∀ c : Fin 96, (1000 ≤ (s.cell c).satRun → Does (.gatesat c) s (fun t => t.get (Reg.CEL_CELL_STAT_GATESAT c) = 1
        ∧ t.fltBit Reg.FLT_SRC_SRC 43 = true ∧ (t.cell c).satRun = 0 ∧ Frame (.cel :: Part.ofFault) Win.ofFault [Reg.CEL_CELL_STAT_GATESAT c] s t))
      ∧ ((s.cell c).satRun < 1000 → Does (.gatesat c) s (fun t => t = s)))

/-- An update in TRACK, due after TSTEP ticks, with a point that is not usable holds VREF and forgets the previous point; with no previous
point it moves VREF by the step in the present direction, not as a valid step; else it counts a valid step, moves by the sign of the
incremental conductance beyond ICTOL (or of the current change where the voltage hardly moved), halves the step on no move or a reversal,
doubles it at the fourth move in one direction, holds VREF in its range, and clears NOHIST at the third valid step. In SCAN each usable
point gives the power estimate and is kept where it is the best; the next point, evenly spaced from VHI down to VLO, follows, and after
SCANN points VREF goes to the best, or back where that is less than 1 % above the power before, TRACK goes on with step SMAX and no
previous point, and neither nvalid nor NOHIST changes. A scan falls due SCANPER after the end of the last one, or after first use with a
share of SCANPER by cell number; it starts at the top of the range while NOHIST is 0 and fewer than SCANMAX contexts scan. A window of
state of charge sets SOCIMPL beyond SOCTOL, clears it within half of it, and starts the next; a window that still waits for its first good
Report only starts anew. Completes: mpptUpdate, mpptScanStart, socWindowEnd. (R166, R167, R168, R169, R171, R172.) -/
def Obligations.MpptUpdatesByIncrementalConductance : Prop :=
  ∀ (s : State) (c : Fin 96),
    let x := s.cell c
    let m := x.mppt
    let r := s.vrefRange c
    let v : Rat := mkRat m.sums.1 m.sums.2.2
    let i : Rat := mkRat m.sums.2.1 m.sums.2.2
    let usable : Prop := m.sums.2.2 ≠ 0 ∧ m.usable = true ∧ (s.get Reg.CEL_MPPT_LIM_IMIN : Rat) ≤ i
    let dir : Int := if m.up then 1 else -1
    let due : Prop := s.get (Reg.CEL_MPPT_STATE c) = 2 ∧ s.get Reg.CEL_MPPT_CFG_TSTEP ≤ m.ticks
    let vrefIs (y : Rat) (t : State) : Prop := (t.cell c).mppt.vref = clampRat y r.1 r.2
    let fresh (t : State) : Prop := (t.cell c).mppt.ticks = 0 ∧ (t.cell c).mppt.usable = true ∧ t.get (Reg.CEL_MPPT_STATE c) = 2
      ∧ Frame [.cel] [] [Reg.CEL_MPPT_VREF c, Reg.CEL_MPPT_VP_POWER c, Reg.CEL_MPPT_NVALID c, Reg.CEL_MPPT_NOHIST c] s t
    let tol := mkRat (s.get Reg.CEL_MPPT_LIM_ICTOL) 1000
    let st : Nat := s.get (Reg.CEL_MPPT_STATE c)
    let lo := mkRat (s.get Reg.CEL_MPPT_LIM_VLO) 100 * (s.vnom c : Rat)
    let hi := mkRat (s.get Reg.CEL_MPPT_LIM_VHI) 100 * (s.vnom c : Rat)
    let best : Option (Rat × Rat) := if usable ∧ ∀ b ∈ m.scanBest, b.1 < v * i then some (v * i, m.vref) else m.scanBest
    (¬due ∧ (st ≠ 3 ∨ m.ticks < s.get Reg.CEL_MPPT_CFG_TSTEP) → Does (.mpptUpdate c) s (fun t => t = s))
    ∧ (st = 3 ∧ s.get Reg.CEL_MPPT_CFG_TSTEP ≤ m.ticks → Does (.mpptUpdate c) s (fun t =>
      (usable → (t.cell c).mppt.lastPoint = some (v, i) ∧ t.get (Reg.CEL_MPPT_VP_POWER c) = min 65535 (max 0 (intOf (v * i / 1000))).toNat)
      ∧ t.get (Reg.CEL_MPPT_NVALID c) = s.get (Reg.CEL_MPPT_NVALID c) ∧ t.get (Reg.CEL_MPPT_NOHIST c) = s.get (Reg.CEL_MPPT_NOHIST c)
      ∧ (t.cell c).mppt.ticks = 0
      ∧ (m.scanAt + 1 < s.get Reg.CEL_MPPT_SCAN_SCANN → t.get (Reg.CEL_MPPT_STATE c) = 3 ∧ (t.cell c).mppt.scanAt = m.scanAt + 1
        ∧ (t.cell c).mppt.scanBest = best ∧ vrefIs (hi - (hi - lo) * mkRat (m.scanAt + 1 : Nat) (s.get Reg.CEL_MPPT_SCAN_SCANN - 1)) t)
      ∧ (s.get Reg.CEL_MPPT_SCAN_SCANN ≤ m.scanAt + 1 → t.get (Reg.CEL_MPPT_STATE c) = 2 ∧ (t.cell c).mppt.prev = none
        ∧ (t.cell c).mppt.scanEnd = some s.now ∧ (t.cell c).mppt.step = s.smax c
        ∧ vrefIs (match best with | none => m.preScan.1 | some b => if b.1 < mkRat 101 100 * m.preScan.2 then m.preScan.1 else b.2) t)
      ∧ Frame [.cel] [] [Reg.CEL_MPPT_VREF c, Reg.CEL_MPPT_VP_POWER c, Reg.CEL_MPPT_STATE c, Reg.CEL_STAT_SCANNING] s t))
    ∧ (due ∧ ¬usable → Does (.mpptUpdate c) s (fun t => (t.cell c).mppt.prev = none ∧ (t.cell c).mppt.vref = m.vref
      ∧ t.get (Reg.CEL_MPPT_NVALID c) = s.get (Reg.CEL_MPPT_NVALID c) ∧ fresh t))
    ∧ (due ∧ usable ∧ m.prev = none → Does (.mpptUpdate c) s (fun t => vrefIs (m.vref + m.step * (dir : Rat)) t
      ∧ (t.cell c).mppt.prev = some (v, i) ∧ t.get (Reg.CEL_MPPT_NVALID c) = s.get (Reg.CEL_MPPT_NVALID c) ∧ fresh t))
    ∧ (∀ vp ip : Rat, due ∧ usable ∧ m.prev = some (vp, ip) ∧ 0 < i ∧ 0 < v →
      let g := ((i - ip) / (v - vp) + i / v) / (i / v)
      let move : Int := if absRat (v - vp) < mkRat (s.vnom c) 1000
        then (if absRat (i - ip) ≤ tol * i then 0 else if ip < i then 1 else -1)
        else if tol < g then 1 else if g < -tol then -1 else 0
      let run := if move = dir then m.run + 1 else if move = 0 then 0 else 1
      let step := if move ≠ dir then max (m.step / 2) (s.smin c) else if run = 4 then min (2 * m.step) (s.smax c) else m.step
      let nv := min 3 (s.get (Reg.CEL_MPPT_NVALID c) + 1)
      Does (.mpptUpdate c) s (fun t => vrefIs (m.vref + step * (move : Rat)) t ∧ (t.cell c).mppt.step = step
        ∧ (t.cell c).mppt.prev = some (v, i) ∧ (move ≠ 0 → (t.cell c).mppt.up = decide (move = 1)) ∧ t.get (Reg.CEL_MPPT_NVALID c) = nv
        ∧ (nv = 3 → t.get (Reg.CEL_MPPT_NOHIST c) = 0) ∧ fresh t))
    ∧ (let per := s.get Reg.CEL_MPPT_SCAN_SCANPER * 400000000
      let at_ := (m.scanEnd.map (fun t => t + per)).getD (m.usedAt + per + (c.val * per + 95) / 96)
      let full : Prop := s.get Reg.CEL_MPPT_SCAN_SCANMAX
        ≤ ((List.range 96).filter (fun d => s.get (Reg.CEL_MPPT_STATE d) == 3)).length
      (s.get (Reg.CEL_MPPT_STATE c) = 2 ∧ s.get (Reg.CEL_MPPT_NOHIST c) = 0 ∧ ¬full ∧ s.get Reg.CEL_MPPT_SCAN_SCANPER ≠ 0 →
        Does (.mpptScanStart c) s (fun t => t.get (Reg.CEL_MPPT_STATE c) = 3 ∧ (t.cell c).mppt.scanAt = 0
          ∧ (s.now < at_ → at_ < 0x10000000000000000 → t.now = at_)
          ∧ vrefIs (mkRat (s.get Reg.CEL_MPPT_LIM_VHI) 100 * (s.vnom c : Rat)) t ∧ (t.cell c).mppt.preScan.1 = m.vref
          ∧ Frame [.cad, .cel] [] [Reg.CEL_MPPT_VREF c, Reg.CEL_MPPT_STATE c, Reg.CEL_STAT_SCANNING] s t))
      ∧ (s.get (Reg.CEL_MPPT_NOHIST c) ≠ 0 ∨ full ∨ per = 0 → Does (.mpptScanStart c) s (fun t => t = s)))
    ∧ (∀ at_ ∈ x.socStart, s.get (Reg.SYS_CELL_CFG_KIND c) = 2 →
      let d := absRat (((x.socRep : Rat) - x.socRef.1) - (x.soci - x.socRef.2))
      let tol : Rat := s.get Reg.CEL_SOC_CFG_SOCTOL
      let checked : Prop := s.get Reg.CEL_CTRL_SOCCHK ≠ 0 ∧ s.get (Reg.CEL_BAT_CAP_AH c) ≠ 0
      let impl (t : State) : Nat := t.get (Reg.CEL_CELL_STAT_SOCIMPL c)
      (x.socAwait = true → Does (.socWindowEnd c) s (fun t => (t.cell c).socStart = some t.now ∧ (t.cell c).socInRange = true
        ∧ (t.cell c).soci = x.soci ∧ Frame [.cad, .cel] [] [] s t))
      ∧ (x.socAwait = false → Does (.socWindowEnd c) s (fun t =>
        (checked ∧ tol < d → impl t ≠ 0 ∧ (impl s = 0 → t.fltBit Reg.FLT_SRC_SRC 42 = true))
        ∧ (checked ∧ 2 * d ≤ tol ∧ ¬tol < d ∧ x.socInRange = true → impl t = 0)
        ∧ (¬checked ∨ tol < 2 * d ∧ d ≤ tol → impl t = impl s)
        ∧ (impl t = 0 → (t.cell c).soci = clampRat x.socRep 0 10000) ∧ (impl t ≠ 0 → (t.cell c).soci = clampRat x.soci 0 10000)
        ∧ (t.cell c).socInRange = true ∧ (t.cell c).socStart = some t.now
        ∧ Frame ([.cad, .cel] ++ Part.ofFault) Win.ofFault [Reg.CEL_CELL_STAT_SOCIMPL c, Reg.CEL_BAT_SOCI c] s t)))

/-- While RUN is 1 a write to CEL_MPPT_CFG, CEL_MPPT_LIM, CEL_GATE_CFG or CEL_BYP_CFG with crossed settings or a reserved value sets CFGERR in
the clock of the write and changes nothing else; any other waits. BASELINE takes C0 and VON0 of each cell with both means from the hour in
progress. An hour ends at the next TIME multiple of 1,440,000,000,000 counts: the means of every enabled cell start anew, A lies in 0 to
1, is 0 until the baselines exist, and AGED is set with a Note fault when it reaches 1. Completes: celRegisterWrite, baseline,
ageingHourEnd. (R174, R175, R182.) -/
def Obligations.CellSettingsAndAgeing : Prop :=
  ∀ (s : State) (v : Word),
    let n := v.toNat
    let refused (t : State) : Prop := t.get Reg.CEL_STAT_CFGERR = 1 ∧ Frame [] [] [Reg.CEL_STAT_CFGERR] s t
    let wait (fs : List (Fld × Nat)) (t : State) : Prop :=
      t.bus.waiting = s.bus.waiting ++ fs.map (fun p => (⟨s.now, p.1, p.2⟩ : Waiting)) ∧ Frame [.bus] [] [] s t
    (s.get Reg.CAD_CTRL_RUN ≠ 0 ∧ s.bus.waiting = [] →
      let quiet : Prop := s.get Reg.CEL_MPPT_CFG_SMIN ≤ s.get Reg.CEL_MPPT_CFG_SMAX ∧ s.get Reg.CEL_MPPT_LIM_VLO < s.get Reg.CEL_MPPT_LIM_VHI
        ∧ s.get Reg.CEL_GATE_CFG_CODEMIN ≤ s.get Reg.CEL_GATE_CFG_CODEMAX ∧ s.get Reg.CEL_BYP_CFG_RJLO < s.get Reg.CEL_BYP_CFG_RJHI
      quiet →
        (n / 65536 < 2 ∨ n % 256 = 0 ∨ n / 256 % 256 < n % 256 → Does (.celRegisterWrite 0x80 v) s refused)
        ∧ (2 ≤ n / 65536 ∧ n % 256 ≠ 0 ∧ n % 256 ≤ n / 256 % 256 → Does (.celRegisterWrite 0x80 v) s
          (wait [(Reg.CEL_MPPT_CFG_TSTEP, n / 65536), (Reg.CEL_MPPT_CFG_SMAX, n / 256 % 256), (Reg.CEL_MPPT_CFG_SMIN, n % 256)]))
        ∧ (n / 256 % 256 = 0 ∨ n / 65536 % 256 ≤ n / 0x1000000 → Does (.celRegisterWrite 0x84 v) s refused)
        ∧ (n / 256 % 4 = 3 ∨ n / 16 % 16 < n % 16 → Does (.celRegisterWrite 0x90 v) s refused)
        ∧ (n % 256 ≤ n / 256 % 256 → Does (.celRegisterWrite 0x9C v) s refused)
        ∧ (n / 256 % 256 < n % 256 → Does (.celRegisterWrite 0x9C v) s
          (wait [(Reg.CEL_BYP_CFG_RJLO, n / 256 % 256), (Reg.CEL_BYP_CFG_RJHI, n % 256)])))
    ∧ Does .baseline s (fun t =>
      (∀ c : Fin 96, (s.cell c).codeSum.2 ≠ 0 ∧ (s.cell c).vonSum.2 ≠ 0 → (t.cell c).base
        = some (mkRat (s.cell c).codeSum.1 (s.cell c).codeSum.2, mkRat (s.cell c).vonSum.1 (s.cell c).vonSum.2))
      ∧ (∀ c : Fin 96, (s.cell c).codeSum.2 = 0 ∨ (s.cell c).vonSum.2 = 0 → t.cell c = s.cell c)
      ∧ Frame [.cel] [] ((List.range 96).map Reg.CEL_HEALTH_C0) s t)
    ∧ Does .ageingHourEnd s (fun t =>
      t.cel.hourAt = (s.cel.hourAt / 1440000000000 + 1) * 1440000000000
      ∧ (∀ c : Fin 96, s.cellOn c = true →
        (t.cell c).codeSum = (0, 0) ∧ (t.cell c).vonSum = (0, 0) ∧ (t.cell c).hourFull = true
        ∧ ((t.cell c).base = none → (t.cell c).age = 0)
        ∧ (s.get Reg.CEL_CTRL_AGEEN ≠ 0 → 0 ≤ (t.cell c).age ∧ (t.cell c).age ≤ 1)
        ∧ ((t.cell c).age = 1 → t.get (Reg.CEL_CELL_STAT_AGED c) ≠ 0
          ∧ (s.get (Reg.CEL_CELL_STAT_AGED c) = 0 → t.fltBit Reg.FLT_SRC_SRC 44 = true)))
      ∧ (∀ c : Fin 96, s.cellOn c = false → t.cell c = s.cell c)
      ∧ Frame ([.cad, .cel] ++ Part.ofFault) Win.ofFault
        ((List.range 96).flatMap (fun c => [Reg.CEL_HEALTH_AGE c, Reg.CEL_HEALTH_C0 c, Reg.CEL_CELL_STAT_AGED c])) s t)

/-- A write to PWM_CTRL enables and disables channels: an enabled one counts from 0, or waits for a tick start with TSYNC, in its trip state
while TRIPF is 1; a disabled one drives both outputs low and keeps TRIPF and CBCF. An event of a running channel sets its flag; each
ETPS-th counted one raises the interrupt; counter zero loads the shadow values unless LOAD is 2 and ends a cut with no cause and TRIPF 0.
A pending turn-on takes place at the end of its dead time. A trip input changes its filtered state after FLEN agreeing samples, at once
with FLEN 0; becoming active it latches its trip source where enabled and cuts every enabled channel that selects it, and with TRIPST 0
both its outputs are low. TRIPF clears only with no cause active; a read of the status clears CBCCNT. Completes: pwmCtrlWrite,
pwmCounterEvent, pwmDeadtimeEnd, tripInputChange, tripfClear, pwmChnStatRead. (R209, R211, R212, R213, R214, R216, R217, R218, R219,
R221.) -/
def Obligations.PwmEventsCutsAndInputs : Prop :=
  ∀ (s : State),
    (∀ v : Word, Does (.pwmCtrlWrite v) s (fun t =>
      (∀ n : Fin 6, t.bit Reg.PWM_CTRL_EN n = v.getLsbD n
        ∧ (s.bit Reg.PWM_CTRL_EN n = false ∧ v.getLsbD n = true ∧ s.get (Reg.PWM_CHCTRL_TSYNC n) = 0 →
          (t.chan n).run = true ∧ (t.chan n).zeroAt = s.now)
        ∧ (s.bit Reg.PWM_CTRL_EN n = false ∧ v.getLsbD n = true ∧ s.get (Reg.PWM_STAT_TRIPF n) = 1 → (t.chan n).cut = true)
        ∧ (s.bit Reg.PWM_CTRL_EN n = false ∧ v.getLsbD n = true ∧ s.get (Reg.PWM_CHCTRL_TSYNC n) ≠ 0 → (t.chan n).waitTick = true ∧ (t.chan n).run = (s.chan n).run)
        ∧ (s.bit Reg.PWM_CTRL_EN n = true ∧ v.getLsbD n = false → (t.chan n).outA = false ∧ (t.chan n).outB = false
          ∧ (t.chan n).run = false ∧ t.get (Reg.PWM_STAT_TRIPF n) = s.get (Reg.PWM_STAT_TRIPF n)))
      ∧ Frame [.pwm, .out, .tri, .adc] [Win.pwm, Win.adc] [] s t))
    ∧ (∀ (n e : Fin 6) (at_ : Nat), s.pwmNext n e = some at_ ∧ s.pwmSyncs n e = false ∧ at_ < 0x10000000000000000 →
      Does (.pwmCounterEvent n e) s (fun t =>
        let c := s.chan n
        let counted := s.bit (Reg.PWM_EVT_IEN n) e
        let last : Prop := s.get (Reg.PWM_EVT_ETPS n) ≤ c.evCount + 1
        t.now = max s.now at_ ∧ t.bit (Reg.PWM_STAT_EVTF n) e = true
        ∧ (counted = false → (t.chan n).evCount = c.evCount)
        ∧ (counted = true ∧ ¬last → (t.chan n).evCount = c.evCount + 1)
        ∧ (counted = true ∧ last → (t.chan n).evCount = 0 ∧ ∀ x : Fin 3, (t.core x).irqpend.testBit (8 + n) = true)
        ∧ (e = 0 → (t.chan n).zeroAt = t.now
          ∧ (s.get (Reg.PWM_CHCTRL_LOAD n) ≠ 2 → ∀ f ∈ [Reg.PWM_PER_VALUE n, Reg.PWM_CMPA_FRAC n, Reg.PWM_CMPA_CMPA n,
              Reg.PWM_CMPB_VALUE n, Reg.PWM_DT_DT n], t.get f = s.get f.shadow % 2 ^ f.width)
          ∧ (s.pwmCause n = true → (t.chan n).cut = true)
          ∧ (s.pwmCause n = false ∧ s.get (Reg.PWM_STAT_TRIPF n) = 0 → (t.chan n).cut = false))
        ∧ Frame [.cad, .pwm, .out, .tri, .adc] [Win.pwm, Win.adc] [] s t))
    ∧ (∀ n : Fin 6, ((s.chan n).turnOn = none → Does (.pwmDeadtimeEnd n) s (fun t => t = s))
      ∧ ∀ (a : Bool) (at_ : Nat), (s.chan n).turnOn = some (a, at_) → Does (.pwmDeadtimeEnd n) s (fun t =>
        (t.chan n).turnOn = none ∧ (t.chan n).outA = ((s.chan n).outA || a) ∧ (t.chan n).outB = ((s.chan n).outB || !a)
        ∧ Frame [.cad, .pwm, .out] [] [] s t))
    ∧ (∀ (k : Fin 8) (level : Bool) (samples : Nat),
      let active : Bool := level == (s.get (Reg.PWM_TRIPIN_CFG_POL k) != 0)
      let was := s.bit Reg.PWM_TRIPIN_STAT_FILT k
      let flen := s.get (Reg.PWM_TRIPIN_CFG_FLEN k)
      let run := (if s.pwm.pins.testBit k = level then tblGet 0 s.pwm.runs k else 0) + samples
      Does (.tripInputChange k level samples) s (fun t =>
        t.pwm.pins.testBit k = level
        ∧ t.bit Reg.PWM_TRIPIN_STAT_FILT k = (if flen ≤ run then active else was)
        ∧ (0 < samples → t.bit Reg.PWM_TRIPIN_STAT_RAW k = active)
        ∧ (flen ≤ run ∧ was = false ∧ active = true →
          (s.get (Reg.TRP_TIN_CFG_EN k) ≠ 0 → t.tripFlag (16 + k) = true)
          ∧ (∀ n : Fin 6, s.bit Reg.PWM_CTRL_EN n = true ∧ s.bit (Reg.PWM_TRIP_TRIPSEL n) k = true → (t.chan n).cut = true
            ∧ (s.get (Reg.PWM_TRIP_TRIPST n) = 0 ∧ (s.chan n).cut = false → (t.chan n).outA = false ∧ (t.chan n).outB = false)
            ∧ (s.get (Reg.PWM_TRIP_TRIPMODE n) = 1 → t.get (Reg.PWM_STAT_TRIPF n) = 1)))
        ∧ (¬(flen ≤ run ∧ was = false ∧ active = true) → Frame [.pwm] [] [Reg.PWM_TRIPIN_STAT_FILT, Reg.PWM_TRIPIN_STAT_RAW] s t)
        ∧ Frame Part.ofTrip Win.ofTrip [] s t))
    ∧ (∀ n : Fin 6, (s.pwmCause n = true → Does (.tripfClear n) s (fun t => t = s))
      ∧ (s.pwmCause n = false → Does (.tripfClear n) s (fun t => t.get (Reg.PWM_STAT_TRIPF n) = 0 ∧ Frame [] [] [Reg.PWM_STAT_TRIPF n] s t))
      ∧ Does (.pwmChnStatRead n) s (fun t => t.bus.readData = s.get (Reg.PWM_STAT_CBCCNT n) * 65536 + (if s.pwmCause n then 1024 else 0)
          + s.get (Reg.PWM_STAT_TRIPF n) * 512 + s.get (Reg.PWM_STAT_CBCF n) * 256 + s.get (Reg.PWM_STAT_EVTF n)
        ∧ t.get (Reg.PWM_STAT_CBCCNT n) = 0 ∧ Frame [.bus] [] [Reg.PWM_STAT_CBCCNT n] s t))

/-- While RUN is 1 a write to an EDG register leaves a field with a reserved value as it is and sets CFGERR; its other fields wait. A read of
EDG_WIN_CNT returns and clears both counts. A calibration step moves the trim of the group out of the path by at most one towards its
target, within 0 to 63; a group at a trim end and off target sets DLFLT, with a Recoverable fault if no group was so; a group in band
counts as calibrated and waits for its swap, which puts the next group of the line out. While CALEN is 0 no step is made. Completes:
edgRegisterWrite, edgWinCntRead, dlCalStep, dlGroupSwap. (R206, R207, R208, R220.) -/
def Obligations.EdgeSettingsAndDelayLines : Prop :=
  ∀ (s : State),
    (∀ v : Word, s.get Reg.CAD_CTRL_RUN ≠ 0 →
      let n := v.toNat
      let minpw := n / 0x10000 % 0x800
      let guard_ := n % 0x200
      Does (.edgRegisterWrite 0x8 v) s (fun t =>
        t.bus.waiting = s.bus.waiting ++ (if minpw ≤ 2000 then [⟨s.now, Reg.EDG_TIMING_MINPW, minpw⟩] else [])
          ++ (if guard_ ≤ 400 then [⟨s.now, Reg.EDG_TIMING_GUARD, guard_⟩] else [])
        ∧ t.get Reg.EDG_STAT_CFGERR = (if 2000 < minpw ∨ 400 < guard_ then 1 else s.get Reg.EDG_STAT_CFGERR)
        ∧ Frame [.bus] [] [Reg.EDG_STAT_CFGERR] s t)
      ∧ (∀ c : Fin 96, n % 0x800 ≤ 2000 → Does (.edgRegisterWrite (.ofNat _ (0x100 + 4 * c.val)) v) s (fun t =>
        t.bus.waiting = s.bus.waiting ++ [⟨s.now, Reg.EDG_CELL_DT_DT c, n % 0x800⟩] ∧ Frame [.bus] [] [] s t))
      ∧ (∀ c : Fin 96, 2000 < n % 0x800 → Does (.edgRegisterWrite (.ofNat _ (0x100 + 4 * c.val)) v) s (fun t =>
        t.get Reg.EDG_STAT_CFGERR = 1 ∧ t.bus.waiting = s.bus.waiting ∧ Frame [.bus] [] [Reg.EDG_STAT_CFGERR] s t)))
    ∧ Does .edgWinCntRead s (fun t => t.bus.readData = s.get Reg.EDG_WIN_CNT_REMOVED * 65536 + s.get Reg.EDG_WIN_CNT_MOVED
      ∧ t.get Reg.EDG_WIN_CNT_REMOVED = 0 ∧ t.get Reg.EDG_WIN_CNT_MOVED = 0
      ∧ Frame [.bus] [] [Reg.EDG_WIN_CNT_REMOVED, Reg.EDG_WIN_CNT_MOVED] s t)
    ∧ (∀ line : Fin 13,
      let g := 5 * line.val + tblGet 0 s.dl.outs line
      let trim := tblGet 0 s.dl.trims g
      let step (r : TrimResult) (trim1 : Nat) (P : State → Prop) : Prop := Does (.dlCalStep line r) s (fun t =>
        tblGet 0 t.dl.trims g = trim1 ∧ (∀ h : Fin 65, h.val ≠ g → tblGet 0 t.dl.trims h = tblGet 0 s.dl.trims h) ∧ P t
        ∧ (t.get Reg.EDG_STAT_DLFLT = 1 ↔ t.dl.bad ≠ 0)
        ∧ Frame (.dl :: Part.ofFault) Win.ofFault [Reg.EDG_STAT_DLRDY, Reg.EDG_STAT_DLFLT, Reg.EDG_DLCAL_STAT_TMAX,
          Reg.EDG_DLCAL_STAT_TMIN, Reg.EDG_DLCAL_STAT_TMEAN] s t)
      let off (t : State) : Prop := t.dl.bad.testBit g = true ∧ (s.dl.bad = 0 → t.fltBit Reg.FLT_SRC_SRC 48 = true)
      let same (t : State) : Prop := t.dl.bad = s.dl.bad ∧ t.dl.swapDue = s.dl.swapDue
      (s.get Reg.EDG_CTRL_CALEN = 0 → ∀ r ∈ [TrimResult.inBand, .stepUp, .stepDown], Does (.dlCalStep line r) s (fun t => t = s))
      ∧ (s.get Reg.EDG_CTRL_CALEN ≠ 0 →
        step .inBand trim (fun t => t.dl.done.testBit g = true ∧ t.dl.swapDue.testBit line = true ∧ t.dl.bad.testBit g = false)
        ∧ (trim < 63 → step .stepUp (trim + 1) same) ∧ (trim = 63 → step .stepUp 63 off)
        ∧ (0 < trim → step .stepDown (trim - 1) same) ∧ (trim = 0 → step .stepDown 0 off))
      ∧ (s.dl.swapDue.testBit line = true → Does (.dlGroupSwap line) s (fun t =>
        tblGet 0 t.dl.outs line = (tblGet 0 s.dl.outs line + 1) % 5 ∧ t.dl.swapDue.testBit line = false ∧ Frame [.dl] [] [] s t))
      ∧ (s.dl.swapDue.testBit line = false → Does (.dlGroupSwap line) s (fun t => t = s)))

/-- However the sampling windows, the minimum pulse and the previous plan move and remove the edges of a leg, the plan has no more edges than
modulation asked for, and where these alternate between upper and lower the leg ends its interval in the state modulation gave it. (R193,
R203, R204.) -/
def Obligations.LegsEndAsModulated : Prop :=
  ∀ (k : LegSetting) (sgn : Int) (want : LegPos) (cross : List (Rat × LegPos)),
    let asked : List LegPos := (if want = k.init then [] else [want]) ++ cross.map (fun e => e.2)
    let other (x : LegPos) : LegPos := if x = .upper then .lower else .upper
    let alternates (first : LegPos) : List LegPos → Bool := fun l =>
      (l.foldl (fun (p : LegPos × Bool) x => (x, p.2 && x == other p.1)) (first, true)).2
    let plan := (buildLeg k sgn want cross).1
    plan.edges.length ≤ asked.length
    ∧ (want ≠ .off ∧ (k.init = .upper ∨ k.init = .lower ∨ k.init = .off) ∧ alternates want (cross.map (fun e => e.2)) = true →
      plan.final = asked.getLast?.getD k.init)

/-- A write to TRP_BLK_REQ latches source 31: in the clock of the latch every ENABLED arm it names becomes BLOCKED and no other arm changes;
where every flag was 0 (and that of source 31 was not cleared in the same clock), TRP_FIRST and its time record source 31. A flag of
source 31 cleared in the clock of the latch stays set and the clear counts as refused. Completes: trpBlkReq. (R224.) -/
def Obligations.ABlockTakesEffectAtOnce : Prop :=
  ∀ (s : State) (arms : BitVec 6), arms ≠ 0 → Does (.trpBlkReq arms) s (fun t =>
    t.tripFlag 31 = true ∧ (∀ a : Fin 6, t.bit Reg.TRP_PULSE_EN_EN a = (s.bit Reg.TRP_PULSE_EN_EN a && !arms.getLsbD a))
    ∧ (∀ a : Fin 6, arms.getLsbD a = true → (t.tripArms 31).testBit a = true)
    ∧ (∀ x ∈ tblGet none s.trp.cleared 31, x.1 = s.now → t.get Reg.TRP_CLR_REF_COUNT = min (s.get Reg.TRP_CLR_REF_COUNT + 1) 0xFFFFFFFF)
    ∧ ((∀ x ∈ tblGet none s.trp.cleared 31, x.1 ≠ s.now) ∧ s.get Reg.TRP_SRC_LO_SRC = 0 ∧ s.get Reg.TRP_SRC_HI_SRC = 0 → t.get Reg.TRP_FIRST_SRC = 31 ∧ t.get Reg.TRP_FIRST_VALID = 1
      ∧ t.get Reg.TRP_FIRST_TICK = s.tick % 0x10000 ∧ t.get Reg.TRP_FIRST_TS_LO_TIME = s.now % 0x100000000)
    ∧ (s.tripFlag 31 = true → t.get Reg.TRP_FIRST_SRC = s.get Reg.TRP_FIRST_SRC ∧ t.get Reg.TRP_FIRST_TICK = s.get Reg.TRP_FIRST_TICK)
    ∧ Frame Part.ofTrip Win.ofTrip [] s t)

/-- Each arm of an enable request that is BLOCKED is judged by the checks of R223 in order: passing, it becomes ENABLED; else it stays
BLOCKED, REFUSED is set and ERR holds the first failed check, 7 for a block latched in the same clock. In Kickstand the request is
ignored. A source flag written 1 clears only where the source is inactive and has not latched in the same clock, flag by flag, and
clearing enables no arm; a refused clear counts. P above 1.1 × PEXP for 200 ms latches source 35 for every arm. Completes:
pulseEnableRequest, tripFlagClear, exportLimitTimeout. (R223, R231, R239, R240, R248.) -/
def Obligations.EnablingAndClearingAreJudged : Prop :=
  ∀ (s : State),
    (s.inKickstand = true ∨ s.get Reg.LCS_STATE_STATE = 5 → ∀ arms : BitVec 6, Does (.pulseEnableRequest arms) s (fun t => t = s))
    ∧ (s.inKickstand = false ∧ s.get Reg.LCS_STATE_STATE ≠ 5 → ∀ arms : BitVec 6,
      let earlier (i : Nat) : Nat := match tblGet none s.trp.latched i with | some (at_, old) => (if at_ = s.now then old else s.tripArms i) | none => s.tripArms i
      let fails (a : Nat) : Nat :=
        if s.arms ≤ a then 1
        else if s.get Reg.CAD_CTRL_RUN = 0 ∨ s.get Reg.CLE_CTRL_EN = 0 then 2
        else if s.get Reg.TRP_HL_LOCK_LOCK = 0 then 3
        else if (List.range 16).all (fun n => s.get (Reg.TRP_CMP_CFG_KIND n) != 1 || !s.bit (Reg.TRP_CMP_CFG_ARMS n) a) then 4
        else if (List.range 36).any (fun i => s.tripFlag i && (earlier i).testBit a) then 5
        else if s.get Reg.SAF_STAT_STARTOK = 0 then 6
        else if (List.range 36).any (fun i => s.tripFlag i && (s.tripArms i).testBit a) then 7 else 0
      let refused (a : Nat) : Prop := arms.getLsbD a = true ∧ s.bit Reg.TRP_PULSE_EN_EN a = false ∧ fails a ≠ 0
      Does (.pulseEnableRequest arms) s (fun t =>
        (∀ a : Fin 6, t.bit Reg.TRP_PULSE_EN_EN a = (s.bit Reg.TRP_PULSE_EN_EN a || (arms.getLsbD a && fails a == 0)))
        ∧ (∀ a : Fin 6, t.bit Reg.TRP_PULSE_STAT_REFUSED a = (s.bit Reg.TRP_PULSE_STAT_REFUSED a || decide (refused a)))
        ∧ (∀ a : Fin 6, refused a ∧ (∀ b : Fin 6, a < b → ¬refused b) → t.get Reg.TRP_PULSE_STAT_ERR = fails a)
        ∧ ((∀ a : Fin 6, ¬refused a) → t.get Reg.TRP_PULSE_STAT_ERR = s.get Reg.TRP_PULSE_STAT_ERR)
        ∧ Frame [.trp] [] [Reg.TRP_PULSE_EN_EN, Reg.TRP_PULSE_STAT_REFUSED, Reg.TRP_PULSE_STAT_ERR] s t))
    ∧ (∀ (hi : Bool) (v : Word),
      let base := if hi then 32 else 0
      let stays (i : Nat) : Bool := s.tripActive (base + i) || (tblGet none s.trp.latched (base + i)).any (fun x => x.1 == s.now)
        || (base + i == 25 && (s.get Reg.CAD_CTRL_RUN == 0 || s.get Reg.CLE_CTRL_EN == 0))
      let kept := ((List.range (if hi then 4 else 32)).filter (fun i => v.getLsbD i && s.tripFlag (base + i) && stays i)).length
      Does (.tripFlagClear hi v) s (fun t =>
        (∀ i : Fin 32, (hi = true → i < 4) → t.tripFlag (base + i) = (s.tripFlag (base + i) && (!v.getLsbD i || stays i)))
        ∧ (∀ k : Fin 36, (hi = true ↔ k < 32) → t.tripFlag k = s.tripFlag k)
        ∧ (0 < kept → t.get Reg.TRP_CLR_REF_COUNT = min 0xFFFFFFFF (s.get Reg.TRP_CLR_REF_COUNT + kept))
        ∧ (kept = 0 → t.get Reg.TRP_CLR_REF_COUNT = s.get Reg.TRP_CLR_REF_COUNT)
        ∧ Frame [.trp] [] [Reg.TRP_SRC_LO_SRC, Reg.TRP_SRC_HI_SRC, Reg.TRP_CLR_REF_COUNT] s t))
    ∧ (s.trp.pexpSince = none → Does .exportLimitTimeout s (fun t => t = s))
    ∧ (∀ since : Nat, s.trp.pexpSince = some since → Does .exportLimitTimeout s (fun t =>
      t.tripFlag 35 = true ∧ t.get Reg.TRP_PULSE_EN_EN = 0
      ∧ (s.now ≤ since + 80000000 ∧ since + 80000000 < 0x10000000000000000 → t.now = since + 80000000)
      ∧ Frame (.cad :: Part.ofTrip) Win.ofTrip [] s t))

/-- Out of Kickstand a comparator goes out above V(HI') or below V(LO'), comes in within the hysteresis of both, and is out whatever the input
with LO' above HI'; for KIND 1 the thresholds in use are clamped by the arm-current limit. An out output that is not blanked latches the
comparator's source for its ARMS, unless KIND is 0; one that is in, or blanked, latches nothing. A blanking window that closes on an out
output, or the cap of blanking that is reached, latches likewise, and the cap sets BLKOVF. Completes: comparatorOut, comparatorIn,
blankingWindowClose, blankingCapReached. (R225, R226, R228, R229.) -/
def Obligations.ComparatorsFollowTheirThresholds : Prop :=
  ∀ (s : State) (n : Fin 16),
    let latches (t : State) : Prop := t.tripFlag n = true
      ∧ ∀ a : Fin 6, s.bit (Reg.TRP_CMP_CFG_ARMS n) a = true → t.bit Reg.TRP_PULSE_EN_EN a = false
    let quiet (t : State) : Prop := t.tripFlag n = s.tripFlag n ∧ t.get Reg.TRP_PULSE_EN_EN = s.get Reg.TRP_PULSE_EN_EN
    let reach (t : State) : Prop := Frame (.adc :: Part.ofTrip) (Win.adc :: Win.ofTrip) [] s t
    (∀ level : Int, s.inKickstand = false →
      let volts (code : Int) : Int := (code - 512) * 48828
      let l : Int := 512 * min (s.get Reg.TRP_HL_IARM_LIMIT) (s.safLimit Reg.SAF_S_A_ILIM) / (10 * s.get (Reg.TRP_CMP_THR_FS n))
      let lo : Int := if s.get (Reg.TRP_CMP_CFG_KIND n) = 1 then max 0 (max (s.get (Reg.TRP_CMP_THR_LO n)) (512 - l)) else s.get (Reg.TRP_CMP_THR_LO n)
      let hi : Int := if s.get (Reg.TRP_CMP_CFG_KIND n) = 1 then min 1023 (min (s.get (Reg.TRP_CMP_THR_HI n)) (512 + l)) else s.get (Reg.TRP_CMP_THR_HI n)
      let h : Int := min (s.get (Reg.TRP_CMP_CFG_HYS n)) ((hi - lo) / 2)
      let out : Bool := if hi < lo then true
        else if volts hi < level ∨ level < volts lo then true
        else if level ≤ volts (hi - h) ∧ volts (lo + h) ≤ level then false
        else s.bit Reg.TRP_CMP_STAT_OUT n
      ∀ i ∈ [Instr.comparatorOut n level, Instr.comparatorIn n level], Does i s (fun t =>
        t.bit Reg.TRP_CMP_STAT_OUT n = out
        ∧ (out = true ∧ s.get (Reg.TRP_CMP_CFG_KIND n) ≠ 0 ∧ s.blanked n = false → latches t)
        ∧ (out = false ∨ s.get (Reg.TRP_CMP_CFG_KIND n) = 0 ∨ s.blanked n = true → quiet t)
        ∧ reach t))
    ∧ ((∀ w ∈ s.blankSpans n, w.2 ≤ 32 * (s.now : Int)) → Does (.blankingWindowClose n) s (fun t => t = s))
    ∧ (∀ w ∈ s.blankSpans n, 32 * (s.now : Int) < w.2 → Does (.blankingWindowClose n) s (fun t => s.now ≤ t.now
      ∧ (s.bit Reg.TRP_CMP_STAT_OUT n = true ∧ s.get (Reg.TRP_CMP_CFG_KIND n) ≠ 0 ∧ t.blanked n = false → latches t)
      ∧ (s.bit Reg.TRP_CMP_STAT_OUT n = false → quiet t)
      ∧ Frame (.cad :: .adc :: Part.ofTrip) (Win.adc :: Win.ofTrip) [] s t))
    ∧ (∀ at_ : Int, capTime (32 * (s.cad.tickStart : Int)) (32 * (s.get Reg.TRP_CTRL_BLKCAP : Int)) (s.blankSpans n) = some at_ ∧ 0 ≤ at_
        ∧ s.get Reg.TRP_CTRL_BLKCAP ≠ 0 ∧ s.cad.nextTick = none ∧ at_ < 0x10000000000000000 ∧ s.trp.capped.testBit n = false →
      Does (.blankingCapReached n) s (fun t => t.bit Reg.TRP_CMP_STAT_BLKOVF n = true ∧ t.trp.capped.testBit n = true ∧ t.blanked n = false
        ∧ (s.bit Reg.TRP_CMP_STAT_OUT n = true ∧ s.get (Reg.TRP_CMP_CFG_KIND n) ≠ 0 → latches t)
        ∧ Frame (.cad :: .adc :: Part.ofTrip) (Win.adc :: Win.ofTrip) [] s t))

/-- Until LOCK a field of a hard-limit register takes any value that is not reserved, but TRP_HL_FREQ no band with FMIN at FMAX or above,
which counts in HLREJ. Once LOCK is set a tighter or equal value takes effect and a looser one leaves the field and counts; FS and IN of
TRP_HL_VDC take no change; the band never empties. A write reaches no hard limit of another register. HL_LOCK sets LOCK; a read of
TRP_HL_LOCK returns the word and clears HLREJ. Completes: hardLimitWrite, hlLock, trpHlLockRead. (R241, R242, R251.) -/
def Obligations.HardLimitsOnlyTightenAfterLock : Prop :=
  ∀ (s : State) (v : Word),
    let n := v.toNat
    let locked : Prop := s.get Reg.TRP_HL_LOCK_LOCK ≠ 0
    let rej (k : Nat) : Nat := min 0xFFFF (s.get Reg.TRP_HL_LOCK_HLREJ + k)
    let limits : List Fld := [Reg.TRP_HL_IARM_LIMIT, Reg.TRP_HL_VCELL_LIMIT, Reg.TRP_HL_PEXP_LIMIT, Reg.TRP_HL_VDC_VDCMAX, Reg.TRP_HL_VDC_IN,
      Reg.TRP_HL_VDC_FS, Reg.TRP_HL_FREQ_FMAX, Reg.TRP_HL_FREQ_FMIN, Reg.TRP_HL_DVDT_DVDT, Reg.TRP_HL_DVDT_CODECAP, Reg.TRP_HL_LOCK_LOCK]
    let others (fs : List Fld) (t : State) : Prop := (∀ f ∈ limits, f ∉ fs → t.get f = s.get f)
      ∧ Frame (.adc :: Part.ofTrip) (Win.adc :: Win.ofTrip) [] s t
    let hi := n / 65536
    let lo := n % 65536
    let fmax := s.get Reg.TRP_HL_FREQ_FMAX
    let fmin := s.get Reg.TRP_HL_FREQ_FMIN
    s.get Reg.TRP_HL_LOCK_HLREJ ≤ 0xFFFF →
      (∀ p ∈ [(HardLimitReg.iarm, Reg.TRP_HL_IARM_LIMIT), (.vcell, Reg.TRP_HL_VCELL_LIMIT), (.pexp, Reg.TRP_HL_PEXP_LIMIT)],
        (lo = 0 → Does (.hardLimitWrite p.1 v) s (fun t => t = s))
        ∧ (lo ≠ 0 → Does (.hardLimitWrite p.1 v) s (fun t =>
          (¬locked ∨ lo ≤ s.get p.2 → t.get p.2 = lo ∧ t.get Reg.TRP_HL_LOCK_HLREJ = s.get Reg.TRP_HL_LOCK_HLREJ)
          ∧ (locked ∧ s.get p.2 < lo → t.get p.2 = s.get p.2 ∧ t.get Reg.TRP_HL_LOCK_HLREJ = rej 1) ∧ others [p.2] t)))
      ∧ (hi ≠ 0 ∧ lo ≠ 0 → Does (.hardLimitWrite .freq v) s (fun t =>
        (¬locked ∧ lo < hi → t.get Reg.TRP_HL_FREQ_FMAX = hi ∧ t.get Reg.TRP_HL_FREQ_FMIN = lo)
        ∧ (¬locked ∧ hi ≤ lo → t.get Reg.TRP_HL_FREQ_FMAX = fmax ∧ t.get Reg.TRP_HL_FREQ_FMIN = fmin ∧ t.get Reg.TRP_HL_LOCK_HLREJ = rej 1)
        ∧ (locked ∧ hi ≤ fmax ∧ fmin ≤ lo ∧ lo < hi → t.get Reg.TRP_HL_FREQ_FMAX = hi ∧ t.get Reg.TRP_HL_FREQ_FMIN = lo)
        ∧ (locked ∧ hi ≤ fmax ∧ fmin ≤ lo ∧ hi ≤ lo → t.get Reg.TRP_HL_FREQ_FMAX = fmax ∧ t.get Reg.TRP_HL_FREQ_FMIN = fmin
          ∧ t.get Reg.TRP_HL_LOCK_HLREJ = rej 1)
        ∧ (locked ∧ fmax < hi ∧ lo < fmin ∧ fmin < fmax ∧ fmax < 65536 → t.get Reg.TRP_HL_FREQ_FMAX = fmax ∧ t.get Reg.TRP_HL_FREQ_FMIN = fmin
          ∧ t.get Reg.TRP_HL_LOCK_HLREJ = rej 2)
        ∧ (fmin < fmax → t.get Reg.TRP_HL_FREQ_FMIN < t.get Reg.TRP_HL_FREQ_FMAX)
        ∧ others [Reg.TRP_HL_FREQ_FMAX, Reg.TRP_HL_FREQ_FMIN] t))
      ∧ (locked ∧ lo ≠ 0 ∧ 10 ≤ n / 0x400000 → Does (.hardLimitWrite .vdc v) s (fun t =>
        t.get Reg.TRP_HL_VDC_IN = s.get Reg.TRP_HL_VDC_IN ∧ t.get Reg.TRP_HL_VDC_FS = s.get Reg.TRP_HL_VDC_FS
        ∧ t.get Reg.TRP_HL_VDC_VDCMAX = min lo (s.get Reg.TRP_HL_VDC_VDCMAX) ∧ others [Reg.TRP_HL_VDC_VDCMAX] t))
      ∧ (locked ∧ hi ≠ 0 → Does (.hardLimitWrite .dvdt v) s (fun t => t.get Reg.TRP_HL_DVDT_DVDT = min hi (s.get Reg.TRP_HL_DVDT_DVDT)
        ∧ t.get Reg.TRP_HL_DVDT_CODECAP = min (n % 16) (s.get Reg.TRP_HL_DVDT_CODECAP)
        ∧ others [Reg.TRP_HL_DVDT_DVDT, Reg.TRP_HL_DVDT_CODECAP] t))
      ∧ Does .hlLock s (fun t => t.get Reg.TRP_HL_LOCK_LOCK = 1 ∧ Frame [] [] [Reg.TRP_HL_LOCK_LOCK] s t)
      ∧ Does .trpHlLockRead s (fun t => t.bus.readData = s.get Reg.TRP_HL_LOCK_HLREJ * 65536 + s.get Reg.TRP_HL_LOCK_LOCK
        ∧ t.get Reg.TRP_HL_LOCK_HLREJ = 0 ∧ Frame [.bus] [] [Reg.TRP_HL_LOCK_HLREJ] s t)

/-- Alignment takes an enabled port from DOWN to ALIGN with AUTOTRAIN 1, from ALIGN to NEGOTIATE, and from RESYNC, within SPK_RSTMO of the
loss, back to OPERATE or READY with version and d kept (READY where its cell was declared lost). A loss of alignment takes READY and
OPERATE to RESYNC and ALIGN and NEGOTIATE to DOWN without version and d. The timeout of RESYNC declares the cell lost and goes to DOWN. At
MISSN 3 the cell is declared lost: SPK_LOST, a bypass cause, a Recoverable fault, and OPERATE becomes READY. A port whose enable is
cleared is OFF, one newly enabled DOWN, one retrained ALIGN. Completes: alignmentFound, alignmentLoss, resyncTimeout, cellDeclaredLost,
retrain, spkPortEnWrite. (R269, R279, R281.) -/
def Obligations.LinkStatesFollowAlignment : Prop :=
  ∀ (s : State),
    (∀ p : Fin 96,
      let st := s.get (Reg.SPK_PSTAT_LSTATE p)
      let en : Prop := s.bit (Reg.SPK_PORT_EN_PORT (p / 32)) (p % 32) = true
      let isLost (x : State) : Prop := x.bit (Reg.SPK_LOST_PORT (p / 32)) (p % 32) = true
      let link (n : Nat) (t : State) : Prop := t.get (Reg.SPK_PSTAT_LSTATE p) = n
      let kept (t : State) : Prop := t.get (Reg.SPK_PSTAT_VER p) = s.get (Reg.SPK_PSTAT_VER p)
        ∧ t.get (Reg.SPK_DLY_DLY p) = s.get (Reg.SPK_DLY_DLY p) ∧ (t.port p).formed = (s.port p).formed
      let dropped (t : State) : Prop := t.get (Reg.SPK_PSTAT_VER p) = 0 ∧ t.get (Reg.SPK_DLY_DLY p) = 0 ∧ (t.port p).admitted = false
        ∧ (t.port p).formed = false
      let own : List Fld := [Reg.SPK_PSTAT_LSTATE p, Reg.SPK_PSTAT_VER p, Reg.SPK_PSTAT_DLYLONG p, Reg.SPK_PSTAT_DLYSTALE p, Reg.SPK_DLY_DLY p,
        Reg.SPK_STAT_NOPER]
      let only (t : State) : Prop := Frame [.spk] [] own s t
      let declared (t : State) : Prop := isLost t ∧ (¬isLost s → (t.port p).bypCause ≠ 0 ∧ t.fltBit Reg.FLT_SRC_SRC (96 + p) = true)
      (en ∧ (st = 0 ∨ st = 1) ∧ s.get Reg.SPK_CTRL_AUTOTRAIN ≠ 0 → Does (.alignmentFound p) s (fun t => link 2 t ∧ dropped t ∧ only t))
      ∧ (en ∧ st = 2 → Does (.alignmentFound p) s (fun t => link 3 t ∧ (t.port p).avg = some (0, 0) ∧ only t))
      ∧ (∀ (at_ : Nat) (oper : Bool), en ∧ st = 6 ∧ (s.port p).lossAt = some (at_, oper) ∧ s.now ≤ at_ + 400 * s.get Reg.SPK_RSTMO_VALUE →
        Does (.alignmentFound p) s (fun t => (oper = true ∧ ¬isLost s → link 5 t) ∧ (oper = false ∨ isLost s → link 4 t) ∧ kept t ∧ only t))
      ∧ (¬en ∨ st ∈ [3, 4, 5] ∨ st ≤ 1 ∧ s.get Reg.SPK_CTRL_AUTOTRAIN = 0 → Does (.alignmentFound p) s (fun t => link st t ∧ kept t ∧ only t))
      ∧ (st ∈ [4, 5] → Does (.alignmentLoss p) s (fun t => link 6 t ∧ (t.port p).lossAt = some (s.now, st == 5) ∧ kept t ∧ only t))
      ∧ (st ∈ [2, 3] → Does (.alignmentLoss p) s (fun t => link 1 t ∧ dropped t ∧ only t))
      ∧ (st ∉ [2, 3, 4, 5] → Does (.alignmentLoss p) s (fun t => t = s))
      ∧ (st = 6 ∧ (s.port p).lossAt.isSome → Does (.resyncTimeout p) s (fun t => link 1 t ∧ dropped t ∧ declared t
        ∧ Frame (.cad :: .spk :: Part.ofFault) Win.ofFault (Reg.SPK_LOST_PORT (p / 32) :: own) s t))
      ∧ (st ≠ 6 ∨ (s.port p).lossAt = none → Does (.resyncTimeout p) s (fun t => t = s))
      ∧ (s.get (Reg.SPK_PSTAT_MISSN p) = 3 → Does (.cellDeclaredLost p) s (fun t => declared t
        ∧ (¬isLost s → link (if st = 5 then 4 else st) t)
        ∧ Frame (.spk :: Part.ofFault) Win.ofFault (Reg.SPK_LOST_PORT (p / 32) :: own) s t))
      ∧ (s.get (Reg.SPK_PSTAT_MISSN p) ≠ 3 → Does (.cellDeclaredLost p) s (fun t => t = s)))
    ∧ (∀ (j : Fin 3) (v : Word),
      let port (b : Fin 32) : Nat := 32 * j.val + b.val
      Does (.retrain j v) s (fun t => ∀ b : Fin 32, t.get (Reg.SPK_PSTAT_LSTATE (port b))
        = (if v.getLsbD b = true ∧ s.bit (Reg.SPK_PORT_EN_PORT j) b = true then 2 else s.get (Reg.SPK_PSTAT_LSTATE (port b))))
      ∧ Does (.spkPortEnWrite j v) s (fun t => t.get (Reg.SPK_PORT_EN_PORT j) = v.toNat
        ∧ (∀ b : Fin 32, t.get (Reg.SPK_PSTAT_LSTATE (port b))
          = (if v.getLsbD b = s.bit (Reg.SPK_PORT_EN_PORT j) b then s.get (Reg.SPK_PSTAT_LSTATE (port b)) else if v.getLsbD b then 1 else 0))
        ∧ Frame [.spk] [Win.spk] [] s t))

/-- A Report on a port in READY or OPERATE is discarded and counted by the first fault of it: an invalid character group, a start character
that may not stand there, a size, a CRC, a TICK, a late end, a version, three versions in a row taking the port to NEGOTIATE; else it is
used: its quantities stand for the tick unless VCAP is 0xFFFF, and its TURN completes the echo: with d formed a sample within 2 ns moves d
by a sixteenth of the difference, another is rejected and counted. ECHO leaves every port in ALIGN to OPERATE in the first character slot
from the tick start, or of every 8,000 counts while RUN is 0, each slot once, and marks its time; a block symbol takes the slot; a reply
keeps t2 − t1. Sixteen rejections set DLYJUMP and restart the averaging; 1,000 ticks without a sample set DLYSTALE. Completes:
reportFrameReceived, echo, echoReplyReceived, dlyjump, dlystale. (R264, R265, R277, R280.) -/
def Obligations.ReportsAndDelaysAreJudged : Prop :=
  ∀ (s : State),
    (∀ (p : Fin 96) (f : LineFrame), s.get Reg.FLT_INJ_CTRL_ARM = 0 ∧ s.inKickstand = false →
      let st := s.get (Reg.SPK_PSTAT_LSTATE p)
      let up : Prop := st = 4 ∨ st = 5
      let start : Prop := f.bytes = [] ∨ f.byte 0 = 0xFD
      let whole : Prop := f.codeError = false ∧ start ∧ f.bytes.length = 64 ∧ f.crcOk = true
      let counts (fld : Fld) (t : State) : Prop := t.get fld = min (s.get fld + 1) (2 ^ fld.width - 1) ∧ Frame [] [] [fld] s t
      let rx := Instr.reportFrameReceived p f
      let x := s.port p
      let onTime : Prop := s.get Reg.CAD_CTRL_RUN = 0 ∧ s.cad.inTick = false ∨ s.get Reg.CAD_STAT_PHASE = 0 ∧ s.now ≤ s.cad.tickStart + s.get Reg.CAD_DL_ACQ_DL
      let d : Int := s.get (Reg.SPK_DLY_DLY p)
      let turn := f.field 24 2
      (st < 3 ∨ 5 < st → Does rx s (fun t => t = s))
      ∧ (up ∧ f.codeError = true → Does rx s (counts (Reg.SPK_ERRB_CODE p)))
      ∧ (up ∧ f.codeError = false ∧ ¬start ∧ f.byte 0 ∉ [0xBC, 0x3C, 0x1C] → Does rx s (counts (Reg.SPK_ERRB_CODE p)))
      ∧ (up ∧ f.codeError = false ∧ ¬start ∧ f.byte 0 ∈ [0xBC, 0x3C, 0x1C] → Does rx s (fun t => t = s))
      ∧ (up ∧ f.codeError = false ∧ start ∧ f.bytes.length ≠ 64 → Does rx s (counts (Reg.SPK_ERRB_SIZE p)))
      ∧ (up ∧ f.codeError = false ∧ start ∧ f.bytes.length = 64 ∧ f.crcOk = false → Does rx s (counts (Reg.SPK_ERRA_CRC p)))
      ∧ (up ∧ whole ∧ f.field 2 4 ≠ s.tick → Does rx s (counts (Reg.SPK_ERRA_TICK p)))
      ∧ (up ∧ whole ∧ f.field 2 4 = s.tick ∧ ¬onTime → Does rx s (counts (Reg.SPK_ERRC_LATE p)))
      ∧ (up ∧ whole ∧ f.field 2 4 = s.tick ∧ onTime ∧ f.ver ≠ s.get (Reg.SPK_PSTAT_VER p) → Does rx s (fun t =>
        t.get (Reg.SPK_ERRB_VER p) = min (s.get (Reg.SPK_ERRB_VER p) + 1) 0xFF ∧ (t.port p).got = (if x.verRun < 2 then x.got else none)
        ∧ t.get (Reg.SPK_PSTAT_LSTATE p) = (if x.verRun < 2 then st else 3)
        ∧ Frame [.spk] [] [Reg.SPK_ERRB_VER p, Reg.SPK_PSTAT_LSTATE p, Reg.SPK_PSTAT_VER p, Reg.SPK_STAT_NOPER] s t))
      ∧ (up ∧ whole ∧ f.field 2 4 = s.tick ∧ onTime ∧ f.ver = s.get (Reg.SPK_PSTAT_VER p) → Does rx s (fun t =>
        (f.field 8 2 = 0xFFFF → (t.port p).got = none)
        ∧ (f.field 8 2 ≠ 0xFFFF → ∃ q ∈ (t.port p).got, q.vcap = f.field 8 2 ∧ q.fault = (f.byte 6).testBit 0
          ∧ q.bypClosed = (f.byte 6).testBit 1 ∧ q.noplan = (f.byte 6).testBit 3
          ∧ q.soc = (if 10000 < f.field 12 2 then x.data.soc else f.field 12 2)
          ∧ q.isrc = (if f.field 10 2 = 0x8000 then x.data.isrc else signedOf 16 (f.field 10 2)))
        ∧ (∀ rt : Int, x.roundTrip = some rt ∧ x.avg = none ∧ turn ≠ 0xFFFF →
          let twice := rt - turn + 2 * s.getInt (Reg.SPK_ASYM_ASYM p) - 2 * d
          let next := d + nearest (mkRat twice 2 / 16)
          (256 < 5 * twice ∨ 5 * twice < -256 → t.get (Reg.SPK_DLY_DLY p) = s.get (Reg.SPK_DLY_DLY p) ∧ (t.port p).rejects = x.rejects + 1
            ∧ t.get (Reg.SPK_ERRC_ECHO p) = min (s.get (Reg.SPK_ERRC_ECHO p) + 1) 0xFF)
          ∧ (-256 ≤ 5 * twice ∧ 5 * twice ≤ 256 ∧ 0 ≤ next ∧ next < 0x100000 → (t.get (Reg.SPK_DLY_DLY p) : Int) = next ∧ (t.port p).rejects = 0
            ∧ t.get (Reg.SPK_PSTAT_DLYSTALE p) = 0))
        ∧ Frame (.spk :: Part.ofTrip) Win.ofTrip [Reg.SPK_ERRA_SEQ p, Reg.SPK_ERRB_FIELD p, Reg.SPK_ERRC_ECHO p, Reg.SPK_DLY_DLY p,
          Reg.SPK_PSTAT_DLYLONG p, Reg.SPK_PSTAT_DLYSTALE p] s t)))
    ∧ (s.inKickstand = true → Does .echo s (fun t => t = s))
    ∧ (let slot := (s.cad.tickStart + 15) / 16 * 16
      let free : Prop := s.cad.inTick = true ∧ s.now ≤ slot ∧ s.spk.echoSlot ≠ some slot
      (s.inKickstand = false ∧ s.get Reg.CAD_CTRL_RUN ≠ 0 ∧ free → Does .echo s (fun t =>
        (∀ p : Fin 96, let st := s.get (Reg.SPK_PSTAT_LSTATE p)
          let c : Nat := if (s.port p).slow then 1600 else 16
          let own := (slot + c - 1) / c * c
          (t.port p).echoT1 = if 2 ≤ st ∧ st ≤ 5 then (if own < (s.port p).blockTill then none else some (32 * own)) else (s.port p).echoT1)
        ∧ t.spk.echoSlot = some slot ∧ (slot < 0x10000000000000000 → t.now = slot)
        ∧ Frame [.cad, .spk, .out] [] ((List.range 96).map Reg.SPK_ERRC_ECHO) s t))
      ∧ (s.get Reg.CAD_CTRL_RUN ≠ 0 ∧ ¬free → Does .echo s (fun t => t = s)))
    ∧ (s.inKickstand = false ∧ s.get Reg.CAD_CTRL_RUN = 0 ∧ s.now < 0xFFFFFFFFFFFF0000 → Does .echo s (fun t =>
      ∃ x ∈ t.spk.echoSlot, x % 8000 = 0 ∧ s.now ≤ x ∧ x < s.now + 16000 ∧ s.spk.echoSlot ≠ some x ∧ t.now = x
        ∧ Frame [.cad, .spk, .out] [] ((List.range 96).map Reg.SPK_ERRC_ECHO) s t))
    ∧ (∀ (p : Fin 96) (t2 : Nat), ((s.port p).echoT1 = none → Does (.echoReplyReceived p t2) s (fun t => t = s))
      ∧ ∀ t1 : Nat, (s.port p).echoT1 = some t1 → Does (.echoReplyReceived p t2) s (fun t => (t.port p).echoT1 = none
        ∧ (t.port p).roundTrip = some ((t2 : Int) - (t1 : Int)) ∧ Frame [.cad, .spk] [] [Reg.SPK_ERRC_ECHO p] s t))
    ∧ (∀ p : Fin 96, ((s.port p).rejects < 16 → Does (.dlyjump p) s (fun t => t = s))
      ∧ (16 ≤ (s.port p).rejects → Does (.dlyjump p) s (fun t => t.get (Reg.SPK_PSTAT_DLYJUMP p) = 1 ∧ t.fltBit Reg.FLT_SRC_SRC 49 = true
        ∧ (t.port p).avg = some (0, 0) ∧ Frame (.spk :: Part.ofFault) Win.ofFault [Reg.SPK_PSTAT_DLYJUMP p] s t))
      ∧ (3 ≤ s.get (Reg.SPK_PSTAT_LSTATE p) ∧ s.get (Reg.SPK_PSTAT_DLYSTALE p) = 0
          ∧ 1000 ≤ (s.tick + 0x100000000 - (s.port p).acceptTick) % 0x100000000 → Does (.dlystale p) s (fun t =>
        t.get (Reg.SPK_PSTAT_DLYSTALE p) = 1 ∧ t.fltBit Reg.FLT_SRC_SRC 50 = true
        ∧ Frame Part.ofFault Win.ofFault [Reg.SPK_PSTAT_DLYSTALE p] s t)))

/-- In NEGOTIATE a legal HELLO reply stores the unit and confirms the highest version that both ends have, or sets VERERR with a Recoverable
fault; the acknowledgement of that version puts it in use; a reply in READY or OPERATE declares the cell lost and negotiates again. A
sequenced service frame in order of a reserved or RATE type is acknowledged; a duplicate is acknowledged again and changes nothing; a
frame not acknowledged is sent again, and dropped with GIVEUP and a Note at the eighth attempt. An outbound packet that is not one to send
is discarded. A port told of a RATE changes its line rate 100 µs after the last character of that frame; once none has to, KS shows the
rate (the model's choice, log 72); a Kickstand Plan leaves at a whole millisecond. A refused register write sets CFGERR alone; the
counters read are cleared. Completes: hello, serviceFrameReceived, serviceRetransmit, helloOffer, serviceFrameSend, rate, kickstandPlan,
spkRegisterWrite, spkErrRead, spkSvcRead. (R270, R272, R274, R275, R280, R283, R284, R285.) -/
def Obligations.NegotiationAndServiceOfAPort : Prop :=
  ∀ (s : State),
    (∀ (p : Fin 96) (f : LineFrame), s.get Reg.FLT_INJ_CTRL_ARM = 0 →
      let st := s.get (Reg.SPK_PSTAT_LSTATE p)
      let x := s.port p
      let start : Prop := f.bytes = [] ∨ f.byte 0 = 0x1C
      let whole : Prop := f.codeError = false ∧ f.bytes.length = 64 ∧ f.crcOk = true
      let common (v : Nat) : Prop := x.offer.testBit v = true ∧ (f.byte 6).testBit v = true
      (st < 3 ∨ 5 < st → Does (.hello p f) s (fun t => t = s))
      ∧ (3 ≤ st ∧ st ≤ 5 ∧ ¬start ∧ f.byte 0 ∉ [0xBC, 0x3C, 0xFD] → Does (.hello p f) s (fun t =>
        t.get (Reg.SPK_ERRB_CODE p) = min (s.get (Reg.SPK_ERRB_CODE p) + 1) 0xFF ∧ Frame [] [] [Reg.SPK_ERRB_CODE p] s t))
      ∧ (3 ≤ st ∧ st ≤ 5 ∧ start ∧ (¬whole ∨ f.helloLegal = false) → Does (.hello p f) s (fun t =>
        t.get (Reg.SPK_ERRB_FIELD p) = min (s.get (Reg.SPK_ERRB_FIELD p) + 1) 0xFF ∧ Frame [] [] [Reg.SPK_ERRB_FIELD p] s t))
      ∧ (st = 3 ∧ start ∧ whole ∧ f.helloLegal = true ∧ f.byte 5 = 2 → Does (.hello p f) s (fun t =>
        t.get (Reg.SPK_PSTAT_KIND p) = f.byte 7 % 4 ∧ t.get (Reg.SPK_PSTAT_LEGS p) = f.byte 7 / 4 % 2 ∧ t.get (Reg.SPK_UNIT_SERIAL p) = f.field 9 4
        ∧ (∀ v : Fin 4, 0 < v.val ∧ common v ∧ (∀ w : Fin 4, v < w → ¬common w) → (t.port p).confirmed = some v.val
          ∧ t.get (Reg.SPK_PSTAT_VERERR p) = 0)
        ∧ ((∀ v : Fin 4, 0 < v.val → ¬common v) → (t.port p).confirmed = none ∧ t.get (Reg.SPK_PSTAT_VERERR p) = 1
          ∧ t.fltBit Reg.FLT_SRC_SRC 51 = true)
        ∧ (t.port p).acked = false ∧ Frame ([.spk, .cel] ++ Part.ofFault) [Win.flt, Win.spk, Win.cel] [] s t))
      ∧ (∀ v : Nat, st = 3 ∧ start ∧ whole ∧ f.helloLegal = true ∧ f.byte 5 = 4 ∧ x.confirmed = some v ∧ 1 ≤ v ∧ v ≤ 3 ∧ f.byte 6 = 2 ^ v →
        Does (.hello p f) s (fun t => (t.port p).acked = true ∧ t.get (Reg.SPK_PSTAT_VER p) = v
          ∧ t.get (Reg.SPK_PSTAT_LSTATE p) = (if x.formed then 4 else 3)
          ∧ Frame [.spk] [] [Reg.SPK_PSTAT_VER p, Reg.SPK_PSTAT_LSTATE p, Reg.SPK_STAT_NOPER] s t))
      ∧ ((st = 4 ∨ st = 5) ∧ start ∧ whole ∧ f.helloLegal = true ∧ f.byte 5 = 2 → Does (.hello p f) s (fun t =>
        t.get (Reg.SPK_PSTAT_LSTATE p) = 3 ∧ t.portLost p = true ∧ (t.port p).admitted = false))
      ∧ ((st = 4 ∨ st = 5) ∧ start ∧ whole ∧ f.ver = s.get (Reg.SPK_PSTAT_VER p) ∧ f.serviceLegal = true ∧ f.byte 2 = 0 ∧ (f.byte 3 = 6 ∨ f.byte 3 = 7 ∨ f.byte 3 = 0) →
        (x.svcRx = none ∨ x.svcRx = some ((f.seq + 63) % 64) → Does (.serviceFrameReceived p f) s (fun t => (t.port p).svcRx = some f.seq
          ∧ t.out.length = s.out.length + 1 ∧ Frame [.spk, .out] [] [Reg.SPK_ERRB_FIELD p] s t))
        ∧ (x.svcRx = some f.seq → Does (.serviceFrameReceived p f) s (fun t => t.out.length = s.out.length + 1 ∧ Frame [.spk, .out] [] [] s t))))
    ∧ (∀ (p : Fin 96) (q : Fin 64), ∀ e ∈ (s.port p).unacked, (s.port p).unacked.find? (fun e => e.seq == q.val) = some e
        ∧ 4 ≤ s.get (Reg.SPK_PSTAT_LSTATE p) →
      (8 ≤ e.tries ∧ (s.port p).rateWait = none → Does (.serviceRetransmit p q) s (fun t => (∀ y ∈ (t.port p).unacked, y.seq ≠ q.val)
        ∧ t.get (Reg.SPK_SVC_GIVEUP p) = min (s.get (Reg.SPK_SVC_GIVEUP p) + 1) 0xFF ∧ t.fltBit Reg.FLT_SRC_SRC 52 = true
        ∧ Frame ([.cad, .spk] ++ Part.ofFault) Win.ofFault [Reg.SPK_SVC_GIVEUP p] s t))
      ∧ (e.tries < 8 → Does (.serviceRetransmit p q) s (fun t =>
        (t.port p).unacked.find? (fun y => y.seq == q.val) = some { e with tries := e.tries + 1, at_ := (t.port p).svcAt }
        ∧ t.get (Reg.SPK_SVC_RETX p) = min (s.get (Reg.SPK_SVC_RETX p) + 1) 0xFFFF
        ∧ Frame [.cad, .spk, .out] [] [Reg.SPK_SVC_RETX p] s t)))
    ∧ (∀ p : Fin 96, s.get (Reg.SPK_PSTAT_LSTATE p) = 3 ∧ (s.port p).acked = false → Does (.helloOffer p) s (fun t =>
      (t.port p).offerAt = t.now ∧ t.out.length = s.out.length + 1 ∧ Frame [.cad, .spk, .out] [] [] s t))
    ∧ (∀ u : State, s.takePacket (s.get Reg.SPK_SVC_Q_OUTQ) 7 = (u, none) → Does .serviceFrameSend s (fun t => t = u))
    ∧ (∀ (u : State) (len : Nat) (ws : List Nat), s.takePacket (s.get Reg.SPK_SVC_Q_OUTQ) 7 = (u, some (len, ws)) →
      let h := ws.getD 0 0
      let p := h % 128
      let type := h / 256 % 256
      let sends : Prop := (3 ≤ type ∧ type ≤ 5 ∨ 128 ≤ type) ∧ (s.get (Reg.SPK_PSTAT_LSTATE p) = 4 ∨ s.get (Reg.SPK_PSTAT_LSTATE p) = 5)
        ∧ h / 65536 % 256 ≤ 55
      (p < 96 ∧ ¬sends → Does .serviceFrameSend s (fun t => t.get (Reg.SPK_SVC_GIVEUP p) = min (u.get (Reg.SPK_SVC_GIVEUP p) + 1) 0xFF
        ∧ Frame [] [] [Reg.SPK_SVC_GIVEUP p] u t))
      ∧ (p < 96 ∧ sends ∧ (s.port p).unacked = [] ∧ s.get (Reg.SPK_PSTAT_VER p) ≠ 3 → Does .serviceFrameSend s (fun t =>
        (t.port p).unacked.length = (u.port p).unacked.length + 1 ∧ t.out.length = u.out.length + 1 ∧ Frame [.spk, .out] [] [] u t))
      ∧ (p < 96 ∧ sends ∧ (u.port p).unacked ≠ [] ∧ s.get (Reg.SPK_PSTAT_VER p) ≠ 3 → Does .serviceFrameSend s (fun t =>
        t = s.consume (s.get Reg.SPK_SVC_Q_OUTQ) 7)))
    ∧ (s.spk.rateTo = none → Does .rate s (fun t => t = s))
    ∧ (∀ slow : Bool, s.spk.rateTo = some slow →
      ((∀ p : Fin 96, (s.port p).rateAt = none ∧ (s.port p).rateWait = none) → Does .rate s (fun t =>
        t.get Reg.SPK_STAT_KS = (if slow then 1 else 0) ∧ t.spk.rateTo = none ∧ (∀ p : Fin 96, (t.port p).slow = slow) ∧ Frame [.spk] [] [Reg.SPK_STAT_KS] s t))
      ∧ (∀ p : Fin 96, ∀ x ∈ (s.port p).rateAt, (∀ q : Fin 96, ∀ y ∈ (s.port q).rateAt, x.1 ≤ y.1) ∧ x.1 < 0x10000000000000000 →
        Does .rate s (fun t => t.now = max s.now x.1 ∧ (t.port p).rateAt = none ∧ (x.2 = slow → (t.port p).slow = slow) ∧ t.spk.alignWait.testBit p = true
          ∧ (slow = false → (t.port p).formed = false ∧ (t.port p).avg = some (0, 0))
          ∧ Frame [.cad, .spk] [] [Reg.SPK_STAT_KS] s t)))
    ∧ (s.inKickstand = false → Does .kickstandPlan s (fun t => t = s))
    ∧ (s.inKickstand = true ∧ s.now < 0xFFFFFFFFFFF00000 → Does .kickstandPlan s (fun t => t.now % 400000 = 0 ∧ s.now ≤ t.now ∧ t.now < s.now + 400000
      ∧ t.spk.ksPlanAt = t.now
      ∧ Frame [.cad, .spk, .out] [] ((List.range 96).flatMap (fun p => [Reg.SPK_PSTAT_MISSN p, Reg.SPK_ERRC_MISS p])) s t))
    ∧ (∀ v : Word,
      let hi := v.toNat / 256 % 8
      let lo := v.toNat / 16 % 8
      (1 ≤ lo ∧ lo ≤ hi ∧ hi ≤ 3 → Does (.spkRegisterWrite 0 v) s (fun t => t.get Reg.SPK_CTRL_VERMAX = hi ∧ t.get Reg.SPK_CTRL_VERMIN = lo
        ∧ t.get Reg.SPK_CTRL_AUTOTRAIN = v.toNat % 2 ∧ Frame [] [] [Reg.SPK_CTRL_VERMAX, Reg.SPK_CTRL_VERMIN, Reg.SPK_CTRL_AUTOTRAIN] s t))
      ∧ (¬(1 ≤ lo ∧ lo ≤ hi ∧ hi ≤ 3) → Does (.spkRegisterWrite 0 v) s (fun t =>
        t.get Reg.SPK_STAT_CFGERR = 1 ∧ Frame [] [] [Reg.SPK_STAT_CFGERR] s t)))
    ∧ (∀ p : Fin 96, Does (.spkErrRead 0 p) s (fun t => t.bus.readData
          = s.get (Reg.SPK_ERRA_CRC p) * 65536 + s.get (Reg.SPK_ERRA_TICK p) * 256 + s.get (Reg.SPK_ERRA_SEQ p)
        ∧ t.get (Reg.SPK_ERRA_CRC p) = 0 ∧ t.get (Reg.SPK_ERRA_TICK p) = 0 ∧ t.get (Reg.SPK_ERRA_SEQ p) = 0
        ∧ Frame [.bus] [] [Reg.SPK_ERRA_CRC p, Reg.SPK_ERRA_TICK p, Reg.SPK_ERRA_SEQ p] s t)
      ∧ Does (.spkSvcRead p) s (fun t => t.bus.readData = s.get (Reg.SPK_SVC_RETX p) * 65536 + s.get (Reg.SPK_SVC_GIVEUP p)
        ∧ t.get (Reg.SPK_SVC_RETX p) = 0 ∧ t.get (Reg.SPK_SVC_GIVEUP p) = 0
        ∧ Frame [.bus] [] [Reg.SPK_SVC_RETX p, Reg.SPK_SVC_GIVEUP p] s t))

/-- With no injection armed: in TRIPLEX three outputs that agree leave as the voted value; one core that differs is outvoted (OUTVOTED, or
FAILED the RSLIM-th time within RSWIN seconds; DUPLEX; a Recoverable fault; interrupt 17) and the value of the two leaves; three that
differ, or in DUPLEX two, stop the cluster safe with a Fatal fault and no output. Of each first disagreement the cores, the lowest group
and bit, TICK and TIME are recorded. Elsewhere, and in Kickstand, nothing happens. 0xA5 from master 3 or 5 starts the voter test with
every core reset and IN; it ends in the release in the staged mode or in VTFAIL with a Fatal fault. Completes: clusterBusOutput, triReset,
voterTestComplete. (R293, R294, R295, R300, R303, R304, R308, R309.) -/
def Obligations.TheClusterVotesOrStops : Prop :=
  ∀ (s : State),
    (∀ (a b c : BusOut), s.get Reg.FLT_INJ_CTRL_ARM = 0 →
      let vote := Instr.clusterBusOutput a b c
      let outOf (x : Fin 3) : BusOut := [a, b, c].getD x a
      let st := if s.inKickstand then 0 else s.get Reg.TRI_STAT_STATE
      let isIn (x : Fin 3) : Prop := s.cstat x = 0
      let group (o : BusOut) (g : Nat) : Word := [o.fetchAddr, o.fetchCtl, o.dataAddr, o.writeData, o.dataCtl, o.side].getD g 0
      let splits (x y : Fin 3) (g k : Nat) : Prop := (group (outOf x) g).getLsbD k ≠ (group (outOf y) g).getLsbD k
      let lowest (x y : Fin 3) (g : Fin 6) (k : Fin 32) : Prop := splits x y g k
        ∧ (∀ h : Fin 6, h < g → group (outOf x) h = group (outOf y) h) ∧ ∀ j : Fin 32, j < k → ¬splits x y g j
      let recorded (cores : Nat) (t : State) : Prop := t.get Reg.TRI_DIS_INFO_VALID = 1
        ∧ (s.get Reg.TRI_DIS_INFO_VALID = 0 → t.get Reg.TRI_DIS_INFO_CORES = cores ∧ t.get Reg.TRI_DIS_INFO_TICK = s.tick % 0x10000
          ∧ t.get64 Reg.TRI_DIS_TS_LO_TIME Reg.TRI_DIS_TS_HI_TIME = s.now % 0x10000000000000000)
        ∧ (s.get Reg.TRI_DIS_INFO_VALID ≠ 0 → t.get Reg.TRI_DIS_INFO_CORES = s.get Reg.TRI_DIS_INFO_CORES)
      let at_ (g : Fin 6) (k : Fin 32) (t : State) : Prop := s.get Reg.TRI_DIS_INFO_VALID = 0 →
        t.get Reg.TRI_DIS_INFO_BUS = g.val ∧ t.get Reg.TRI_DIS_INFO_BIT = k.val
      let passes (o : BusOut) (t : State) : Prop := t.tri.voted = some o ∧ Frame [.tri, .out] [] [] s t
      let stops (t : State) : Prop := t.get Reg.TRI_STAT_STATE = 3 ∧ t.tri.voted = s.tri.voted ∧ t.fltBit Reg.FLT_SRC_SRC 54 = true
        ∧ (s.fltBit Reg.FLT_SRC_SRC 54 = false → t.tripFlag 28 = true ∧ t.get Reg.TRP_PULSE_EN_EN = 0)
        ∧ (∀ x : Fin 3, (t.core x).testSince = none ∧ (t.core x).rsAt = none
          ∧ t.get (lbistFld x) = (if (s.core x).testSince.isSome then 0 else s.get (lbistFld x)))
        ∧ Frame (Part.ofFault ++ Part.ofTrip) (Win.ofFault ++ Win.ofTrip) [] s t
      (st ≠ 1 ∧ st ≠ 2 → Does vote s (fun t => t = s))
      ∧ (st = 1 ∧ a = b ∧ b = c → Does vote s (passes a))
      ∧ (∀ x y z : Fin 3, st = 1 ∧ x ≠ y ∧ y < z ∧ x ≠ z ∧ outOf y = outOf z ∧ outOf x ≠ outOf y →
        let since (at_ : Nat) : Prop := s.now < at_ + 400000000 * s.get Reg.TRI_CTRL_RSWIN
        let failed : Prop := s.get Reg.TRI_CTRL_RSLIM ≤ ((s.core x).outvotes.filter (fun at_ => decide (since at_))).length + 1
        Does vote s (fun t => t.tri.voted = some (outOf y) ∧ t.get Reg.TRI_STAT_STATE = 2
          ∧ (failed → t.cstat x = 3 ∧ (t.core x).rsAt = none)
          ∧ (¬failed → t.cstat x = 1 ∧ (t.core x).rsAt = (if s.get Reg.TRI_CTRL_AUTORS = 1 then some s.now else none))
          ∧ t.cstat y = s.cstat y ∧ t.cstat z = s.cstat z ∧ (t.core x).irqpend.testBit 17 = true ∧ t.fltBit Reg.FLT_SRC_SRC 53 = true
          ∧ t.get (outvotesFld x) = min (s.get (outvotesFld x) + 1) 0xFF ∧ recorded (2 ^ x.val) t
          ∧ (∀ g k, lowest x y g k → at_ g k t) ∧ Frame (.tri :: Part.ofFault) [Win.flt, Win.tri] [] s t))
      ∧ (st = 1 ∧ a ≠ b ∧ b ≠ c ∧ a ≠ c → Does vote s (fun t => stops t ∧ recorded 7 t))
      ∧ (∀ x y z : Fin 3, st = 2 ∧ ¬isIn x ∧ isIn y ∧ isIn z ∧ y < z →
        (outOf y = outOf z → Does vote s (passes (outOf y)))
        ∧ (outOf y ≠ outOf z → Does vote s (fun t => stops t ∧ recorded (2 ^ y.val + 2 ^ z.val) t ∧ ∀ g k, lowest y z g k → at_ g k t))))
    ∧ (∀ m : Fin 32,
      (m.val = 3 ∨ m.val = 5 → Does (.triReset m) s (fun t => t.get Reg.TRI_STAT_STATE = 0 ∧ t.tri.testing = some s.now ∧ t.tri.reload = true
        ∧ (∀ x : Fin 3, t.cstat x = 0 ∧ t.get (lbistFld x) = 0 ∧ (t.core x).irqpend = 0 ∧ (t.core x).timeSnap = (s.core x).timeSnap)
        ∧ t.get Reg.TRI_VTEST_DONE = 0 ∧ t.get Reg.TRI_VTEST_PASS = 0 ∧ t.get Reg.TRI_MODE_MODE = s.get Reg.TRI_MODE_MODE
        ∧ Frame [.tri] [] [Reg.TRI_STAT_STATE, cstatFld 0, cstatFld 1, cstatFld 2, lbistFld 0, lbistFld 1, lbistFld 2, Reg.TRI_STAT_DBGHALT,
          Reg.TRI_STAT_RSPEND, Reg.TRI_VTEST_DONE, Reg.TRI_VTEST_PASS, Reg.TRI_VTEST_STEP, Reg.TRI_VTEST_BUS] s t))
      ∧ (m.val ≠ 3 ∧ m.val ≠ 5 → Does (.triReset m) s (fun t => t = s)))
    ∧ (s.tri.testing = none → ∀ f, Does (.voterTestComplete f) s (fun t => t = s))
    ∧ (s.tri.testing ≠ none →
      (∀ k : Fin 42, Does (.voterTestComplete (some k)) s (fun t => t.get Reg.TRI_STAT_STATE = 5 ∧ t.tri.testing = none
        ∧ t.get Reg.TRI_VTEST_DONE = 1 ∧ t.get Reg.TRI_VTEST_PASS = s.get Reg.TRI_VTEST_PASS ∧ t.get Reg.TRI_VTEST_STEP = k.val
        ∧ (k.val < 18 → t.get Reg.TRI_VTEST_BUS = k.val / 3) ∧ (18 ≤ k.val ∧ k.val < 36 → t.get Reg.TRI_VTEST_BUS = (k.val - 18) / 3)
        ∧ (36 ≤ k.val → t.get Reg.TRI_VTEST_BUS = k.val - 36) ∧ t.fltBit Reg.FLT_SRC_SRC 57 = true ∧ t.faultAct 57 = true
        ∧ t.get Reg.TRI_MODE_MODE = s.get Reg.TRI_MODE_MODE
        ∧ Frame (Part.ofFault ++ Part.ofTrip) (Win.ofFault ++ Win.ofTrip) [] s t))
      ∧ (s.tri.stagedMode = 1 ∨ s.tri.stagedMode = 2 → Does (.voterTestComplete none) s (fun t =>
        t.get Reg.TRI_MODE_MODE = s.tri.stagedMode ∧ t.get Reg.TRI_STAT_STATE = (if s.tri.stagedMode = 2 then 4 else 1)
        ∧ t.get Reg.TRI_MODE_SAFEUNAV = (if s.tri.stagedMode = 2 then 1 else 0) ∧ t.tri.testing = none ∧ t.get Reg.TRI_VTEST_DONE = 1
        ∧ t.get Reg.TRI_VTEST_PASS = 1 ∧ (t.core 0).started = true ∧ (∀ x : Fin 3, (t.core x).irqen = 0 ∧ (t.core x).halted = false) ∧ t.tri.stopSafe = false ∧ t.tri.vtFailed = false
        ∧ (s.tri.stagedMode = 2 → ∀ k : Fin 4, t.get (Reg.SAF_C_STAT_CSTATE k) = 0)
        ∧ Frame ([.saf] ++ Part.ofFault ++ Part.ofTrip) ([Win.saf] ++ Win.ofFault ++ Win.ofTrip) [] s t)))

/-- RSREQ asks in DUPLEX for a core that is OUTVOTED or TAKEN; the freeze at the next tick start copies the words, tcirqen and tcirqpend of
the lower-lettered core in the vote to it and makes it IN and the cluster TRIPLEX, or, not verified, FAILED with a Recoverable fault.
TAKEOUT in TRIPLEX makes the core TAKEN and the cluster DUPLEX at the next tick start, its self-test running with TEST 1; the test ends in
2 or 3 (FAILED, a fault) with interrupt 17. GOB and GOC start cores B and C in Split mode alone. A debug halt with an arm ENABLED and
HALTRUN 0 is held; a resume ends a halt, a step does not; an abstract read of a register of a halted hart gives its value in data0 and a
write reaches every core of the hart; a custom CSR that is not a device CSR is an illegal instruction (the numbers of registers and errors
are taken from the two specifications R286 and R305 name, log 158). time answers TIME[31:0] and snapshots TIME[63:32] of its own;
tcirqpend keeps a bit written 1 or set by an event. Completes: rsreq, takeout, takeoutEffect, lbistComplete, resyncFreeze, gob, goc,
debugResume, debugHaltRequest, timeCsrRead, timehCsrRead, tcirqpendWrite. (R288, R289, R290, R297, R298, R299, R301, R302, R306, R307,
R308.) -/
def Obligations.CoresLeaveReturnAndAnswer : Prop :=
  ∀ (s : State), let st := s.get Reg.TRI_STAT_STATE
    let running : Prop := s.get Reg.CAD_CTRL_RUN ≠ 0
    let enabled : Prop := s.get Reg.TRP_PULSE_EN_EN ≠ 0
    (∀ x : Fin 3,
      let out : Prop := s.cstat x = 1 ∨ s.cstat x = 2
      (st = 2 ∧ out → Does (.rsreq x) s (fun t => (t.core x).rsAt = some ((s.core x).rsAt.getD s.now) ∧ (t.core x).rsSoft = true
        ∧ ((s.core x).testSince = none → t.get Reg.TRI_STAT_RSPEND = 1) ∧ (∀ y : Fin 3, y ≠ x → t.core y = s.core y)
        ∧ Frame [.tri] [] [Reg.TRI_STAT_RSPEND] s t))
      ∧ (st ≠ 2 ∨ ¬out → Does (.rsreq x) s (fun t => t = s))
      ∧ (st = 1 → Does (.takeout x) s (fun t => t.tri.takeout = some (x.val, s.now) ∧ t.tri.cores = s.tri.cores ∧ Frame [.tri] [] [] s t))
      ∧ (st ≠ 1 → Does (.takeout x) s (fun t => t = s))
      ∧ (∀ at_ : Nat, s.tri.takeout = some (x.val, at_) ∧ running ∧ at_ ≤ s.cad.tickStart →
        (st = 1 → Does .takeoutEffect s (fun t => t.cstat x = 2 ∧ t.get Reg.TRI_STAT_STATE = 2 ∧ t.tri.takeout = none
          ∧ (s.get Reg.TRI_CTRL_TEST = 1 → t.get (lbistFld x) = 1 ∧ (t.core x).testSince = some s.now)
          ∧ (s.get Reg.TRI_CTRL_TEST = 0 → t.get (lbistFld x) = s.get (lbistFld x) ∧ t.core x = s.core x)
          ∧ Frame [.tri] [] [cstatFld x, Reg.TRI_STAT_STATE, lbistFld x] s t))
        ∧ (st ≠ 1 → Does .takeoutEffect s (fun t => t.tri.takeout = none ∧ t.tri.cores = s.tri.cores ∧ Frame [.tri] [] [] s t)))
      ∧ (∀ (at_ : Nat) (ok : Bool), (s.core x).testSince = some at_ → Does (.lbistComplete x ok) s (fun t =>
        t.get (lbistFld x) = (if ok then 2 else 3) ∧ t.cstat x = (if ok then s.cstat x else 3) ∧ (t.core x).testSince = none
        ∧ (t.core x).irqpend.testBit 17 = true ∧ (ok = false → t.fltBit Reg.FLT_SRC_SRC 56 = true)
        ∧ Frame ([.cad, .tri] ++ Part.ofFault) (if ok then [] else Win.ofFault) [cstatFld x, lbistFld x, Reg.TRI_STAT_RSPEND] s t))
      ∧ (∀ ok : Bool, (s.core x).testSince = none → Does (.lbistComplete x ok) s (fun t => t = s))
      ∧ (∀ y : Fin 3, ∀ at_ : Nat, st = 2 ∧ s.get Reg.TRI_STAT_DBGHALT = 0 ∧ running ∧ out ∧ (s.core x).testSince = none
          ∧ (s.core x).rsAt = some at_ ∧ at_ ≤ s.cad.tickStart ∧ (∀ w : Fin 3, w ≠ x → s.cstat w = 0) ∧ y ≠ x ∧ (∀ w : Fin 3, w < y → w = x) →
        Does (.resyncFreeze true) s (fun t => t.cstat x = 0 ∧ t.get Reg.TRI_STAT_STATE = 1
          ∧ t.get Reg.TRI_CNT_RESYNC = min (s.get Reg.TRI_CNT_RESYNC + 1) 0xFF ∧ (t.core x).irqpend.testBit 17 = true
          ∧ (t.core x).irqen = (s.core y).irqen ∧ (t.core x).words = (s.core y).words ∧ (t.core x).rsAt = none
          ∧ Frame [.tri] [] [cstatFld x, Reg.TRI_STAT_STATE, Reg.TRI_CNT_RESYNC, Reg.TRI_STAT_RSPEND] s t)
        ∧ Does (.resyncFreeze false) s (fun t => t.cstat x = 3 ∧ t.get Reg.TRI_STAT_STATE = 2 ∧ t.fltBit Reg.FLT_SRC_SRC 55 = true
          ∧ Frame (.tri :: Part.ofFault) Win.ofFault [cstatFld x, Reg.TRI_STAT_RSPEND] s t))
      ∧ (∀ ok : Bool, st ≠ 2 ∨ s.get Reg.TRI_STAT_DBGHALT = 1 ∧ s.tri.stepped = false → Does (.resyncFreeze ok) s (fun t => t = s)))
    ∧ (let starts (x entry : Nat) (t : State) : Prop := (st = 4 ∧ (s.core x).started = false → (t.core x).started = true
          ∧ tblGet 0 (t.core x).words pcPlace = 2 * entry ∧ Frame [.tri] [] [] s t)
        ∧ (st ≠ 4 ∨ (s.core x).started = true → t = s)
      Does .gob s (starts 1 (s.get Reg.TRI_SPLIT_ENTRY_B_ENTRY)) ∧ Does .goc s (starts 2 (s.get Reg.TRI_SPLIT_ENTRY_C_ENTRY)))
    ∧ (∀ h : Fin 3,
      let shown : Prop := s.get Reg.LCS_STATE_DBGOPEN = 1 ∧ (st = 1 ∨ st = 2) ∧ h.val = 0
      let alone : Prop := s.get Reg.LCS_STATE_DBGOPEN = 1 ∧ st = 4 ∧ (s.core h).started = true
      let reached (x : Fin 3) : Prop := shown ∨ alone ∧ x = h
      let reads (n v : Nat) : Prop := Does (.debugResume ⟨h, .readReg (BitVec.ofNat 16 n)⟩) s
        (fun t => t.tri.data0 = v ∧ t.tri.cmderr = 0 ∧ Frame [.tri] [] [] s t)
      (s.get Reg.LCS_STATE_DBGOPEN = 0 ∨ st = 0 ∨ st = 3 ∨ st = 5 → Does (.debugHaltRequest h) s (fun t => t = s)
        ∧ ∀ q : Sys2Proof.DebugRequest, Does (.debugResume ⟨h, q⟩) s (fun t => t = s))
      ∧ (shown ∨ alone → (enabled ∧ s.get Reg.TRI_CTRL_HALTRUN = 0 → Does (.debugHaltRequest h) s (fun t =>
          (∀ x : Fin 3, (reached x → (t.core x).haltHeld = true) ∧ (t.core x).halted = (s.core x).halted) ∧ Frame [.tri] [] [] s t))
        ∧ (¬enabled ∨ s.get Reg.TRI_CTRL_HALTRUN = 1 → Does (.debugHaltRequest h) s (fun t => t.get Reg.TRI_STAT_DBGHALT = 1
          ∧ (∀ x : Fin 3, reached x → (t.core x).halted = true) ∧ (enabled → t.fltBit Reg.FLT_SRC_SRC 58 = true)
          ∧ (¬enabled → Frame [.tri] [] [Reg.TRI_STAT_DBGHALT] s t)
          ∧ Frame (.tri :: Part.ofFault) Win.ofFault [Reg.TRI_STAT_DBGHALT] s t))
        ∧ Does (.debugResume ⟨h, .resume⟩) s (fun t => (∀ x : Fin 3, (t.core x).halted = true ↔ ¬reached x ∧ (s.core x).halted = true)
          ∧ (t.get Reg.TRI_STAT_DBGHALT = 1 ↔ ∃ x : Fin 3, ¬reached x ∧ (s.core x).halted = true)
          ∧ Frame [.tri] [] [Reg.TRI_STAT_DBGHALT] s t)
        ∧ (∀ as, (s.core h).halted = true → Does (.debugResume ⟨h, .step as⟩) s (fun t => t.tri.stepped = true
          ∧ ∀ x : Fin 3, reached x → (t.core x).halted = true))
        ∧ (∀ as, (s.core h).halted = false → Does (.debugResume ⟨h, .step as⟩) s (fun t => t = s))
        ∧ (∀ n v, s.tri.cmderr ≠ 0 → Does (.debugResume ⟨h, .readReg n⟩) s (fun t => t = s) ∧ Does (.debugResume ⟨h, .writeReg n v⟩) s (fun t => t = s))
        ∧ (∀ n, s.tri.cmderr = 0 ∧ (s.core h).halted = false →
          Does (.debugResume ⟨h, .readReg n⟩) s (fun t => t.tri.cmderr = 4 ∧ t.tri.data0 = s.tri.data0 ∧ Frame [.tri] [] [] s t))
        ∧ (s.tri.cmderr = 0 ∧ (s.core h).halted = true →
          (∀ k : Fin 31, reads (0x1001 + k.val) ((s.core h).word k.val) ∧ ∀ v : Word, Does (.debugResume ⟨h, .writeReg (BitVec.ofNat 16 (0x1001 + k.val)) v⟩) s
            (fun t => (∀ x : Fin 3, (reached x → (t.core x).word k.val = v.toNat) ∧ ∀ j : Fin 31, j ≠ k ∨ ¬reached x → (t.core x).word j.val = (s.core x).word j.val)
              ∧ Frame [.tri] [] [] s t))
          ∧ reads 0x1000 0 ∧ reads 0x301 0x40101104 ∧ reads 0xF11 0 ∧ reads 0xF12 0 ∧ reads 0xF13 0
          ∧ reads 0xF14 (if s.get Reg.TRI_MODE_MODE = 2 then h.val else 0) ∧ reads 0x7C0 (s.core h).irqen ∧ reads 0x7C1 (s.core h).irqpend
          ∧ reads 0x344 (if (s.core h).irqpend &&& (s.core h).irqen = 0 then 0 else 0x800) ∧ reads 0xFC0 (st + 0x2000 * s.get Reg.TRI_STAT_DBGHALT)
          ∧ reads 0xFC1 s.tick ∧ reads 0xFC2 s.phaseNow ∧ ∀ k : Fin 0x3D, Does (.debugResume ⟨h, .readReg (BitVec.ofNat 16 (0xFC3 + k.val))⟩) s
            (fun t => t.tri.cmderr = 3 ∧ t.tri.data0 = s.tri.data0 ∧ Frame [.tri] [] [] s t))))
    ∧ (∀ x y : Fin 3, let shares : Prop := s.get Reg.TRI_MODE_MODE ≠ 2 ∨ y = x
      let own : Nat := if s.get Reg.TRI_MODE_MODE = 2 then x.val else 0
      (s.inKickstand = true → Does (.timeCsrRead x) s (fun t => t = s) ∧ Does (.timehCsrRead x) s (fun t => t = s)
        ∧ ∀ v e, Does (.tcirqpendWrite x v e) s (fun t => t = s))
      ∧ (s.inKickstand = false → Does (.timeCsrRead x) s (fun t => t.bus.readData = s.now % 0x100000000
        ∧ (y.val = own → (t.core y).timeSnap = s.now / 0x100000000 % 0x100000000) ∧ (y.val ≠ own → t.core y = s.core y) ∧ Frame [.bus, .tri] [] [] s t))
      ∧ (s.inKickstand = false → Does (.timehCsrRead x) s (fun t => t.bus.readData = (s.core own).timeSnap ∧ Frame [.bus] [] [] s t))
      ∧ (∀ v e : Word, s.inKickstand = false → Does (.tcirqpendWrite x v e) s (fun t =>
        (shares → ∀ k : Fin 32, (t.core y).irqpend.testBit k
          = (decide (k.val < 18) && ((s.core y).irqpend.testBit k && v.getLsbD k || e.getLsbD k)))
        ∧ (¬shares → t.core y = s.core y) ∧ Frame [.tri] [] [] s t)))

/-- A doorbell records an index below SIZE of an enabled ring, else it counts a violation. A ring configuration is stored while EN is 0; EN :=
1 is granted to an ATTACHED tenant for a valid size, an aligned base and, for an SQ, an enabled CQ, with head, tail and phase as R318
says, else CFGERR; EN := 0 is ignored on a CQ in use. A fetch takes place only for a ready SQ under the credit rules, advances its head
and appends the descriptor, INVALID where its form is; FENCE and MGCMAX make the SQ wait. The coalescing timer signals the vector or sets
its pending bit. A refused HST write sets CFGERR alone. Completes: sqTailDoorbell, cqHeadDoorbell, ringEnableWrite, cqCoalescingTimer,
descriptorFetch, hstRegisterWrite. (R318, R319, R326, R328, R331, R337.) -/
def Obligations.RingsFetchAndDoorbells : Prop :=
  ∀ (s : State),
    (∀ (t : Fin 16),
      let here : Prop := t = 0 ∨ s.hst.vfEnable = true ∧ t.val ≤ s.hst.numVfs
      let counts (u : State) : Prop := u.get (Reg.HST_TEN_VIOL_COUNT t) = min (s.get (Reg.HST_TEN_VIOL_COUNT t) + 1) 0xFFFFFFFF
        ∧ Frame [] [] [Reg.HST_TEN_VIOL_COUNT t] s u
      let ringsBut (r : Nat) (u : State) : Prop := (∀ x : Fin 16, x ≠ t → u.tenant x = s.tenant x) ∧ (∀ x : Fin 9, x.val ≠ r → u.ring t x = s.ring t x)
        ∧ (u.tenant t).ops = (s.tenant t).ops
      (∀ (q : Fin 4) (v : Word), let i := v.toNat % 4096
        let taken : Prop := s.get (ringEn t q) ≠ 0 ∧ i < s.get (ringSize t q)
        (here ∧ s.inKickstand = false ∧ taken → Does (.sqTailDoorbell t q v) s (fun u => u.ring t q = { s.ring t q with tail := i }
          ∧ ringsBut q u ∧ Frame [.hst] [] [] s u))
        ∧ (here ∧ s.inKickstand = false ∧ ¬taken → Does (.sqTailDoorbell t q v) s counts)
        ∧ (here ∧ s.inKickstand = true → Does (.sqTailDoorbell t q v) s (fun u => u.hst.wakeReq = true
          ∧ Frame [.hst] [] [Reg.HST_TEN_VIOL_COUNT t] s u))
        ∧ (¬here → Does (.sqTailDoorbell t q v) s (fun u => u = s)))
      ∧ (∀ (r : Fin 5) (v : Word), let i := v.toNat % 4096
        let taken : Prop := s.get (ringEn t (4 + r)) ≠ 0 ∧ i < s.get (ringSize t (4 + r))
        (here ∧ s.inKickstand = false ∧ taken → Does (.cqHeadDoorbell t r v) s (fun u => u.ring t (4 + r) = { s.ring t (4 + r) with head := i }
          ∧ ringsBut (4 + r) u ∧ Frame [.hst] [] [] s u))
        ∧ (here ∧ s.inKickstand = false ∧ ¬taken → Does (.cqHeadDoorbell t r v) s counts)
        ∧ (¬here → Does (.cqHeadDoorbell t r v) s (fun u => u = s)))
      ∧ (∀ (r : Fin 9) (v : Word),
        let was : Prop := s.get (ringEn t r) ≠ 0
        let asks : Prop := v.getLsbD 31 = true
        let inUse : Prop := 4 ≤ r.val ∧ r.val < 8 ∧ ∃ q : Fin 4, s.get (ringEn t q) ≠ 0 ∧ s.get (Reg.HST_T_SQ_CFG_CQ t q) + 4 = r.val
        let size := v.toNat % 0x2000
        let vec := v.toNat / 0x10000 % (if r.val < 4 then 4 else 8)
        let good : Prop := s.tenState t = 1 ∧ (∃ k : Fin 13, 4 ≤ k.val ∧ size = 2 ^ k.val) ∧ s.get (ringLo t r) % 64 = 0
          ∧ (r.val < 4 → s.get (ringEn t (4 + vec)) ≠ 0)
        let write := Instr.ringEnableWrite t r v
        (¬here ∨ was ∧ (asks ∨ inUse) → Does write s (fun u => u = s))
        ∧ (here ∧ was ∧ ¬asks ∧ ¬inUse → Does write s (fun u => u.get (ringEn t r) = 0
          ∧ (r.val < 4 → (u.tenant t).waits.testBit r.val = false) ∧ (4 ≤ r.val → u.tenant t = s.tenant t) ∧ ringsBut 9 u ∧ Frame [.hst] [] [ringEn t r] s u))
        ∧ (here ∧ ¬was ∧ ¬asks → Does write s (fun u => u.get (ringSize t r) = size ∧ u.get (ringVec t r) = vec
          ∧ Frame [] [] [ringSize t r, ringVec t r] s u))
        ∧ (here ∧ ¬was ∧ asks ∧ good → Does write s (fun u => u.get (ringEn t r) = 1 ∧ u.get (ringSize t r) = size ∧ u.get (ringVec t r) = vec
          ∧ (u.ring t r).tail = 0 ∧ (u.ring t r).phase = true ∧ (u.ring t r).head = (if r.val < 4 then 0 else (s.ring t r).head)
          ∧ ringsBut r u ∧ Frame [.hst] [] [ringEn t r, ringSize t r, ringVec t r] s u))
        ∧ (here ∧ ¬was ∧ asks ∧ ¬good → Does write s (fun u => u.get (ringEn t r) = 0 ∧ u.get (Reg.HST_T_STAT_CFGERR t) = 1
          ∧ Frame [] [] [ringSize t r, ringVec t r, Reg.HST_T_STAT_CFGERR t] s u)))
      ∧ (∀ (c : Fin 4) (at_ : Nat), (s.ring t (4 + c)).firstAt = some at_ ∧ s.get (ringEn t (4 + c)) ≠ 0
          ∧ s.get (Reg.HST_T_CQ_COAL_TIMER t c) ≠ 0 →
        let masked : Prop := (s.tenant t).msixEnable = false ∨ (s.tenant t).functionMask = true
          ∨ (s.vecWord t (4 * s.get (ringVec t (4 + c)) + 3)).testBit 0 = true
        Does (.cqCoalescingTimer t c) s (fun u => (u.ring t (4 + c)).unsig = 0 ∧ (u.ring t (4 + c)).firstAt = none
          ∧ (¬masked → u.out = s.out ++ [.msix t (s.get (ringVec t (4 + c)))])
          ∧ (masked → u.out = s.out ∧ (u.tenant t).pba.testBit (s.get (ringVec t (4 + c))) = true)
          ∧ Frame [.cad, .hst, .out] [] [] s u))
      ∧ (∀ c : Fin 4, (s.ring t (4 + c)).firstAt = none → Does (.cqCoalescingTimer t c) s (fun u => u = s)))
    ∧ (∀ b : List Byte,
      let fetch := Instr.descriptorFetch b
      (s.inKickstand = true ∨ s.nextTenant = none → Does fetch s (fun u => u = s))
      ∧ (∀ t used, s.nextTenant = some (t, used) →
        let q := s.nextSq t
        let ops := (s.tenant t).ops
        let cq := s.get (Reg.HST_T_SQ_CFG_CQ t q)
        let o := s.readDescriptor t q (((s.ring t q).head + 1) % s.get (ringSize t q)) (b.map (fun x => x.toNat))
        let mgc (x : HostOp) : Bool := x.opc == 8 || x.opc == 9 || decide (0x80 ≤ x.opc)
        let waits : Prop := (o.flags.testBit 0 = true ∧ ∃ x ∈ ops, x.sq = q)
          ∨ (mgc o = true ∧ s.get (Reg.HST_TEN_SCHED_MGCMAX t) ≤ (ops.filter mgc).length)
        s.tenState t = 1 ∧ s.get (ringEn t q) ≠ 0 ∧ (s.ring t q).head ≠ (s.ring t q).tail
        ∧ ops.length < s.get (Reg.HST_TEN_CRED_MAXF t) ∧ (ops.length < s.get (Reg.HST_TEN_CRED_RES t) ∨ s.sharedLeft = true)
        ∧ (ops.filter (fun x => s.get (Reg.HST_T_SQ_CFG_CQ t x.sq) == cq)).length < s.get (ringSize t (4 + cq))
        ∧ o.opc = (b.getD 0 0).toNat ∧ o.flags = (b.getD 1 0).toNat ∧ o.tag = (b.getD 2 0).toNat + 256 * (b.getD 3 0).toNat
        ∧ o.rights = s.get (Reg.HST_TEN_CFG_RIGHTS t) ∧ o.spmask = s.get (Reg.HST_TEN_SCHED_SPMASK t)
        ∧ (s.inKickstand = false ∧ s.pwr.stalled = false ∧ waits → Does fetch s (fun u =>
          (u.tenant t).ops = ops ∧ (u.tenant t).waits.testBit q = true ∧ u.ring t q = s.ring t q ∧ Frame [.hst] [] [] s u))
        ∧ (s.inKickstand = false ∧ s.pwr.stalled = false ∧ ¬waits ∧ (∀ x ∈ ops, x.sq = q → x.stage ≠ .done) →
          (o.formOk (s.get (Reg.HST_T_STAT_VER t)) s.tick = true → Does fetch s (fun u =>
            (u.tenant t).ops = ops ++ [o] ∧ (u.ring t q).head = ((s.ring t q).head + 1) % s.get (ringSize t q)
            ∧ u.hst.turn = t ∧ u.hst.used = used + 1 ∧ Frame [.hst] [] [] s u))
          ∧ (o.formOk (s.get (Reg.HST_T_STAT_VER t)) s.tick = false ∧ (∀ x ∈ ops, x.sq = q → x.stage = .mgc) → Does fetch s (fun u =>
            (u.tenant t).ops = ops ∧ (u.ring t q).head = ((s.ring t q).head + 1) % s.get (ringSize t q) ∧ Frame [.hst, .out] [] [] s u)))))
    ∧ (∀ (off : Fin 16384) (v : Word), Does (.hstRegisterWrite off v) s (fun u =>
      u.get Reg.HST_STAT_CFGERR = 1 ∧ Frame [] [] [Reg.HST_STAT_CFGERR] s u ∨ Frame [.hst] [Win.hst] [] s u))
    ∧ (∀ v : Word,
      (v.toNat / 256 % 8 = 1 ∨ v.toNat / 256 % 8 = 2 → Does (.hstRegisterWrite 0 v) s (fun u =>
        u.get Reg.HST_CTRL_VERMAX = v.toNat / 256 % 8 ∧ Frame [] [] [Reg.HST_CTRL_VERMAX] s u))
      ∧ (v.toNat / 256 % 8 ≠ 1 ∧ v.toNat / 256 % 8 ≠ 2 → Does (.hstRegisterWrite 0 v) s (fun u =>
        u.get Reg.HST_STAT_CFGERR = 1 ∧ Frame [] [] [Reg.HST_STAT_CFGERR] s u))
      ∧ (v.toNat % 0x10000 ≠ 0 ∧ v.getLsbD 31 = true → Does (.hstRegisterWrite 8 v) s (fun u =>
        u.get Reg.HST_DISPATCH_EN = 1 ∧ u.get Reg.HST_DISPATCH_TEN = v.toNat / 0x10000 % 16 ∧ u.get Reg.HST_DISPATCH_STALE = v.toNat % 0x10000
        ∧ (s.get Reg.HST_DISPATCH_EN = 0 → u.hst.staleFrom = some s.now)
        ∧ Frame [.hst] [] [Reg.HST_DISPATCH_EN, Reg.HST_DISPATCH_TEN, Reg.HST_DISPATCH_STALE] s u)))

/-- ATTACH of a DETACHED tenant with EN 1 and a common version takes it to ATTACHED with the highest such version and event 5, else sets
ATTERR; in other states nothing happens. DETACH, 0x5A to HST_T_RESET and an FLR reset the tenant: RESETTING, rings and vectors at reset,
MGC operations abandoned, setpoints discarded, CFG and VIOL kept; an FLR of function 0 and a link reset reset all 16. A reset completes in
DETACHED with event 4. A failed SQ or entry transfer of an ATTACHED tenant makes it FAULTED with FCAUSE and a Note fault. Stale
dispatching setpoints set FALLBACK, count it and ramp slots 0 and 1 to FB_P and FB_Q. Completes: attach, detach, functionLevelReset,
hstTReset, tenantResetComplete, tenantDmaFailure, linkReset, dispatchStale. (R313, R314, R315, R329, R330, R335.) -/
def Obligations.TenantsAttachFaultAndReset : Prop :=
  ∀ (s : State),
    let event (to_ code tenant arg : Nat) (u : State) : Prop :=
      let g := s.ring to_ 8
      let on : Prop := s.get (ringEn to_ 8) ≠ 0 ∧ g.failed = false
      (¬on → u.out = s.out)
      ∧ (on ∧ s.ringFull to_ 8 = true → u.out = s.out ∧ u.get (Reg.HST_T_STAT_EVOVF to_) = 1)
      ∧ (on ∧ s.ringFull to_ 8 = false → s.out ++ [.hostWrite to_ (s.get64 (ringLo to_ 8) (ringHi to_ 8) + 16 * g.tail)
        [code + (if g.phase then 0x10000 else 0) + 0x1000000 * tenant, arg, s.now % 0x100000000, s.now / 0x100000000]] <+: u.out)
    let quiet (t : Nat) : Prop := (s.get Reg.HST_DISPATCH_EN = 0 ∨ s.get Reg.HST_DISPATCH_TEN ≠ t)
      ∧ ∀ c : Fin 4, s.get (Reg.SAF_C_CFG_CARRIER c) ≠ 1 ∨ s.get (Reg.SAF_C_CFG_TEN c) ≠ t
    let fallsBack (t : Nat) (u : State) : Prop := s.get Reg.HST_DISPATCH_EN ≠ 0 ∧ s.get Reg.HST_DISPATCH_TEN = t
      ∧ s.get Reg.HST_STAT_FALLBACK = 0 → u.get Reg.HST_STAT_FALLBACK = 1
        ∧ u.get Reg.HST_FB_RAMP_FBCNT = min (s.get Reg.HST_FB_RAMP_FBCNT + 1) 0xFFFF ∧ u.fltBit Reg.FLT_SRC_SRC 65 = true
        ∧ u.hst.ramps = tblSet none (tblSet none s.hst.ramps 0 (some ⟨(s.getInt Reg.GRD_PSET_VALUE : Rat), s.getInt Reg.HST_FB_P_VALUE⟩)) 1
          (some ⟨(s.getInt Reg.GRD_QSET_VALUE : Rat), s.getInt Reg.HST_FB_Q_VALUE⟩)
    let wide : List Nat := [Win.hst, Win.saf] ++ Win.bar0 ++ Win.ofFault ++ Win.ofTrip
    let parts : List Part := [.hst, .saf] ++ Part.ofFault ++ Part.ofTrip
    let isReset (t : Nat) (u : State) : Prop := u.get (Reg.HST_T_STAT_STATE t) = 3
      ∧ (∀ r : Fin 9, u.get (ringEn t r) = 0 ∧ u.get (ringSize t r) = 0 ∧ u.get (ringLo t r) = 0 ∧ u.get (ringHi t r) = 0)
      ∧ (∀ o ∈ (u.tenant t).ops, o ∈ (s.tenant t).ops ∧ opcMgc o.opc = false ∧ o.opc ≠ 3) ∧ (u.tenant t).vectors = [] ∧ (u.tenant t).pba = 0
      ∧ u.get (Reg.HST_TEN_VIOL_COUNT t) = s.get (Reg.HST_TEN_VIOL_COUNT t)
      ∧ u.get (Reg.HST_TEN_CFG_RIGHTS t) = s.get (Reg.HST_TEN_CFG_RIGHTS t) ∧ Frame parts wide [] s u
    (∀ (t : Fin 16), let st := s.get (Reg.HST_T_STAT_STATE t)
      let here : Prop := t = 0 ∨ s.hst.vfEnable = true ∧ t.val ≤ s.hst.numVfs
      let unmoved (u : State) : Prop := u = s
      (∀ m : BitVec 4,
        let shared (v : Fin 3) : Prop := 1 ≤ v.val ∧ v.val ≤ s.get Reg.HST_CTRL_VERMAX ∧ m.getLsbD v = true
        (¬here ∨ st ≠ 0 → Does (.attach t m) s unmoved)
        ∧ (here ∧ st = 0 ∧ (s.get (Reg.HST_TEN_CFG_EN t) = 0 ∨ ∀ v, ¬shared v) → Does (.attach t m) s (fun u =>
          u.get (Reg.HST_T_STAT_ATTERR t) = 1 ∧ Frame [] [] [Reg.HST_T_STAT_ATTERR t] s u))
        ∧ (∀ v, here ∧ st = 0 ∧ s.get (Reg.HST_TEN_CFG_EN t) ≠ 0 ∧ shared v ∧ (∀ w, v < w → ¬shared w) → Does (.attach t m) s (fun u =>
          u.get (Reg.HST_T_STAT_STATE t) = 1 ∧ u.get (Reg.HST_T_STAT_VER t) = v.val ∧ event 0 5 t 0 u
          ∧ Frame [.hst, .out] [] [Reg.HST_T_STAT_STATE t, Reg.HST_T_STAT_VER t, Reg.HST_T_STAT_EVOVF 0] s u)))
      ∧ (¬here → Does (.detach t) s unmoved ∧ Does (.functionLevelReset t) s unmoved ∧ ∀ v, Does (.hstTReset t v) s unmoved)
      ∧ (here → Does (.detach t) s (fun u => isReset t u ∧ fallsBack t u ∧ (quiet t → event 0 6 t 0 u)))
      ∧ (∀ v : Word, (here ∧ v.toNat % 256 = 0x5A → Does (.hstTReset t v) s (fun u => isReset t u ∧ fallsBack t u
          ∧ (quiet t → Frame [.hst] Win.bar0 [] s u ∧ ∀ x : Fin 16, x ≠ t → u.tenant x = s.tenant x)))
        ∧ (v.toNat % 256 ≠ 0x5A → Does (.hstTReset t v) s (fun u => u = s)))
      ∧ (here ∧ t ≠ 0 → Does (.functionLevelReset t) s (fun u => isReset t u ∧ fallsBack t u ∧ (u.tenant t).msixEnable = false
        ∧ ∀ x : Fin 16, x ≠ t → u.get (Reg.HST_T_STAT_STATE x) = s.get (Reg.HST_T_STAT_STATE x)))
      ∧ (st = 3 ∧ (s.tenant t).ops = [] → Does (.tenantResetComplete t) s (fun u => u.get (Reg.HST_T_STAT_STATE t) = 0
        ∧ u.get (Reg.HST_T_STAT_VER t) = 0 ∧ u.get (Reg.HST_T_STAT_FCAUSE t) = 0 ∧ event 0 4 t 0 u
        ∧ Frame [.hst, .out] [] [Reg.HST_T_STAT_STATE t, Reg.HST_T_STAT_VER t, Reg.HST_T_STAT_FCAUSE t, Reg.HST_T_STAT_EVOVF 0] s u))
      ∧ (st ≠ 3 ∨ (s.tenant t).ops ≠ [] → Does (.tenantResetComplete t) s (fun u => u = s))
      ∧ (∀ r : Fin 9, (st ≠ 1 ∧ st ≠ 2 → Does (.tenantDmaFailure t r) s unmoved)
        ∧ (st = 2 → Does (.tenantDmaFailure t r) s (fun u => u.ring t r = { s.ring t r with failed := true }
          ∧ (∀ x : Fin 9, x ≠ r → u.ring t x = s.ring t x) ∧ (u.tenant t).ops = (s.tenant t).ops ∧ Frame [.hst] [] [] s u))
        ∧ (st = 1 → Does (.tenantDmaFailure t r) s (fun u => u.get (Reg.HST_T_STAT_STATE t) = 2
          ∧ u.get (Reg.HST_T_STAT_FCAUSE t) = (if r.val < 4 then 1 else 2) ∧ u.fltBit Reg.FLT_SRC_SRC 64 = true ∧ fallsBack t u
          ∧ (u.tenant t).ops = (s.tenant t).ops ∧ Frame parts wide [] s u
          ∧ (quiet t → Frame (.hst :: Part.ofFault) Win.ofFault
            [Reg.HST_T_STAT_STATE t, Reg.HST_T_STAT_FCAUSE t, Reg.HST_T_STAT_EVOVF t, Reg.HST_T_STAT_EVOVF 0] s u)))))
    ∧ (∀ t : Fin 16, Does (.functionLevelReset 0) s (fun u => u.get (Reg.HST_T_STAT_STATE t) = 3 ∧ u.hst.vfEnable = false ∧ Frame parts wide [] s u)
      ∧ Does .linkReset s (fun u => u.get (Reg.HST_T_STAT_STATE t) = 3 ∧ u.hst.vfEnable = false ∧ Frame parts wide [] s u))
    ∧ (∀ at_ : Nat, s.hst.staleFrom = some at_ ∧ s.get Reg.HST_DISPATCH_EN ≠ 0 → Does .dispatchStale s (fun u =>
      fallsBack (s.get Reg.HST_DISPATCH_TEN) u ∧ (s.get Reg.HST_STAT_FALLBACK = 0 → u.hst.staleFrom = none)
      ∧ Frame ([.cad, .hst] ++ Part.ofFault) (Win.bar0 ++ Win.ofFault) [Reg.HST_STAT_FALLBACK, Reg.HST_FB_RAMP_FBCNT] s u))
    ∧ (s.hst.staleFrom = none ∨ s.get Reg.HST_DISPATCH_EN = 0 → Does .dispatchStale s (fun u => u = s))

/-- Of the first unexecuted descriptor of an SQ: NOP ends with OK and, first of its SQ, writes its completion entry; READ_REGS without SNAP
writes the words of the windows and zeros elsewhere, with SNAP it waits for the next Acquire deadline; QSEND and QRECV move one packet or
end in FULL, EMPTY or SHORT; TIME writes TIME and TICK; SAFETY passes the PDU to its connection; RECORD and MGC operations go to the MGC
and end when it says. What the rights do not allow has no effect, ends in OK and counts one violation; a failed buffer transfer ends in
DMA. A SETPOINT too late ends in LATE, else it is accepted and applies all its slots at its tick start; one of the dispatching tenant
restarts its timer and ends FALLBACK where it applies, a late one at once (log 160). Completes: nopDescriptor, readRegs, qsend, qrecv,
timeDescriptor, safetyDescriptor, recordDescriptor, mgcDefinedOperation, setpoint, readRegsSnapshot, mgcOperationComplete, setpointApply.
(R321, R322, R323, R324, R325, R327, R333, R334.) -/
def Obligations.DescriptorsDoAsTheirOpcodesSay : Prop :=
  ∀ (s : State) (t : Fin 16) (q : Fin 4),
    let viol (u : State) : State := u.count (Reg.HST_TEN_VIOL_COUNT t) 1
    let right (o : HostOp) (r : Nat) : Prop := o.rights.testBit r = true
    let ends (status result : Nat) (u v : State) : Prop := v = u.finishOp t q status result
    let mine (o : HostOp) (write : Bool) : Prop := right o 2 ∧ o.qbase ≤ o.arg0 ∧ o.arg0 < o.qbase + o.qnum
      ∧ (if write then s.mayWrite o.arg0 (16 + t.val) else s.mayRead o.arg0 (16 + t.val)) = true
    let writes (u : State) (addr : Nat) (ws : List Nat) : State := u.emit (.hostWrite t addr ws)
    (∀ o ∈ (s.tenant t).ops, s.firstOp t q = some o →
      let first : Prop := ∀ x ∈ (s.tenant t).ops, x.sq = q → x.stage = .mgc ∨ x = o
      let cq := s.get (Reg.HST_T_SQ_CFG_CQ t o.sq)
      let ring := s.ring t (4 + cq)
      (o.opc ≠ 1 → Does (.nopDescriptor t q) s (fun u => u = s))
      ∧ (o.opc = 1 → Does (.nopDescriptor t q) s (fun u => ends 0 0 s u ∧ Frame [.hst, .out] [] [] s u
        ∧ (first ∧ (s.tenant t).ops.length = 1 → (u.tenant t).ops = []
          ∧ (s.tenState t ≠ 3 ∧ o.flags.testBit 2 = false ∧ s.get (ringEn t (4 + cq)) ≠ 0 ∧ ring.failed = false
              ∧ ring.tail + 1 < s.get (ringSize t (4 + cq)) →
            (u.ring t (4 + cq)).tail = ring.tail + 1 ∧ (u.ring t (4 + cq)).phase = ring.phase
            ∧ s.out ++ [.hostWrite t (s.get64 (ringLo t (4 + cq)) (ringHi t (4 + cq)) + 16 * ring.tail)
              [o.tag + 0x10000 * o.sq + (if ring.phase then 0x1000000 else 0), 0x10000 * o.sqHead, 0, 0]] <+: u.out)
          ∧ (o.flags.testBit 2 = true → u.out = s.out))))
      ∧ (o.opc = 2 → ∀ dma : Bool,
        let words := (List.range (o.len / 4)).map (fun i =>
          let a := o.arg0 + 4 * i
          if right o 0 ∧ ∃ w ∈ o.wins, w.1 ≤ (a - 0x40000000) / 4096 ∧ (a - 0x40000000) / 4096 < w.1 + w.2 then s.readWord (16 + t.val) a else 0)
        (o.flags.testBit 1 = true → Does (.readRegs t q dma) s (fun u =>
          u.firstOp t q ≠ some o ∧ u.out = s.out ∧ Frame [.hst] [] [] s u))
        ∧ (o.flags.testBit 1 = false ∧ s.get Reg.FLT_INJ_CTRL_ARM = 0 → Does (.readRegs t q dma) s (fun u => Frame [.hst, .bus, .out] [] [Reg.HST_TEN_VIOL_COUNT t] s u
          ∧ (right o 0 ∧ o.outside = false → u.get (Reg.HST_TEN_VIOL_COUNT t) = s.get (Reg.HST_TEN_VIOL_COUNT t))
          ∧ (¬right o 0 → u.get (Reg.HST_TEN_VIOL_COUNT t) = min (s.get (Reg.HST_TEN_VIOL_COUNT t) + 1) 0xFFFFFFFF)
          ∧ (dma = true ∧ (∀ i : Fin 1024, isHi (o.arg0 + 4 * i) = false) → s.out ++ [.hostWrite t o.addr words] <+: u.out))))
      ∧ (o.opc = 4 → ∀ (b : List Byte) (dma : Bool),
        let send := Instr.qsend t q b dma
        let packet := wordsOfBytes ((List.range o.len).map (fun i => (b.getD i 0).toNat))
        (¬mine o true → Does send s (ends 0 o.len (viol s)))
        ∧ (mine o true ∧ dma = false → Does send s (ends 5 0 s))
        ∧ (∀ u, mine o true ∧ dma = true ∧ s.deliver o.arg0 (16 + t) o.len packet = (u, false) → Does send s (ends 3 0 u))
        ∧ (∀ u, mine o true ∧ dma = true ∧ s.deliver o.arg0 (16 + t) o.len packet = (u, true) → Does send s (ends 0 o.len u)))
      ∧ (o.opc = 5 → ∀ dma : Bool,
        let recv := Instr.qrecv t q dma
        (¬mine o false → Does recv s (ends 0 0 (viol s)))
        ∧ (∀ u, mine o false ∧ s.takePacket o.arg0 (16 + t) = (u, none) → Does recv s (ends 2 0 u))
        ∧ (∀ u n ws, mine o false ∧ s.takePacket o.arg0 (16 + t) = (u, some (n, ws)) →
          (o.len < n → Does recv s (ends 4 n (s.consume o.arg0 (16 + t))))
          ∧ (n ≤ o.len ∧ dma = true → Does recv s (ends 0 n (u.emit (.hostBytes t o.addr ((List.range n).map (fun i => ws.getD (i / 4) 0 / 256 ^ (i % 4) % 256))))))
          ∧ (n ≤ o.len ∧ dma = false → Does recv s (ends 5 0 u))))
      ∧ (o.opc = 6 → Does (.timeDescriptor t q false) s (fun u => ends 5 0 (if right o 6 then s else viol s) u)
        ∧ (¬right o 6 → Does (.timeDescriptor t q true) s (ends 0 0 (writes (viol s) o.addr [0, 0, 0, 0]).nextFree))
        ∧ (right o 6 → Does (.timeDescriptor t q true) s (fun u => ∃ f : Fin 32, ends 0 0 (writes s o.addr
          [s.now % 0x100000000, s.now / 0x100000000 % 0x100000000, f, s.get Reg.CAD_TICK_TICK]).nextFree u)))
      ∧ (o.opc = 7 → ∀ (b : List Byte),
        let pdu := (List.range (if (b.getD 0 0).toNat / 16 = 2 then 36 else 28)).map (fun i => (b.getD i 0).toNat)
        let v := s.watchdogDue o.arg0
        let reason := v.pduReason o.arg0 1 t pdu s.now
        Does (.safetyDescriptor t q b false) s (ends 5 0 (if right o 5 then s else viol s))
        ∧ (¬right o 5 → Does (.safetyDescriptor t q b true) s (ends 0 reason (viol s)))
        ∧ (right o 5 ∧ reason ≠ 0 → Does (.safetyDescriptor t q b true) s (ends 0 reason
          (writes (v.pduReject o.arg0 reason).endClock (o.addr + 64) (wordsOfBytes (List.replicate 64 0)))))
        ∧ (right o 5 ∧ reason = 0 → Does (.safetyDescriptor t q b true) s (fun u => ∃ ws,
          ends 0 0 (writes (v.pduAccept o.arg0 pdu).endClock (o.addr + 64) ws) u)))
      ∧ (o.opc = 8 ∨ 0x80 ≤ o.opc →
        let run := if o.opc = 8 then Instr.recordDescriptor t q else .mgcDefinedOperation t q
        let r := if o.opc = 8 then 3 else 7
        (right o r → (∀ x ∈ (s.tenant t).ops, x.sq = q → x.stage ≠ .done) → Does run s (fun u =>
          u.out = s.out ++ [.mgcNotice 4 o.opc] ∧ (u.tenant t).ops.length = (s.tenant t).ops.length
          ∧ { o with stage := .mgc } ∈ (u.tenant t).ops ∧ Frame [.hst, .out] [] [] s u))
        ∧ (¬right o r → Does run s (fun u => ∃ result, u = ((viol s).finishOp t q 0 result).nextFree)))
      ∧ (o.opc = 3 →
        let slots := ((List.range o.arg0).map (fun i => (o.pairSlot i, o.pairValue i))).filter (fun p => o.spmask.testBit p.1)
        let d := tickDistance s.tick o.attick
        let late : Prop := o.flags.testBit 4 = true ∧ (d ≤ 0 ∨ d = 1 ∧ ∃ n ∈ s.cad.nextTick, n < s.now + 40)
        let s1 := if right o 1 ∧ o.arg0 ≤ slots.length then s else viol s
        (late ∧ s.get Reg.HST_DISPATCH_TEN ≠ t → Does (.setpoint t q) s (ends (if right o 1 then 6 else 0) 0 s1))
        ∧ (late ∧ right o 1 ∧ (o.arg0 = 0 ∨ slots ≠ []) ∧ s.get Reg.HST_DISPATCH_TEN = t ∧ s.get Reg.HST_DISPATCH_EN ≠ 0 →
          Does (.setpoint t q) s (fun u => u.hst.staleFrom = some s.now ∧ u.get Reg.HST_STAT_FALLBACK = 0
            ∧ Frame [.hst, .out] Win.bar0 [Reg.HST_TEN_VIOL_COUNT t, Reg.HST_STAT_FALLBACK] s u))
        ∧ (¬late ∧ s.get Reg.CAD_CTRL_RUN ≠ 0 → Does (.setpoint t q) s (fun u =>
          (∃ x ∈ (u.tenant t).ops, ∃ back : Bool, x = { o with stage := .accepted, time := s.now, order := s.hst.accepts, ramped := back })
          ∧ u.hst.accepts = s.hst.accepts + 1
          ∧ (s.get Reg.HST_DISPATCH_TEN ≠ t → Frame [.hst] [] [Reg.HST_TEN_VIOL_COUNT t] s u)
          ∧ (right o 1 ∧ (o.arg0 = 0 ∨ slots ≠ []) ∧ s.get Reg.HST_DISPATCH_TEN = t ∧ s.get Reg.HST_DISPATCH_EN ≠ 0 →
            u.hst.staleFrom = some s.now ∧ u.get Reg.HST_STAT_FALLBACK = s.get Reg.HST_STAT_FALLBACK)
          ∧ Frame [.hst] [] [Reg.HST_TEN_VIOL_COUNT t] s u))))
    ∧ (s.firstOp t q = none → ∀ dma : Bool, Does (.nopDescriptor t q) s (fun u => u = s) ∧ Does (.readRegs t q dma) s (fun u => u = s)
      ∧ Does (.setpoint t q) s (fun u => u = s) ∧ Does (.qrecv t q dma) s (fun u => u = s))
    ∧ (∀ o ∈ (s.tenant t).ops, (s.tenant t).ops.find? (fun x => x.sq == q.val && x.opc == 2 && x.stage == .accepted) = some o → ∀ dma : Bool,
      (s.cel.acqAt ≤ o.time → Does (.readRegsSnapshot t q dma) s (fun u => u = s))
      ∧ (o.time < s.cel.acqAt → Does (.readRegsSnapshot t q dma) s (fun u => u = s.readRegs t q o dma
        ∧ (s.get Reg.FLT_INJ_CTRL_ARM = 0 → Frame [.hst, .bus, .out] [] [Reg.HST_TEN_VIOL_COUNT t] s u))))
    ∧ (∀ (tag : BitVec 16) (status : Fin 8) (result : Word),
      let is (x : HostOp) : Bool := x.sq == q.val && x.stage == .mgc && x.tag == tag.toNat
      ((s.tenant t).ops.find? is = none → Does (.mgcOperationComplete t q tag status result) s (fun u => u = s))
      ∧ (∀ o ∈ (s.tenant t).ops, is o = true → Does (.mgcOperationComplete t q tag status result) s (fun u =>
        (u.tenant t).ops.length + 1 = (s.tenant t).ops.length ∧ Frame [.hst, .out] [] [] s u)))
    ∧ (s.inKickstand = true ∨ (∀ x : Fin 16, ∀ o ∈ (s.tenant x).ops, s.setpointDue o = false) → Does .setpointApply s (fun u => u = s))
    ∧ (s.inKickstand = false → Does .setpointApply s (fun u => (∀ x : Fin 16, ∀ o ∈ (u.tenant x).ops, o ∈ (s.tenant x).ops → s.setpointDue o = false)
      ∧ (s.get Reg.HST_STAT_FALLBACK ≠ 0 ∧ (∃ x : Fin 16, ∃ o ∈ (s.tenant x).ops, s.setpointDue o = true ∧ o.ramped = true) →
        u.get Reg.HST_STAT_FALLBACK = 0)
      ∧ Frame [.hst, .out] (Win.hst :: Win.bar0) [Reg.GRD_PSET_VALUE, Reg.GRD_QSET_VALUE, Reg.GRD_VSET_VALUE, Reg.GRD_FSET_VALUE] s u))
    ∧ (∀ o : HostOp, s.inKickstand = false ∧ (s.tenant t).ops = [o] ∧ (∀ x : Fin 16, x ≠ t → (s.tenant x).ops = []) ∧ o.stage = .accepted
        ∧ o.opc = 3 ∧ o.sq = q ∧ s.setpointDue o = true ∧ o.rights.testBit 1 = true ∧ o.arg0 ≤ 5
        ∧ ((List.range o.arg0).map o.pairSlot).Nodup ∧ s.get Reg.HST_STAT_FALLBACK = 0 ∧ s.hst.ramps = [] ∧ o.ramped = false →
      Does .setpointApply s (fun u => (u.tenant t).ops = []
        ∧ (∀ i : Fin 5, i.val < o.arg0 ∧ o.pairSlot i < 16 ∧ o.spmask.testBit (o.pairSlot i) = true →
          let v := o.pairValue i
          u.get (Reg.HST_SP_VALUE (o.pairSlot i)) = v % 0x100000000 ∧ (o.pairSlot i = 0 → u.get Reg.GRD_PSET_VALUE = v % 0x100000000)
          ∧ (o.pairSlot i = 1 → u.get Reg.GRD_QSET_VALUE = v % 0x100000000) ∧ (o.pairSlot i = 2 → u.get Reg.GRD_VSET_VALUE = v % 0x100000000)
          ∧ (o.pairSlot i = 3 → u.get Reg.GRD_FSET_VALUE = v % 0x100000000))
        ∧ (∀ k : Fin 16, (∀ i : Fin 5, i.val < o.arg0 → o.pairSlot i ≠ k.val) → u.get (Reg.HST_SP_VALUE k) = s.get (Reg.HST_SP_VALUE k))
        ∧ Frame [.hst, .out] [Win.hst] [Reg.GRD_PSET_VALUE, Reg.GRD_QSET_VALUE, Reg.GRD_VSET_VALUE, Reg.GRD_FSET_VALUE] s u))

/-- A PUSH by the producer stores its word in the open packet, taking a free block where one is needed, or with no space sets OVR and TRUNC; a
CLOSE makes the packet visible with its length word, discards a truncated or aborted one, or sends a packet of no words; a POP by the
consumer answers the word at its place, freeing blocks as they pass, or 0x8000_0000. Another master changes no queue. A flush at a
boundary and SKIP discard packets and free their blocks; RESET frees every block of the queue. ALLOC, FREE and XFER move single blocks
between their owners; a refused operation is counted and recorded. Damaged pointers reset the queue, a damaged free list is rebuilt, and a
bad word of the pool is reported. Completes: queAlloc, queFree, push, close, pop, xferWrite, xferRead, flush, flushEffect, skip,
queueReset, queueResetComplete, freeListRebuild, freeListRebuildComplete. (R359, R360, R361, R362, R363, R365, R366, R367, R368, R370.) -/
def Obligations.QueuesCarryPackets : Prop :=
  ∀ (s : State), tblWf (fun _ => 0xFF) s.pool.tags = true →
    let armed (c : Nat) : Prop := s.get Reg.FLT_INJ_CTRL_ARM ≠ 0 ∧ s.get Reg.FLT_INJ_CTRL_CHK = c
    let damaged (q : Nat) : Prop := armed 14 ∧ s.get Reg.FLT_INJ_ARG_ARG = q
    let calm (q : Nat) : Prop := ¬armed 16 ∧ ¬damaged q
    let usable : Prop := s.get Reg.QUE_POOL_REBUILD = 0
    let isFree (b : Nat) : Prop := b < 4096 ∧ s.tag b = 0xFF
    let answers (w : Nat) (t : State) : Prop := t.bus.readData = w
    let violation : List Fld := [Reg.MEM_VIOL_CNT_COUNT, Reg.MEM_VIOL_INFO_VALID, Reg.MEM_VIOL_INFO_MASTER, Reg.MEM_VIOL_INFO_TYPE, Reg.MEM_VIOL_ADDR_ADDR]
    let bad : List Fld := [Reg.QUE_BADBLK_CNT_COUNT, Reg.QUE_BADBLK_VALID, Reg.QUE_BADBLK_MASTER, Reg.QUE_BADBLK_KIND, Reg.QUE_BADBLK_BLOCK]
    (∀ (m : Fin 32),
      let ports : Prop := m.val ≤ 3 ∨ m.val = 5 ∨ m.val = 6 ∧ s.get Reg.LCS_STATE_DBGOPEN ≠ 0
      let refused (t : State) : Prop := (m.val ≤ 12 → t.get Reg.MEM_VIOL_CNT_COUNT = min (s.get Reg.MEM_VIOL_CNT_COUNT + 1) 0xFFFFFFFF)
        ∧ Frame (.bus :: Part.ofFault) Win.ofFault violation s t
      let badBlock (kind b : Nat) (t : State) : Prop := t.get Reg.QUE_BADBLK_CNT_COUNT = min (s.get Reg.QUE_BADBLK_CNT_COUNT + 1) 0xFFFFFFFF
        ∧ t.fltBit Reg.FLT_SRC_SRC 69 = true
        ∧ (s.get Reg.QUE_BADBLK_VALID = 0 → t.get Reg.QUE_BADBLK_VALID = 1 ∧ t.get Reg.QUE_BADBLK_MASTER = m.val
          ∧ t.get Reg.QUE_BADBLK_KIND = kind ∧ t.get Reg.QUE_BADBLK_BLOCK = b)
        ∧ Frame Part.ofFault Win.ofFault bad s t
      (¬ports → Does (.queAlloc m) s (fun t => refused t ∧ answers s.allocValue t))
      ∧ (ports ∧ ¬armed 16 ∧ usable ∧ (∃ b : Fin 4096, isFree b) → Does (.queAlloc m) s (fun t => ∃ b, isFree b ∧ answers b t ∧ t.tag b = 0x40 + m.val
        ∧ (∀ c, c ≠ b → t.tag c = s.tag c) ∧ Frame [.bus, .pool, .free] [] [] s t))
      ∧ (ports ∧ ¬armed 16 ∧ (¬usable ∨ ∀ b : Fin 4096, ¬isFree b) → Does (.queAlloc m) s (fun t => answers 0x80000000 t ∧ Frame [.bus] [] [] s t))
      ∧ (∀ b : Fin 4096, (¬ports → Does (.queFree m b) s refused)
        ∧ (ports ∧ s.tag b = 0x40 + m.val → Does (.queFree m b) s (fun t => t.tag b = 0xFF ∧ (∀ c, c ≠ b.val → t.tag c = s.tag c)
          ∧ (armed 16 → t.get Reg.QUE_POOL_REBUILD = 1 ∧ t.fltBit Reg.FLT_SRC_SRC 70 = true ∧ t.get Reg.FLT_INJ_CTRL_ARM = 0)
          ∧ (¬armed 16 → Frame [.pool] [] [] s t)
          ∧ Frame (.pool :: Part.ofFault) Win.ofFault [Reg.QUE_POOL_REBUILD] s t))
        ∧ (ports ∧ armed 16 → Does (.queAlloc m) s (fun t => answers 0x80000000 t ∧ t.get Reg.QUE_POOL_REBUILD = 1 ∧ t.fltBit Reg.FLT_SRC_SRC 70 = true
          ∧ t.pool = s.pool ∧ Frame (.bus :: Part.ofFault) Win.ofFault [Reg.QUE_POOL_REBUILD] s t))
        ∧ (ports ∧ s.tag b = 0xFF → Does (.queFree m b) s (badBlock 1 b))
        ∧ (ports ∧ s.tag b ≠ 0xFF ∧ s.tag b ≠ 0x40 + m.val → Does (.queFree m b) s (badBlock 2 b)))
      ∧ (∀ (q : Fin 64),
        let u := s.flushNow q
        let x := u.queue q
        let acts : Prop := s.get (Reg.QUE_CFG_EN q) ≠ 0 ∧ s.get (Reg.QUE_STAT_PTRRST q) = 0
        let writes : Prop := ports ∧ (s.get (Reg.QUE_CFG_PROD q) = 0x3F ∨ s.get (Reg.QUE_CFG_PROD q) = m.val)
        let reads : Prop := ports ∧ (s.get (Reg.QUE_CFG_CONS q) = 0x3F ∨ s.get (Reg.QUE_CFG_CONS q) = m.val)
        let notice : List Fld := [Reg.QUE_STAT_OVR q, Reg.QUE_EVT_LO_QUEUE, Reg.QUE_EVT_HI_QUEUE]
        let full : Prop := u.queueFull q = true
        let only (parts : List Part) (fs : List Fld) (t : State) : Prop := Frame parts [] fs u t
        let word (b i : Nat) : Nat := 0x13000000 + 64 * b + 4 * i
        let stored (a v : Nat) (t : State) : Prop := t.wordAt a = v ∧ ∀ c : Nat, c < a ∨ a + 4 ≤ c → t.byteAt c = s.byteAt c
        let event (t : State) : Prop := if q.val < 32 then t.bit Reg.QUE_EVT_LO_QUEUE q = true else t.bit Reg.QUE_EVT_HI_QUEUE (q - 32) = true
        let p : OpenPacket := x.opened.getD ⟨m, 0, [], false⟩
        let i := p.words + 1
        let overrun (t : State) : Prop := (∃ y ∈ (t.queue q).opened, y.trunc = true ∧ y.blocks = p.blocks) ∧ t.get (Reg.QUE_STAT_OVR q) = 1
          ∧ (s.get (Reg.QUE_STAT_OVR q) = 0 → event t) ∧ only [.pool, .tri, .out] notice t
        (calm q → ∀ v : Word, let push := Instr.push m q v
          (¬writes → Does push s refused) ∧ (writes ∧ ¬acts → Does push s (fun t => t = s))
          ∧ (writes ∧ acts ∧ p.trunc = true → Does push s (fun t => t = u))
          ∧ (writes ∧ acts ∧ p.trunc = false ∧ i / 16 < p.blocks.length → Does push s (fun t =>
            (t.queue q).opened = some { p with words := i } ∧ (t.queue q).packets = x.packets
            ∧ stored (word (p.blocks.getD (i / 16) 0) (i % 16)) v.toNat t ∧ only [.mem, .pool, .bus] [] t))
          ∧ (writes ∧ acts ∧ p.trunc = false ∧ i / 16 = p.blocks.length ∧ ¬full ∧ p.blocks.length < 64 ∧ (∃ b : Fin 4096, u.tag b = 0xFF) →
            Does push s (fun t => ∃ b, b < 4096 ∧ u.tag b = 0xFF ∧ t.tag b = q.val ∧ (t.queue q).opened = some ⟨p.prod, i, p.blocks ++ [b], false⟩
              ∧ stored (word b (i % 16)) v.toNat t ∧ only [.mem, .pool, .free, .bus] [] t))
          ∧ (writes ∧ acts ∧ p.trunc = false ∧ p.blocks.length ≤ i / 16 ∧ (full ∨ 64 ≤ p.blocks.length) → Does push s overrun))
        ∧ (calm q → ∀ v : Word, let close := Instr.close m q v
          let lastb := v.toNat % 8
          let legal : Prop := 1 ≤ lastb ∧ lastb ≤ 4
          let abort : Prop := v.getLsbD 8 = true
          let freed (bs : List Nat) (t : State) : Prop := (∀ b ∈ bs, t.tag b = 0xFF) ∧ ∀ c, c ∉ bs → t.tag c = u.tag c
          let visible (y : Packet) (t : State) : Prop := (t.queue q).packets = x.packets ++ [y] ∧ (t.queue q).opened = none
            ∧ stored (word (y.blocks.getD 0 0) 0) ((y.prod * 65536 + y.len) % 0x100000000) t ∧ (x.packets = [] → event t)
          (¬writes → Does close s refused) ∧ (writes ∧ (¬acts ∨ ¬legal) → Does close s (fun t => t = s))
          ∧ (writes ∧ acts ∧ legal ∧ abort ∧ x.opened = none → Does close s (fun t => t = u))
          ∧ (∀ y : OpenPacket, x.opened = some y → writes ∧ acts ∧ legal →
            (abort → Does close s (fun t => (t.queue q).opened = none ∧ freed y.blocks t ∧ only [.pool] [] t))
            ∧ (¬abort ∧ y.trunc = true → Does close s (fun t => (t.queue q).opened = none ∧ freed y.blocks t
              ∧ t.get Reg.QUE_DROP_CNT_COUNT = min (s.get Reg.QUE_DROP_CNT_COUNT + 1) 0xFFFFFFFF ∧ only [.pool] [Reg.QUE_DROP_CNT_COUNT] t))
            ∧ (¬abort ∧ y.trunc = false → Does close s (fun t => visible ⟨y.prod, 4 * (y.words - 1) + lastb, y.blocks⟩ t
              ∧ only [.mem, .pool, .tri, .out, .bus] notice t)))
          ∧ (writes ∧ acts ∧ legal ∧ ¬abort ∧ x.opened = none ∧ ¬full ∧ (∃ b : Fin 4096, u.tag b = 0xFF) → Does close s (fun t => ∃ b, b < 4096
            ∧ u.tag b = 0xFF ∧ t.tag b = q.val ∧ visible ⟨m, 0, [b]⟩ t ∧ only [.mem, .pool, .free, .tri, .out, .bus] notice t))
          ∧ (writes ∧ acts ∧ legal ∧ ¬abort ∧ x.opened = none ∧ full → Does close s (fun t => t.get (Reg.QUE_STAT_OVR q) = 1
            ∧ t.get Reg.QUE_DROP_CNT_COUNT = min (s.get Reg.QUE_DROP_CNT_COUNT + 1) 0xFFFFFFFF ∧ t.pool = u.pool
            ∧ only [.tri, .out] (Reg.QUE_DROP_CNT_COUNT :: notice) t)))
        ∧ (calm q ∧ ¬armed 5 → let pop := Instr.pop m q
          (¬reads → Does pop s (fun t => refused t ∧ answers (s.popValue q) t))
          ∧ (reads ∧ ¬acts → Does pop s (fun t => answers 0x80000000 t ∧ Frame [.bus] [] [] s t))
          ∧ (reads ∧ acts ∧ x.packets = [] → Does pop s (fun t => answers 0x80000000 t ∧ only [.bus] [] t))
          ∧ (∀ y rest, reads ∧ acts ∧ x.packets = y :: rest → Does pop s (fun t =>
            answers (s.wordAt (word (y.blocks.getD 0 0) (x.pos % 16))) t ∧ only [.bus, .pool] [] t
            ∧ (x.pos = (y.len + 3) / 4 → (t.queue q).packets = rest ∧ (t.queue q).pos = 0 ∧ ∀ b ∈ y.blocks, t.tag b = 0xFF)
            ∧ (x.pos ≠ (y.len + 3) / 4 → (t.queue q).pos = x.pos + 1
              ∧ (x.pos % 16 ≠ 15 → (t.queue q).packets = x.packets ∧ t.pool.tags = u.pool.tags)
              ∧ (x.pos % 16 = 15 → (t.queue q).packets = { y with blocks := y.blocks.drop 1 } :: rest ∧ ∀ b ∈ y.blocks.take 1, t.tag b = 0xFF)))))
        ∧ (calm q → ∀ v : Word, let xfer := Instr.xferWrite m q v
          let b := v.toNat % 4096
          let len := v.toNat / 65536 % 64
          (¬writes → Does xfer s refused) ∧ (writes ∧ (¬acts ∨ 60 < len) → Does xfer s (fun t => t = s))
          ∧ (writes ∧ acts ∧ len ≤ 60 ∧ s.tag b ≠ 0x40 + m.val → Does xfer s (badBlock 2 b))
          ∧ (writes ∧ acts ∧ len ≤ 60 ∧ s.tag b = 0x40 + m.val ∧ s.get (Reg.QUE_STAT_FLUSHPEND q) = 0 → Does xfer s (fun t => t.tag b = q.val
            ∧ (t.queue q).packets = x.packets ++ [⟨m, len, [b]⟩] ∧ stored (word b 0) (m * 65536 + len) t ∧ only [.mem, .pool, .tri, .out, .bus] notice t)))
        ∧ (calm q → let xfer := Instr.xferRead m q
          (¬reads → Does xfer s (fun t => refused t ∧ answers (s.xferValue q) t))
          ∧ (reads ∧ (¬acts ∨ x.packets = []) → Does xfer s (fun t => answers 0x80000000 t ∧ Frame [.bus] [] [] (if acts then u else s) t))
          ∧ (∀ y rest, reads ∧ acts ∧ x.packets = y :: rest →
            (∀ b : Nat, y.blocks = [b] ∧ x.pos = 0 → Does xfer s (fun t => answers (y.len % 64 * 65536 + b) t ∧ t.tag b = 0x40 + m.val
              ∧ (t.queue q).packets = rest ∧ only [.bus, .pool] [] t))
            ∧ (y.blocks.length ≠ 1 ∨ x.pos ≠ 0 → Does xfer s (fun t => answers 0xC0000000 t ∧ only [.bus] [] t))))
        ∧ (let broken (t : State) : Prop := t.queue q = {} ∧ t.get (Reg.QUE_STAT_PTRRST q) = 1 ∧ t.fltBit Reg.FLT_SRC_SRC (192 + q.val) = true
            ∧ t.get Reg.FLT_INJ_CTRL_ARM = 0 ∧ (∀ b : Nat, t.tag b = if s.tag b = q.val then 0xFF else s.tag b) ∧ event t
          damaged q ∧ acts → ∀ v : Word, (writes → Does (.push m q v) s broken)
            ∧ (writes ∧ 1 ≤ v.toNat % 8 ∧ v.toNat % 8 ≤ 4 → Does (.close m q v) s broken)
            ∧ (writes ∧ v.toNat / 65536 % 64 ≤ 60 → Does (.xferWrite m q v) s broken)
            ∧ (reads → Does (.pop m q) s (fun t => broken t ∧ answers 0x80000000 t) ∧ Does (.xferRead m q) s (fun t => broken t ∧ answers 0x80000000 t)))
        ∧ (armed 16 → ∀ v : Word,
          let rebuilt (t : State) : Prop := t.get Reg.FLT_INJ_CTRL_ARM = 0 →
            t.get Reg.QUE_POOL_REBUILD = 1 ∧ t.fltBit Reg.FLT_SRC_SRC 70 = true
          (writes → Does (.push m q v) s rebuilt ∧ Does (.close m q v) s rebuilt ∧ Does (.xferWrite m q v) s rebuilt)
          ∧ (reads → Does (.pop m q) s rebuilt ∧ Does (.xferRead m q) s rebuilt))
        ∧ (∀ y rest, armed 5 ∧ reads ∧ acts ∧ x.packets = y :: rest → Does (.pop m q) s (fun t =>
          answers (s.wordAt (word (y.blocks.getD 0 0) (x.pos % 16))) t
          ∧ (s.get Reg.FLT_INJ_ARG_ARG = word (y.blocks.getD 0 0) (x.pos % 16) → t.get Reg.FLT_INJ_CTRL_ARM = 0
            ∧ (s.get Reg.FLT_INJ_CTRL_NBIT = 2 → t.fltBit Reg.FLT_SRC_SRC 67 = true)
            ∧ (s.get Reg.FLT_INJ_CTRL_NBIT ≠ 2 → t.get Reg.MEM_ECC_CNT_CORR = min (s.get Reg.MEM_ECC_CNT_CORR + 1) 0xFFFF))
          ∧ (x.pos = (y.len + 3) / 4 → (t.queue q).packets = rest) ∧ (x.pos ≠ (y.len + 3) / 4 → (t.queue q).pos = x.pos + 1)))))
    ∧ (∀ q : Fin 64,
      let x := s.queue q
      let freed (bs : List Nat) (t : State) : Prop := (∀ b ∈ bs, t.tag b = 0xFF) ∧ ∀ c, c ∉ bs → t.tag c = s.tag c
      let pends : Prop := s.get (Reg.QUE_STAT_FLUSHPEND q) ≠ 0 ∧ x.pos = 0
      Does (.flush q) s (fun t => t.get (Reg.QUE_STAT_FLUSHPEND q) = 1 ∧ Frame [] [] [Reg.QUE_STAT_FLUSHPEND q] s t)
      ∧ (calm q ∧ pends → Does (.flushEffect q) s (fun t => (t.queue q).packets = [] ∧ (t.queue q).opened = x.opened
        ∧ freed (x.packets.flatMap (fun p => p.blocks)) t ∧ t.get (Reg.QUE_STAT_FLUSHPEND q) = 0 ∧ Frame [.pool] [] [Reg.QUE_STAT_FLUSHPEND q] s t))
      ∧ (calm q ∧ ¬pends → Does (.flushEffect q) s (fun t => t = s))
      ∧ (calm q ∧ x.pos = 0 → Does (.skip q) s (fun t => t = s))
      ∧ (∀ p rest, calm q ∧ x.pos ≠ 0 ∧ x.packets = p :: rest → Does (.skip q) s (fun t => (t.queue q).packets = rest ∧ (t.queue q).pos = 0
        ∧ freed p.blocks t ∧ Frame [.pool] [] [] s t))
      ∧ Does (.queueReset q) s (fun t => t.queue q = {} ∧ (∀ b : Nat, t.tag b = if s.tag b = q.val then 0xFF else s.tag b)
        ∧ t.get (Reg.QUE_STAT_PTRRST q) = 1 ∧ t.get (Reg.QUE_STAT_OVR q) = 0 ∧ t.get (Reg.QUE_STAT_FLUSHPEND q) = 0
        ∧ (¬armed 16 → Frame [.pool] [] [Reg.QUE_STAT_PTRRST q, Reg.QUE_STAT_OVR q, Reg.QUE_STAT_FLUSHPEND q] s t))
      ∧ (let rebuilt (t : State) : Prop := (t.get Reg.FLT_INJ_CTRL_ARM = 0 → t.get Reg.QUE_POOL_REBUILD = 1) ∧ (pends → (t.queue q).packets = [])
        armed 16 → Does (.flushEffect q) s rebuilt ∧ Does (.skip q) s (fun t => x.pos ≠ 0 ∧ x.packets ≠ [] → (t.queue q).pos = 0))
      ∧ (let broken (t : State) : Prop := t.queue q = {} ∧ t.get (Reg.QUE_STAT_PTRRST q) = 1 ∧ t.fltBit Reg.FLT_SRC_SRC (192 + q.val) = true
        damaged q → Does (.flushEffect q) s broken ∧ Does (.skip q) s broken)
      ∧ Does (.queueResetComplete q) s (fun t => t.get (Reg.QUE_STAT_PTRRST q) = 0 ∧ Frame [] [] [Reg.QUE_STAT_PTRRST q] s t))
    ∧ Does .freeListRebuild s (fun t => t.get Reg.QUE_POOL_REBUILD = 1 ∧ t.fltBit Reg.FLT_SRC_SRC 70 = true
      ∧ Frame Part.ofFault Win.ofFault [Reg.QUE_POOL_REBUILD] s t)
    ∧ Does .freeListRebuildComplete s (fun t => t.get Reg.QUE_POOL_REBUILD = 0 ∧ Frame [] [] [Reg.QUE_POOL_REBUILD] s t)

/-- A master whose clock Kickstand gates makes no access. With no injection armed an aligned, permitted access of 1, 2 or 4 bytes to a memory
reads or stores exactly its bytes; a narrow register write does nothing and a narrow register read only answers its part; 64 bits go as
two accesses, the lower first; a write to an owner key's slot in DEV puts a key there (its place is the model's choice, log 163). An
access that is unassigned, not permitted or misaligned reads 0 or is ignored, counts for masters 0 to 12, and is recorded with a Note
fault where nothing is. A _LO read of a 64-bit pair snapshots the high half for its master alone. An injected ECC error is corrected and
counted, or counted with a Serious fault, discarding a narrow write. A test step goes to the next region or is deferred; a wipe clears the
Hamper and its read-back opens or fails it. Completes: registerWrite, registerPairLoRead, memEccCntRead, backgroundTestStep,
backgroundTestStepTimeout, hamperWipe, hamperVerifyComplete. (R341, R342, R343, R344, R346, R352, R353, R355, R356, R357, R485.) -/
def Obligations.AccessesFollowTheFabricRules : Prop :=
  ∀ (s : State),
    (∀ (m : Fin 32) (kind : AccessKind) (n : Fin 3) (w : Word) (v : BitVec 64), m.val < 16 → s.get Reg.LCS_STATE_STATE ≠ 5 →
      let size := 2 ^ n.val
      let a := w.toNat
      let go := Instr.registerWrite (.one ⟨m, kind, size, w, v⟩)
      let gated : Prop := m.val ≤ 3 ∧ s.inKickstand = true
      let x := v.toNat % 2 ^ (8 * size)
      let r := regionOf a
      let stops : Prop := m.val ≤ 2 ∧ s.coreStops m kind size a ≠ none
      let granted : Prop := ¬gated ∧ ¬stops ∧ a % size = 0 ∧ s.permits m kind (a / 4 * 4) = true
      let isMemory : Prop := r ≠ .regs ∧ r ≠ .unassigned
      let isKey : Prop := m.val = 10 ∧ 0x14000040 ≤ a ∧ a < 0x14000100
      let spare (b : Nat) : Prop := b < a ∨ a + size ≤ b
      (r = .tcm → (s.permits m kind a = true ↔ m.val ≤ 3 ∨ m.val = 10))
      ∧ (r = .sram → (s.permits m kind a = true ↔ m.val ≤ 3 ∨ m.val = 8 ∨ m.val = 10))
      ∧ (r = .dp → (s.permits m kind a = true ↔ m.val ≤ 3 ∨ m.val = 8 ∨ m.val = 9))
      ∧ (r = .rom → (s.permits m kind a = true ↔ kind ≠ .write ∧ (m.val ≤ 3 ∨ m.val = 10)))
      ∧ (r = .hamper → (s.permits m kind a = true ↔ m.val ≤ 3 ∧ s.get Reg.MEM_HAMPER_HSTATE = 0))
      ∧ (r = .pool → (s.permits m kind a = true ↔ m.val ≤ 3 ∧ s.tag ((a - 0x13000000) / 64) = 0x40 + m.val))
      ∧ (r = .unassigned → s.permits m kind a = false)
      ∧ (granted ∧ isKey ∧ kind = .write ∧ s.get Reg.FLT_INJ_CTRL_ARM = 0 → Does go s (fun t => t.bytesAt a size = x
        ∧ (s.boot.record.state = 1 → t.boot.record.present.testBit ((a - 0x14000000) / 64) = true ∧ t.get Reg.LCS_KEYS_PRESENT = t.boot.record.present % 16)
        ∧ (∀ b : Nat, spare b → t.byteAt b = s.byteAt b) ∧ Frame [.mem, .bus, .boot, .memt] [Win.lcs] [] s t))
      ∧ (granted ∧ isMemory ∧ ¬isKey ∧ kind = .write ∧ s.get Reg.FLT_INJ_CTRL_ARM = 0 → Does go s (fun t => t.bytesAt a size = x
        ∧ (∀ b : Nat, spare b → t.byteAt b = s.byteAt b) ∧ Frame [.mem, .bus] [] [] s t))
      ∧ (granted ∧ isMemory ∧ kind ≠ .write ∧ s.get Reg.FLT_INJ_CTRL_ARM = 0 → Does go s (fun t => t.bus.readData = s.bytesAt a size
        ∧ Frame [.bus] [] [] s t))
      ∧ (granted ∧ r = .regs ∧ Reg.blockOf a ≠ 16 ∧ size < 4 ∧ kind = .write → Does go s (fun t => t = s))
      ∧ (granted ∧ r = .regs ∧ Reg.blockOf a ≠ 16 ∧ size < 4 ∧ kind ≠ .write → Does go s (fun t =>
        t.bus.readData = s.readWord m (a / 4 * 4) / 2 ^ (8 * (a % 4)) % 2 ^ (8 * size) ∧ t.bus.snaps = s.bus.snaps ∧ Frame [.bus] [] [] s t))
      ∧ (granted ∧ size = 4 ∧ kind = .write ∧ a = 0x400E0028 → Does go s (fun t =>
        t.get Reg.TRI_SPLIT_ENTRY_B_ENTRY = x / 2 ∧ Frame [] [] [Reg.TRI_SPLIT_ENTRY_B_ENTRY] s t))
      ∧ (granted ∧ size = 4 ∧ kind ≠ .write ∧ a = 0x400E0028 → Does go s (fun t =>
        t.bus.readData = 2 * s.get Reg.TRI_SPLIT_ENTRY_B_ENTRY ∧ Frame [.bus] [] [] s t))
      ∧ (gated → Does go s (fun t => t = s))
      ∧ (∀ cause ∈ s.coreStops m kind size a, stops ∧ ¬gated → Does go s (fun t =>
        (∀ x : Fin 3, s.get Reg.TRI_MODE_MODE ≠ 2 ∨ x.val = m.val → (t.core x).word 41 = cause ∧ (t.core x).word 42 = a
          ∧ (t.core x).word 40 = (s.core x).word pcPlace ∧ (t.core x).word pcPlace = (s.core x).word 38 / 4 * 4 ∧ (t.core x).priv = 3)
        ∧ Frame [.tri] [] [] s t))
      ∧ (m.val ≤ 2 ∧ kind = .read ∧ a % size ≠ 0 → s.coreStops m kind size a = some 4)
      ∧ (m.val ≤ 2 ∧ kind = .write ∧ a % size ≠ 0 → s.coreStops m kind size a = some 6)
      ∧ (granted ∧ r = .regs ∧ Reg.blockOf a = 16 ∧ size < 4 → Does go s (fun t => (kind ≠ .write →
          t.bus.readData = s.readWord m (a / 4 * 4) / 2 ^ (8 * (a % 4)) % 2 ^ (8 * size))
        ∧ Frame (.bus :: Part.ofFault) Win.ofFault [Reg.MEM_VIOL_CNT_COUNT, Reg.MEM_VIOL_INFO_VALID, Reg.MEM_VIOL_INFO_MASTER,
            Reg.MEM_VIOL_INFO_TYPE, Reg.MEM_VIOL_ADDR_ADDR] s t))
      ∧ (¬gated ∧ ¬stops ∧ ¬granted → Does go s (fun t => (kind ≠ .write ∧ Reg.blockOf a ≠ 16 → t.bus.readData = 0)
        ∧ (12 < m.val → Frame [.bus] [] [] s t)
        ∧ (m.val ≤ 12 → t.get Reg.MEM_VIOL_CNT_COUNT = min (s.get Reg.MEM_VIOL_CNT_COUNT + 1) 0xFFFFFFFF
          ∧ (s.get Reg.MEM_VIOL_INFO_VALID = 0 → t.get Reg.MEM_VIOL_INFO_VALID = 1 ∧ t.get Reg.MEM_VIOL_INFO_MASTER = m.val
            ∧ t.get Reg.MEM_VIOL_INFO_TYPE = (match kind with | .read => 0 | .write => 1 | .fetch => 2) ∧ t.get Reg.MEM_VIOL_ADDR_ADDR = a
            ∧ t.fltBit Reg.FLT_SRC_SRC 66 = true)
          ∧ Frame (.bus :: Part.ofFault) Win.ofFault [Reg.MEM_VIOL_CNT_COUNT, Reg.MEM_VIOL_INFO_VALID, Reg.MEM_VIOL_INFO_MASTER,
            Reg.MEM_VIOL_INFO_TYPE, Reg.MEM_VIOL_ADDR_ADDR] s t)))
      ∧ (granted ∧ r = .sram ∧ s.get Reg.FLT_INJ_CTRL_ARM ≠ 0 ∧ s.get Reg.FLT_INJ_CTRL_CHK = 2 ∧ s.get Reg.FLT_INJ_ARG_ARG = a / 4 * 4
          ∧ (kind ≠ .write ∨ size < 4) → Does go s (fun t => t.get Reg.FLT_INJ_CTRL_ARM = 0 ∧ t.get Reg.FLT_INJ_CTRL_DONE = 1
        ∧ (s.get Reg.FLT_INJ_CTRL_NBIT ≠ 2 → t.get Reg.MEM_ECC_CNT_CORR = min (s.get Reg.MEM_ECC_CNT_CORR + 1) 0xFFFF
          ∧ (kind = .write → t.bytesAt a size = x))
        ∧ (s.get Reg.FLT_INJ_CTRL_NBIT = 2 → t.get Reg.MEM_ECC_CNT_UNCORR = min (s.get Reg.MEM_ECC_CNT_UNCORR + 1) 0xFFFF
          ∧ t.fltBit Reg.FLT_SRC_SRC 67 = true ∧ t.mem = s.mem)
        ∧ (kind ≠ .write → t.bus.readData = s.bytesAt a size ∧ t.mem = s.mem)))
      ∧ (a + 4 < 0x100000000 → Does (.registerWrite (.one ⟨m, .write, 8, w, v⟩)) s (fun t => ∃ u,
        exec (.registerWrite (.one ⟨m, .write, 4, w, v &&& 0xFFFFFFFF⟩)) s = .next u ∧ exec (.registerWrite (.one ⟨m, .write, 4, w + 4, v >>> 32⟩)) u = .next t)))
    ∧ (∀ (x y : BusAccess), (∃ u, exec (.registerWrite (.one x)) s = .next u ∧ ∃ v, exec (.registerWrite (.one y)) u = .next v) ∧
      Does (.registerWrite (.both x y)) s (fun t => (regionOf x.addr.toNat = .unassigned ∧ regionOf y.addr.toNat = .unassigned →
        (∃ u, exec (.registerWrite (.one x)) s = .next u ∧ exec (.registerWrite (.one y)) u = .next t)
          ∨ ∃ u, exec (.registerWrite (.one y)) s = .next u ∧ exec (.registerWrite (.one x)) u = .next t)))
    ∧ (∀ (m : Fin 32) (w : Word) (d : List Word), Does (.registerWrite (.burst m w d)) s (fun t => (d = [] → t = s)
      ∧ ∀ v rest, d = v :: rest → ∃ u, exec (.registerWrite (.one ⟨m, .write, 4, w, v.setWidth 64⟩)) s = .next u))
    ∧ (∀ (f : Fin 16) (v : Word), let here : Prop := f = 0 ∨ s.hst.vfEnable = true ∧ f.val ≤ s.hst.numVfs
      let set_ (g : ConfigReg) := Instr.registerWrite (.config f g (some v))
      let read_ (g : ConfigReg) (x : Nat) : Prop := Does (.registerWrite (.config f g none)) s (fun t => t.bus.readData = x ∧ Frame [.bus] [] [] s t)
      (¬here → ∀ g, Does (set_ g) s (fun t => t = s) ∧ Does (.registerWrite (.config f g none)) s (fun t => t = s))
      ∧ (here → read_ .identity ((if f = 0 then 0x0096 else 0x0097) * 0x10000 + 0x1E96) ∧ read_ .classCode 0x118000
        ∧ read_ .msixControl (7 + (if (s.tenant f).functionMask then 0x4000 else 0) + (if (s.tenant f).msixEnable then 0x8000 else 0))
        ∧ Does (set_ .msixControl) s (fun t => (t.tenant f).msixEnable = v.getLsbD 15 ∧ (t.tenant f).functionMask = v.getLsbD 14
          ∧ Frame [.hst, .out] [] [] s t))
      ∧ (f = 0 → read_ .totalVfs 15 ∧ read_ .vfOffset 1 ∧ read_ .vfStride 1 ∧ read_ .vfDevice 0x0097
        ∧ (s.hst.vfEnable = false ∧ v.toNat % 0x10000 ≤ 15 → Does (set_ .numVfs) s (fun t => t.hst.numVfs = v.toNat % 0x10000 ∧ Frame [.hst] [] [] s t))
        ∧ Does (set_ .vfControl) s (fun t => t.hst.vfEnable = v.getLsbD 0
          ∧ (v.getLsbD 0 = false ∧ s.hst.vfEnable = true → ∀ x : Fin 16, 1 ≤ x.val ∧ x.val ≤ s.hst.numVfs → t.tenState x = 3)
          ∧ (v.getLsbD 0 = true ∨ s.hst.vfEnable = false → Frame [.hst] [] [] s t))))
    ∧ (∀ (g f : Fin 16) (e : BitVec 8) (arg : Word), Does (.registerWrite (.mgcEvent g e f arg)) s (fun t => Frame [.hst, .out] [] [Reg.HST_T_STAT_EVOVF g] s t
      ∧ (s.get (ringEn g 8) ≠ 0 ∧ (s.ring g 8).failed = false ∧ s.ringFull g 8 = true → t.get (Reg.HST_T_STAT_EVOVF g) = 1)))
    ∧ (∀ (m k : Fin 32) (w a : Word),
      (isLo w.toNat = true → Does (.registerPairLoRead m w) s (fun t => t.bus.readData = s.liveWord w.toNat
        ∧ t.readWord m (w.toNat + 4) = s.liveWord (w.toNat + 4)
        ∧ (k ≠ m ∨ a ≠ w → t.snap a.toNat k = s.snap a.toNat k) ∧ Frame [.bus] [] [] s t))
      ∧ (isLo w.toNat = false → Does (.registerPairLoRead m w) s (fun t => t = s)))
    ∧ Does .memEccCntRead s (fun t => t.bus.readData = s.get Reg.MEM_ECC_CNT_CORR * 65536 + s.get Reg.MEM_ECC_CNT_UNCORR
      ∧ t.get Reg.MEM_ECC_CNT_CORR = 0 ∧ t.get Reg.MEM_ECC_CNT_UNCORR = 0
      ∧ Frame [.bus] [] [Reg.MEM_ECC_CNT_CORR, Reg.MEM_ECC_CNT_UNCORR] s t)
    ∧ (let runs : Prop := s.get Reg.MEM_CTRL_BTEN ≠ 0 ∧ s.inKickstand = false
      let at_ := s.get Reg.MEM_BT_STAT_REGION
      let hidden : Prop := regionOf (testAddress at_) = .hamper ∧ s.get Reg.MEM_HAMPER_HSTATE ≠ 0
      let r := if hidden then 64512 else at_
      let a := testAddress r
      let used : Prop := ∃ u ∈ tblGet none s.bus.touched r, max s.now s.memt.nextStep < u + 512
      let next (t : State) : Prop := t.get Reg.MEM_BT_STAT_REGION = (r + 1) % 65536
        ∧ t.get Reg.MEM_BT_CNT_PASSES = min (s.get Reg.MEM_BT_CNT_PASSES + (if r = 65535 then 1 else 0)) 0xFFFF
      let deferred (t : State) : Prop := t.get Reg.MEM_BT_STAT_REGION = r
        ∧ t.get Reg.MEM_BT_CNT_DEFER = min (s.get Reg.MEM_BT_CNT_DEFER + 1) 0xFFFF
        ∧ Frame [.cad, .memt] [] [Reg.MEM_BT_CNT_DEFER, Reg.MEM_BT_STAT_REGION] s t
      (¬runs → ∀ u d, Does (.backgroundTestStep u d) s (fun t => t = s) ∧ Does .backgroundTestStepTimeout s (fun t => t = s))
      ∧ (runs → Does .backgroundTestStepTimeout s (fun t => t.get Reg.MEM_BT_STAT_REGION = at_
        ∧ t.get Reg.MEM_BT_CNT_DEFER = min (s.get Reg.MEM_BT_CNT_DEFER + 1) 0xFFFF ∧ Frame [.cad, .memt] [] [Reg.MEM_BT_CNT_DEFER] s t)
        ∧ ∀ u d : Bool,
        (u = true ∨ used → Does (.backgroundTestStep u d) s deferred)
        ∧ (¬used → Does (.backgroundTestStep false d) s next)
        ∧ (¬used ∧ s.get Reg.FLT_INJ_CTRL_ARM = 0 → Does (.backgroundTestStep false d) s (fun t => next t
          ∧ t.get Reg.MEM_BT_STAT_FAIL = (if d then 1 else s.get Reg.MEM_BT_STAT_FAIL)
          ∧ t.get Reg.MEM_BT_FAIL_ADDR = (if d = true ∧ s.get Reg.MEM_BT_STAT_FAIL = 0 then a else s.get Reg.MEM_BT_FAIL_ADDR)
          ∧ (d = true → t.fltBit Reg.FLT_SRC_SRC 68 = true)
          ∧ Frame ([.cad, .memt] ++ Part.ofFault) Win.ofFault [Reg.MEM_BT_STAT_REGION, Reg.MEM_BT_CNT_PASSES, Reg.MEM_BT_STAT_FAIL,
            Reg.MEM_BT_FAIL_ADDR] s t))))
    ∧ (∀ cause : Fin 8,
      (1 ≤ cause.val ∧ cause.val ≤ 3 → Does (.hamperWipe cause) s (fun t =>
        (∀ b : Nat, t.byteAt b = if 0x12000000 ≤ b ∧ b ≤ 0x1203FFFF then 0 else s.byteAt b)
        ∧ t.get Reg.MEM_HAMPER_WIPECNT = min (s.get Reg.MEM_HAMPER_WIPECNT + 1) 0xFFFF ∧ t.get Reg.MEM_HAMPER_CAUSE = cause.val
        ∧ t.get Reg.MEM_HAMPER_HSTATE = 1
        ∧ Frame [.mem, .memt] [] [Reg.MEM_HAMPER_WIPECNT, Reg.MEM_HAMPER_CAUSE, Reg.MEM_HAMPER_HSTATE] s t))
      ∧ (cause.val = 0 ∨ 3 < cause.val → Does (.hamperWipe cause) s (fun t => t = s)))
    ∧ (∀ ok : Bool, (s.get Reg.MEM_HAMPER_HSTATE ≠ 1 ∨ s.pwr.main ≠ .on → Does (.hamperVerifyComplete ok) s (fun t => t = s))
      ∧ (s.get Reg.MEM_HAMPER_HSTATE = 1 ∧ s.pwr.main = .on ∧ ok = true → Does (.hamperVerifyComplete ok) s (fun t =>
        t.get Reg.MEM_HAMPER_HSTATE = (if s.memt.hamperClosed then 3 else 0) ∧ Frame [.cad, .memt] [] [Reg.MEM_HAMPER_HSTATE] s t))
      ∧ (s.get Reg.MEM_HAMPER_HSTATE = 1 ∧ s.pwr.main = .on ∧ ok = false → Does (.hamperVerifyComplete ok) s (fun t =>
        t.get Reg.MEM_HAMPER_HSTATE = 4 ∧ t.fltBit Reg.FLT_SRC_SRC 8 = true
        ∧ Frame ([.cad, .memt] ++ Part.ofFault ++ Part.ofTrip) (Win.ofFault ++ Win.ofTrip) [Reg.MEM_HAMPER_HSTATE] s t)))

/-- A report of a reserved source changes nothing, one of a source whose bit is set shows in ACT alone; any other sets the bit, INFO and its
class counter, starts the timer of its class, is captured where none is held, or a lesser one of the same clock, and its class reaches
CAPMIN (with its access for sources 30, 66, 67, 69), and takes its class reaction: interrupt 7 from Recoverable, FAULT_N low from Serious,
the block reaction if Fatal. Other sources keep theirs. An invalid pair latches its source and source 0 and stays active while it is
broken. An expiry of a running timer sets ESCD and adds the next reaction; otherwise it does nothing. FAULT_N is high exactly while the
main domain is powered and nothing holds it low; a differing level latches source 1. Completes: faultReport, railPairInvalid,
escalationExpiry, faultNReadbackMismatch. (R375, R376, R377, R378, R379, R380, R383, R388, R389.) -/
def Obligations.FaultsLatchWithTheirClassReaction : Prop :=
  ∀ (s : State),
    let reserved (n : Nat) : Prop := 9 ≤ n ∧ n ≤ 15 ∨ n = 31 ∨ 59 ≤ n ∧ n ≤ 63 ∨ 71 ≤ n ∧ n ≤ 79 ∨ 93 ≤ n ∧ n ≤ 95
    let note : List Nat := [4, 16, 33, 34, 35, 37, 38, 41, 42, 43, 44, 49, 50, 52, 64, 65, 66, 69, 85, 86, 91, 92]
    let serious : List Nat := [0, 1, 3, 5, 6, 17, 18, 20, 21, 22, 23, 24, 25, 26, 27, 30, 32, 39, 47, 58, 67, 68, 81, 82, 84, 89]
    let fatal : List Nat := [2, 8, 54, 57]
    let cls (n : Nat) : Nat := if reserved n then 0 else if n ∈ note then 1 else if n ∈ serious then 3 else if n ∈ fatal then 4 else 2
    let src (n : Nat) (t : State) : Bool := t.fltBit Reg.FLT_SRC_SRC n
    let ack (n : Nat) (t : State) : Bool := t.fltBit Reg.FLT_ACK_ACK n
    let escd (n : Nat) (t : State) : Bool := t.fltBit Reg.FLT_ESCD_ESCD n
    let first (n master type addr : Nat) (forced : Bool) (t : State) : Prop := t.get Reg.FLT_FIRST_VALID = 1 ∧ t.get Reg.FLT_FIRST_SRC = n
      ∧ t.get Reg.FLT_FIRST_CLASS = cls n ∧ t.get Reg.FLT_FIRST_FORCED = (if forced then 1 else 0) ∧ t.get Reg.FLT_FIRST_MASTER = master
      ∧ t.get Reg.FLT_FIRST_TYPE = type ∧ t.get Reg.FLT_FIRST_ADDR_VALUE = addr
      ∧ t.get64 Reg.FLT_FIRST_TS_LO_VALUE Reg.FLT_FIRST_TS_HI_VALUE = s.now % 0x10000000000000000
    let keeps (k : Nat) (t : State) : Prop := src k t = src k s ∧ ack k t = ack k s ∧ escd k t = escd k s
      ∧ t.get (Reg.FLT_INFO_INFO k) = s.get (Reg.FLT_INFO_INFO k) ∧ t.escTimer k = s.escTimer k
    let blocked (t : State) : Prop := t.tripFlag 28 = true ∧ t.get Reg.TRP_PULSE_EN_EN = 0
      ∧ t.get Reg.TRI_STAT_STATE = (if s.get Reg.TRI_STAT_STATE = 5 then 5 else 3)
    let small (t : State) : Prop := Frame Part.ofFault Win.ofFault [] s t
    let large (t : State) : Prop := Frame (Part.ofFault ++ Part.ofTrip) (Win.ofFault ++ Win.ofTrip) [] s t
    (s.faultNHigh = true ↔ s.pwr.main = .on ∧ ∀ n : Fin 256, src n s = true → cls n < 3 ∧ (cls n = 2 → escd n s = false))
    ∧ (∀ (n : Fin 256) (info : Word) (access : Option ReportedAccess),
      let report := Instr.faultReport n info access
      let kind (a : ReportedAccess) : Nat := match a.kind with | .read => 0 | .write => 1 | .fetch => 2
      let captured : Prop := s.get Reg.FLT_CTRL_CAPMIN ≤ cls n ∧ (s.get Reg.FLT_FIRST_VALID = 0
        ∨ s.get64 Reg.FLT_FIRST_TS_LO_VALUE Reg.FLT_FIRST_TS_HI_VALUE = s.now % 0x10000000000000000
          ∧ (s.get Reg.FLT_FIRST_CLASS < cls n ∨ s.get Reg.FLT_FIRST_CLASS = cls n ∧ n < s.get Reg.FLT_FIRST_SRC))
      (cls n = 0 → Does report s (fun t => t = s))
      ∧ (cls n ≠ 0 ∧ src n s = true → Does report s (fun t => t.faultAct n = true ∧ (∀ k : Fin 256, keeps k t) ∧ Frame [.flt] [] [] s t))
      ∧ (cls n ≠ 0 ∧ src n s = false → Does report s (fun t => src n t = true ∧ t.faultAct n = true ∧ t.get (Reg.FLT_INFO_INFO n) = info.toNat
        ∧ (∀ k : Fin 4, cls n = k.val + 1 → t.get (⟨Reg.FLT_CNT_NOTE.addr, 8 * k, 8⟩ : Fld) = min (s.get (⟨Reg.FLT_CNT_NOTE.addr, 8 * k, 8⟩ : Fld) + 1) 0xFF)
        ∧ t.escTimer n = ⟨s.now, match cls n with
          | 1 => s.get Reg.FLT_ESC0_TMO_N | 2 => s.get Reg.FLT_ESC1_TMO_R | 3 => s.get Reg.FLT_ESC1_TMO_S | _ => 0⟩
        ∧ (captured →
          (n.val ∉ [30, 66, 67, 69] ∨ access = none → first n 0 3 info.toNat false t)
          ∧ ∀ a, n.val ∈ [30, 66, 67, 69] ∧ access = some a → first n a.master (kind a) a.addr.toNat false t)
        ∧ (¬captured → t.get Reg.FLT_FIRST_SRC = s.get Reg.FLT_FIRST_SRC
          ∧ t.get Reg.FLT_FIRST_VALID = s.get Reg.FLT_FIRST_VALID)
        ∧ (2 ≤ cls n → ∀ x : Fin 3, (t.core x).irqpend.testBit 7 = true)
        ∧ (3 ≤ cls n → t.faultNHigh = false ∧ (s.faultNHigh = true → t.get Reg.FLT_STAT_PIN = 0))
        ∧ (cls n = 4 → blocked t) ∧ (cls n < 4 → small t) ∧ large t
        ∧ ∀ k : Fin 256, k ≠ n → keeps k t)))
    ∧ (∀ (n : Fin 256) (stays : Bool),
      let pair := Instr.railPairInvalid n stays
      let bad : Prop := n.val ∈ s.flt.railBad
      (cls n = 0 ∨ bad ∧ stays = true → Does pair s (fun t => t = s))
      ∧ (cls n ≠ 0 ∧ bad ∧ stays = false → Does pair s (fun t => n.val ∉ t.flt.railBad
        ∧ (∀ k : Fin 256, k ≠ n → (k.val ∈ t.flt.railBad ↔ k.val ∈ s.flt.railBad)) ∧ Frame [.flt] [] [] s t))
      ∧ (cls n ≠ 0 ∧ ¬bad → Does pair s (fun t => src n t = true ∧ src 0 t = true
        ∧ (s.get Reg.FLT_RAIL_VALID = 0 → t.get Reg.FLT_RAIL_VALID = 1 ∧ t.get Reg.FLT_RAIL_SRC = n)
        ∧ (s.get Reg.FLT_RAIL_VALID ≠ 0 → t.get Reg.FLT_RAIL_SRC = s.get Reg.FLT_RAIL_SRC)
        ∧ (src 0 s = false → t.get (Reg.FLT_INFO_INFO 0) = n) ∧ (stays = true → t.faultAct n = true ∧ t.faultAct 0 = true)
        ∧ t.faultNHigh = false ∧ (cls n < 4 ∨ src n s = true → small t) ∧ (cls n = 4 ∧ src n s = false → blocked t) ∧ large t
        ∧ ∀ k : Fin 256, k ≠ n ∧ k ≠ 0 → keeps k t)))
    ∧ (∀ n : Fin 256,
      let timer := s.escTimer n
      let runs : Prop := timer.tmo ≠ 0 ∧ src n s = true ∧ s.flt.frozenAt = none
      (¬runs → Does (.escalationExpiry n) s (fun t => t = s))
      ∧ (runs → Does (.escalationExpiry n) s (fun t => escd n t = true ∧ (t.escTimer n).tmo = 0 ∧ t.now = ((s.reach (timer.start + 40000 * timer.tmo)).now + 1) % 0x10000000000000000
        ∧ src n t = true ∧ (∀ k : Fin 256, k ≠ n → keeps k t)
        ∧ (cls n = 1 → (∀ x : Fin 3, (t.core x).irqpend.testBit 7 = true) ∧ Frame [.cad, .flt, .tri, .out] [] [Reg.FLT_ESCD_ESCD (n / 32)] s t)
        ∧ (cls n = 2 → t.faultNHigh = false ∧ Frame [.cad, .flt, .out] [] [Reg.FLT_ESCD_ESCD (n / 32), Reg.FLT_STAT_PIN] s t)
        ∧ (cls n = 3 → blocked t ∧ Frame (.cad :: .flt :: Part.ofTrip) Win.ofTrip [Reg.FLT_ESCD_ESCD (n / 32)] s t))))
    ∧ (∀ level : Bool, Does (.faultNReadbackMismatch level) s (fun t => t.get Reg.FLT_STAT_PIN = (if level then 1 else 0)
      ∧ (level = s.faultNHigh → Frame [] [] [Reg.FLT_STAT_PIN] s t)
      ∧ (level ≠ s.faultNHigh → src 1 t = true ∧ t.faultNHigh = false ∧ small t ∧ ∀ k : Fin 256, k.val ≠ 1 → keeps k t)))

/-- A 1 written to FLT_ACK handles a latched source: ACK is set and its timer stops. A 1 written to FLT_SRC clears a source whose ACT is 0,
with its ACK, ESCD and timer, and counts a refusal where ACT is 1; the pin goes high when the last holder goes. A write to FLT_FORCE gives
every source in use its bit; a source newly forced latches with INFO 0, and of these the highest class and lowest number is captured as
forced by the writing master. An arming write is ignored where it names a reserved checker, NBIT or source, the voter outside TRIPLEX, or
finds ARM set; else it takes CHK and NBIT and arms, and a rail injection latches its source and source 0, active for 8 clocks. CANCEL
disarms; LOCK is set. Completes: fltAckWrite, fltSrcClear, fltForceWrite, arm, cancel, fltLock. (R375, R379, R380, R381, R383, R384, R386,
R387.) -/
def Obligations.FaultsAreHandledClearedAndForced : Prop :=
  ∀ (s : State),
    let reserved (n : Nat) : Prop := 9 ≤ n ∧ n ≤ 15 ∨ n = 31 ∨ 59 ≤ n ∧ n ≤ 63 ∨ 71 ≤ n ∧ n ≤ 79 ∨ 93 ≤ n ∧ n ≤ 95
    let note : List Nat := [4, 16, 33, 34, 35, 37, 38, 41, 42, 43, 44, 49, 50, 52, 64, 65, 66, 69, 85, 86, 91, 92]
    let serious : List Nat := [0, 1, 3, 5, 6, 17, 18, 20, 21, 22, 23, 24, 25, 26, 27, 30, 32, 39, 47, 58, 67, 68, 81, 82, 84, 89]
    let fatal : List Nat := [2, 8, 54, 57]
    let cls (n : Nat) : Nat := if reserved n then 0 else if n ∈ note then 1 else if n ∈ serious then 3 else if n ∈ fatal then 4 else 2
    let src (n : Nat) (t : State) : Bool := t.fltBit Reg.FLT_SRC_SRC n
    let ack (n : Nat) (t : State) : Bool := t.fltBit Reg.FLT_ACK_ACK n
    let escd (n : Nat) (t : State) : Bool := t.fltBit Reg.FLT_ESCD_ESCD n
    let first (n master type addr : Nat) (forced : Bool) (t : State) : Prop := t.get Reg.FLT_FIRST_VALID = 1 ∧ t.get Reg.FLT_FIRST_SRC = n
      ∧ t.get Reg.FLT_FIRST_CLASS = cls n ∧ t.get Reg.FLT_FIRST_FORCED = (if forced then 1 else 0) ∧ t.get Reg.FLT_FIRST_MASTER = master
      ∧ t.get Reg.FLT_FIRST_TYPE = type ∧ t.get Reg.FLT_FIRST_ADDR_VALUE = addr
      ∧ t.get64 Reg.FLT_FIRST_TS_LO_VALUE Reg.FLT_FIRST_TS_HI_VALUE = s.now % 0x10000000000000000
    let keeps (k : Nat) (t : State) : Prop := src k t = src k s ∧ ack k t = ack k s ∧ escd k t = escd k s
      ∧ t.get (Reg.FLT_INFO_INFO k) = s.get (Reg.FLT_INFO_INFO k) ∧ t.escTimer k = s.escTimer k
    let blocked (t : State) : Prop := t.tripFlag 28 = true ∧ t.get Reg.TRP_PULSE_EN_EN = 0
      ∧ t.get Reg.TRI_STAT_STATE = (if s.get Reg.TRI_STAT_STATE = 5 then 5 else 3)
    let small (t : State) : Prop := Frame Part.ofFault Win.ofFault [] s t
    let large (t : State) : Prop := Frame (Part.ofFault ++ Part.ofTrip) (Win.ofFault ++ Win.ofTrip) [] s t
    (∀ (j : Fin 8) (v : Word),
      let named (n : Fin 256) : Prop := n.val / 32 = j.val ∧ v.getLsbD (n % 32) = true
      let acks (n : Fin 256) : Prop := named n ∧ src n s = true
      Does (.fltAckWrite j v) s (fun t => (∀ n : Fin 256, (acks n → ack n t = true ∧ (t.escTimer n).tmo = 0)
          ∧ (¬acks n → ack n t = ack n s ∧ t.escTimer n = s.escTimer n)) ∧ Frame [.flt] [] [Reg.FLT_ACK_ACK j] s t)
      ∧ (let tried (n : Fin 256) : Prop := named n ∧ src n s = true
        let refused := ((List.range 32).filter (fun b => v.getLsbD b && src (32 * j + b) s && s.faultAct (32 * j + b))).length
        Does (.fltSrcClear j v) s (fun t => (∀ n : Fin 256,
            (tried n ∧ s.faultAct n = false → src n t = false ∧ ack n t = false ∧ escd n t = false ∧ (t.escTimer n).tmo = 0)
            ∧ (¬tried n ∨ s.faultAct n = true → keeps n t))
          ∧ t.get Reg.FLT_CLR_REF_COUNT = min (s.get Reg.FLT_CLR_REF_COUNT + refused) 0xFFFFFFFF
          ∧ t.get Reg.FLT_STAT_PIN = (if s.faultNHigh = false ∧ t.faultNHigh = true then 1 else s.get Reg.FLT_STAT_PIN)
          ∧ (s.faultNHigh = true → t.faultNHigh = true)
          ∧ t.now = (s.now + 1) % 0x10000000000000000
          ∧ Frame [.cad, .flt, .out] [] [Reg.FLT_SRC_SRC j, Reg.FLT_ACK_ACK j, Reg.FLT_ESCD_ESCD j, Reg.FLT_CLR_REF_COUNT, Reg.FLT_STAT_PIN] s t))
      ∧ (∀ m : Fin 32,
        let fresh (n : Fin 256) : Prop := named n ∧ cls n ≠ 0 ∧ s.fltBit Reg.FLT_FORCE_FORCE n = false ∧ src n s = false
        Does (.fltForceWrite m j v) s (fun t => (∀ n : Fin 256,
            (n.val / 32 = j.val → (t.fltBit Reg.FLT_FORCE_FORCE n = true ↔ named n ∧ cls n ≠ 0))
            ∧ (fresh n → src n t = true ∧ t.get (Reg.FLT_INFO_INFO n) = 0 ∧ t.faultAct n = true
              ∧ (3 ≤ cls n → t.faultNHigh = false) ∧ (cls n = 4 → blocked t))
            ∧ (¬fresh n → keeps n t)
            ∧ (s.get Reg.FLT_FIRST_VALID = 0 ∧ fresh n ∧ s.get Reg.FLT_CTRL_CAPMIN ≤ cls n
              ∧ (∀ k : Fin 256, fresh k → cls k < cls n ∨ cls k = cls n ∧ n ≤ k) → first n m 3 0 true t))
          ∧ ((∀ n : Fin 256, fresh n → cls n < 4) → small t) ∧ large t
          ∧ ((∀ n : Fin 256, ¬fresh n) → Frame [.flt] [] [Reg.FLT_FORCE_FORCE j] s t))))
    ∧ (∀ v : Word,
      let checker := v.toNat % 32
      let nbit := v.toNat / 256 % 4
      let arg := s.get Reg.FLT_INJ_ARG_ARG
      let ignored : Prop := s.get Reg.FLT_INJ_CTRL_ARM ≠ 0 ∨ checker = 0 ∨ 16 < checker ∨ checker ≤ 8 ∧ (nbit = 0 ∨ nbit = 3)
        ∨ checker = 15 ∧ (255 < arg ∨ cls arg = 0) ∨ checker = 13 ∧ s.get Reg.TRI_STAT_STATE ≠ 1
      let taken (t : State) : Prop := t.get Reg.FLT_INJ_CTRL_CHK = checker
        ∧ t.get Reg.FLT_INJ_CTRL_NBIT = (if nbit = 1 ∨ nbit = 2 then nbit else s.get Reg.FLT_INJ_CTRL_NBIT)
      let fields : List Fld := [Reg.FLT_INJ_CTRL_ARM, Reg.FLT_INJ_CTRL_CHK, Reg.FLT_INJ_CTRL_NBIT, Reg.FLT_INJ_CTRL_DONE]
      (ignored → Does (.arm v) s (fun t => t = s))
      ∧ (¬ignored ∧ (checker ≠ 15 ∨ v.getLsbD 30 = true) → Does (.arm v) s (fun t => taken t
        ∧ t.get Reg.FLT_INJ_CTRL_ARM = (if v.getLsbD 30 then 0 else 1)
        ∧ t.get Reg.FLT_INJ_CTRL_DONE = (if v.getLsbD 29 then 0 else s.get Reg.FLT_INJ_CTRL_DONE) ∧ Frame [] [] fields s t))
      ∧ (¬ignored ∧ checker = 15 ∧ v.getLsbD 30 = false → Does (.arm v) s (fun t => taken t ∧ t.get Reg.FLT_INJ_CTRL_ARM = 0
        ∧ t.get Reg.FLT_INJ_CTRL_DONE = 1 ∧ src arg t = true ∧ src 0 t = true ∧ t.faultAct arg = true ∧ t.faultAct 0 = true
        ∧ State.pairBad { t with cad := { t.cad with time := s.now + 8 } } arg = s.flt.railBad.contains arg
        ∧ (cls arg < 4 → Frame (.cad :: Part.ofFault) Win.ofFault [] s t)
        ∧ Frame (.cad :: Part.ofFault ++ Part.ofTrip) (Win.ofFault ++ Win.ofTrip) [] s t)))
    ∧ Does .cancel s (fun t => t.get Reg.FLT_INJ_CTRL_ARM = 0 ∧ Frame [] [] [Reg.FLT_INJ_CTRL_ARM] s t)
    ∧ Does .fltLock s (fun t => t.get Reg.FLT_CTRL_LOCK = 1 ∧ Frame [] [] [Reg.FLT_CTRL_LOCK] s t)

/-- SAFE_EN changes its level the filter time after its last change at the earliest; where it opens function 0 demands; where it closes after
10 ms or more open since power-on reset STARTOK is set. The onset of a demand sets DEMF, latches source 29 for every arm and raises source
82. DEMAND is an onset of function 0 in Voted mode, SPD_TIMEOUT of function 4 at TDIR. A change of limits waits for the first tick start
40 counts later. A write to SAF by another master than 0, or outside Voted mode, is a violation; reserved values and FMIN at or above FMAX
leave the register; after LOCK only tighter limits are taken and refusals counted. Reading SAF_STAT and SAF_Cc_CNT clears their counters.
Completes: safeEnChange, demand, spdTimeout, safLimitChangeEffect, safLock, safRegisterWrite, safReadCounters. (R391, R392, R393, R394,
R397, R398, R399, R400, R401, R416.) -/
def Obligations.SafetyFunctionsDemandAndLock : Prop :=
  ∀ (s : State),
    let onset (f : Nat) (t : State) : Prop := t.bit Reg.SAF_STAT_DEMF f = true ∧ t.tripFlag 29 = true ∧ t.get Reg.TRP_PULSE_EN_EN = 0
      ∧ t.fltBit Reg.FLT_SRC_SRC 82 = true
    let judged (t : State) : Prop := t.get Reg.SAF_STAT_DEMACT = t.demactNow
      ∧ ∀ f : Fin 5, t.demactNow.testBit f = true ∧ s.bit Reg.SAF_STAT_DEMACT f = false → onset f t
    let frame (ps : List Part) (fs : List Fld) (t : State) : Prop :=
      Frame (.saf :: ps ++ Part.ofFault ++ Part.ofTrip) (Win.ofFault ++ Win.ofTrip) ([Reg.SAF_STAT_DEMACT, Reg.SAF_STAT_DEMF] ++ fs) s t
    let limits (r : Nat) : List Fld := [[Reg.SAF_S_A_ILIM 0, Reg.SAF_S_A_VCELL 0], [Reg.SAF_S_B_VDC 0, Reg.SAF_S_B_PEXP 0],
      [Reg.SAF_S_D_PIMP 0, Reg.SAF_S_D_TDIR 0]].getD r []
    (∀ closed : Bool,
      let same : Prop := s.get Reg.SAF_STAT_SENLVL = (if closed then 1 else 0)
      (same → Does (.safeEnChange closed) s (fun t => t = s))
      ∧ (¬same ∧ s.get Reg.SAF_STAT_SENLVL ≤ 1 → Does (.safeEnChange closed) s (fun t => t.get Reg.SAF_STAT_SENLVL = (if closed then 1 else 0)
        ∧ (let at_ := (s.reach (s.saf.senSince + 100 * s.get Reg.SAF_CTRL_SENFLT)).now
          t.now = (if closed then (at_ + 1) % 0x10000000000000000 else at_) ∧ t.saf.senSince = at_ ∧ t.saf.openBefore = 0
          ∧ (closed = false → t.get Reg.SAF_STAT_DEMACT % 2 = 1 ∧ t.get Reg.SAF_STAT_STARTOK = s.get Reg.SAF_STAT_STARTOK)
          ∧ (closed = true → t.get Reg.SAF_STAT_STARTOK =
            (if 4000000 ≤ s.saf.openBefore + (at_ - s.saf.senSince) then 1 else s.get Reg.SAF_STAT_STARTOK)))
        ∧ (closed = false → judged t) ∧ frame [.cad] [Reg.SAF_STAT_SENLVL, Reg.SAF_STAT_STARTOK] t)))
    ∧ (let acts : Prop := s.voted = true ∧ s.demactNow % 2 = 0
      (acts → Does .demand s (fun t => onset 0 t ∧ frame [] [] t ∧ t.get Reg.SAF_STAT_DEMACT = s.get Reg.SAF_STAT_DEMACT))
      ∧ (¬acts → Does .demand s (fun t => t = s)))
    ∧ (s.saf.spdSince = none → Does .spdTimeout s (fun t => t = s))
    ∧ (∀ since, s.saf.spdSince = some since → Does .spdTimeout s (fun t => t.now = (s.reach (since + 400000 * s.safLimit Reg.SAF_S_D_TDIR)).now
      ∧ judged t ∧ (s.voted = true ∧ s.bit Reg.SAF_CTRL_FEN 4 = true → t.bit Reg.SAF_STAT_DEMACT 4 = true) ∧ frame [.cad] [] t))
    ∧ (let isDue (c : SafChange) : Bool := decide (s.get Reg.CAD_CTRL_RUN ≠ 0) && decide (c.time + 40 ≤ s.cad.tickStart)
      let due := s.saf.changes.filter isDue
      (due = [] → Does .safLimitChangeEffect s (fun t => t = s))
      ∧ (∀ c, due.getLast? = some c → Does .safLimitChangeEffect s (fun t => t.get Reg.SAF_STAT_SETUSE = (if c.select then 1 else 0)
        ∧ t.saf.changes = s.saf.changes.filter (fun x => !isDue x)
        ∧ (∀ x ∈ s.saf.changes, x = c → x.fields.Pairwise (fun p q => p.1.key ≠ q.1.key) → ∀ p ∈ x.fields, p.1 ≠ Reg.SAF_STAT_SETUSE
          ∧ fldBlock p.1 ∉ Win.ofTrip → t.get p.1 = p.2 % 2 ^ p.1.width)
        ∧ Frame (.saf :: Part.ofTrip) Win.ofTrip (Reg.SAF_STAT_SETUSE :: (due.flatMap (fun x => x.fields)).map (fun p => p.1)) s t)))
    ∧ (s.voted = true → Does .safLock s (fun t => t.get Reg.SAF_CTRL_LOCK = 1 ∧ Frame [] [] [Reg.SAF_CTRL_LOCK] s t))
    ∧ (s.voted = false → Does .safLock s (fun t => t = s))
    ∧ (∀ (m : Fin 32) (o : Fin 16384) (v : Word), s.voted = false ∨ m.val ≠ 0 → Does (.safRegisterWrite m o v) s (fun t =>
      (m.val ≤ 12 → t.get Reg.MEM_VIOL_CNT_COUNT = min (s.get Reg.MEM_VIOL_CNT_COUNT + 1) 0xFFFFFFFF)
      ∧ Frame Part.ofFault Win.ofFault [Reg.MEM_VIOL_CNT_COUNT, Reg.MEM_VIOL_INFO_VALID, Reg.MEM_VIOL_INFO_MASTER, Reg.MEM_VIOL_INFO_TYPE,
        Reg.MEM_VIOL_ADDR_ADDR] s t))
    ∧ (s.voted = true → ∀ v : Word,
      let write (o : Fin 16384) : Instr := Instr.safRegisterWrite 0 o v
      let locked : Prop := s.get Reg.SAF_CTRL_LOCK ≠ 0
      Does (write 4) s (fun t => t.get Reg.SAF_STAT_DEMF = s.get Reg.SAF_STAT_DEMF - (s.get Reg.SAF_STAT_DEMF &&& v.toNat % 32)
        ∧ Frame [] [] [Reg.SAF_STAT_DEMF] s t)
      ∧ (v.toNat / 0x10000 % 16 = 0 → Does (write 0) s (fun t => t = s))
      ∧ (v.toNat / 0x10000 % 16 ≠ 0 ∧ ¬locked → Does (write 0) s (fun t => t.get Reg.SAF_CTRL_FEN = v.toNat % 32 / 2 * 2 + 1
        ∧ t.get Reg.SAF_CTRL_SENFLT = v.toNat / 0x10000 % 16 ∧ t.get Reg.SAF_CTRL_REDSEL = v.toNat / 512 % 2
        ∧ t.get Reg.SAF_CTRL_LOCK = v.toNat / 0x80000000 ∧ (v.getLsbD 8 = true ∧ t.demactNow % 2 = 0 → onset 0 t) ∧ judged t
        ∧ frame [] [Reg.SAF_CTRL_FEN, Reg.SAF_CTRL_SENFLT, Reg.SAF_CTRL_REDSEL, Reg.SAF_CTRL_LOCK] t))
      ∧ (∀ k : Fin 2, v.toNat / 0x10000 ≤ v.toNat % 0x10000 → Does (write (Fin.ofNat 16384 (0x18 + 16 * k.val))) s (fun t => t = s))
      ∧ (∀ (k : Fin 2) (r : Fin 3),
        let hi : Fld := { (limits r).getD 0 Reg.SAF_IIN_IN with addr := 0x40130010 + 16 * k.val + (if r.val = 2 then 12 else 4 * r.val) }
        let lo : Fld := { (limits r).getD 1 Reg.SAF_IIN_IN with addr := hi.addr }
        let x := v.toNat / 0x10000
        let y := v.toNat % 0x10000
        let reserved : Prop := (x = 0 ∧ r ≠ 2) ∨ (y = 0 ∧ r ≠ 1)
        let takes (f : Fld) (n : Nat) : Prop := ¬locked ∨ n ≤ s.safAhead f
        let refusals := (if takes hi x then 0 else 1) + (if takes lo y then 0 else 1)
        (reserved → Does (write (Fin.ofNat 16384 hi.addr)) s (fun t => t = s))
        ∧ (¬reserved → Does (write (Fin.ofNat 16384 hi.addr)) s (fun t =>
          t.get Reg.SAF_STAT_LREJ = min (s.get Reg.SAF_STAT_LREJ + refusals) 0xFF
          ∧ (refusals = 2 → t.saf = s.saf)
          ∧ (refusals ≤ 1 → ∃ c ∈ t.saf.changes, t.saf.changes = s.saf.changes ++ [c] ∧ c.time = s.now ∧ c.fields.length + refusals = 2
            ∧ (takes hi x → (hi, x) ∈ c.fields) ∧ (takes lo y → (lo, y) ∈ c.fields))
          ∧ Frame [.saf] [] [Reg.SAF_STAT_LREJ] s t)))
      ∧ (let grows : Prop := ¬locked ∨ s.get Reg.SAF_IIN_IN &&& v.toNat = s.get Reg.SAF_IIN_IN
        Does (write 0x30) s (fun t => t.get Reg.SAF_IIN_IN = (if grows then v.toNat % 0x10000 else s.get Reg.SAF_IIN_IN)
          ∧ judged t ∧ frame [] [Reg.SAF_IIN_IN, Reg.SAF_STAT_LREJ] t))
      ∧ (∀ c : Fin 4, (s.get (Reg.SAF_C_CFG_EN c) = 0 ∧ ¬locked → Does (write (Fin.ofNat 16384 (0x100 + 32 * c.val))) s (fun t =>
          t.get (Reg.SAF_C_ID_CONNID c) = v.toNat ∧ Frame [] [] [Reg.SAF_C_ID_CONNID c] s t))
        ∧ (s.get (Reg.SAF_C_CFG_EN c) ≠ 0 → Does (write (Fin.ofNat 16384 (0x100 + 32 * c.val))) s (fun t => t = s))))
    ∧ Does (.safReadCounters .stat) s (fun t => t.get Reg.SAF_STAT_LREJ = 0 ∧ t.bus.readData = s.liveWord 0x40130004
      ∧ Frame [.bus] [] [Reg.SAF_STAT_LREJ] s t)
    ∧ (∀ c : Fin 4, Does (.safReadCounters (.conn c)) s (fun t => t.get (Reg.SAF_C_CNT_REJ c) = 0 ∧ t.get (Reg.SAF_C_CNT_EXP c) = 0
      ∧ t.bus.readData = s.get (Reg.SAF_C_CNT_REJ c) * 0x10000 + s.get (Reg.SAF_C_CNT_EXP c)
      ∧ Frame [.bus] [] [Reg.SAF_C_CNT_REJ c, Reg.SAF_C_CNT_EXP c] s t))

/-- A command PDU that fails one of the nine checks in their order is rejected with that reason: LASTREJ, REJ and source 80, nothing else; a
watchdog that has run out is taken first. An accepted one replaces PERMIT and REDUCED, makes its SEQ the last accepted, restarts the
watchdog, raises interrupt 16 and is answered by a status PDU with the device's SEQ; a RESTART sets the version and VALID. The watchdog of
a VALID connection leads to FAILSAFE with EXP counted and source 81. EN := 1 with a CONNID opens it in FAILSAFE, EN := 0 closes it unless
locked. A connection without PERMIT makes function 0 demand. Completes: safetyPduReceived, safetyWatchdogExpiry, safetyConnectionEnWrite.
(R394, R401, R402, R403, R404, R405, R406, R407.) -/
def Obligations.SafetyConnectionsJudgeTheirPdus : Prop :=
  ∀ (s : State) (c : Fin 4),
    let onset (f : Nat) (t : State) : Prop := t.bit Reg.SAF_STAT_DEMF f = true ∧ t.tripFlag 29 = true ∧ t.get Reg.TRP_PULSE_EN_EN = 0
      ∧ t.fltBit Reg.FLT_SRC_SRC 82 = true
    let judged (t : State) : Prop := t.get Reg.SAF_STAT_DEMACT = t.demactNow
      ∧ ∀ f : Fin 5, t.demactNow.testBit f = true ∧ s.bit Reg.SAF_STAT_DEMACT f = false → onset f t
    let frame (ps : List Part) (fs : List Fld) (t : State) : Prop :=
      Frame (.saf :: ps ++ Part.ofFault ++ Part.ofTrip) (Win.ofFault ++ Win.ofTrip) ([Reg.SAF_STAT_DEMACT, Reg.SAF_STAT_DEMF] ++ fs) s t
    let st := s.get (Reg.SAF_C_STAT_CSTATE c)
    let late : Prop := st = 2 ∧ (s.safConn c).lastAccept + 40000 * s.get (Reg.SAF_C_TIME_TEXP c) ≤ s.now
    (∀ (carrier : Fin 3) (tenant : Fin 16) (pdu : List Byte),
      let go := Instr.safetyPduReceived c carrier tenant pdu
      let b (i : Nat) : Nat := (pdu.getD i 0).toNat
      let field (i n : Nat) : Nat := (List.range n).foldl (fun x k => x + b (i + k) * 256 ^ k) 0
      let n := pdu.length
      let ver := b 0 / 16
      let restart : Prop := b 1 % 2 = 1
      let ahead := (field 2 2 + 0x10000 - s.get (Reg.SAF_C_STAT_SEQ c)) % 0x10000
      let age : Int := (s.now : Int) - field 24 8
      let bound : Int := 4000 * s.get (Reg.SAF_C_TIME_MAXAGE c)
      let passes (k : Nat) : Prop :=
        (k = 1 → (st ≠ 0 ∧ carrier.val ≠ 0 ∧ carrier.val = s.get (Reg.SAF_C_CFG_CARRIER c) ∧ (carrier.val = 1 → tenant.val = s.get (Reg.SAF_C_CFG_TEN c))))
        ∧ (k = 2 → ((n = 28 ∨ n = 36) ∧ (ver = 1 → n = 28) ∧ (ver = 2 → n = 36)))
        ∧ (k = 3 → (1 ≤ ver ∧ ver ≤ s.get (Reg.SAF_C_CFG_VERMAX c) ∧ (st = 2 → ver = s.get (Reg.SAF_C_STAT_VER c))))
        ∧ (k = 4 → (b 0 % 16 = 1 ∧ field 4 4 = s.get (Reg.SAF_C_ID_CONNID c)))
        ∧ (k = 5 → (crc32c ((pdu.take (n - 4)).map (fun x => x.toNat)) = field (n - 4) 4))
        ∧ (k = 6 → (b 1 ≤ 1 ∧ b 8 ≤ 3 ∧ ∀ i : Fin 15, b (9 + i) = 0))
        ∧ (k = 7 → (ver = 2 → (s.get Reg.CAD_STAT_SYNC = 2 ∨ s.get Reg.CAD_STAT_SYNC = 4) ∧ -bound ≤ age ∧ age ≤ bound))
        ∧ (k = 8 → (st = 1 → restart))
        ∧ (k = 9 → (restart ∨ (1 ≤ ahead ∧ ahead ≤ s.get (Reg.SAF_C_CFG_SEQWIN c))))
      let answer (t : State) : List Nat := match t.out.getLast? with
        | some (.safetyPdu k bytes) => if k = c.val then bytes else []
        | _ => []
      (late → ∃ u, exec (.safetyWatchdogExpiry c) s = .next u ∧ ∃ v, exec go u = .next v ∧ Does go s (fun t => t = v))
      ∧ (∀ k : Fin 10, ¬late ∧ k.val ≠ 0 ∧ ¬passes k ∧ (∀ j : Fin 10, j < k → passes j) → Does go s (fun t => t.get (Reg.SAF_C_STAT_LASTREJ c) = k
        ∧ t.get (Reg.SAF_C_CNT_REJ c) = min (s.get (Reg.SAF_C_CNT_REJ c) + 1) 0xFFFF ∧ t.fltBit Reg.FLT_SRC_SRC 80 = true
        ∧ t.now = (s.now + 1) % 0x10000000000000000
        ∧ Frame (.cad :: Part.ofFault) Win.ofFault [Reg.SAF_C_STAT_LASTREJ c, Reg.SAF_C_CNT_REJ c] s t))
      ∧ (¬late ∧ (∀ j : Fin 10, passes j) → Does go s (fun t => (t.safConn c).permit = (pdu.getD 8 0).getLsbD 0
        ∧ (t.safConn c).reduced = (pdu.getD 8 0).getLsbD 1 ∧ (t.safConn c).lastAccept = s.now ∧ t.now = (s.now + 1) % 0x10000000000000000
        ∧ (t.safConn c).txSeq = ((s.safConn c).txSeq + 1) % 0x10000 ∧ t.get (Reg.SAF_C_STAT_SEQ c) = field 2 2
        ∧ t.get (Reg.SAF_C_RX_PAYLOAD c) = field 8 4
        ∧ (restart → t.get (Reg.SAF_C_STAT_VER c) = ver % 4 ∧ t.get (Reg.SAF_C_STAT_CSTATE c) = 2 ∧ t.get (Reg.SAF_C_STAT_EVER c) = 1)
        ∧ (¬restart → t.get (Reg.SAF_C_STAT_VER c) = s.get (Reg.SAF_C_STAT_VER c) ∧ t.get (Reg.SAF_C_STAT_CSTATE c) = st)
        ∧ (∀ k : Fin 4, k ≠ c → t.safConn k = s.safConn k) ∧ (∀ x : Fin 3, (t.core x).irqpend.testBit 16 = true)
        ∧ (let bytes := answer t
          bytes.take 4 = [t.get (Reg.SAF_C_STAT_VER c) * 16 + 2, 0, (s.safConn c).txSeq % 256, (s.safConn c).txSeq / 256 % 256]
          ∧ (bytes.drop 9).take 3 = [t.get Reg.SAF_STAT_DEMACT, b 2, b 3] ∧ bytes.length = (if t.get (Reg.SAF_C_STAT_VER c) = 2 then 36 else 28))
        ∧ frame [.cad] [Reg.SAF_C_STAT_SEQ c, Reg.SAF_C_RX_PAYLOAD c, Reg.SAF_C_STAT_VER c, Reg.SAF_C_STAT_CSTATE c, Reg.SAF_C_STAT_EVER c] t)))
    ∧ (st ≠ 2 → Does (.safetyWatchdogExpiry c) s (fun t => t = s))
    ∧ (st = 2 → Does (.safetyWatchdogExpiry c) s (fun t => t.get (Reg.SAF_C_STAT_CSTATE c) = 1
      ∧ t.now = (s.reach ((s.safConn c).lastAccept + 40000 * s.get (Reg.SAF_C_TIME_TEXP c))).now
      ∧ t.get (Reg.SAF_C_CNT_EXP c) = min (s.get (Reg.SAF_C_CNT_EXP c) + 1) 0xFFFF ∧ (t.safConn c).permit = false ∧ (t.safConn c).reduced = false
      ∧ t.fltBit Reg.FLT_SRC_SRC 81 = true ∧ t.get Reg.SAF_STAT_DEMACT % 2 = 1 ∧ judged t
      ∧ frame [.cad] [Reg.SAF_C_STAT_CSTATE c, Reg.SAF_C_CNT_EXP c] t))
    ∧ (let en := s.get (Reg.SAF_C_CFG_EN c)
      let free : Prop := s.voted = true
      (∀ e : Bool, ¬free ∨ en = (if e then 1 else 0) → Does (.safetyConnectionEnWrite c e) s (fun t => t = s))
      ∧ (free ∧ en = 0 ∧ s.get (Reg.SAF_C_ID_CONNID c) = 0 → Does (.safetyConnectionEnWrite c true) s (fun t => t = s))
      ∧ (free ∧ en = 0 ∧ s.get (Reg.SAF_C_ID_CONNID c) ≠ 0 → Does (.safetyConnectionEnWrite c true) s (fun t => t.get (Reg.SAF_C_CFG_EN c) = 1
        ∧ t.get (Reg.SAF_C_STAT_CSTATE c) = 1 ∧ t.get (Reg.SAF_C_STAT_EVER c) = 0 ∧ (t.safConn c).permit = false
        ∧ t.get Reg.SAF_STAT_DEMACT % 2 = 1 ∧ judged t
        ∧ frame [] [Reg.SAF_C_CFG_EN c, Reg.SAF_C_STAT_CSTATE c, Reg.SAF_C_STAT_EVER c] t))
      ∧ (free ∧ en ≠ 0 ∧ s.get Reg.SAF_CTRL_LOCK ≠ 0 → Does (.safetyConnectionEnWrite c false) s (fun t =>
        t.get Reg.SAF_STAT_LREJ = min (s.get Reg.SAF_STAT_LREJ + 1) 0xFF ∧ Frame [] [] [Reg.SAF_STAT_LREJ] s t))
      ∧ (free ∧ en ≠ 0 ∧ s.get Reg.SAF_CTRL_LOCK = 0 → Does (.safetyConnectionEnWrite c false) s (fun t => t.get (Reg.SAF_C_CFG_EN c) = 0
        ∧ t.get (Reg.SAF_C_STAT_CSTATE c) = 0 ∧ t.get (Reg.SAF_C_STAT_EVER c) = 0 ∧ judged t
        ∧ frame [] [Reg.SAF_C_CFG_EN c, Reg.SAF_C_STAT_CSTATE c, Reg.SAF_C_STAT_EVER c, Reg.SAF_C_STAT_VER c] t)))

/-- At the next multiple of 50,000 counts waiting writes take effect and, with EN, all channels sample; nothing in Kickstand. A result, 1 ms
after its instant: a current channel takes path 2 where it is settled and in range, else path 1, and a path-2 sample above DNTH or
overloaded shifts to the highest gain with twice the magnitude in range; faults are judged; an element without a faulted channel adds p, q
and S to the accumulators of their signs modulo 2^64 counts, the total likewise; a pulse output queues one pulse where its residue reaches
THR, or counts it lost at 255. An upshift takes one step after a quiet window; windows post all values together; pulses last PW with a gap
of PW. Completes: meteringSample, meteringResult, upshift, meteringWindowEnd, meteringPulse, meteringPulseEnd. (R417, R418, R419, R420,
R421, R426, R428, R431, R432, R433, R434, R437.) -/
def Obligations.MeteringAccumulatesAndPulses : Prop :=
  ∀ (s : State),
    (∀ x : MeterSample, let sample := Instr.meteringSample x
      let enabled : Prop := s.get Reg.MTR_CTRL_EN ≠ 0
      (s.inKickstand = true → Does sample s (fun t => t = s))
      ∧ (s.inKickstand = false → 
        let from_ := match s.pwr.exitFrom with | some a => max s.now (a + 20000) | none => s.now
        let grid := (from_ + 49999) / 50000 * 50000
        let at_ := if (s.mtr.due.getLast?.map (fun d => d.time)).or s.mtr.lastAt = some grid then grid + 50000 else grid
        Does sample s (fun t => t.now = (s.reach at_).now ∧ t.mtr.waiting = []
        ∧ (s.mtr.waiting = [] → t.mtr.due = s.mtr.due ++ (if enabled then [⟨t.now, s.get Reg.MTR_GAIN_G, x⟩] else [])
          ∧ t.mtr.accs = s.mtr.accs ∧ Frame [.cad, .mtr] [] [] s t)
        ∧ (∀ f v, s.mtr.waiting = [.field f v] → (f = Reg.MTR_CTRL_CALLOCK ∨ f = Reg.MTR_USR_G 0 ∨ s.get Reg.MTR_CTRL_CALLOCK = 0 → t.get f = v % 2 ^ f.width)
          ∧ (f = Reg.MTR_VCAL_G 0 ∧ s.get Reg.MTR_CTRL_CALLOCK ≠ 0 → t.get f = s.get f) ∧ Frame [.cad, .mtr] [] [f, Reg.MTR_GAIN_G] s t)
        ∧ (s.mtr.waiting = [.save] → t.get Reg.MTR_STAT_SAVEBUSY = 1 ∧ t.mtr.saves = s.mtr.saves + 1
          ∧ (∃ r ∈ t.mtr.save, r.1 = t.now ∧ ∀ i : Fin 32, t.bytesAt (0x14020000 + 0x800 * r.2.1.val + 16 * i) 16 = s.macc i % 2 ^ 128)
          ∧ Frame [.cad, .mtr, .mem] [] [Reg.MTR_STAT_SAVEBUSY] s t)
        ∧ (s.mtr.waiting = [.snap] → t.get Reg.MTR_STAT_SNAPRDY = 1 ∧ ∀ i : Fin 32,
          t.get64 (Reg.MTR_SNAP_LO_COUNT (i / 8) (i % 8)) (Reg.MTR_SNAP_HI_COUNT (i / 8) (i % 8)) = s.maccVisible i % 2 ^ 64)
        ∧ (s.mtr.waiting = [.zero] → (∀ i : Fin 32, t.macc i = if s.get Reg.MTR_CTRL_TOTLOCK = 0 then 0 else s.macc i)
          ∧ ∀ j : Fin 2, (t.mpulse j).residue = if s.get Reg.MTR_CTRL_TOTLOCK = 0 then 0 else (s.mpulse j).residue))))
    ∧ (s.mtr.due = [] → Does .meteringResult s (fun t => t = s))
    ∧ (∀ d rest, s.mtr.due = d :: rest → Does .meteringResult s (fun t =>
      let code (c : Nat) : Int := d.sample.path1.getD c 0
      let idles (i n : Nat) : Prop := d.sample.idle.toNat.testBit i = true ∧ 31 ≤ n
      let faulted (c : Nat) : Prop := d.sample.over1.toNat.testBit c = true ∨ d.sample.refOut.toNat.testBit c = true
        ∨ idles c (s.mchan c).idle1 ∨ (4 ≤ c ∧ idles (4 + c) (s.mchan c).idle2)
      let used (e : Nat) : Prop := s.get Reg.MTR_CTRL_WIRING = 0 ∨ e ≠ 1
      let bad (e : Nat) : Prop := faulted e ∨ faulted (4 + e)
      let outOf (c : Nat) : Int := (t.mchan c).out.headD 0
      let pOf (e : Nat) : Int := if used e then outOf e * outOf (4 + e) else 0
      let qOf (e : Nat) : Int := if used e then quadOf (t.mchan e).out * outOf (4 + e) else 0
      let sOf (e : Nat) : Int := if used e then (rmsOf (t.mchan e).out * rmsOf (t.mchan (4 + e)).out * 2 ^ 62).floor else 0
      let p (e : Nat) : Int := if e = 3 then pOf 0 + pOf 1 + pOf 2 else pOf e
      let q (e : Nat) : Int := if e = 3 then qOf 0 + qOf 1 + qOf 2 else qOf e
      let sa (e : Nat) : Int := if e = 3 then sOf 0 + sOf 1 + sOf 2 else sOf e
      let exports (e : Nat) : Prop := 0 ≤ ((p e :: (s.melem e).ps).take 160).foldl (fun a y => a + y) (0 : Int)
      let adds (e : Nat) : Prop := if e = 3 then ∀ k : Fin 3, used k → ¬bad k else used e ∧ ¬bad e
      let inc (e k : Nat) : Int :=
        if k = 0 then (if 0 ≤ p e then p e else 0) else if k = 1 then (if p e < 0 then -p e else 0)
        else if k = 2 then (if 0 ≤ p e ∧ 0 ≤ q e then q e else 0) else if k = 3 then (if p e < 0 ∧ 0 ≤ q e then q e else 0)
        else if k = 4 then (if p e < 0 ∧ q e < 0 then -q e else 0) else if k = 5 then (if 0 ≤ p e ∧ q e < 0 then -q e else 0)
        else if k = 6 then (if exports e then sa e else 0) else (if exports e then 0 else sa e)
      t.now = (s.reach (d.time + 400000)).now ∧ t.mtr.due = rest ∧ t.mtr.lastAt = some d.time ∧ t.mtr.winCount = s.mtr.winCount + 1
      ∧ (∀ c : Fin 8, (t.bit Reg.MTR_STAT_CHFLT c = true ↔ faulted c)
        ∧ (d.sample.over1.toNat.testBit c = true → t.bit Reg.MTR_STAT_OVL c = true)
        ∧ (faulted c ∧ s.bit Reg.MTR_STAT_CHFLT c = false → t.fltBit Reg.FLT_SRC_SRC 83 = true)
        ∧ ((c.val < 4 ∨ s.get Reg.MTR_CTRL_DERAIL = 0) → (t.mchan c).raw = (code c * 256 :: (s.mchan c).raw).take 160)
        ∧ (c.val < 4 ∧ s.get (Reg.MTR_VCAL_D c) = 0 ∧ s.get (Reg.MTR_USR_D c) = 0 → outOf c = q31 ((code c * 256 : Int)
          * mkRat (s.get (Reg.MTR_VCAL_G c)) 0x8000 * mkRat (s.get (Reg.MTR_USR_G c)) 0x8000)))
      ∧ (∀ k : Fin 4, s.get Reg.MTR_CTRL_DERAIL ≠ 0 →
        let one := code (4 + k) * 256
        let two := d.sample.path2.getD k 0
        let g := d.gains / 4 ^ k.val % 4
        let high : Prop := s.get Reg.MTR_DER_CFG_DNTH * 0x800000 < 100 * two.natAbs ∨ d.sample.over2.toNat.testBit k = true
        let best := if one.natAbs ≤ 0x1000000 then 3 else if one.natAbs ≤ 0x4000000 then 2 else if one.natAbs ≤ 0x10000000 then 1 else 0
        (high → (t.mchan (4 + k)).raw = (one :: (s.mchan (4 + k)).raw).take 160 ∧ t.mgain k = best
          ∧ t.get (Reg.MTR_DER_CNT_DN k) = (if best = s.mgain k then s.get (Reg.MTR_DER_CNT_DN k) else min (s.get (Reg.MTR_DER_CNT_DN k) + 1) 0xFFFF)
          ∧ (t.mchan (4 + k)).settle = 0 ∧ (t.mchan (4 + k)).quiet = 0)
        ∧ (¬high → t.mgain k = s.mgain k ∧ t.get (Reg.MTR_DER_CNT_DN k) = s.get (Reg.MTR_DER_CNT_DN k)
          ∧ (t.mchan (4 + k)).raw = ((if 8 ≤ (s.mchan (4 + k)).settle then two * 2 ^ (8 - 2 * g) else one) :: (s.mchan (4 + k)).raw).take 160))
      ∧ (∀ (e : Fin 4) (k : Fin 8), (t.macc (8 * e + k) : Int) = if adds e then ((s.macc (8 * e + k) : Int) + 4 * max 0 (inc e k)) % (2 ^ 108 : Int)
          else s.macc (8 * e + k))
      ∧ (∀ j : Fin 2,
        let e := s.get (Reg.MTR_PLS_CFG_ELEM j)
        let thr := (s.get (Reg.MTR_PLS_THR_HI_THR j) * 0x100000000 + s.get (Reg.MTR_PLS_THR_LO_THR j)) * 2 ^ 44
        let r := (s.mpulse j).residue + (if adds e then 4 * (inc e (s.get (Reg.MTR_PLS_CFG_QTY j))).toNat else 0)
        let waits := s.get (Reg.MTR_PLS_CNT_PEND j)
        let runs : Prop := s.get (Reg.MTR_PLS_CFG_EN j) ≠ 0
        (¬runs → t.mpulse j = s.mpulse j ∧ t.get (Reg.MTR_PLS_CNT_PEND j) = waits)
        ∧ (runs ∧ (thr = 0 ∨ r < thr) → (t.mpulse j).residue = r ∧ t.get (Reg.MTR_PLS_CNT_PEND j) = waits)
        ∧ (runs ∧ thr ≠ 0 ∧ thr ≤ r → (t.mpulse j).residue = r - thr ∧ (waits ≠ 255 → t.get (Reg.MTR_PLS_CNT_PEND j) = waits + 1)
          ∧ (waits = 255 → t.get (Reg.MTR_PLS_CNT_PEND j) = 255
            ∧ t.get (Reg.MTR_PLS_CNT_LOST j) = min (s.get (Reg.MTR_PLS_CNT_LOST j) + 1) 0xFF)))
      ∧ Frame ([.cad, .mtr] ++ Part.ofFault) Win.ofFault ([Reg.MTR_GAIN_G, Reg.MTR_STAT_OVL, Reg.MTR_STAT_CHFLT] ++ (List.range 4).map Reg.MTR_DER_CNT_DN
        ++ (List.range 2).map Reg.MTR_PLS_CNT_PEND ++ (List.range 2).map Reg.MTR_PLS_CNT_LOST) s t))
    ∧ (∀ k : Fin 4,
      let due : Prop := s.get Reg.MTR_CTRL_EN ≠ 0 ∧ s.get Reg.MTR_CTRL_DERAIL ≠ 0 ∧ s.mgain k < 3
        ∧ 80 * s.get Reg.MTR_DER_CFG_HOLD ≤ (s.mchan (4 + k)).quiet
      (¬due → Does (.upshift k) s (fun t => t = s))
      ∧ (due → Does (.upshift k) s (fun t => t.mgain k = s.mgain k + 1 ∧ (∀ j : Fin 4, j ≠ k → t.mgain j = s.mgain j)
        ∧ t.get (Reg.MTR_DER_CNT_UP k) = min (s.get (Reg.MTR_DER_CNT_UP k) + 1) 0xFFFF ∧ (t.mchan (4 + k)).settle = 0
        ∧ Frame [.mtr] [] [Reg.MTR_GAIN_G, Reg.MTR_DER_CNT_UP k] s t)))
    ∧ (let n := s.mtr.winCount
      let mean (x : Int) : Nat := wordOfInt 32 (mkRat x n / 0x80000000)
      (n = 0 → Does .meteringWindowEnd s (fun t => t = s))
      ∧ (n ≠ 0 → Does .meteringWindowEnd s (fun t => t.now = (s.reach s.mtr.winEnd).now ∧ t.mtr.winCount = 0
        ∧ (∀ c : Fin 8, t.get (Reg.MTR_RMS_VALUE c) = wordOfInt 32 (sqrtOf (mkRat (s.mchan c).winSq n)) ∧ (t.mchan c).winSq = 0)
        ∧ (∀ e : Fin 4, t.get (Reg.MTR_PQS_VALUE e 0) = mean (s.melem e).sumP ∧ t.get (Reg.MTR_PQS_VALUE e 1) = mean (s.melem e).sumQ
          ∧ t.get (Reg.MTR_PQS_VALUE e 2) = mean (s.melem e).sumS ∧ (t.melem e).sumP = 0 ∧ (t.melem e).sumQ = 0 ∧ (t.melem e).sumS = 0)
        ∧ t.mtr.winEnd % 80000000 = 0 ∧ t.now < t.mtr.winEnd ∧ t.mtr.accs = s.mtr.accs
        ∧ Frame [.cad, .mtr] [] ((List.range 8).map Reg.MTR_RMS_VALUE
          ++ (List.range 4).flatMap (fun e => (List.range 3).map (Reg.MTR_PQS_VALUE e))) s t)))
    ∧ (∀ j : Fin 2,
      let pw := 400000 * s.get (Reg.MTR_PLS_CFG_PW j)
      let active : Bool := decide (s.get (Reg.MTR_PLS_CFG_POL j) = 0)
      let starts : Prop := s.get (Reg.MTR_PLS_CNT_PEND j) ≠ 0 ∧ (s.mpulse j).since = none ∧ s.inKickstand = false
      (¬starts → Does (.meteringPulse j) s (fun t => t = s))
      ∧ (starts → Does (.meteringPulse j) s (fun t => t.now = (s.reach (s.mpulse j).freeAt).now ∧ (t.mpulse j).since = some t.now
        ∧ t.get (Reg.MTR_PLS_CNT_PEND j) + 1 = s.get (Reg.MTR_PLS_CNT_PEND j) ∧ t.out = s.out ++ [.pulse j active]
        ∧ Frame [.cad, .mtr, .out] [] [Reg.MTR_PLS_CNT_PEND j] s t))
      ∧ ((s.mpulse j).since = none → Does (.meteringPulseEnd j) s (fun t => t = s))
      ∧ (∀ a, (s.mpulse j).since = some a → Does (.meteringPulseEnd j) s (fun t => t.now = (s.reach (a + pw)).now ∧ (t.mpulse j).since = none
        ∧ (t.mpulse j).freeAt = t.now + pw ∧ t.out = s.out ++ [.pulse j (!active)] ∧ Frame [.cad, .mtr, .out] [] [] s t)))

/-- SNAP, SAVENOW, the clear with key 0xC3, CALLOCK, TOTLOCK and every accepted field of a register write wait for the next sample boundary; a
reserved value, a threshold of 0 among them, or DNTH at or below 4 times UPTH, leaves the register. Reads of MTR_STAT and of the counters
clear their RC fields. A save takes the totals, residues and the next count for the copy that does not hold the last complete save (an
abandoned save's copy is taken again), with SAVEBUSY; on completion that copy in MRAM has its CRC-32C and is the last, and an entry to
Kickstand that waited takes its save. A save not complete in 1.2 ms sets SAVEERR once and raises source 84. Completes: mtrRegisterWrite,
snap, callock, totlock, mtrClr, mtrStatRead, mtrCounterRead, savenow, periodicSave, saveComplete, saveTimeout. (R425, R429, R430, R435,
R439.) -/
def Obligations.MeteringRegistersWaitAndTotalsAreSaved : Prop :=
  ∀ (s : State),
    let awaits (ws : List MeterWait) (t : State) : Prop := t = { s with mtr := { s.mtr with waiting := s.mtr.waiting ++ ws } }
    let write (o : Fin 16384) (v : Word) : Instr := Instr.mtrRegisterWrite o v
    Does .snap s (awaits [.snap]) ∧ Does .callock s (awaits [.field Reg.MTR_CTRL_CALLOCK 1]) ∧ Does .totlock s (awaits [.field Reg.MTR_CTRL_TOTLOCK 1])
    ∧ (∀ v : Word, (v.toNat % 256 = 0xC3 → Does (.mtrClr v) s (awaits [.zero]) ∧ Does (write 0x24 v) s (awaits [.zero]))
      ∧ (v.toNat % 256 ≠ 0xC3 → Does (.mtrClr v) s (fun t => t = s))
      ∧ (let up := v.toNat % 256
        let dn := v.toNat / 256 % 256
        let hold := v.toNat / 65536 % 256
        let good : Prop := 5 ≤ up ∧ up ≤ 24 ∧ 50 ≤ dn ∧ dn ≤ 99 ∧ hold ≠ 0 ∧ 4 * up < dn
        (¬good → Does (write 0xC v) s (fun t => t = s))
        ∧ (good → Does (write 0xC v) s (fun t => t.mtr.waiting.length = s.mtr.waiting.length + 3 ∧ s.mtr.waiting <+: t.mtr.waiting
          ∧ .field Reg.MTR_DER_CFG_UPTH up ∈ t.mtr.waiting ∧ .field Reg.MTR_DER_CFG_DNTH dn ∈ t.mtr.waiting
          ∧ .field Reg.MTR_DER_CFG_HOLD hold ∈ t.mtr.waiting ∧ Frame [.mtr] [] [] s t)))
      ∧ (∀ c : Fin 8, let g := v.toNat / 65536
        let d := v.toNat % 65536
        let good : Prop := 0x6000 ≤ g ∧ g ≤ 0xA000 ∧ (d ≤ 2047 ∨ 63488 ≤ d)
        (¬good → Does (write (Fin.ofNat 16384 (0xA0 + 4 * c.val)) v) s (fun t => t = s))
        ∧ (good → Does (write (Fin.ofNat 16384 (0xA0 + 4 * c.val)) v) s (fun t => t.mtr.waiting.length = s.mtr.waiting.length + 2
          ∧ .field (Reg.MTR_USR_G c) g ∈ t.mtr.waiting ∧ .field (Reg.MTR_USR_D c) d ∈ t.mtr.waiting ∧ Frame [.mtr] [] [] s t)))
      ∧ Does (write 0x20 v) s (awaits [.field Reg.MTR_SAVE_SAVEINT (v.toNat % 65536)])
      ∧ (v.toNat / 2 % 4 < 2 → Does (write 0 v) s (fun t => s.mtr.waiting <+: t.mtr.waiting
        ∧ .field Reg.MTR_CTRL_EN (v.toNat % 2) ∈ t.mtr.waiting ∧ .field Reg.MTR_CTRL_WIRING (v.toNat / 2 % 4) ∈ t.mtr.waiting
        ∧ .field Reg.MTR_CTRL_DERAIL (v.toNat / 8 % 2) ∈ t.mtr.waiting ∧ (v.getLsbD 8 = true → .snap ∈ t.mtr.waiting) ∧ (v.getLsbD 9 = true → .save ∈ t.mtr.waiting)
        ∧ (v.getLsbD 31 = true → .field Reg.MTR_CTRL_CALLOCK 1 ∈ t.mtr.waiting) ∧ Frame [.mtr] [] [] s t))
      ∧ (2 ≤ v.toNat / 2 % 4 → Does (write 0 v) s (fun t => t = s))
      ∧ (∀ j : Fin 2, s.mtr.waiting = [] → let hi := s.get (Reg.MTR_PLS_THR_HI_THR j)
        Does (write (Fin.ofNat 16384 (0x34 + 16 * j.val)) v) s (fun t => if hi = 0 ∧ v.toNat = 0 then t = s
          else awaits [.field (Reg.MTR_PLS_THR_LO_THR j) v.toNat] t)))
    ∧ Does .mtrStatRead s (fun t => t.bus.readData = s.liveWord 0x40050004 ∧ t.get Reg.MTR_STAT_SNAPRDY = 0
      ∧ Frame [.bus] [] [Reg.MTR_STAT_SNAPRDY] s t)
    ∧ (∀ i : Fin 6,
      (∀ k : Fin 4, i.val = k.val → Does (.mtrCounterRead i) s (fun t =>
        t.bus.readData = s.get (Reg.MTR_DER_CNT_UP k) * 0x10000 + s.get (Reg.MTR_DER_CNT_DN k) ∧ t.get (Reg.MTR_DER_CNT_UP k) = 0
        ∧ t.get (Reg.MTR_DER_CNT_DN k) = 0 ∧ Frame [.bus] [] [Reg.MTR_DER_CNT_UP k, Reg.MTR_DER_CNT_DN k] s t))
      ∧ (∀ j : Fin 2, i.val = 4 + j.val → Does (.mtrCounterRead i) s (fun t =>
        t.bus.readData = s.get (Reg.MTR_PLS_CNT_PEND j) * 0x1000000 + s.get (Reg.MTR_PLS_CNT_LOST j) * 0x10000
        ∧ t.get (Reg.MTR_PLS_CNT_LOST j) = 0 ∧ Frame [.bus] [] [Reg.MTR_PLS_CNT_LOST j] s t)))
    ∧ (let copy := match s.mtr.save with | some r => r.2.1 | none => 1 - s.mtr.lastCopy
      let b := 0x14020000 + 0x800 * copy.val
      let saves (t : State) : Prop := t.mtr.save = some (t.now, copy, false)
        ∧ t.mtr.saves = s.mtr.saves + 1 ∧ t.get Reg.MTR_STAT_SAVEBUSY = 1 ∧ t.mtr.accs = s.mtr.accs ∧ t.mtr.lastCopy = s.mtr.lastCopy
        ∧ (∀ i : Fin 32, t.bytesAt (b + 16 * i) 16 = s.macc i % 2 ^ 128) ∧ (∀ j : Fin 2, t.bytesAt (b + 512 + 16 * j) 16 = (s.mpulse j).residue % 2 ^ 128)
        ∧ t.bytesAt (b + 544) 4 = (s.mtr.saves + 1) % 2 ^ 32 ∧ ∀ a : Nat, (a < b ∨ b + 548 ≤ a) → t.byteAt a = s.byteAt a
      let int := s.get Reg.MTR_SAVE_SAVEINT
      Does .savenow s (awaits [.save])
      ∧ (int = 0 → Does .periodicSave s (fun t => t = s))
      ∧ (int ≠ 0 → Does .periodicSave s (fun t => saves t ∧ t.now = (s.reach (s.mtr.periodAt + 400000000 * int)).now ∧ t.mtr.periodAt = t.now
        ∧ Frame [.cad, .mtr, .mem] [] [Reg.MTR_STAT_SAVEBUSY] s t)))
    ∧ (s.mtr.save = none → Does .saveComplete s (fun t => t = s) ∧ Does .saveTimeout s (fun t => t = s))
    ∧ (∀ r, s.mtr.save = some r →
      let b := 0x14020000 + 0x800 * r.2.1.val
      (s.power ≠ 4 ∨ s.pwr.begun = true → Does .saveComplete s (fun t => t.mtr.save = none ∧ t.mtr.lastCopy = r.2.1 ∧ t.mtr.accs = s.mtr.accs
        ∧ t.bytesAt (b + 548) 4 = crc32c ((List.range 548).map (fun i => (s.byteAt (b + i)).toNat)) % 2 ^ 32
        ∧ (∀ a : Nat, (a < b + 548 ∨ b + 552 ≤ a) → t.byteAt a = s.byteAt a)
        ∧ t.get Reg.MTR_STAT_SAVEBUSY = 0 ∧ Frame [.mtr, .mem] [] [Reg.MTR_STAT_SAVEBUSY] s t))
      ∧ (s.power = 4 ∧ s.pwr.begun = false → Does .saveComplete s (fun t => t.pwr.begun = true ∧ t.mtr.lastCopy = r.2.1
        ∧ t.get Reg.MTR_STAT_SAVEBUSY = 1 ∧ t.mtr.saves = s.mtr.saves + 1))
      ∧ (r.2.2 = true → Does .saveTimeout s (fun t => t = s))
      ∧ (r.2.2 = false → Does .saveTimeout s (fun t => t.now = (s.reach (r.1 + 480000)).now ∧ t.get Reg.MTR_STAT_SAVEERR = 1
        ∧ t.fltBit Reg.FLT_SRC_SRC 84 = true ∧ t.mtr.save = some (r.1, r.2.1, true)
        ∧ Frame ([.cad, .mtr] ++ Part.ofFault) Win.ofFault [Reg.MTR_STAT_SAVEERR] s t)))

/-- A frame on a port that is up is discarded and counted where its size or its FCS is wrong, or it is a pause frame; after redundancy
handling it is given to the first class of R443 whose condition it meets: PTP, Safety, GOOSE and Sampled Values frames join the frames
given to their engines, a general frame goes to RXQ whole or is counted in RXFULL, any other is discarded. Under PRP and HSR a duplicate
whose entry is not forgotten is discarded and a new one is entered; under HSR own frames are removed and others' wait in the buffer of 16
KB of the other port or are counted in FWDDROP; a supervision frame enters the node table. A frame sent waits for its port with its RCT or
tag and FCS; a port that is free takes the first class of R444, the oldest frame of it, and is occupied for its length, preamble and gap.
The oldest safety frame's PDU goes to its connection or is counted in SAFDROP, and the status PDU returns to its source. A packet of a
general transmit queue is sent with NET_MAC or counted in GUARD. Supervision frames go out under PRP and HSR. A link that goes clears LINK
and raises source 85. Completes: stationFrameReceived, safetyFrameReceived, generalFrameTransmit, supervisionFrameSend, stationLinkChange.
(R441, R442, R443, R444, R445, R453, R440, R454.) -/
def Obligations.StationFramesAreClassifiedAndSent : Prop :=
  ∀ (s : State),
    let red := s.get Reg.NET_CTRL_RED
    let entry (g : NetGiven) (u : State) : State := { u with net := { u.net with given := u.net.given ++ [g] } }
    let first (n : Nat) (P : Nat → Bool) (k : Nat) : Prop := k < n ∧ P k = true ∧ ∀ j < k, P j = false
    let waits (p cls kind time : Nat) (b : List Nat) : NetTx := ⟨p, cls, kind, (b ++ fcsOf b).map (fun x : Nat => (x : Int)), b.length + 4, time⟩
    let joins (l : List NetTx) (u : State) : State := { u with net := { u.net with tx := u.net.tx ++ l.filter (fun x => u.netUp x.port) } }
    let sends (ports : List Nat) (cls kind time : Nat) (bytes : List Nat) (u t : State) : Prop :=
      let b := bytes ++ List.replicate (60 - bytes.length) 0
      let size := (b.length - typeAt b + 4) % 4096
      let q := u.net.redSeq
      let rct (p : Nat) := b ++ beBytes q 2 ++ beBytes ((0xA + p) * 0x1000 + size) 2 ++ [0x88, 0xFB]
      let tag (p : Nat) := b.take (typeAt b) ++ [0x89, 0x2F] ++ beBytes (p * 0x1000 + size) 2 ++ beBytes q 2 ++ b.drop (typeAt b)
      let numbered (v : State) : State := { v with net := { v.net with redSeq := (v.net.redSeq + 1) % 65536 } }
      (u.get Reg.NET_CTRL_RED = 0 → t = joins (ports.map (fun p => waits p cls kind time b)) u)
      ∧ (u.get Reg.NET_CTRL_RED = 1 → t = numbered (joins ([0, 1].map (fun p => waits p cls kind time (rct p))) u))
      ∧ (u.get Reg.NET_CTRL_RED = 2 → t = numbered (joins ([0, 1].map (fun p => waits p cls kind time (tag p))) u))
    let noted (b : List Nat) (u : State) : State := if frameType b = 0x88FB ∧ frameDst b / 256 = 0x01154E0001 ∧ ¬frameSrc b ∈ u.net.nodes then { u with net := { u.net with nodes := u.net.nodes ++ [frameSrc b] } } else u
    let classed (p : Fin 2) (b : List Nat) (u t : State) : Prop :=
      let type := frameType b
      let made (c : NetClass) (k : Nat) : NetGiven := { cls := c, index := k, port := p, bytes := b, time := s.now }
      let safety : Prop := type = s.get Reg.NET_SAF_CFG_SAFTYPE ∧ frameDst b = s.netMac
      let appid := beField b (typeAt b + 2) 2
      let sub (n : Nat) : Bool := s.get (Reg.NET_GSUB_CFG_EN n) != 0 && frameDst b == 0x010CCD010000 + s.get (Reg.NET_GSUB_CFG_MACLO n)
        && appid == s.get (Reg.NET_GSUB_CFG_APPID n)
      let stream (n : Nat) : Bool := s.get (Reg.NET_SVS_CFG_EN n) != 0 && frameDst b == 0x010CCD040000 + s.get (Reg.NET_SVS_CFG_MACLO n)
        && appid == s.get (Reg.NET_SVS_CFG_APPID n)
      let general : Prop := frameDst b = s.netMac ∨ frameDst b = 0xFFFFFFFFFFFF ∨ (0x010CCD010000 ≤ frameDst b ∧ frameDst b ≤ 0x010CCD0101FF)
        ∨ (0x010CCD040000 ≤ frameDst b ∧ frameDst b ≤ 0x010CCD0401FF)
      let rest : Prop := type ≠ 0x88F7 ∧ ¬safety ∧ (type = 0x88B8 → ∀ n < 16, sub n = false) ∧ (type = 0x88BA → ∀ n < 8, stream n = false)
      let live : Prop := s.inKickstand = false
      (type = 0x88F7 ∧ live → t = entry (made .ptp 0) u)
      ∧ (type ≠ 0x88F7 ∧ safety → t = entry (made .safety 0) u)
      ∧ (∀ n, type = 0x88B8 ∧ ¬safety ∧ live ∧ first 16 sub n → t = entry (made .goose n) u)
      ∧ (∀ n, type = 0x88BA ∧ ¬safety ∧ live ∧ first 8 stream n → t = entry (made .sv n) u)
      ∧ (rest ∧ ¬general → t = u)
      ∧ (rest ∧ general ∧ s.get Reg.NET_QSEL_RXEN = 0 → t = u)
      ∧ (rest ∧ general ∧ s.get Reg.NET_QSEL_RXEN ≠ 0 →
        let packet := u.deliver (s.get Reg.NET_QSEL_RXQ) 8 b.length (wordsOfBytes b)
        (packet.2 = false → t = packet.1.count Reg.NET_DROP_RXFULL 1)
        ∧ (packet.2 = true → t = if s.inKickstand then { packet.1 with net := { packet.1.net with wakeReq := true } } else packet.1))
    (∀ (p : Fin 2) (frame : List Byte) (fcsOk : Bool), Does (.stationFrameReceived p frame fcsOk true) s (fun t =>
      ∃ u, exec (.stationFrameReceived 0 frame fcsOk false) s = .next u ∧ ∃ v, exec (.stationFrameReceived 1 frame fcsOk false) u = .next v ∧ t = v))
    ∧ (∀ (p : Fin 2) (frame : List Byte) (fcsOk : Bool),
      let i := Instr.stationFrameReceived p frame fcsOk false
      let a := frame.map (fun x => x.toNat)
      let b := a.take (a.length - 4)
      let wrong : Prop := a.length < 64 ∨ 1522 < a.length ∨ frameType a = 0x8808
      let counts (f : Fld) (t : State) : Prop := t.get f = min (s.get f + 1) (2 ^ f.width - 1) ∧ Frame [] [] [f] s t
      let taken : Prop := s.netUp p = true ∧ ¬wrong ∧ fcsOk = true
      let known (seq : Nat) : Prop := ∃ e ∈ s.net.seen, e.1 = frameSrc b ∧ e.2.1 = seq ∧ s.now < e.2.2 + 160000000
      let entered (seq : Nat) (u : State) : State := { u with net := { u.net with seen := ((frameSrc b, seq, s.now) :: u.net.seen).take 1024 } }
      (s.netUp p = false → Does i s (fun t => t = s))
      ∧ (s.netUp p = true ∧ wrong → Does i s (counts (Reg.NET_PORT_CNT_SIZE p)))
      ∧ (s.netUp p = true ∧ ¬wrong ∧ fcsOk = false → Does i s (counts (Reg.NET_PORT_CNT_FCS p)))
      ∧ (taken ∧ red = 0 → Does i s (classed p b s))
      ∧ (taken ∧ red = 1 ∧ rctOf b = none → Does i s (classed p b (noted b s)))
      ∧ (∀ seq, taken ∧ red = 1 ∧ rctOf b = some seq → (known seq → Does i s (fun t => t = s))
        ∧ (¬known seq → Does i s (classed p (b.take (b.length - 6)) (noted (b.take (b.length - 6)) (entered seq s)))))
      ∧ (taken ∧ red = 2 → (frameSrc b = s.netMac → Does i s (fun t => t = s))
        ∧ (frameSrc b ≠ s.netMac ∧ hsrOf b = none → Does i s (classed p b (noted b s)))
        ∧ (∀ seq, frameSrc b ≠ s.netMac ∧ hsrOf b = some seq →
          let own : Prop := frameDst b = s.netMac
          let u := s.netServe
          let held := (u.net.tx.filter (fun x => x.port == 1 - p.val && x.cls == 5)).foldl (fun a x => a + x.len) 0
          let full : Prop := 16384 < held + b.length + 4
          let dropped := u.count Reg.NET_DROP_FWDDROP 1
          let passed := joins [waits (1 - p.val) 5 5 s.now b] u
          let inner := stripHsr b
          (own ∧ known seq → Does i s (fun t => t = s)) ∧ (own ∧ ¬known seq → Does i s (classed p inner (noted inner (entered seq s))))
          ∧ (¬own ∧ full ∧ known seq → Does i s (fun t => t = dropped))
          ∧ (¬own ∧ full ∧ ¬known seq → Does i s (classed p inner (noted inner (entered seq dropped))))
          ∧ (¬own ∧ ¬full ∧ beField b (typeAt b + 6) 2 ≠ 0x88F7 ∧ known seq → Does i s (fun t => t = passed))
          ∧ (¬own ∧ ¬full ∧ beField b (typeAt b + 6) 2 ≠ 0x88F7 ∧ ¬known seq → Does i s (classed p inner (noted inner (entered seq passed)))))))
    ∧ (let u := s.netServe
      let gone (x : NetTx) (start : Nat) : State := { s with net := { s.net with tx := s.net.tx.erase x, busy := tblSet 0 s.net.busy x.port (start + (16 * (x.len + 20) + 4) / 5) }, out := s.out ++ [.stationFrame x.port x.kind x.fields] }
      (s.net.tx = [] → u = s)
      ∧ (∀ x, s.net.tx = [x] ∧ x.port < 2 → let start := max (tblGet 0 s.net.busy x.port) x.time
        (s.now ≤ start → u = s)
        ∧ (start < s.now ∧ s.netUp x.port = true ∧ x.kind ≠ 17 → u = gone x start)
        ∧ (start < s.now ∧ s.netUp x.port = true ∧ x.kind = 17 → .stationFrame x.port 17 x.fields ∈ u.out)
        ∧ (start < s.now ∧ s.netUp x.port = false → u = { s with net := { s.net with tx := [] } }))
      ∧ (∀ x y, s.net.tx = [x, y] ∧ x.port < 2 ∧ x.kind ≠ 17 ∧ y.kind ≠ 17 → let b := tblGet 0 s.net.busy x.port
        let first := if y.cls < x.cls then y else x
        y.port = x.port ∧ x.time ≤ b ∧ y.time ≤ b ∧ b < s.now ∧ s.now ≤ b + (16 * (first.len + 20) + 4) / 5 ∧ s.netUp x.port = true ∧ x.cls < 7 ∧ y.cls < 7 → u = gone first b))
    ∧ (s.takeGiven .safety = none → Does .safetyFrameReceived s (fun t => t = s))
    ∧ (∀ g s1, s.takeGiven .safety = some (g, s1) →
      let o := typeAt g.bytes + 2
      let pdu := (g.bytes.drop (o + 2)).take (g.bytes.getD o 0)
      let owns (c : Nat) : Bool := s.get (Reg.SAF_C_CFG_CARRIER c) == 2 && s.get (Reg.SAF_C_ID_CONNID c) == pduField pdu 4 4
      ((∀ c < 4, owns c = false) → Does .safetyFrameReceived s (fun t => t.get Reg.NET_DROP_SAFDROP = min (s.get Reg.NET_DROP_SAFDROP + 1) 0xFF
        ∧ t.net = s1.net ∧ Frame [.net] [] [Reg.NET_DROP_SAFDROP] s t))
      ∧ (∀ c, first 4 owns c →
        let u := doSafetyPduReceived c 2 0 pdu g.time s1
        let v := s1.watchdogDue c
        (v.pduReason c 2 0 pdu g.time ≠ 0 → Does .safetyFrameReceived s (fun t => t = u))
        ∧ (∀ c' status, v.pduReason c 2 0 pdu g.time = 0 ∧ u.out.getLast? = some (.safetyPdu c' status) →
          Does .safetyFrameReceived s (fun t => sends [g.port] 2 3 s.now (u.safetyFrame g status) u t))))
    ∧ (s.consumeGeneral.nextGeneral = none → Does .generalFrameTransmit s (fun t => t = s.consumeGeneral))
    ∧ (∀ i s1 len words, s.consumeGeneral.nextGeneral = some i ∧ s.consumeGeneral.takePacket (s.get (txQueue i).2) 8 = (s1, some (len, words)) →
      let f := (bytesOfWords words).take len
      let barred (x : Nat) : Prop := x = 0x88F7 ∨ x = 0x88B8 ∨ x = 0x88BA ∨ x = s.get Reg.NET_SAF_CFG_SAFTYPE
      let guard_ : Prop := len < 14 ∨ 1518 < len ∨ barred (beField f 12 2) ∨ barred (frameType f)
      let u : State := { s1 with net := { s1.net with lastTx := i } }
      (guard_ → Does .generalFrameTransmit s (fun t => t = u.count Reg.NET_DROP_GUARD 1))
      ∧ (¬guard_ → Does .generalFrameTransmit s (fun t => t.free = s1.free + 1
        ∧ sends (bitList 2 (Config.stationPorts s1.free % 3 + 1)) 6 0 u.now (putBytes f 6 (beBytes s.netMac 6)) u { t with free := s1.free })))
    ∧ (red = 0 → Does .supervisionFrameSend s (fun t => t = s))
    ∧ (red ≠ 0 → Does .supervisionFrameSend s (fun t =>
      let u := s.reach (s.net.superAt + 800000000)
      let f := beBytes 0x01154E000100 6 ++ beBytes s.netMac 6 ++ [0x88, 0xFB, 0, 1] ++ beBytes s.net.superSeq 2 ++ [if red = 1 then 20 else 23, 6] ++ beBytes s.netMac 6 ++ [0, 0]
      sends [0, 1] 6 4 u.now f { u with net := { u.net with superAt := u.now, superSeq := (u.net.superSeq + 1) % 65536 } } t))
    ∧ (∀ (p : Fin 2) (up : Bool),
      let held : Prop := s.bit Reg.NET_CTRL_EN p = false ∨ s.get Reg.CLK_REF_SSCHOLD ≠ 0 ∨ (s.inKickstand = true ∧ s.get Reg.NET_CTRL_KSPORT ≠ p.val)
      (held → Does (.stationLinkChange p up) s (fun t => t = s))
      ∧ (¬held ∧ up = true → Does (.stationLinkChange p up) s (fun t => t.bit Reg.NET_STAT_LINK p = true ∧ t.net.down.testBit p = false
        ∧ t.bit Reg.NET_STAT_LINK (1 - p.val) = s.bit Reg.NET_STAT_LINK (1 - p.val) ∧ Frame [.net] [] [Reg.NET_STAT_LINK] s t))
      ∧ (¬held ∧ up = false → Does (.stationLinkChange p up) s (fun t => t.bit Reg.NET_STAT_LINK p = false ∧ t.net.down.testBit p = true
        ∧ t.bit Reg.NET_STAT_LINK (1 - p.val) = s.bit Reg.NET_STAT_LINK (1 - p.val) ∧ t.fltBit Reg.FLT_SRC_SRC 85 = true
        ∧ Frame (.net :: Part.ofFault) Win.ofFault [Reg.NET_STAT_LINK] s t)))

/-- A valid Sync, from the selected master on a port with a measured path delay, gives the offset t2 - (t1 + correctionField + meanPathDelay)
to Cadence where its port is the active one and SRC is 1; Pdelay requests go out every 2^LOGPDELAY s, an unheard master goes, and the
active port changes. A subscribed GOOSE message with a new stNum, or the first after enable or STALE, is delivered; a higher sqNum
refreshes; a lower or equal one counts in GDUP; the end of timeAllowedToLive is STALE with a notice. A publication is sent with sqNum 0
and resent with its count at doubling gaps to TMAX. Samples in order are written, absent ones substituted, the LOSSN-th in a row is LOST
with source 87, late ones count, RESYNCN in order give VALID. Published streams carry smpCnt, smpSynch and the data set in the template.
Configuration is taken only with EN 0, reserved values set CFGERR, and counter reads clear. Completes: ptpMessageReceived, pdelayReqSend,
announceTimeout, activePortChange, gooseMessageReceived, gooseTalExpiry, goosePublish, gooseResend, svFrameReceived, svSampleDue,
svPublish, netRegisterWrite, netCounterRead. (R34, R446, R447, R448, R449, R450, R451, R452, R454, R455.) -/
def Obligations.StationTimeGooseAndSampledValues : Prop :=
  ∀ (s : State),
    let ptpOn : Prop := s.get Reg.NET_CTRL_PTPEN ≠ 0 ∧ s.inKickstand = false
    let fine : Bool := s.get Reg.EDG_STAT_DLRDY != 0 && (List.range 5).all (fun g => !s.dl.bad.testBit (60 + g))
    let stamped (x : Nat) : Int := if fine then (x : Int) else ((x / 32 * 32 : Nat) : Int)
    let master : Option PtpMaster := s.ptpMaster
    let outside (n : Nat) (t : State) : Prop := ∀ b, b < s.get (Reg.NET_SVS_BASE_BASE n) ∨ s.get (Reg.NET_SVS_BASE_BASE n) + 8192 ≤ b →
      t.byteAt b = s.byteAt b
    (s.takeGiven .ptp = none → ∀ d m x, Does (.ptpMessageReceived d m x) s (fun t => t = s))
    ∧ (∀ g s1, s.takeGiven .ptp = some (g, s1) → ∀ (d : BitVec 8) (x : Nat),
      let t2 : Int := stamped x - s.get Reg.NET_PTP_LAT_RXLAT
      let p := g.port
      let y := s.ptpPort p
      let active := s.get Reg.NET_STAT_PTPPORT
      let on_ : Prop := ptpOn ∧ d.toNat = s.get Reg.NET_PTP_CFG_DOMAIN
      let mod (f : PtpPort → PtpPort) : State := { s1 with net := { s1.net with ptpPorts := tblMod {} s1.net.ptpPorts p f } }
      let ns (sec n : Nat) : Rat := (sec : Rat) * 12800000000 + (n : Rat) * mkRat 64 5
      let delayed (dl : Rat) (t : State) : Prop := (t.ptpPort p).delay = some dl ∧ (t.ptpPort p).sentAt = none
        ∧ t.get (Reg.NET_PTP_PDLY_PDLY p) = wordOfInt 32 dl ∧ Frame [.net] [] [Reg.NET_PTP_PDLY_PDLY p] s t
      (¬on_ → ∀ m, Does (.ptpMessageReceived d m x) s (fun t => t = s1))
      ∧ (on_ → ∀ (src q sec n : Nat) (c : Int) (two : Bool),
        let sync := Instr.ptpMessageReceived d (.sync src q two sec n c) x
        let mine : Prop := ∃ b ∈ master, b.source = src
        (¬mine → Does sync s (fun t => t = s1))
        ∧ (mine ∧ two = true → Does sync s (fun t => t = mod (fun z => { z with sync := some ⟨src, q, t2, c, g.time⟩ })))
        ∧ (mine ∧ two = false ∧ y.delay = none → Does sync s (fun t => t = s1))
        ∧ (∀ dl, mine ∧ two = false ∧ y.delay = some dl →
          let offset := intOf ((t2 : Rat) - (ns sec n + mkRat c 5120 + dl))
          let valid := mod (fun z => { z with lastValid := some g.time, due := if z.due = some g.time then z.due else some (g.time + 800000000) })
          let had : Prop := (s.ptpPort active).lastValid ≠ none
          let settled : Prop := ∀ e ∈ (s.ptpPort active).due, g.time ≤ e
          (settled ∧ had ∧ active = p ∧ s.get Reg.CAD_SYNC_SRC = 1 → Does sync s (fun t => t = valid.ptpOffset offset))
          ∧ (settled ∧ had ∧ active = p ∧ s.get Reg.CAD_SYNC_SRC ≠ 1 → Does sync s (fun t => t = valid))
          ∧ (settled ∧ had ∧ active < p → Does sync s (fun t => t = valid))
          ∧ (settled ∧ (¬had ∧ p < 2 ∨ p < active) ∧ s.get Reg.CAD_SYNC_SRC = 1 → Does sync s (fun t => t = (valid.set Reg.NET_STAT_PTPPORT p).ptpOffset offset))
          ∧ (settled ∧ (¬had ∧ p < 2 ∨ p < active) ∧ s.get Reg.CAD_SYNC_SRC ≠ 1 → Does sync s (fun t => t = valid.set Reg.NET_STAT_PTPPORT p)))
        ∧ Does (.ptpMessageReceived d (.announce src [sec, n] c) x) s (fun t =>
          ⟨p, src, [sec, n], secondsPow c, g.time⟩ ∈ t.net.masters ∧ (∀ b ∈ s.net.masters, b.port ≠ p ∨ b.source ≠ src → b ∈ t.net.masters)
          ∧ Frame [.net] [] [] s t)
        ∧ (∀ w dl, y.sync = some w ∧ y.delay = some dl ∧ w.source = src ∧ w.seq = q ∧ g.time ≤ w.time + 40000000 ∧ mine ∧ active = p
            ∧ y.lastValid ≠ none ∧ y.due = none ∧ s.get Reg.CAD_SYNC_SRC = 1 → Does (.ptpMessageReceived d (.followUp src q sec n c) x) s (fun t =>
          t = (mod (fun z => { z with sync := none, lastValid := some g.time, due := some (g.time + 800000000) })).ptpOffset
            (intOf ((w.stamp : Rat) - (ns sec n + mkRat (w.correction + c) 5120 + dl)))))
        ∧ (∀ w, y.sync = some w ∧ (w.source ≠ src ∨ w.seq ≠ q ∨ w.time + 40000000 < g.time) →
          Does (.ptpMessageReceived d (.followUp src q sec n c) x) s (fun t => t = s1))
        ∧ Does (.ptpMessageReceived d (.pdelayReq src q) x) s (fun t =>
          t.net.tx = s.net.tx ++ (if s.netUp p = true then [⟨p, 1, 17, [src, q, t2], 72, s.now⟩] else []) ∧ Frame [.net] [] [] s t)
        ∧ (∀ t1 : Int, y.sentAt = some t1 ∧ (q + 1) % 65536 = y.delaySeq ∧ two = false →
          Does (.ptpMessageReceived d (.pdelayResp q two sec n c) x) s (delayed (((t2 - t1 : Int) - mkRat c 5120) / 2)))))
    ∧ (¬ptpOn → ∀ a b, Does (.pdelayReqSend a b) s (fun t => t = s))
    ∧ (ptpOn → ∀ a b : Nat, Does (.pdelayReqSend a b) s (fun t =>
      let k := s.getInt Reg.NET_PTP_CFG_LOGPDELAY
      t.now = (s.reach (s.net.delayAt + (if 0 ≤ k then 400000000 * 2 ^ k.toNat else 400000000 / 2 ^ (-k).toNat))).now ∧ t.net.delayAt = t.now
      ∧ (∀ p : Fin 2, s.netUp p = true → (t.ptpPort p).delaySeq = ((s.ptpPort p).delaySeq + 1) % 65536
        ∧ (t.ptpPort p).sentAt = some (stamped (if p.val = 0 then a else b) + s.get Reg.NET_PTP_LAT_TXLAT))
      ∧ (∀ p : Fin 2, s.netUp p = false → t.ptpPort p = s.ptpPort p)
      ∧ t.net.tx = s.net.tx ++ ([0, 1].filter (fun p => s.netUp p)).map (fun p => ⟨p, 1, 16, [((s.ptpPort p).delaySeq : Int)], 72, t.now⟩)
      ∧ Frame [.cad, .net] [] [] s t))
    ∧ (master = none → Does .announceTimeout s (fun t => t = s))
    ∧ (∀ m, master = some m → Does .announceTimeout s (fun t => t.now = (s.reach (m.heard + 3 * m.interval)).now
      ∧ t.net = { s.net with masters := s.net.masters.filter (fun b => b != m) } ∧ Frame [.cad, .net] [] [] s t))
    ∧ (let a := s.get Reg.NET_STAT_PTPPORT
      (∀ u, (s.ptpPort a).due = some u → let other : Prop := ∃ v ∈ (s.ptpPort (1 - a)).lastValid, u ≤ v + 800000000
        Does .activePortChange s (fun t => (other → t.get Reg.NET_STAT_PTPPORT = 1 - a) ∧ (¬other → t.get Reg.NET_STAT_PTPPORT = a) ∧ t.now = (s.reach u).now
          ∧ t.net = s.net ∧ Frame [.cad] [] [Reg.NET_STAT_PTPPORT] s t))
      ∧ ((s.ptpPort a).due = none → Does .activePortChange s (fun t => t = s)))
    ∧ (s.takeGiven .goose = none → ∀ a b c, Does (.gooseMessageReceived a b c) s (fun t => t = s))
    ∧ (∀ g s1, s.takeGiven .goose = some (g, s1) ∧ g.index < 16 → ∀ st sq tal : Nat,
      let n := g.index
      let i := Instr.gooseMessageReceived st sq tal
      let on_ : Prop := s.get (Reg.NET_GSUB_CFG_EN n) ≠ 0 ∧ s.inKickstand = false
      let late : Prop := ∃ e ∈ (s.goose n).expires, e < g.time
      let apdu := (g.bytes.drop (typeAt g.bytes + 2)).take (beField g.bytes (typeAt g.bytes + 4) 2)
      let packet := [n, g.time % 0x100000000, g.time / 0x100000000 % 0x100000000] ++ wordsOfBytes apdu
      let lives (t : State) : Prop := t.goose n = ⟨some (st, sq), some (g.time + 400000 * tal)⟩ ∧ t.get (Reg.NET_GSUB_STAT_STATE n) = 1
      let fresh : Prop :=
        (s.get Reg.NET_QSEL_GOOSEEN = 0 → Does i s (fun t => lives t ∧ t.get (Reg.NET_GSUB_STAT_STNUM n) = st % 65536
          ∧ Frame [.net] [] [Reg.NET_GSUB_STAT_STATE n, Reg.NET_GSUB_STAT_STNUM n] s t))
        ∧ (s.get Reg.NET_QSEL_GOOSEEN ≠ 0 → let put := s1.deliver (s.get Reg.NET_QSEL_GOOSEQ) 8 (12 + apdu.length) packet
          (put.2 = false → Does i s (fun t => t = put.1.count Reg.NET_DROP_RXFULL 1))
          ∧ (put.2 = true → Does i s (fun t => lives t ∧ t.get (Reg.NET_GSUB_STAT_STNUM n) = st % 65536
            ∧ Frame [.net] [] [Reg.NET_GSUB_STAT_STATE n, Reg.NET_GSUB_STAT_STNUM n] put.1 t)))
      (¬on_ → Does i s (fun t => t = s1))
      ∧ (on_ ∧ ¬late ∧ (s.goose n).last = none → fresh)
      ∧ (∀ l, on_ ∧ ¬late ∧ (s.goose n).last = some l → (l.1 ≠ st → fresh)
        ∧ (l.1 = st ∧ l.2 < sq → Does i s (fun t => lives t ∧ Frame [.net] [] [Reg.NET_GSUB_STAT_STATE n] s t))
        ∧ (l.1 = st ∧ sq ≤ l.2 → Does i s (fun t => t.get (Reg.NET_GSUB_STAT_GDUP n) = min (s.get (Reg.NET_GSUB_STAT_GDUP n) + 1) 0xFF
          ∧ t.net = s1.net ∧ Frame [.net] [] [Reg.NET_GSUB_STAT_GDUP n] s t))))
    ∧ (∀ n : Fin 16, ((s.goose n).expires = none → Does (.gooseTalExpiry n) s (fun t => t = s))
      ∧ (∀ e, (s.goose n).expires = some e → let taken : Prop := s.inKickstand = true ∨ ∃ g ∈ s.net.given, g.cls = .goose ∧ g.index = n.val ∧ g.time ≤ e
        (taken → Does (.gooseTalExpiry n) s (fun t => t = s)) ∧ (¬taken → Does (.gooseTalExpiry n) s (fun t => t.now = (s.reach e).now ∧ t.goose n = {}
        ∧ t.get (Reg.NET_GSUB_STAT_STATE n) = 2
        ∧ (s.get Reg.NET_QSEL_GOOSEEN = 0 → Frame [.cad, .net] [] [Reg.NET_GSUB_STAT_STATE n] s t)
        ∧ (s.get Reg.NET_QSEL_GOOSEEN ≠ 0 → let u := ((s.reach e).modGoose n (fun _ => {})).set (Reg.NET_GSUB_STAT_STATE n) 2
          let put := u.deliver (s.get Reg.NET_QSEL_GOOSEQ) 8 4 [n.val + 256]
          t = if put.2 then put.1 else put.1.count Reg.NET_DROP_RXFULL 1)))))
    ∧ (let off : Prop := s.get Reg.NET_QSEL_GPUBEN = 0 ∨ s.inKickstand = true
      (off → Does .goosePublish s (fun t => t = s))
      ∧ (∀ s1, s.takePacket (s.get Reg.NET_QSEL_GPUBQ) 8 = (s1, none) ∧ ¬off → Does .goosePublish s (fun t => t = s1))
      ∧ (∀ s1 len words, s.takePacket (s.get Reg.NET_QSEL_GPUBQ) 8 = (s1, some (len, words)) ∧ ¬off →
        let j := words.headD 0 % 4
        let f := (bytesOfWords (words.drop 1)).take (len - 4)
        let gap := s1.get (Reg.NET_GPUB_TMIN_TMIN j)
        (s1.get (Reg.NET_GPUB_CFG_EN j) = 0 → Does .goosePublish s (fun t => t = s1))
        ∧ (s1.get (Reg.NET_GPUB_CFG_EN j) ≠ 0 → Does .goosePublish s (fun t =>
          (tblGet none t.net.pubs j : Option GoosePub) = some ⟨f, 0, gap, s1.now + 400000 * gap⟩
          ∧ t.net.tx = (s1.originateAny 4 1 (putBytes f (s1.get (Reg.NET_GPUB_CFG_SQOFS j)) [0, 0, 0, 0])).net.tx
          ∧ Frame [.net, .free] [] [] s1 t))))
    ∧ (∀ j : Fin 4, ((tblGet none s.net.pubs j : Option GoosePub) = none ∨ s.inKickstand = true → Does (.gooseResend j) s (fun t => t = s))
      ∧ (∀ x : GoosePub, (tblGet none s.net.pubs j : Option GoosePub) = some x ∧ s.inKickstand = false → Does (.gooseResend j) s (fun t =>
        let gap := min (2 * x.gap) (s.get (Reg.NET_GPUB_CFG_TMAX j))
        t.now = (s.reach x.nextAt).now ∧ (tblGet none t.net.pubs j : Option GoosePub) = some ⟨x.frame, x.count + 1, gap, t.now + 400000 * gap⟩
        ∧ t.net.tx = ((s.reach x.nextAt).originateAny 4 1 (putBytes x.frame (s.get (Reg.NET_GPUB_CFG_SQOFS j)) (beBytes ((x.count + 1) % 0x100000000) 4))).net.tx
        ∧ Frame [.cad, .net, .free] [] [] s t)))
    ∧ (s.takeGiven .sv = none → ∀ l b, Does (.svFrameReceived l b) s (fun t => t = s))
    ∧ (∀ g s1, s.takeGiven .sv = some (g, s1) ∧ g.index < 8 → ∀ sim : Bool,
      let n := g.index
      let on_ : Prop := s.get (Reg.NET_SVS_CFG_EN n) ≠ 0 ∧ s.inKickstand = false
      let state := s.get (Reg.NET_SVS_STAT_STATE n)
      let x := s.stream n
      let m := s.get (Reg.NET_SVS_RATE_WRAP n) + 1
      let punctual : Prop := state ≠ 3 ∨ g.time ≤ s.svDue n
      (¬on_ → ∀ l, Does (.svFrameReceived l sim) s (fun t => t = s1))
      ∧ (∀ a : SvAsdu, on_ ∧ punctual →
        let i := Instr.svFrameReceived [a] sim
        let good : Prop := a.data.length = 8 * s.get (Reg.NET_SVS_RATE_NMEM n)
        let ms := membersOf (a.data.map (fun b => b.toNat))
        let base := s.get (Reg.NET_SVS_BASE_BASE n) + 128 * s.get (Reg.NET_SVS_STAT_WIDX n)
        let d := (a.smpCnt % m + m - x.expected % m) % m
        let resyncn := s.get (Reg.NET_SVS_SUP_RESYNCN n)
        let lossn := s.get (Reg.NET_SVS_SUP_LOSSN n)
        let wrote (resync : Bool) (c : Nat) (t : State) : Prop :=
          let y := t.stream n
          y.members = ms ∧ y.anchor = a.smpCnt ∧ y.anchorAt = g.time ∧ y.expected = (a.smpCnt + 1) % m ∧ y.absent = 0 ∧ y.late = 0
          ∧ y.eseq = (x.eseq + 1) % 65536 ∧ y.inOrder = c
          ∧ t.get (Reg.NET_SVS_STAT_WIDX n) = (s.get (Reg.NET_SVS_STAT_WIDX n) + 1) % 64
          ∧ (base % 128 = 0 → t.wordAt base = y.eseq * 65536 + a.smpSynch % 4 * 16384 + (if ∃ q ∈ ms, q.2 % 4 ≠ 0 then 4096 else 0)
              + (if sim = true ∨ ∃ q ∈ ms, q.2.testBit 11 = true then 2048 else 0) + (if resync then 512 else 0)
            ∧ t.wordAt (base + 4) = a.smpCnt % 65536 ∧ t.wordAt (base + 8) = g.time % 0x100000000 ∧ t.wordAt (base + 12) = g.time / 0x100000000 % 0x100000000
            ∧ (∀ q : Nat × Nat, ms.head? = some q → t.wordAt (base + 32) = q.1 ∧ t.wordAt (base + 36) = q.2))
          ∧ (∀ b, b < base ∨ base + 128 ≤ b → t.byteAt b = s.byteAt b)
          ∧ Frame [.mem, .net] [] [Reg.NET_SVS_STAT_WIDX n, Reg.NET_SVS_STAT_STATE n] s t
        let resynced (c : Nat) (t : State) : Prop := (resyncn ≤ c → wrote false x.inOrder t ∧ t.get (Reg.NET_SVS_STAT_STATE n) = 3
            ∧ t.net.lost.testBit n = false)
          ∧ (c < resyncn → wrote true c t ∧ t.get (Reg.NET_SVS_STAT_STATE n) = 2 ∧ t.net.lost = s.net.lost)
        (¬good → Does i s (fun t => t.get (Reg.NET_SVS_STAT_FORM n) = min (s.get (Reg.NET_SVS_STAT_FORM n) + 1) 0xF ∧ t.net = s1.net
          ∧ Frame [.net] [] [Reg.NET_SVS_STAT_FORM n] s t))
        ∧ (good ∧ (state = 1 ∨ state = 4) → Does i s (resynced 1))
        ∧ (good ∧ state = 2 ∧ d = 0 → Does i s (resynced (x.inOrder + 1)))
        ∧ (good ∧ state = 2 ∧ d ≠ 0 → Does i s (resynced 1))
        ∧ (good ∧ state = 3 ∧ d = 0 → Does i s (fun t => wrote false x.inOrder t ∧ t.get (Reg.NET_SVS_STAT_STATE n) = 3))
        ∧ (good ∧ state = 3 ∧ m ≤ 2 * d ∧ d ≠ 0 ∧ x.late + 1 < lossn → Does i s (fun t => (t.stream n).late = x.late + 1
          ∧ t.get (Reg.NET_SVS_STAT_LATE n) = min (s.get (Reg.NET_SVS_STAT_LATE n) + 1) 0xF ∧ Frame [.net] [] [Reg.NET_SVS_STAT_LATE n] s t))
        ∧ (good ∧ state = 3 ∧ d = 1 ∧ 2 < m ∧ x.absent + 1 < lossn → Does i s (fun t => t.get (Reg.NET_SVS_STAT_STATE n) = 3
          ∧ (t.stream n).expected = (a.smpCnt + 1) % m ∧ (t.stream n).eseq = ((x.eseq + 1) % 65536 + 1) % 65536
          ∧ t.get (Reg.NET_SVS_STAT_SUBST n) = min (s.get (Reg.NET_SVS_STAT_SUBST n) + 1) 0xFF
          ∧ outside n t ∧ Frame [.mem, .net] [] [Reg.NET_SVS_STAT_WIDX n, Reg.NET_SVS_STAT_SUBST n] s t))))
    ∧ (∀ n : Fin 8,
      let state := s.get (Reg.NET_SVS_STAT_STATE n)
      let x := s.stream n
      let m := s.get (Reg.NET_SVS_RATE_WRAP n) + 1
      let due := x.anchorAt + (x.expected + m - x.anchor % m) % m * (40 * s.get (Reg.NET_SVS_RATE_TSMP n)) + 400 * s.get (Reg.NET_SVS_SUP_TOL n)
      let lossn := s.get (Reg.NET_SVS_SUP_LOSSN n)
      let came : Prop := ∃ g ∈ s.net.given, g.cls = .sv ∧ g.index = n.val ∧ g.time ≤ due
      let base := s.get (Reg.NET_SVS_BASE_BASE n) + 128 * s.get (Reg.NET_SVS_STAT_WIDX n)
      (state ≠ 3 ∨ came → Does (.svSampleDue n) s (fun t => t = s))
      ∧ (state = 3 ∧ ¬came ∧ x.absent + 1 < lossn → Does (.svSampleDue n) s (fun t => t.now = (s.reach due).now ∧ (t.stream n).absent = x.absent + 1
        ∧ (t.stream n).expected = (x.expected + 1) % m ∧ (t.stream n).members = x.members
        ∧ (base % 128 = 0 → t.wordAt (base + 8) = due % 0x100000000)
        ∧ t.get (Reg.NET_SVS_STAT_SUBST n) = min (s.get (Reg.NET_SVS_STAT_SUBST n) + 1) 0xFF
        ∧ t.get (Reg.NET_SVS_STAT_WIDX n) = (s.get (Reg.NET_SVS_STAT_WIDX n) + 1) % 64
        ∧ outside n t ∧ Frame [.cad, .mem, .net] [] [Reg.NET_SVS_STAT_WIDX n, Reg.NET_SVS_STAT_SUBST n] s t))
      ∧ (state = 3 ∧ ¬came ∧ lossn ≤ x.absent + 1 → Does (.svSampleDue n) s (fun t => t.now = (s.reach due).now ∧ t.get (Reg.NET_SVS_STAT_STATE n) = 4
        ∧ t.net.lost.testBit n = true ∧ t.fltBit Reg.FLT_SRC_SRC 87 = true
        ∧ t.get (Reg.NET_SVS_STAT_WIDX n) = (s.get (Reg.NET_SVS_STAT_WIDX n) + 1) % 64
        ∧ outside n t ∧ Frame ([.cad, .mem, .net] ++ Part.ofFault) Win.ofFault [Reg.NET_SVS_STAT_WIDX n, Reg.NET_SVS_STAT_STATE n] s t)))
    ∧ (∀ j : Fin 2, (s.mtr.lastAt = none → Does (.svPublish j) s (fun t => t = s))
      ∧ (∀ at_, s.mtr.lastAt = some at_ →
        let step := if s.get (Reg.NET_SVP_CFG_DEC j) = 0 then 50000 else 100000
        let idle : Prop := s.get (Reg.NET_SVP_CFG_EN j) = 0 ∨ s.inKickstand = true ∨ at_ % step ≠ 0 ∨ tblGet none s.net.published j = some at_
        let tpl := (List.range (s.get (Reg.NET_SVP_CFG_LEN j))).map (fun i => (s.byteAt (s.get (Reg.NET_SVP_TPL_TPL j) + i)).toNat)
        let o := s.get (Reg.NET_SVP_OFS_SMPOFS j)
        let f := putBytes (putBytes (putBytes tpl o (beBytes (at_ % 400000000 / step) 2)) (o + 6) [if s.get Reg.CAD_STAT_SYNC = 2 then 2 else 1])
          (s.get (Reg.NET_SVP_OFS_DSOFS j)) (s.svDataSet j)
        (idle → Does (.svPublish j) s (fun t => t = s))
        ∧ (¬idle → Does (.svPublish j) s (fun t => tblGet none t.net.published j = some at_ ∧ t.net.tx = (s.originateAny 3 2 f).net.tx
          ∧ Frame [.net, .free] [] [] s t))))
    ∧ (∀ v : Word,
      let w := v.toNat
      let write (o : Nat) : Instr := Instr.netRegisterWrite (Fin.ofNat 16384 o) v
      let refused (t : State) : Prop := t.get Reg.NET_STAT_CFGERR = 1 ∧ Frame [] [] [Reg.NET_STAT_CFGERR] s t
      Does (write 4) s (fun t => t.get Reg.NET_STAT_CFGERR = (if w.testBit 8 then 0 else s.get Reg.NET_STAT_CFGERR)
        ∧ Frame [] [] [Reg.NET_STAT_CFGERR] s t)
      ∧ (w / 8 % 4 = 3 → Does (write 0) s refused)
      ∧ (w / 8 % 4 ≠ 3 → Does (write 0) s (fun t => t.get Reg.NET_CTRL_EN = w % 4 ∧ t.get Reg.NET_CTRL_RED = w / 8 % 4
        ∧ t.get Reg.NET_CTRL_KSPORT = w / 32 % 2 ∧ t.get Reg.NET_CTRL_PTPEN = w / 256 % 2
        ∧ (∀ p : Fin 2, t.bit Reg.NET_STAT_LINK p = (s.bit Reg.NET_STAT_LINK p && w.testBit p))
        ∧ (w.testBit 8 = false → t.net.masters = [] ∧ t.net.ptpPorts = [])
        ∧ Frame [.net] [] [Reg.NET_CTRL_EN, Reg.NET_CTRL_RED, Reg.NET_CTRL_KSPORT, Reg.NET_CTRL_PTPEN, Reg.NET_STAT_LINK] s t))
      ∧ (128 ≤ w % 256 → Does (write 0x10) s refused)
      ∧ Does (write 0x14) s (fun t => t.get Reg.NET_PTP_LAT_TXLAT = w / 65536 ∧ t.get Reg.NET_PTP_LAT_RXLAT = w % 65536
        ∧ Frame [] [] [Reg.NET_PTP_LAT_TXLAT, Reg.NET_PTP_LAT_RXLAT] s t)
      ∧ (∀ n : Fin 16,
        let en := Reg.NET_GSUB_CFG_EN n
        (s.get en ≠ 0 ∧ w.testBit 31 = true → Does (write (0x100 + 8 * n.val)) s refused)
        ∧ (s.get en ≠ 0 ∧ w.testBit 31 = false → Does (write (0x100 + 8 * n.val)) s (fun t => t.get en = 0 ∧ t.goose n = {}
          ∧ t.get (Reg.NET_GSUB_STAT_STATE n) = 0 ∧ Frame [.net] [] [en, Reg.NET_GSUB_STAT_STATE n] s t))
        ∧ (s.get en = 0 → Does (write (0x100 + 8 * n.val)) s (fun t => t.get en = w / 0x80000000 ∧ t.get (Reg.NET_GSUB_CFG_APPID n) = w % 65536
          ∧ t.get (Reg.NET_GSUB_CFG_MACLO n) = w / 65536 % 512
          ∧ Frame [.net] [] [en, Reg.NET_GSUB_CFG_APPID n, Reg.NET_GSUB_CFG_MACLO n, Reg.NET_GSUB_STAT_STATE n] s t)))
      ∧ (∀ n : Fin 8,
        let en := Reg.NET_SVS_CFG_EN n
        let base : Prop := w % 128 = 0 ∧ 0x11000000 ≤ w ∧ w ≤ 0x1107E000
        (s.get en ≠ 0 ∨ ¬base → Does (write (0x20C + 16 * n.val)) s refused)
        ∧ (s.get en = 0 ∧ base → Does (write (0x20C + 16 * n.val)) s (fun t => t.get (Reg.NET_SVS_BASE_BASE n) = w
          ∧ Frame [] [] [Reg.NET_SVS_BASE_BASE n] s t))
        ∧ (s.get en = 0 → Does (write (0x200 + 16 * n.val)) s (fun t => t.get en = w / 0x80000000 ∧ t.get (Reg.NET_SVS_CFG_APPID n) = w % 65536
          ∧ (w.testBit 31 = true → t.get (Reg.NET_SVS_STAT_STATE n) = 1) ∧ t.get (Reg.NET_SVS_CFG_MACLO n) = w / 65536 % 512
          ∧ Frame [.net] [] [en, Reg.NET_SVS_CFG_APPID n, Reg.NET_SVS_CFG_MACLO n, Reg.NET_SVS_STAT_STATE n] s t))))
    ∧ Does (.netCounterRead 0) s (fun t => t.bus.readData = s.get Reg.NET_DROP_GUARD * 0x1000000 + s.get Reg.NET_DROP_RXFULL * 0x10000
        + s.get Reg.NET_DROP_SAFDROP * 0x100 + s.get Reg.NET_DROP_FWDDROP
      ∧ (∀ f ∈ [Reg.NET_DROP_GUARD, Reg.NET_DROP_RXFULL, Reg.NET_DROP_SAFDROP, Reg.NET_DROP_FWDDROP], t.get f = 0)
      ∧ Frame [.bus] [] [Reg.NET_DROP_GUARD, Reg.NET_DROP_RXFULL, Reg.NET_DROP_SAFDROP, Reg.NET_DROP_FWDDROP] s t)
    ∧ (∀ (i : Fin 27) (p : Fin 2), i.val = 1 + p.val → Does (.netCounterRead i) s (fun t =>
      t.bus.readData = s.get (Reg.NET_PORT_CNT_FCS p) * 0x10000 + s.get (Reg.NET_PORT_CNT_SIZE p) ∧ t.get (Reg.NET_PORT_CNT_FCS p) = 0
      ∧ t.get (Reg.NET_PORT_CNT_SIZE p) = 0 ∧ Frame [.bus] [] [Reg.NET_PORT_CNT_FCS p, Reg.NET_PORT_CNT_SIZE p] s t))
    ∧ (∀ (i : Fin 27) (n : Fin 16), i.val = 3 + n.val → Does (.netCounterRead i) s (fun t =>
      t.bus.readData = s.get (Reg.NET_GSUB_STAT_STATE n) * 0x40000000 + s.get (Reg.NET_GSUB_STAT_GDUP n) * 0x10000 + s.get (Reg.NET_GSUB_STAT_STNUM n)
      ∧ t.get (Reg.NET_GSUB_STAT_GDUP n) = 0 ∧ Frame [.bus] [] [Reg.NET_GSUB_STAT_GDUP n] s t))
    ∧ (∀ (i : Fin 27) (n : Fin 8), i.val = 19 + n.val → Does (.netCounterRead i) s (fun t =>
      t.bus.readData = s.get (Reg.NET_SVS_STAT_STATE n) * 0x20000000 + s.get (Reg.NET_SVS_STAT_WIDX n) * 0x10000
        + s.get (Reg.NET_SVS_STAT_SUBST n) * 0x100 + s.get (Reg.NET_SVS_STAT_LATE n) * 16 + s.get (Reg.NET_SVS_STAT_FORM n)
      ∧ t.get (Reg.NET_SVS_STAT_SUBST n) = 0 ∧ t.get (Reg.NET_SVS_STAT_LATE n) = 0 ∧ t.get (Reg.NET_SVS_STAT_FORM n) = 0
      ∧ Frame [.bus] [] [Reg.NET_SVS_STAT_SUBST n, Reg.NET_SVS_STAT_LATE n, Reg.NET_SVS_STAT_FORM n] s t))

/-- A ring frame with a code error or a bad CRC counts and raises source 88, one of a wrong shape or with a reserved value counts; own frames
and copies of a frame already received are removed. A new frame is remembered and forwarded out of the other lane with HOP counted on and
the CRC formed anew, unless it has reached the hop limit. A BLOCK frame latches source 30 for its arms; a SUMMARY of an admitted device is
kept for the Acquire deadline; a follower takes TICK, period, apply delay, tick start, RING and version from its leader's TIME frame; the
first GRID frame of a tick gives the words 0x080 to 0x0BF; SERVICE frames act where ALL is 1 or DEST is this device; a HELLO under the
leader's own index is refused with reason 2. (No injected error is armed; how a follower steers, when it counts itself admitted, what
shows a second device and when a leader yields are the model's choices, logs 38 and 37.) Completes: pelotonBlockFrame, summaryReceived,
pelotonTimeFrame, gridFrameReceived, pelotonServiceFrame. (R459, R460, R461, R463, R464, R465, R467, R468, R471, R472, R474.) -/
def Obligations.RingFramesAreTakenOnceAndForwarded : Prop :=
  ∀ (s : State) (l : Fin 2) (f : LineFrame), s.get Reg.FLT_INJ_CTRL_ARM = 0 →
    let up : Prop := s.laneUp l = true
    let neigh (t : State) : State := if ringHop f = 0 then (t.set (Reg.PEL_LANE_NEIGH l) (ringOrig f)).set (Reg.PEL_LANE_NVALID l) 1 else t
    let d := ringOrig f
    let counts (c : Fld) (ps : List Part) (bs : List Nat) (t : State) : Prop := t.get c = min (s.get c + 1) 0xFF ∧ Frame ps bs [c] s t
    let reports (c : Fld) (t : State) : Prop := t.fltBit Reg.FLT_SRC_SRC 88 = true ∧ counts c Part.ofFault Win.ofFault t
    let whole (start len : Nat) : Prop := f.bytes.length = len ∧ f.byte 0 = start
    let crcOk (len : Nat) : Prop := crc32c (((f.bytes.take (len - 4)).drop 1).map (fun b => b.toNat)) = f.field (len - 4) 4
    let lawful : Prop := f.ver ≠ 0 ∧ f.ver ≠ 3 ∧ f.byte 2 / 8 % 2 = 0 ∧ f.byte 2 < 128
    -- what a frame that is not taken does, and what of every frame that is
    let judged (i : Instr) (start len kind : Nat) (legal twin : Prop) : Prop :=
      (¬up → Does i s (fun t => t = s))
      ∧ (up ∧ f.codeError = true → Does i s (reports (Reg.PEL_ERR_CODE l)))
      ∧ (up ∧ f.codeError = false ∧ ¬whole start len → Does i s (counts (Reg.PEL_ERR_CODE l) [] []))
      ∧ (up ∧ f.codeError = false ∧ whole start len ∧ ¬crcOk len → Does i s (reports (Reg.PEL_ERR_CRC l)))
      ∧ (up ∧ f.codeError = false ∧ whole start len ∧ crcOk len ∧ (¬lawful ∨ ¬legal) → Does i s (counts (Reg.PEL_ERR_CODE l) [] []))
      ∧ (up ∧ f.codeError = false ∧ whole start len ∧ crcOk len ∧ lawful ∧ legal →
        (d = s.get Reg.PEL_STAT_INDEX ∧ ¬twin → Does i s (fun t => t = s))
        ∧ (d ≠ s.get Reg.PEL_STAT_INDEX ∧ (d, kind, f.seq) ∈ s.pel.seen → Does i s (fun t => t = neigh s)))
    let taken (start len kind : Nat) (legal : Prop) : Prop := up ∧ f.codeError = false ∧ whole start len ∧ crcOk len ∧ lawful ∧ legal
      ∧ d ≠ s.get Reg.PEL_STAT_INDEX ∧ (d, kind, f.seq) ∉ s.pel.seen
    let passed (kind : Nat) : State := (((neigh s).ringRemember f kind).ringForward l f kind).meet d
    let own : List Fld := [Reg.PEL_LANE_NEIGH l, Reg.PEL_LANE_NVALID l]
    (∀ kind, let u := (s.ringRemember f kind).ringForward l f kind
      let n := popCount 8 (s.get Reg.PEL_CTRL_MEMBERS)
      let limit := if kind = 5 ∨ s.get Reg.PEL_STAT_RING = 0 then n - 1 else if l = 1 then n / 2 else (n - 1) / 2
      let goes : Prop := ringHop f + 1 < limit ∧ s.laneUp (1 - l.val) = true
      (d, kind, f.seq) ∈ u.pel.seen ∧ (¬goes → u.out = s.out)
      ∧ (goes ∧ kind ≠ 1 → u.out = s.out ++ [.laneFrame (1 - l.val) (forwardBytes f kind 0)])
      ∧ Frame [.pel, .out, .free] [] [] s u)
    ∧ (∀ kind body, let u := s.laneSend kind body
      let n := popCount 8 (s.get Reg.PEL_CTRL_MEMBERS)
      let goes (k : Fin 2) : Prop := s.bit Reg.PEL_STAT_LANEUP k = true ∧ 0 < (if kind = 5 ∨ s.get Reg.PEL_STAT_RING = 0 then n - 1 else if k.val = 0 then n / 2 else (n - 1) / 2)
      u.out.length = s.out.length + ((if goes 0 then 1 else 0) + (if goes 1 then 1 else 0)) ∧ ((∀ k, ¬goes k) → u.out = s.out) ∧ Frame [.pel, .out] [] [] s u)
    ∧ (let i := Instr.pelotonBlockFrame l f
      let arms := f.byte 3
      judged i 0xF7 8 5 (arms < 64) False
      ∧ (taken 0xF7 8 5 (arms < 64) ∧ arms = 0 → Does i s (fun t => Frame [.pel, .out, .free] [] own s t))
      ∧ (taken 0xF7 8 5 (arms < 64) ∧ arms ≠ 0 → Does i s (fun t => t.tripFlag 30 = true ∧ t.get Reg.TRP_PULSE_EN_EN &&& arms = 0
        ∧ t.get Reg.TRP_PULSE_EN_EN ||| arms = s.get Reg.TRP_PULSE_EN_EN ||| arms
        ∧ t.get Reg.PEL_CNT_BLKRX = min (s.get Reg.PEL_CNT_BLKRX + 1) 0xFFFF ∧ (t.pelDev d).blkArms = (if s.heard d = true then (s.pelDev d).blkArms ||| arms else (s.pelDev d).blkArms)
        ∧ Frame ([.free] ++ Part.ofTrip) Win.ofTrip (Reg.PEL_CNT_BLKRX :: own) s t)))
    ∧ (let i := Instr.summaryReceived l f
      let legal : Prop := f.byte 3 < 8 ∧ f.byte 8 < 64 ∧ f.byte 9 = 0 ∧ f.byte 59 = 0 ∧ (if f.ver = 1 then f.byte 58 = 0 else f.byte 58 < 5)
      let arms : List Nat := [0, 1, 2, 3, 4, 5]
      judged i 0xFB 64 2 legal False
      ∧ (taken 0xFB 64 2 legal ∧ s.bit Reg.PEL_STAT_ADMIT d = false → Does i s (fun t => t = passed 2))
      ∧ (taken 0xFB 64 2 legal ∧ s.bit Reg.PEL_STAT_ADMIT d = true → Does i s (fun t =>
        (t.pelDev d).arrived = some ⟨f.field 4 4, f.byte 3 % 4, (f.byte 3).testBit 2, f.byte 8, arms.map (fun a => f.byte (10 + 8 * a)),
          arms.map (fun a => f.byte (11 + 8 * a)), arms.map (fun a => f.field (12 + 8 * a) 3), arms.map (fun a => f.field (15 + 8 * a) 3), f.byte 58⟩
        ∧ (t.pelDev d).summary = (s.pelDev d).summary ∧ (t.pelDev d).blkArms = f.byte 8 ∧ (∀ e : Fin 8, e.val ≠ d → t.pelDev e = s.pelDev e)
        ∧ Frame [.pel, .out, .free] [] own s t)))
    ∧ (∀ arrival : Nat, let i := Instr.pelotonTimeFrame l f arrival
      let legal : Prop := f.byte 3 < 2 ∧ (if f.ver = 1 then f.byte 23 = 0 else f.byte 23 < 5) ∧ 4000 ≤ f.field 16 2
        ∧ f.field 16 2 ≤ 40000 ∧ 40 ≤ f.field 18 2 ∧ f.field 18 2 ≤ 4000
      let role := s.get Reg.PEL_STAT_ROLE
      let admitted : Prop := s.bit Reg.PEL_STAT_ADMIT (s.get Reg.PEL_STAT_INDEX) = true ∧ role ≠ 1 ∨ s.pel.greeted = true ∧ role ≠ 1
      let other : Prop := (role = 1 ∧ s.majority = true) ∨ (role = 2 ∧ d ≠ s.get Reg.PEL_STAT_LEADER)
      let start := f.field 8 8
      judged i 0xDC 28 1 legal False
      ∧ (taken 0xDC 28 1 legal ∧ other → Does i s (fun t => t = passed 1))
      ∧ (taken 0xDC 28 1 legal ∧ ¬other ∧ ¬admitted → Does i s (fun t => t.get Reg.PEL_STAT_ROLE = 2 ∧ t.get Reg.PEL_STAT_LEADER = d
        ∧ t.get Reg.PEL_STAT_VER = f.ver ∧ t.get Reg.PEL_STAT_RING = f.byte 3 ∧ t.bit Reg.PEL_STAT_ADMIT (s.get Reg.PEL_STAT_INDEX) = false
        ∧ t.pel.noLeader = false ∧ t.pel.leaderLost = false ∧ Frame [.pel, .out, .free] [Win.pel] [] s t))
      ∧ (taken 0xDC 28 1 legal ∧ ¬other ∧ admitted → Does i s (fun t => t.get Reg.PEL_STAT_ROLE = 2 ∧ t.get Reg.PEL_STAT_LEADER = d
        ∧ t.get Reg.PEL_STAT_VER = f.ver ∧ t.get Reg.PEL_STAT_RING = f.byte 3 ∧ t.get Reg.CAD_SYNC_SRC = 2
        ∧ t.get Reg.CAD_TICK_TICK = f.field 4 4 ∧ t.get Reg.CAD_PERIOD_PERIOD = f.field 16 2 ∧ t.get Reg.CAD_APPLY_DLY_DLY = f.field 18 2
        ∧ t.cad.tickStart = start ∧ t.get Reg.CAD_STAT_SYNC = 4
        ∧ (t.cad.anchor = start ∨ f.field 16 2 = s.get Reg.CAD_PERIOD_PERIOD ∧ t.cad.anchor % f.field 16 2 = start % f.field 16 2)
        ∧ (s.cad.nextTick.isSome = true → t.cad.nextTick = some (start + f.field 16 2))
        ∧ t.pel.noLeader = false ∧ t.pel.leaderLost = false
        ∧ t.pel.steer = (arrival : Int) - (32 * start + f.field 20 3 + s.get (Reg.PEL_LANE_DLY l))
        ∧ t.now = (((s.now : Int) - t.pel.steer / 32) % 0x10000000000000000).toNat
        ∧ Frame ([.cad, .sys, .adc, .cle, .cel, .edg, .spk, .bus, .pel, .free, .grd, .memt, .saf, .mtr, .net, .pwr, .boot] ++ Part.ofFault) [Win.pel, Win.cad, Win.adc, Win.flt]
          ((List.range 96).map Reg.SPK_PSTAT_DLYLONG) s t)))
    ∧ (let i := Instr.gridFrameReceived l f
      let for_ : Prop := s.get Reg.PEL_STAT_ROLE = 2 ∧ d = s.get Reg.PEL_STAT_LEADER ∧ s.pel.gridTick ≠ some s.tick
      judged i 0xFD 92 3 (f.field 3 5 = 0) False
      ∧ (taken 0xFD 92 3 (f.field 3 5 = 0) ∧ ¬for_ → Does i s (fun t => t = passed 3))
      ∧ (taken 0xFD 92 3 (f.field 3 5 = 0) ∧ for_ → Does i s (fun t => t.pel.gridTick = some s.tick
        ∧ (∀ k : Fin 64, tblGet (0 : Word) t.cle.inMap (0x80 + k) = BitVec.ofNat 32 (if k.val < 20 then f.field (8 + 4 * k) 4 else 0))
        ∧ (∀ a : Nat, a < 0x80 ∨ 0xC0 ≤ a → tblGet (0 : Word) t.cle.inMap a = tblGet (0 : Word) s.cle.inMap a)
        ∧ t.cle.runObj = s.cle.runObj ∧ t.cle.pc = s.cle.pc ∧ Frame [.cle, .pel, .trp, .out, .free] [] own s t)))
    ∧ (∀ c : PelService, let i := Instr.pelotonServiceFrame l f c
      let type := f.byte 3
      let n := f.byte 4
      let legal : Prop := (type = 1 ∨ type = 2 ∨ type = 3 ∨ 0x80 ≤ type) ∧ n < 55 ∧ f.byte 5 < 16
      let ours : Prop := (f.byte 5).testBit 3 = true ∨ f.byte 5 % 8 = s.get Reg.PEL_STAT_INDEX
      let packet := (passed 4).deliver (s.get Reg.PEL_SVC_Q_INQ) 9 (4 + n)
        ((d + 256 * type + 65536 * n) :: wordsOfBytes ((List.range n).map (fun i => f.byte (6 + i))))
      let admits : List Fld := [Reg.PEL_STAT_ADMIT, Reg.PEL_STAT_HEARD, Reg.PEL_STAT_VER, missFld d, Reg.PEL_ADM_VALID, Reg.PEL_ADM_DEVICE,
        Reg.PEL_ADM_REASON]
      judged i 0x1C 64 4 legal (type = 1 ∧ s.get Reg.PEL_STAT_ROLE = 1 ∧ s.bit Reg.PEL_STAT_ADMIT d = true)
      ∧ (up ∧ f.codeError = false ∧ whole 0x1C 64 ∧ crcOk 64 ∧ lawful ∧ legal ∧ d = s.get Reg.PEL_STAT_INDEX ∧ type = 1
          ∧ s.get Reg.PEL_STAT_ROLE = 1 ∧ s.bit Reg.PEL_STAT_ADMIT d = true → Does i s (fun t =>
        t.get Reg.PEL_ADM_VALID = 1 ∧ t.get Reg.PEL_ADM_DEVICE = d ∧ t.get Reg.PEL_ADM_REASON = 2 ∧ t.fltBit Reg.FLT_SRC_SRC 90 = true
        ∧ Frame (.pel :: Part.ofFault) Win.ofFault [Reg.PEL_ADM_VALID, Reg.PEL_ADM_DEVICE, Reg.PEL_ADM_REASON] s t))
      ∧ (taken 0x1C 64 4 legal ∧ ¬ours → Does i s (fun t => t = passed 4))
      ∧ (taken 0x1C 64 4 legal ∧ ours ∧ 0x80 ≤ type → (packet.2 = false → Does i s (fun t => t = packet.1.count (Reg.PEL_ERR_CODE l) 1))
        ∧ (packet.2 = true → Does i s (fun t => t = packet.1)))
      ∧ (∀ cand ver part, taken 0x1C 64 4 legal ∧ ours ∧ type = 1 ∧ c = .hello cand ver part → Does i s (fun t =>
        let x := t.pelDev d
        let was := s.pelDev d
        x.present = true ∧ x.cand = cand ∧ x.verMap = ver.toNat ∧ x.part = part.toNat ∧ x.config = was.config
        ∧ (x.twin = true ↔ was.twin = true ∨ was.present = true ∧ (was.part ≠ part.toNat ∨ ∃ h ∈ tblGet none was.hops l, h ≠ ringHop f))
        ∧ Frame ([.pel, .free] ++ Part.ofFault) Win.ofFault (admits ++ own) s t))
      ∧ (∀ k, taken 0x1C 64 4 legal ∧ ours ∧ type = 2 ∧ c = .config k → Does i s (fun t =>
        let reason := (State.modDev (passed 4) d (fun x => { x with config := some k })).refusalReason d k
        let judges : Prop := (s.pelDev d).present = true ∧ s.bit Reg.PEL_STAT_ADMIT d = false
        (t.pelDev d).config = some k
        ∧ (judges ∧ (s.get Reg.PEL_STAT_ROLE = 1 ∨ s.get Reg.PEL_STAT_ROLE = 2) ∧ reason = 0 → t.bit Reg.PEL_STAT_ADMIT d = true
          ∧ t.heard d = true ∧ t.get (missFld d) = 0)
        ∧ (judges ∧ s.get Reg.PEL_STAT_ROLE = 1 ∧ reason ≠ 0 → t.get Reg.PEL_STAT_ADMIT = s.get Reg.PEL_STAT_ADMIT
          ∧ t.get Reg.PEL_ADM_VALID = 1 ∧ t.get Reg.PEL_ADM_DEVICE = d ∧ t.get Reg.PEL_ADM_REASON = reason ∧ t.fltBit Reg.FLT_SRC_SRC 90 = true)
        ∧ Frame ([.pel, .free] ++ Part.ofFault) Win.ofFault (admits ++ own) s t))
      ∧ (taken 0x1C 64 4 legal ∧ ours ∧ type = 3 → Does i s (fun t =>
        t = if s.boot.image.isSome then (passed 4).laneTell 18 [d] else passed 4)))

/-- A lane goes DOWN, ALIGN, UP, and on the loss of alignment DOWN with ALIGN counted and source 88. ECHO goes out at the first character
boundary 2.0 us after the tick start and gives the lane delay. HELLO goes out every 1 ms until admission. With no leader and a majority of
MEMBERS heard the candidate with the lowest index leads. A device whose summaries are missing LOSSN times becomes unheard, with interrupt
15; where it was the leader LDRLOSS counts and source 89 reports, and an election is due or ROLE becomes NOLEADER and source 30 latches
for every arm. The SUMMARY is formed at PEL_SUMOFS. Packets of OUTQ go out as SERVICE frames, where one ends before the next frame that is
due, or are discarded. A write outside R476's rules sets CFGERR; reading the lane counters clears them. Completes: laneAlignmentChange,
pelotonEcho, pelotonHello, leaderElection, deviceUnheard, summarySend, pelotonServiceSend, pelRegisterWrite, pelErrRead. (R459, R462,
R464, R467, R469, R473, R475, R476, R463.) -/
def Obligations.PelotonLanesLeaderAndRegisters : Prop :=
  ∀ (s : State),
    let run : Prop := s.get Reg.PEL_CTRL_EN ≠ 0 ∧ s.get Reg.CLK_REF_SSCHOLD = 0 ∧ s.inKickstand = false
    let role := s.get Reg.PEL_STAT_ROLE
    let index := s.get Reg.PEL_STAT_INDEX
    (∀ l : Fin 2,
      let st := Reg.PEL_LANE_LSTATE l
      let change (e : LaneEvent) : Instr := Instr.laneAlignmentChange l e
      (¬run → ∀ e, Does (change e) s (fun t => t = s))
      ∧ (run ∧ s.get st = 1 → Does (change .transitions) s (fun t => t.get st = 2 ∧ Frame [] [] [st] s t))
      ∧ (run ∧ s.get st ≠ 1 → Does (change .transitions) s (fun t => t = s))
      ∧ (run ∧ s.get st = 3 → Does (change .aligned) s (fun t => t = s))
      ∧ (run ∧ s.get st ≠ 3 → Does (change .aligned) s (fun t => t.get st = 3 ∧ t.bit Reg.PEL_STAT_LANEUP l = true
        ∧ t.bit Reg.PEL_STAT_LANEUP (1 - l.val) = s.bit Reg.PEL_STAT_LANEUP (1 - l.val)
        ∧ (tblGet none t.pel.avg l : Option (Int × Nat)) = some (0, 0) ∧ Frame [.pel] [] [st, Reg.PEL_STAT_LANEUP] s t))
      ∧ (run → Does (change .lost) s (fun t => t.get st = 1 ∧ t.bit Reg.PEL_STAT_LANEUP l = false
        ∧ t.bit Reg.PEL_STAT_LANEUP (1 - l.val) = s.bit Reg.PEL_STAT_LANEUP (1 - l.val) ∧ t.get (Reg.PEL_LANE_NVALID l) = 0
        ∧ t.get (Reg.PEL_ERR_ALIGN l) = min (s.get (Reg.PEL_ERR_ALIGN l) + 1) 0xFF ∧ t.fltBit Reg.FLT_SRC_SRC 88 = true
        ∧ Frame Part.ofFault Win.ofFault [st, Reg.PEL_STAT_LANEUP, Reg.PEL_LANE_NVALID l, Reg.PEL_ERR_ALIGN l] s t)))
    ∧ (∀ l : Fin 2,
      let up : Prop := s.laneUp l = true
      let asked := tblGet 0 s.pel.echoAt l
      let echo (e : LaneEcho) : Instr := Instr.pelotonEcho l e
      let missed := min (s.get (Reg.PEL_ERR_ECHO l) + 1) 0xFF
      let dly : Int := s.get (Reg.PEL_LANE_DLY l)
      (¬up → ∀ e, Does (echo e) s (fun t => t = s))
      ∧ (up ∧ s.cad.inTick = false → Does (echo .send) s (fun t => t = s))
      ∧ (up ∧ s.cad.inTick = true → Does (echo .send) s (fun t => t.now = (s.reach (s.cad.tickStart + 800)).now
        ∧ 32 * t.now ≤ tblGet 0 t.pel.echoAt l ∧ tblGet 0 t.pel.echoAt l < 32 * t.now + 103 ∧ (10 * tblGet 0 t.pel.echoAt l + 5) % 1024 ≤ 10 ∧ t.out = s.out ++ [.laneEcho l]
        ∧ t.get (Reg.PEL_ERR_ECHO l) = (if asked = 0 then s.get (Reg.PEL_ERR_ECHO l) else missed)
        ∧ Frame [.cad, .pel, .out] [] [Reg.PEL_ERR_ECHO l] s t))
      ∧ (up → Does (echo .answer) s (fun t => t.out = s.out ++ [.laneEcho l] ∧ Frame [.out] [] [] s t))
      ∧ (∀ t2 : Nat, (up ∧ asked = 0 → Does (echo (.reply t2)) s (fun t => t = s))
        ∧ (up ∧ asked ≠ 0 → Does (echo (.reply t2)) s (fun t =>
          let twice : Int := (t2 : Int) - asked
          let off : Int := 5 * twice - 8192 - 10 * dly
          t.now = (s.reach (t2 / 32)).now ∧ tblGet 0 t.pel.echoAt l = 0
          ∧ (∀ a : Int × Nat, (tblGet none s.pel.avg l : Option (Int × Nat)) = some a ∧ a.2 + 1 < 16 →
            (tblGet none t.pel.avg l : Option (Int × Nat)) = some (a.1 + (5 * twice - 8192), a.2 + 1) ∧ t.get (Reg.PEL_LANE_DLY l) = s.get (Reg.PEL_LANE_DLY l))
          ∧ (∀ a : Int × Nat, (tblGet none s.pel.avg l : Option (Int × Nat)) = some a ∧ a.2 = 15 → (tblGet none t.pel.avg l : Option (Int × Nat)) = none
            ∧ (let v := intOf (mkRat (a.1 + (5 * twice - 8192)) 160); 0 ≤ v ∧ v < 0x100000 → (t.get (Reg.PEL_LANE_DLY l) : Int) = v))
          ∧ ((tblGet none s.pel.avg l : Option (Int × Nat)) = none ∧ off.natAbs ≤ 64 →
            (let v := dly + nearest (mkRat off 160); 0 ≤ v ∧ v < 0x100000 → (t.get (Reg.PEL_LANE_DLY l) : Int) = v))
          ∧ ((tblGet none s.pel.avg l : Option (Int × Nat)) = none ∧ 64 < off.natAbs → t.get (Reg.PEL_ERR_ECHO l) = missed
            ∧ t.get (Reg.PEL_LANE_DLY l) = s.get (Reg.PEL_LANE_DLY l)
            ∧ ((tblGet none t.pel.avg l : Option (Int × Nat)) = some (0, 0) ↔ 15 ≤ tblGet 0 s.pel.rejects l))
          ∧ Frame [.cad, .pel] [] [Reg.PEL_LANE_DLY l, Reg.PEL_ERR_ECHO l] s t))))
    ∧ (let greets : Prop := run ∧ s.bit Reg.PEL_STAT_ADMIT index = false
      (¬greets → Does .pelotonHello s (fun t => t = s))
      ∧ (greets → Does .pelotonHello s (fun t => let u := s.reach (s.pel.helloAt + 400000)
        t = (State.modPel u (fun p => { p with helloAt := u.now, greeted := true })).laneTell 17 [index, s.get Reg.PEL_STAT_CAND, 6, s.partWord])))
    ∧ (let lost : Prop := s.pel.electDue = true ∨ (role = 3 ∧ s.get Reg.PEL_CTRL_ELECT ≠ 0)
      let may : Prop := run ∧ (role = 0 ∨ lost)
      let present (d : Nat) : Prop := d = index ∨ s.heard d = true ∨ (s.pelDev d).present = true
      let cand (d : Nat) : Prop := present d ∧ (if d = index then s.get Reg.PEL_STAT_CAND ≠ 0 else (s.pelDev d).cand = true)
      let leads (d : Nat) : Prop := cand d ∧ ∀ e < d, ¬cand e
      let elects := if lost then min (s.get Reg.PEL_CNT_ELECTS + 1) 0xFF else s.get Reg.PEL_CNT_ELECTS
      (¬may → Does .leaderElection s (fun t => t = s))
      ∧ (may ∧ s.pel.electDue = false ∧ (s.majority = false ∨ ∀ d < 8, ¬cand d) → Does .leaderElection s (fun t => t = s))
      ∧ (may ∧ s.pel.electDue = true ∧ (s.majority = false ∨ ∀ d < 8, ¬cand d) → Does .leaderElection s (fun t =>
        t.get Reg.PEL_STAT_ROLE = 3 ∧ t.pel.noLeader = true ∧ t.tripFlag 30 = true ∧ t.get Reg.TRP_PULSE_EN_EN = 0
        ∧ Frame (.cad :: Part.ofTrip) Win.ofTrip [Reg.PEL_STAT_ROLE] s t))
      ∧ (∀ d : Fin 8, may ∧ s.majority = true ∧ leads d →
        (d.val = index → Does .leaderElection s (fun t => t.get Reg.PEL_STAT_ROLE = 1 ∧ t.get Reg.PEL_STAT_LEADER = d ∧ t.get Reg.PEL_CNT_ELECTS = elects
          ∧ t.get Reg.CAD_SYNC_SRC = s.get Reg.PEL_CTRL_LDRSRC ∧ t.bit Reg.PEL_STAT_ADMIT d = true ∧ t.heard d = true ∧ t.pel.noLeader = false
          ∧ t.pel.electDue = false ∧ Frame ([.cad, .pel] ++ Part.ofFault) ([Win.pel, Win.cad] ++ Win.ofFault) [] s t))
        ∧ (d.val ≠ index → Does .leaderElection s (fun t => t.get Reg.PEL_STAT_ROLE = 2 ∧ t.get Reg.PEL_STAT_LEADER = d
          ∧ t.get Reg.PEL_CNT_ELECTS = elects ∧ t.pel.noLeader = false ∧ t.pel.electDue = false
          ∧ Frame [.cad, .pel] [] [Reg.PEL_STAT_ROLE, Reg.PEL_STAT_LEADER, Reg.PEL_CNT_ELECTS] s t))))
    ∧ (∀ d : Fin 8,
      let goes : Prop := s.heard d = true ∧ d.val ≠ index ∧ s.get Reg.PEL_CTRL_LOSSN ≤ s.get (missFld d)
      let leader : Prop := role = 2 ∧ d.val = s.get Reg.PEL_STAT_LEADER
      let drops (t : State) : Prop := t.heard d = false ∧ t.bit Reg.PEL_STAT_ADMIT d = false ∧ (∀ k : Fin 3, (t.core k).irqpend.testBit 15 = true)
        ∧ (t.pelDev d).summary = none ∧ (t.pelDev d).blkArms = (if leader then (s.pelDev d).blkArms else 0) ∧ (t.pelDev d).present = false ∧ (t.pelDev d).twin = false ∧ (t.pelDev d).config = (s.pelDev d).config
      (¬goes → Does (.deviceUnheard d) s (fun t => t = s))
      ∧ (goes ∧ ¬leader → Does (.deviceUnheard d) s (fun t => drops t ∧ Frame [.pel, .tri] [] [Reg.PEL_STAT_HEARD, Reg.PEL_STAT_ADMIT] s t))
      ∧ (goes ∧ leader → Does (.deviceUnheard d) s (fun t => drops t ∧ t.pel.leaderLost = true ∧ t.fltBit Reg.FLT_SRC_SRC 89 = true
        ∧ t.get Reg.PEL_CNT_LDRLOSS = min (s.get Reg.PEL_CNT_LDRLOSS + 1) 0xFF
        ∧ (s.get Reg.CAD_SYNC_SRC = 2 → t.get Reg.CAD_STAT_SYNC = 3)
        ∧ (s.get Reg.PEL_CTRL_ELECT = 0 → t.get Reg.PEL_STAT_ROLE = 3 ∧ t.tripFlag 30 = true ∧ t.get Reg.TRP_PULSE_EN_EN = 0)
        ∧ (s.get Reg.PEL_CTRL_ELECT ≠ 0 → (t.pel.electDue = true ∧ t.get Reg.PEL_STAT_ROLE = 2 ∨ t.get Reg.PEL_STAT_ROLE = 3 ∧ t.tripFlag 30 = true))
        ∧ Frame ([.pel, .cad] ++ Part.ofFault ++ Part.ofTrip) (Win.ofFault ++ Win.ofTrip) [Reg.PEL_STAT_HEARD, Reg.PEL_STAT_ADMIT, Reg.PEL_STAT_ROLE,
          Reg.PEL_CNT_LDRLOSS, Reg.CAD_STAT_SYNC] s t)))
    ∧ (let forms : Prop := run ∧ s.cad.inTick = true
      let u := s.reach (s.cad.tickStart + s.get Reg.PEL_SUMOFS_OFS)
      let m := u.formSummary
      let arm (a : Nat) : List Nat := [m.elig.getD a 0, m.byp.getD a 0] ++ bytesOfNat (m.meanKey.getD a 0) 3 ++ bytesOfNat (m.volts.getD a 0) 3
      (¬forms → Does .summarySend s (fun t => t = s))
      ∧ (m.tick = s.tick ∧ m.lanes = s.get Reg.PEL_STAT_LANEUP ∧ (m.leader = true ↔ role = 1)
        ∧ (∀ a : Fin 6, m.blkArms.testBit a = true ↔ ∃ src : Fin 64, src.val ≠ 30 ∧ s.tripFlag src = true ∧ (s.tripArms src).testBit a = true)
        ∧ (∀ a : Fin 6, m.byp.getD a 0 = s.localBypassed a))
      ∧ (forms → Does .summarySend s (fun t => (t.pelDev index).arrived = some m ∧ t = (State.modDev u index (fun x => { x with arrived := some m })).laneSend 2
        ([m.lanes + (if m.leader then 4 else 0)] ++ bytesOfNat m.tick 4 ++ [m.blkArms, 0] ++ [0, 1, 2, 3, 4, 5].flatMap arm ++ [m.worst]))))
    ∧ (¬run ∨ s.serviceFits = false → Does .pelotonServiceSend s (fun t => t = s))
    ∧ (let ofs := s.get Reg.PEL_SUMOFS_OFS
      let early (x : Nat) : Prop := x < s.now ∨ s.now + 205 ≤ x
      s.serviceFits = true ↔ (s.cad.inTick = true → early (s.cad.tickStart + ofs) ∧ (role = 1 → early (s.cad.tickStart + s.get Reg.CAD_DL_ACQ_DL)))
        ∧ ∀ n ∈ s.cad.nextTick, early (n + ofs) ∧ (role = 1 → early n))
    ∧ (∀ u, run ∧ s.serviceFits = true ∧ s.takePacket (s.get Reg.PEL_SVC_Q_OUTQ) 9 = (u, none) → Does .pelotonServiceSend s (fun t => t = u))
    ∧ (∀ u len words, run ∧ s.serviceFits = true ∧ s.takePacket (s.get Reg.PEL_SVC_Q_OUTQ) 9 = (u, some (len, words)) →
      let w := words.headD 0
      let type := w / 256 % 256
      let n := w / 65536 % 256
      (type < 0x80 ∨ 54 < n → Does .pelotonServiceSend s (fun t => t = u))
      ∧ (0x80 ≤ type ∧ n ≤ 54 → Does .pelotonServiceSend s (fun t =>
        t = u.laneSend 4 ([type, n, w % 16] ++ (bytesOfWords (words.drop 1)).take n))))
    ∧ (∀ v : Word,
      let w := v.toNat
      let write (o : Nat) : Instr := Instr.pelRegisterWrite (Fin.ofNat 16384 o) v
      let refused (t : State) : Prop := t.get Reg.PEL_STAT_CFGERR = 1 ∧ Frame [] [] [Reg.PEL_STAT_CFGERR] s t
      let lo := w / 16 % 8
      let hi := w / 256 % 8
      let good : Prop := w / 0x1000000 ≠ 0 ∧ w / 65536 % 16 ≠ 0 ∧ 1 ≤ lo ∧ lo ≤ hi ∧ hi ≤ 2
      let moves : Prop := w / 0x1000000 ≠ s.get Reg.PEL_CTRL_MEMBERS ∨ w / 2 % 2 ≠ s.get Reg.PEL_CTRL_ELECT ∨ w / 4 % 2 ≠ s.get Reg.PEL_CTRL_LDRSRC
      let ctrl (t : State) : Prop := t.get Reg.PEL_CTRL_MEMBERS = w / 0x1000000 ∧ t.get Reg.PEL_CTRL_LOSSN = w / 65536 % 16 ∧ t.get Reg.PEL_CTRL_VERMAX = hi
        ∧ t.get Reg.PEL_CTRL_VERMIN = lo ∧ t.get Reg.PEL_CTRL_LDRSRC = w / 4 % 2 ∧ t.get Reg.PEL_CTRL_ELECT = w / 2 % 2 ∧ t.get Reg.PEL_CTRL_EN = w % 2
      (¬good ∨ (moves ∧ s.get Reg.TRP_PULSE_EN_EN ≠ 0) → Does (write 0) s refused)
      ∧ (good ∧ (¬moves ∨ s.get Reg.TRP_PULSE_EN_EN = 0) ∧ w % 2 = s.get Reg.PEL_CTRL_EN → Does (write 0) s (fun t => ctrl t
        ∧ Frame [] [] [Reg.PEL_CTRL_MEMBERS, Reg.PEL_CTRL_LOSSN, Reg.PEL_CTRL_VERMAX, Reg.PEL_CTRL_VERMIN, Reg.PEL_CTRL_LDRSRC, Reg.PEL_CTRL_ELECT,
          Reg.PEL_CTRL_EN] s t))
      ∧ (good ∧ (¬moves ∨ s.get Reg.TRP_PULSE_EN_EN = 0) ∧ w % 2 ≠ s.get Reg.PEL_CTRL_EN → Does (write 0) s (fun t => ctrl t
        ∧ (w % 2 = 1 ∧ s.get Reg.CLK_REF_SSCHOLD = 0 ∧ s.inKickstand = false → ∀ l : Fin 2, t.get (Reg.PEL_LANE_LSTATE l) = 1)
        ∧ (w % 2 = 0 → t.get Reg.PEL_STAT_ROLE = 0 ∧ t.get Reg.PEL_STAT_HEARD = 0 ∧ t.get Reg.PEL_STAT_ADMIT = 0 ∧ t.get Reg.PEL_STAT_LANEUP = 0
          ∧ t.pel.devs = [] ∧ ∀ l : Fin 2, t.get (Reg.PEL_LANE_LSTATE l) = 0)
        ∧ Frame [.pel] [Win.pel] [] s t))
      ∧ (40000 ≤ w % 65536 → Does (write 8) s refused)
      ∧ (w % 65536 < 40000 ∧ s.get Reg.CAD_CTRL_RUN = 0 → Does (write 8) s (fun t => t.get Reg.PEL_SUMOFS_OFS = w % 65536
        ∧ Frame [] [] [Reg.PEL_SUMOFS_OFS] s t))
      ∧ (w % 65536 < 40000 ∧ s.get Reg.CAD_CTRL_RUN ≠ 0 → Does (write 8) s (fun t =>
        t.bus.waiting = s.bus.waiting ++ [⟨s.now, Reg.PEL_SUMOFS_OFS, w % 65536⟩] ∧ Frame [.bus] [] [] s t))
      ∧ Does (write 4) s (fun t => t.get Reg.PEL_STAT_CFGERR = (if w.testBit 15 then 0 else s.get Reg.PEL_STAT_CFGERR)
        ∧ Frame [] [] [Reg.PEL_STAT_CFGERR] s t)
      ∧ Does (write 0x20) s (fun t => t.get Reg.PEL_ADM_VALID = (if w.testBit 31 then 0 else s.get Reg.PEL_ADM_VALID)
        ∧ Frame [] [] [Reg.PEL_ADM_VALID] s t)
      ∧ Does (write 0x28) s (fun t => t.get Reg.PEL_SVC_Q_INQ = w / 256 % 64 ∧ t.get Reg.PEL_SVC_Q_OUTQ = w % 64
        ∧ Frame [] [] [Reg.PEL_SVC_Q_INQ, Reg.PEL_SVC_Q_OUTQ] s t))
    ∧ (∀ l : Fin 2, let fs : List Fld := [Reg.PEL_ERR_CRC l, Reg.PEL_ERR_CODE l, Reg.PEL_ERR_ALIGN l, Reg.PEL_ERR_ECHO l]
      Does (.pelErrRead l) s (fun t => t.bus.readData = s.get (Reg.PEL_ERR_CRC l) * 0x1000000 + s.get (Reg.PEL_ERR_CODE l) * 0x10000
        + s.get (Reg.PEL_ERR_ALIGN l) * 0x100 + s.get (Reg.PEL_ERR_ECHO l) ∧ (∀ c ∈ fs, t.get c = 0) ∧ Frame [.bus] [] fs s t))

/-- KSREQ is accepted in RUN with every arm BLOCKED, else KSREF: an accepted or a forced entry makes STATE ENTERING and, unless a save runs,
starts the save and the change of the Spoke rate; a forced entry with an arm ENABLED latches trip source 31. Once the save has finished
and every port has changed rate STATE is KICKSTAND: ticks, lanes, PLL2 and sensing stop, TICK holds. A port not aligned 10 ms after the
change goes DOWN, its cell lost. The lowest enabled wake cause starts EXITING or powers the main domain up where VAUX or the Jug admits
it, waits in PENDWAKE where not, and is held in a transition; after the exit ticks resume on the anchor grid, 100 us after the wake at the
earliest. VAUX and the Jug act by JUGMODE, STATE and E_J; a power-on reset leaves the reset state but the always-on registers, the Hamper
and MRAM (a Hamper that has FAILED reports again). (What two wakes of one clock record, and the order of the commands, are the model's
choice, log 136.) Completes: ksreq, kickstandEntryComplete, kickstandAlignTimeout, wake, kickstandExitComplete, vauxRise, powerOnReset,
vauxLoss, jugThresholdCrossed, earlyWarning, earlyWarningClear, reverseCurrent, supplyReturn, cupThresholdCrossed. (R283, R388, R480,
R481, R482, R483, R484, R485, R487, R497, R499, R490.) -/
def Obligations.PowerStatesFollowTheStores : Prop :=
  ∀ (s : State),
    let st := s.get Reg.PWR_STAT_STATE
    let jug : Nat := if s.get Reg.PWR_JUG_CFG_CJUG = 0 then 0 else s.get Reg.PWR_CTRL_JUGMODE
    let has (f : Fld) : Prop := 100 * s.get f ≤ s.get Reg.PWR_GAUGE_JUG_ENERGY
    let enabled : Prop := s.get Reg.TRP_PULSE_EN_EN ≠ 0
    let main := s.pwr.main
    let saving : Prop := s.get Reg.MTR_STAT_SAVEBUSY ≠ 0
    let wen (c : Nat) : Prop := s.bit Reg.PWR_WAKE_WEN (c - 1) = true
    let entering (more : List Part) (ws : List Nat) (fs : List Fld) (t : State) : Prop := t.get Reg.PWR_STAT_STATE = 4
      ∧ (saving → t.pwr.begun = false ∧ t.mtr = s.mtr ∧ t.spk.rateTo = s.spk.rateTo)
      ∧ (¬saving → t.pwr.begun = true ∧ t.get Reg.MTR_STAT_SAVEBUSY = 1 ∧ t.mtr.saves = s.mtr.saves + 1 ∧ t.spk.rateTo = some true)
      ∧ (∀ b : Nat, s.pwr.woken.1 = s.now ∧ s.pwr.woken.2.testBit b = true → t.pwr.raised.testBit b = true)
      ∧ Frame ([.pwr, .mtr, .mem, .spk, .out] ++ more) ws ([Reg.PWR_STAT_STATE, Reg.MTR_STAT_SAVEBUSY] ++ fs) s t
    let forced (fs : List Fld) (t : State) : Prop := entering Part.ofTrip Win.ofTrip fs t
      ∧ (enabled → t.tripFlag 31 = true ∧ t.get Reg.TRP_PULSE_EN_EN = 0)
    let keeps (a : Nat) : Prop := (0x12000000 ≤ a ∧ a ≤ 0x1203FFFF) ∨ (0x14000000 ≤ a ∧ a ≤ 0x141FFFFF)
    let alwaysOn (g : Fld) : Prop := 0x40020000 ≤ g.addr ∧ g.addr < 0x40030000 ∧ g.addr ≠ 0x40020004 ∧ g.addr ≠ 0x40020038 ∧ g.lo < 32
    let fresh (ps : List Part) (t : State) : Prop := (s.get Reg.MEM_HAMPER_HSTATE ≠ 4 → ∀ p ∈ ([.cad, .adc, .cle, .grd, .cel, .edg, .dl, .pwm, .trp, .spk, .pel, .hst, .pool, .saf, .net] : List Part), p ∉ ps → p.same State.reset t)
      ∧ (∀ a : Nat, (keeps a → t.byteAt a = s.byteAt a) ∧ (¬keeps a → t.byteAt a = State.reset.byteAt a)) ∧ t.pending = s.pending
    let down (t : State) : Prop := t.pwr.main = .off ∧ fresh [] t ∧ ∀ g : Fld, alwaysOn g → t.get g = s.get g
    (st = 3 ∧ ¬enabled → Does .ksreq s (fun t => t.now = s.now + 1 ∧ entering [.cad] [] [] t))
    ∧ (st ≠ 3 ∨ enabled → Does .ksreq s (fun t => t.get Reg.PWR_STAT_KSREF = 1 ∧ Frame [] [] [Reg.PWR_STAT_KSREF] s t))
    ∧ (let done : Prop := st = 4 ∧ s.pwr.begun = true ∧ ¬saving ∧ s.spk.rateTo = none ∧ s.spk.alignWait = 0
      (¬done → Does .kickstandEntryComplete s (fun t => t = s))
      ∧ (done → Does .kickstandEntryComplete s (fun t => t.get Reg.PWR_STAT_STATE = 2 ∧ t.cad.inTick = false ∧ t.cad.nextTick = none
        ∧ t.get Reg.CAD_STAT_PHASE = 0 ∧ t.tick = s.tick ∧ t.now = s.now ∧ t.adc.due = [] ∧ t.get Reg.PEL_STAT_LANEUP = 0
        ∧ t.get Reg.CLK_PLL2_CFG_LOCK = 0 ∧ t.get (Reg.CLK_OUT_ON 6) = 0 ∧ t.get (Reg.CLK_OUT_ON 7) = 0 ∧ t.flt.frozenAt = some s.now
        ∧ (2 ≤ s.get Reg.CLE_STAT_STATE ∧ s.get Reg.CLE_STAT_STATE ≤ 3 → t.cle.runObj = [] ∧ t.cle.runOut = [])
        ∧ Frame [.cad, .adc, .cle, .mtr, .net, .pel, .flt, .pwm, .pwr, .out] [Win.adc, Win.cle, Win.mtr, Win.net, Win.pel, Win.pwm]
          [Reg.CAD_STAT_PHASE, Reg.PWR_STAT_STATE, Reg.CLK_PLL2_CFG_LOCK, Reg.CLK_OUT_ON 6, Reg.CLK_OUT_ON 7] s t)))
    ∧ (∀ p : Fin 96, (s.spk.alignWait.testBit p = false → Does (.kickstandAlignTimeout p) s (fun t => t = s))
      ∧ (s.spk.alignWait.testBit p = true → Does (.kickstandAlignTimeout p) s (fun t => t.get (Reg.SPK_PSTAT_LSTATE p) = 1 ∧ t.portLost p = true
        ∧ t.spk.alignWait.testBit p = false ∧ t.get (Reg.SPK_PSTAT_VER p) = 0 ∧ t.get (Reg.SPK_DLY_DLY p) = 0
        ∧ Frame (.cad :: .spk :: Part.ofFault) Win.ofFault [Reg.SPK_LOST_PORT (p / 32), Reg.SPK_PSTAT_LSTATE p, Reg.SPK_PSTAT_VER p,
          Reg.SPK_PSTAT_DLYLONG p, Reg.SPK_PSTAT_DLYSTALE p, Reg.SPK_DLY_DLY p, Reg.SPK_STAT_NOPER] s t)))
    ∧ (let asked (c : Nat) : Prop := s.pwr.raised.testBit (c - 1) = true ∨ s.bit Reg.PWR_STAT_PENDWAKE (c - 1) = true
        ∨ wen c ∧ (c = 2 ∧ s.spk.wakeReq = true ∨ c = 3 ∧ s.net.wakeReq = true ∨ c = 4 ∧ s.hst.wakeReq = true)
      let cs : List Nat := [1, 2, 3, 4, 5, 6]
      let admits : Prop := s.pwr.vauxHigh = true ∨ jug = 2 ∧ has Reg.PWR_JUG_LIM_JWAKE
      let only (more : List Part) (fs : List Fld) (t : State) : Prop := t.spk.wakeReq = false ∧ t.net.wakeReq = false ∧ t.hst.wakeReq = false
        ∧ Frame ([.spk, .net, .hst] ++ more) [] fs s t
      ((∀ c ∈ cs, ¬asked c) → Does .wake s (only [] []))
      ∧ ((∃ c ∈ cs, asked c) ∧ ¬admits → Does .wake s (fun t => (∀ c ∈ cs, t.bit Reg.PWR_STAT_PENDWAKE (c - 1) = true ↔ asked c)
        ∧ t.pwr.raised = 0 ∧ only [.pwr] [Reg.PWR_STAT_PENDWAKE] t))
      ∧ (∀ c ∈ cs, asked c ∧ (∀ e ∈ cs, e < c → ¬asked e) ∧ admits →
        (main = .on ∧ st = 2 → Does .wake s (fun t => t.get Reg.PWR_STAT_STATE = 5 ∧ t.get Reg.PWR_STAT_WAKECAUSE = c ∧ t.get Reg.PWR_STAT_PENDWAKE = 0
          ∧ t.pwr.exitFrom = some s.now ∧ t.spk.rateTo = some false
          ∧ only [.pwr, .out] [Reg.PWR_STAT_STATE, Reg.PWR_STAT_WAKECAUSE, Reg.PWR_STAT_PENDWAKE] t))
        ∧ (main = .on ∧ st = 3 → Does .wake s (fun t => t.get Reg.PWR_STAT_PENDWAKE = 0 ∧ t.pwr.raised = 0 ∧ t.pwr.woken.1 = s.now
          ∧ (∀ e ∈ cs, t.pwr.woken.2.testBit (e - 1) = true ↔ asked e) ∧ only [.pwr] [Reg.PWR_STAT_PENDWAKE] t))
        ∧ (main = .on ∧ st ≠ 2 ∧ st ≠ 3 → Does .wake s (fun t =>
          (∀ e ∈ cs, asked e → t.pwr.raised.testBit (e - 1) = true ∨ t.bit Reg.PWR_STAT_PENDWAKE (e - 1) = true) ∧ only [.pwr] [] t))
        ∧ (main = .off ∧ s.pwr.aon = true → Does .wake s (fun t => t.pwr.main = .starting ∧ (t.pwr.toKickstand = true ↔ c ≠ 1) ∧ t.pwr.cause = c
          ∧ (t.pwr.fromJug = true ↔ s.pwr.vauxHigh = false) ∧ t.get Reg.PWR_STAT_PENDWAKE = 0 ∧ only [.pwr] [Reg.PWR_STAT_PENDWAKE] t))))
    ∧ (s.pwr.exitFrom = none ∨ st ≠ 5 → Does .kickstandExitComplete s (fun t => t = s))
    ∧ (∀ x ∈ s.pwr.exitFrom, st = 5 →
      (s.pwr.thenEnter = false → Does .kickstandExitComplete s (fun t => t.get Reg.PWR_STAT_STATE = 3 ∧ t.pwr.exitFrom = none ∧ t.tick = s.tick
        ∧ t.flt.frozenAt = none ∧ t.get Reg.CLK_PLL2_CFG_LOCK = s.get Reg.CLK_PLL2_CFG_EN
        ∧ (∀ m : Nat, (m = 6 ∨ m = 7) ∧ s.get Reg.CLK_PLL2_CFG_EN ≠ 0 → t.get (Reg.CLK_OUT_ON m) = s.get (Reg.CLK_OUT_EN m))
        ∧ (s.get Reg.CAD_CTRL_RUN ≠ 0 ∧ 0 < s.get Reg.CAD_PERIOD_PERIOD ∧ s.cad.anchor ≤ x + 40000 → ∃ n ∈ t.cad.nextTick, x + 40000 ≤ n
          ∧ n < x + 40000 + s.get Reg.CAD_PERIOD_PERIOD ∧ n % s.get Reg.CAD_PERIOD_PERIOD = s.cad.anchor % s.get Reg.CAD_PERIOD_PERIOD)
        ∧ (s.get Reg.CAD_CTRL_RUN = 0 → t.cad.nextTick = s.cad.nextTick) ∧ Part.same s t .mem ∧ Part.same s t .pending))
      ∧ (s.pwr.thenEnter = true → Does .kickstandExitComplete s (fun t => t.get Reg.PWR_STAT_STATE = 4 ∧ t.pwr.exitFrom = none
        ∧ t.pwr.thenEnter = false ∧ t.get Reg.TRP_PULSE_EN_EN = 0 ∧ (∀ a : Nat, a < 0x14020000 ∨ 0x14021000 ≤ a → t.byteAt a = s.byteAt a)
        ∧ Part.same s t .pending)))
    ∧ Does .vauxRise s (fun t => t.get Reg.PWR_STAT_VAUXOK = 1 ∧ t.get Reg.PWR_STAT_SRC = 0 ∧ t.pwr.vauxHigh = true
      ∧ (main = .off → t.pwr.main = .starting ∧ t.pwr.toKickstand = false ∧ t.pwr.fromJug = false
        ∧ t.pwr.cause = (if s.pwr.aon = true ∧ wen 1 then 1 else 0))
      ∧ (main = .on → t.pwr.main = .on ∧ t.pwr.raised = (if s.get Reg.PWR_STAT_SRC ≠ 0 ∧ s.get Reg.PWR_WAKE_WEN % 2 = 1 then s.pwr.raised ||| 1 else s.pwr.raised))
      ∧ Frame [.pwr] [] [Reg.PWR_STAT_VAUXOK, Reg.PWR_STAT_SRC] s t)
    ∧ (main ≠ .starting ∨ s.pwr.aon = false → Does .powerOnReset s (fun t => t = s))
    ∧ (main = .starting ∧ s.pwr.aon = true → Does .powerOnReset s (fun t => t.pwr.main = .on ∧ t.get Reg.PWR_STAT_WAKECAUSE = s.pwr.cause % 16
      ∧ t.get Reg.PWR_STAT_STATE = (if s.pwr.toKickstand then 2 else 3) ∧ (s.pwr.tampered = true → t.fltBit Reg.FLT_SRC_SRC 7 = true)
      ∧ (∀ g : Fld, alwaysOn g → t.get g = s.get g) ∧ t.get Reg.TRP_PULSE_EN_EN = 0 ∧ t.get Reg.CAD_CTRL_RUN = 0
      ∧ (s.pwr.toKickstand = false → fresh [.trp] t ∧ t.get Reg.CLK_PLL0_CFG_LOCK = 1 ∧ t.get Reg.PWR_STAT_RAILOK = 15)))
    ∧ (main = .off ∨ s.get Reg.PWR_STAT_SRC ≠ 0 → Does .vauxLoss s (fun t => t.get Reg.PWR_STAT_VAUXOK = 0 ∧ t.pwr.vauxHigh = false
      ∧ Frame [.pwr] [] [Reg.PWR_STAT_VAUXOK] s t))
    ∧ (main = .starting ∧ s.get Reg.PWR_STAT_SRC = 0 → Does .vauxLoss s down)
    ∧ (let enough : Prop := has (if st = 2 then Reg.PWR_JUG_KS_JKSMIN else Reg.PWR_JUG_LIM_JRUNMIN)
      let fs : List Fld := [Reg.PWR_STAT_VAUXOK, Reg.PWR_STAT_SRC]
      let onJug (t : State) : Prop := t.get Reg.PWR_STAT_VAUXOK = 0 ∧ t.get Reg.PWR_STAT_SRC = 1 ∧ t.pwr.vauxHigh = false
      main = .on ∧ s.get Reg.PWR_STAT_SRC = 0 →
        (jug = 0 ∨ ¬enough → Does .vauxLoss s down)
        ∧ (jug = 1 ∧ enough ∧ st = 3 → Does .vauxLoss s (fun t => onJug t ∧ forced fs t))
        ∧ (jug ≠ 0 ∧ enough ∧ (jug ≠ 1 ∨ st ≠ 3) → Does .vauxLoss s (fun t => onJug t ∧ (t.pwr.thenEnter = true ↔ jug = 1 ∧ st = 5 ∨ s.pwr.thenEnter = true)
          ∧ Frame [.pwr] [] fs s t)))
    ∧ (s.get Reg.PWR_STAT_SRC = 0 ∨ ¬(st = 3 ∧ ¬has Reg.PWR_JUG_LIM_JRUNMIN) ∧ ¬(st = 2 ∧ ¬has Reg.PWR_JUG_KS_JKSMIN) →
      Does .jugThresholdCrossed s (fun t => t = s))
    ∧ (s.get Reg.PWR_STAT_SRC ≠ 0 ∧ st = 3 ∧ ¬has Reg.PWR_JUG_LIM_JRUNMIN → Does .jugThresholdCrossed s (forced []))
    ∧ (s.get Reg.PWR_STAT_SRC ≠ 0 ∧ st = 2 ∧ ¬has Reg.PWR_JUG_KS_JKSMIN → Does .jugThresholdCrossed s down)
    ∧ (main ≠ .on → Does .earlyWarning s (fun t => t = s) ∧ Does .earlyWarningClear s (fun t => t = s))
    ∧ (main = .on → Does .earlyWarning s (fun t => t.get Reg.PWR_STAT_EW = 1 ∧ t.get Reg.PWR_STAT_EWACT = 1 ∧ t.fltBit Reg.FLT_SRC_SRC 4 = true
      ∧ t.get Reg.MTR_STAT_SAVEBUSY = 1 ∧ t.mtr.saves = s.mtr.saves + 1 ∧ t.out.getLast? = some (.mgcNotice 3 0)
      ∧ Frame (.mtr :: .mem :: Part.ofFault) Win.ofFault [Reg.PWR_STAT_EW, Reg.PWR_STAT_EWACT, Reg.MTR_STAT_SAVEBUSY] s t))
    ∧ (main = .on → Does .earlyWarningClear s (fun t => t.get Reg.PWR_STAT_EWACT = 0 ∧ Frame [] [] [Reg.PWR_STAT_EWACT] s t))
    ∧ Does .reverseCurrent s (fun t => t.get Reg.PWR_STAT_RPGON = 0 ∧ Frame [] [] [Reg.PWR_STAT_RPGON] s t)
    ∧ Does .supplyReturn s (fun t => t.get Reg.PWR_STAT_RPGON = 1 ∧ Frame [] [] [Reg.PWR_STAT_RPGON] s t)
    ∧ (∀ above : Bool, s.pwr.aon = above → Does (.cupThresholdCrossed above) s (fun t => t = s))
    ∧ (s.pwr.aon = false → Does (.cupThresholdCrossed true) s (fun t => t.pwr.aon = true ∧ t.get Reg.PWR_RTC_SECONDS = 0
      ∧ t.get Reg.MEM_HAMPER_CAUSE = 3 ∧ t.get Reg.MEM_HAMPER_HSTATE = 1 ∧ t.pwr.main = main
      ∧ (∀ a : Nat, 0x12000000 ≤ a ∧ a ≤ 0x1203FFFF → t.byteAt a = State.reset.byteAt a)
      ∧ (∀ g : Fld, alwaysOn g → t.get g = State.reset.get g)))
    ∧ (s.pwr.aon = true → Does (.cupThresholdCrossed false) s (fun t => t.pwr.aon = false ∧ t.pwr.main = .off ∧ (main ≠ .off → fresh [] t)))

/-- A PLL in use that loses lock stops its outputs, sets UNLOCK, counts LOSS and reports source 2 (PLL0, which blocks every arm) or 3;
relocked, its outputs run as EN asks, and PLL0 starts the delay-line calibration over. A write to CLK_PLL2_CFG outside its ranges, or one
to an output that breaks its frequency, sets CFGERR alone; an accepted one stops outputs 6 and 7 until PLL2 relocks. A rail out of band
reports source 5. Above 125 °C source 6 reports, and MAX keeps the highest value. The RTC counts seconds and raises its wake at the alarm;
a tamper input open in two samples running wipes the Hamper. The gauge posts the usable energies and their trends (rounding: log 7; before
ten measurements: log 39). A write with a reserved value or crossed limits leaves its power register. Completes: pllLockLoss, pllRelock,
clkPllStatRead, clkPll2CfgWrite, clkOutWrite, junctionTemperatureSample, railOutOfBand, rtcSecond, pwrRtcWrite, tamperSample,
gaugeMeasurement, jugCapacitanceMeasured, pwrRegisterWrite. (R479, R490, R491, R494, R495, R496, R501, R502, R506, R507, R508, R509.) -/
def Obligations.ClocksRailsTampersAndGauges : Prop :=
  ∀ (s : State),
    let st := s.get Reg.PWR_STAT_STATE
    (∀ n : Fin 3,
      let idle : Prop := n.val = 2 ∧ (st = 2 ∨ st = 5)
      let ons : List Fld := (pllOutputs n).map Reg.CLK_OUT_ON
      let lost := s.pwr.pllLost.testBit n
      let inUse : Prop := s.pwr.main = .on ∧ s.get (pllEnFld n) ≠ 0 ∧ ¬idle
      (¬inUse ∨ lost = true → Does (.pllLockLoss n) s (fun t => t = s))
      ∧ (inUse ∧ lost = false → Does (.pllLockLoss n) s (fun t => t.get (pllLockFld n) = 0 ∧ t.get (Reg.CLK_PLL_STAT_UNLOCK n) = 1
        ∧ t.get (Reg.CLK_PLL_STAT_LOSS n) = min (s.get (Reg.CLK_PLL_STAT_LOSS n) + 1) 0xFF ∧ (∀ f ∈ ons, t.get f = 0)
        ∧ t.pwr.pllLost.testBit n = true ∧ t.fltBit Reg.FLT_SRC_SRC (if n = 0 then 2 else 3) = true
        ∧ (n = 0 ∧ s.fltBit Reg.FLT_SRC_SRC 2 = false → t.tripFlag 28 = true ∧ t.get Reg.TRP_PULSE_EN_EN = 0)
        ∧ Frame (.pwr :: Part.ofFault ++ (if n = 0 then Part.ofTrip else [])) (Win.ofFault ++ (if n = 0 then Win.ofTrip else []))
          ([pllLockFld n, Reg.CLK_PLL_STAT_UNLOCK n, Reg.CLK_PLL_STAT_LOSS n] ++ ons) s t))
      ∧ (¬inUse ∨ s.get (pllLockFld n) ≠ 0 → Does (.pllRelock n) s (fun t => t = s))
      ∧ (inUse ∧ s.get (pllLockFld n) = 0 → Does (.pllRelock n) s (fun t => t.get (pllLockFld n) = 1
        ∧ (∀ m ∈ pllOutputs n, t.get (Reg.CLK_OUT_ON m) = s.get (Reg.CLK_OUT_EN m)) ∧ t.pwr.pllLost.testBit n = false
        ∧ (n = 0 → t.dl.done = 0 ∧ t.get Reg.EDG_STAT_DLRDY = 0)
        ∧ Frame (if n = 0 then [.pwr, .dl] else [.pwr]) [] (pllLockFld n :: ons ++ (if n = 0 then [Reg.EDG_STAT_DLRDY] else [])) s t))
      ∧ Does (.clkPllStatRead n) s (fun t => t.bus.readData = s.get (Reg.CLK_PLL_STAT_UNLOCK n) * 256 + s.get (Reg.CLK_PLL_STAT_LOSS n)
        ∧ t.get (Reg.CLK_PLL_STAT_LOSS n) = 0 ∧ Frame [.bus] [] [Reg.CLK_PLL_STAT_LOSS n] s t))
    ∧ (∀ v : Word,
      let w := v.toNat
      let refsel := w / 0x1000000 % 4
      let n := w % 512
      let ssc := w / 0x400000 % 4
      let depth := w / 0x10000 % 64
      let vco := 25 * 2 ^ refsel * n
      let good : Prop := refsel ≠ 3 ∧ 64 ≤ n ∧ ssc ≠ 3 ∧ (ssc = 1 → depth ≤ 40) ∧ (ssc = 2 → depth ≤ 20) ∧ 6400 ≤ vco ∧ vco ≤ 12800
        ∧ vco ≤ 2000 * s.get (Reg.CLK_OUT_DIV 6) ∧ vco ≤ 400 * s.get (Reg.CLK_OUT_DIV 7)
      let refused (t : State) : Prop := t.get Reg.CLK_REF_CFGERR = 1 ∧ Frame [] [] [Reg.CLK_REF_CFGERR] s t
      (¬good → Does (.clkPll2CfgWrite v) s refused)
      ∧ (good → Does (.clkPll2CfgWrite v) s (fun t => t.get Reg.CLK_PLL2_CFG_EN = w / 0x40000000 % 2 ∧ t.get Reg.CLK_PLL2_CFG_REFSEL = refsel
        ∧ t.get Reg.CLK_PLL2_CFG_N = n ∧ t.get Reg.CLK_PLL2_CFG_SSC = ssc ∧ t.get Reg.CLK_PLL2_CFG_DEPTH = depth ∧ t.get Reg.CLK_PLL2_CFG_LOCK = 0
        ∧ t.get (Reg.CLK_OUT_ON 6) = 0 ∧ t.get (Reg.CLK_OUT_ON 7) = 0 ∧ t.pwr.stalled = true
        ∧ Frame [.pwr] [] [Reg.CLK_PLL2_CFG_EN, Reg.CLK_PLL2_CFG_REFSEL, Reg.CLK_PLL2_CFG_N, Reg.CLK_PLL2_CFG_SSC, Reg.CLK_PLL2_CFG_DEPTH,
          Reg.CLK_PLL2_CFG_LOCK, Reg.CLK_OUT_ON 6, Reg.CLK_OUT_ON 7] s t))
      ∧ (∀ m : Fin 8,
        let div := w % 4096
        let vco2 := 25 * 2 ^ s.get Reg.CLK_PLL2_CFG_REFSEL * s.get Reg.CLK_PLL2_CFG_N
        let bad : Prop := m = 6 ∧ (div < 4 ∨ 2000 * div < vco2) ∨ m = 7 ∧ (div < 20 ∨ 400 * div < vco2)
        let lock := pllLockFld (if m.val < 4 then 0 else if m.val < 6 then 1 else 2)
        (m.val < 2 → Does (.clkOutWrite m v) s (fun t => t = s))
        ∧ (bad → Does (.clkOutWrite m v) s refused)
        ∧ (2 ≤ m.val ∧ ¬bad → Does (.clkOutWrite m v) s (fun t => t.get (Reg.CLK_OUT_EN m) = w / 0x80000000 ∧ t.get (Reg.CLK_OUT_DLY m) = w / 0x10000 % 64
          ∧ (6 ≤ m.val → t.get (Reg.CLK_OUT_DIV m) = div) ∧ (m.val < 6 → t.get (Reg.CLK_OUT_DIV m) = s.get (Reg.CLK_OUT_DIV m))
          ∧ t.get (Reg.CLK_OUT_ON m) = (if s.get lock ≠ 0 then w / 0x80000000 else s.get (Reg.CLK_OUT_ON m))
          ∧ (m = 6 → (t.pwr.stalled = true ↔ t.get (Reg.CLK_OUT_ON 6) = 0))
          ∧ Frame (if m = 6 then [.pwr] else []) [] [Reg.CLK_OUT_EN m, Reg.CLK_OUT_DLY m, Reg.CLK_OUT_DIV m, Reg.CLK_OUT_ON m] s t))))
    ∧ (s.pwr.main ≠ .on → (∀ v, Does (.junctionTemperatureSample v) s (fun t => t = s)) ∧ ∀ r out, Does (.railOutOfBand r out) s (fun t => t = s))
    ∧ (∀ v : BitVec 16, s.pwr.main = .on → Does (.junctionTemperatureSample v) s (fun t => t.getInt Reg.PWR_TJ_TJ = v.toInt
      ∧ (s.pwr.tjSeen = false → t.getInt Reg.PWR_TJ_MAX = v.toInt)
      ∧ (s.pwr.tjSeen = true → t.getInt Reg.PWR_TJ_MAX = max (s.getInt Reg.PWR_TJ_MAX) v.toInt)
      ∧ (1250 < v.toInt → t.fltBit Reg.FLT_SRC_SRC 6 = true) ∧ (v.toInt ≤ 1250 → t.flt = s.flt ∧ t.out = s.out)
      ∧ Frame (.pwr :: Part.ofFault) Win.ofFault [Reg.PWR_TJ_TJ, Reg.PWR_TJ_MAX] s t))
    ∧ (∀ r : Fin 4, s.pwr.main = .on → Does (.railOutOfBand r true) s (fun t => t.bit Reg.PWR_STAT_RAILOK r = false ∧ t.fltBit Reg.FLT_SRC_SRC 5 = true
        ∧ Frame (.pwr :: Part.ofFault) Win.ofFault [Reg.PWR_STAT_RAILOK] s t)
      ∧ Does (.railOutOfBand r false) s (fun t => t.bit Reg.PWR_STAT_RAILOK r = true ∧ Frame [.pwr] [] [Reg.PWR_STAT_RAILOK] s t))
    ∧ (s.pwr.aon = false → Does .rtcSecond s (fun t => t = s))
    ∧ (s.pwr.aon = true → Does .rtcSecond s (fun t =>
      let n := (s.get Reg.PWR_RTC_SECONDS + 1) % 0x100000000
      t.get Reg.PWR_RTC_SECONDS = n
      ∧ t.pwr.raised = (if n ≠ 0 ∧ s.get Reg.PWR_RTC_ALARM_SECONDS = n ∧ s.bit Reg.PWR_WAKE_WEN 4 = true then s.pwr.raised ||| 16 else s.pwr.raised)
      ∧ Frame [.pwr] [] [Reg.PWR_RTC_SECONDS] s t))
    ∧ (∀ v : Word, Does (.pwrRtcWrite v) s (fun t => t.get Reg.PWR_RTC_SECONDS = v.toNat ∧ Frame [] [] [Reg.PWR_RTC_SECONDS] s t))
    ∧ (∀ opens : BitVec 2,
      let hit : Prop := opens.getLsbD 0 = true ∧ s.bit Reg.PWR_TAMP_EN 0 = true ∧ s.pwr.opens.1 = 1
        ∨ opens.getLsbD 1 = true ∧ s.bit Reg.PWR_TAMP_EN 1 = true ∧ s.pwr.opens.2 = 1
      (s.pwr.aon = false → Does (.tamperSample opens) s (fun t => t = s))
      ∧ (s.pwr.aon = true ∧ ¬hit → Does (.tamperSample opens) s (fun t => t.get Reg.PWR_TAMP_OPEN = opens.toNat
        ∧ Frame [.pwr] [] [Reg.PWR_TAMP_OPEN] s t))
      ∧ (s.pwr.aon = true ∧ hit → Does (.tamperSample opens) s (fun t => t.get Reg.PWR_TAMP_OPEN = opens.toNat
        ∧ t.get Reg.MEM_HAMPER_CAUSE = 1 ∧ t.get Reg.MEM_HAMPER_HSTATE = 1
        ∧ t.get Reg.MEM_HAMPER_WIPECNT = min (s.get Reg.MEM_HAMPER_WIPECNT + 1) (2 ^ Reg.MEM_HAMPER_WIPECNT.width - 1)
        ∧ (∀ a : Nat, t.byteAt a = if 0x12000000 ≤ a ∧ a ≤ 0x1203FFFF then State.reset.byteAt a else s.byteAt a)
        ∧ (s.bit Reg.PWR_WAKE_WEN 5 = true → t.pwr.raised.testBit 5 = true)
        ∧ (s.pwr.main = .on → t.fltBit Reg.FLT_SRC_SRC 7 = true) ∧ (s.pwr.main ≠ .on → t.pwr.tampered = true)
        ∧ Frame ([.mem, .memt, .pwr] ++ Part.ofFault) Win.ofFault [Reg.PWR_TAMP_OPEN, Reg.MEM_HAMPER_CAUSE, Reg.MEM_HAMPER_HSTATE,
          Reg.MEM_HAMPER_WIPECNT] s t)))
    ∧ (∀ cupMv jugMv : Nat, Does (.gaugeMeasurement cupMv jugMv) s (fun t =>
      let posted (e k floor top mv : Nat) : Prop := let x := k * (mv * mv - floor * floor)
        e ≤ top ∧ (mv ≤ floor → e = 0) ∧ (floor < mv ∧ e < top → x < 1000000 * (e + 1) ∧ 1000000 * e < x + 1000000)
        ∧ (floor < mv ∧ e = top → 1000000 * e < x + 1000000)
      let cup := t.get Reg.PWR_GAUGE_CUP_ENERGY
      let jug := t.get Reg.PWR_GAUGE_JUG_ENERGY
      let cupTrend := t.getInt Reg.PWR_GAUGE_CUP_TREND
      let jugTrend := t.getInt Reg.PWR_GAUGE_JUG_TREND
      let dCup : Int := (cup : Int) - (s.pwr.cups.getLast?.getD cup : Nat)
      let dJug : Int := (jug : Int) - (s.pwr.jugs.getLast?.getD jug : Nat)
      posted cup 50 1800 0xFFFF cupMv ∧ posted jug (5 * s.get Reg.PWR_JUG_CFG_CJUG) 2000 0xFFFFF jugMv
      ∧ (s.get Reg.PWR_JUG_CFG_CJUG = 0 → jug = 0)
      ∧ (-0x8000 < cupTrend ∧ cupTrend < 0x7FFF → (10 * cupTrend - dCup).natAbs < 10)
      ∧ (-0x800 < jugTrend ∧ jugTrend < 0x7FF → (10 * jugTrend - dJug).natAbs < 10)
      ∧ t.pwr.cups = (cup :: s.pwr.cups).take 10 ∧ t.pwr.jugs = (jug :: s.pwr.jugs).take 10
      ∧ Frame [.cad, .pwr] [] [Reg.PWR_GAUGE_CUP_ENERGY, Reg.PWR_GAUGE_CUP_TREND, Reg.PWR_GAUGE_JUG_ENERGY, Reg.PWR_GAUGE_JUG_TREND] s t))
    ∧ (∀ ms mv : Nat, Does (.jugCapacitanceMeasured ms mv) s (fun t => t.get Reg.PWR_JUG_CMEAS_VALID = 1
      ∧ (0 < mv ∧ s.get Reg.PWR_JUG_CFG_ICHG * ms < 0xFFFF * mv → t.get Reg.PWR_JUG_CMEAS_C * mv < s.get Reg.PWR_JUG_CFG_ICHG * ms + mv
        ∧ s.get Reg.PWR_JUG_CFG_ICHG * ms < t.get Reg.PWR_JUG_CMEAS_C * mv + mv)
      ∧ Frame [] [] [Reg.PWR_JUG_CMEAS_C, Reg.PWR_JUG_CMEAS_VALID] s t))
    ∧ (∀ v : Word,
      let hi := v.toNat / 0x10000
      let lo := v.toNat % 0x10000
      let write (o : Nat) : Instr := Instr.pwrRegisterWrite (Fin.ofNat 16384 o) v
      (hi < lo ∨ lo < s.get Reg.PWR_JUG_KS_JKSMIN → Does (write 0x1C) s (fun t => t = s))
      ∧ (lo ≤ hi ∧ s.get Reg.PWR_JUG_KS_JKSMIN ≤ lo → Does (write 0x1C) s (fun t => t.get Reg.PWR_JUG_LIM_JWAKE = hi ∧ t.get Reg.PWR_JUG_LIM_JRUNMIN = lo
        ∧ Frame [] [] [Reg.PWR_JUG_LIM_JWAKE, Reg.PWR_JUG_LIM_JRUNMIN] s t))
      ∧ (s.get Reg.PWR_JUG_LIM_JRUNMIN < lo → Does (write 0x20) s (fun t => t = s))
      ∧ (lo ≤ s.get Reg.PWR_JUG_LIM_JRUNMIN → Does (write 0x20) s (fun t => t.get Reg.PWR_JUG_KS_JKSMIN = lo ∧ Frame [] [] [Reg.PWR_JUG_KS_JKSMIN] s t))
      ∧ (hi ≤ 1000 ∧ 25 ≤ lo / 256 ∧ lo / 256 ≤ 50 ∧ 1 ≤ lo % 256 ∧ lo % 256 ≤ 200 → Does (write 0x18) s (fun t =>
        t.get Reg.PWR_JUG_CFG_CJUG = hi ∧ t.get Reg.PWR_JUG_CFG_VJMAX = lo / 256 ∧ t.get Reg.PWR_JUG_CFG_ICHG = lo % 256
        ∧ (hi ≠ 0 → t.get Reg.PWR_GAUGE_JUG_ENERGY = s.get Reg.PWR_GAUGE_JUG_ENERGY ∧ t.pwr = s.pwr)
        ∧ (t.get Reg.PWR_JUG_CFG_CJUG = 0 → t.get Reg.PWR_GAUGE_JUG_ENERGY = 0 ∧ t.get Reg.PWR_GAUGE_JUG_TREND = 0 ∧ t.pwr.jugs = [])
        ∧ Frame [.pwr] [] [Reg.PWR_JUG_CFG_CJUG, Reg.PWR_JUG_CFG_ICHG, Reg.PWR_JUG_CFG_VJMAX, Reg.PWR_GAUGE_JUG_ENERGY, Reg.PWR_GAUGE_JUG_TREND] s t))
      ∧ Does (write 0x34) s (fun t => (∀ k : Fin 2, t.bit Reg.PWR_TAMP_EN k
          = (v.getLsbD k || (decide (s.get Reg.LCS_CTRL_LOCK ≠ 0) && s.bit Reg.PWR_TAMP_EN k)))
        ∧ Frame [] [] [Reg.PWR_TAMP_EN] s t)
      ∧ Does (write 4) s (fun t => t.get Reg.PWR_STAT_EW = (if v.getLsbD 16 then 0 else s.get Reg.PWR_STAT_EW)
        ∧ t.get Reg.PWR_STAT_KSREF = (if v.getLsbD 17 then 0 else s.get Reg.PWR_STAT_KSREF)
        ∧ Frame [] [] [Reg.PWR_STAT_EW, Reg.PWR_STAT_KSREF] s t)
      ∧ (v.toNat / 16 % 4 = 3 → Does (write 0) s (fun t => t = s))
      ∧ (v.toNat / 16 % 4 ≠ 3 ∧ v.getLsbD 8 = false → Does (write 0) s (fun t => t.get Reg.PWR_CTRL_JUGMODE = v.toNat / 16 % 4
        ∧ t.get Reg.PWR_CTRL_JUGCHG = v.toNat / 4 % 2 ∧ t.get Reg.PWR_CTRL_CSEN = v.toNat / 2 % 2
        ∧ Frame [] [] [Reg.PWR_CTRL_JUGMODE, Reg.PWR_CTRL_JUGCHG, Reg.PWR_CTRL_CSEN] s t))
      ∧ (v.toNat / 16 % 4 ≠ 3 ∧ v.getLsbD 8 = true ∧ (st ≠ 3 ∨ s.get Reg.TRP_PULSE_EN_EN ≠ 0) → Does (write 0) s (fun t =>
        t.get Reg.PWR_STAT_KSREF = 1 ∧ t.get Reg.PWR_CTRL_JUGMODE = v.toNat / 16 % 4))
      ∧ (v.toNat / 16 % 4 ≠ 3 ∧ v.getLsbD 8 = true ∧ st = 3 ∧ s.get Reg.TRP_PULSE_EN_EN = 0 → Does (write 0) s (fun t =>
        t.get Reg.PWR_STAT_STATE = 4 ∧ t.get Reg.PWR_CTRL_JUGMODE = v.toNat / 16 % 4)))

/-- LCS_TRANS with KEY 0x3C enters a TARGET that the present state may enter, with every arm BLOCKED (RETURNED with a token, SCRAPPED from any
state), else TREF: the state is recorded, the Hamper wiped with cause 2, from RETURNED on the owner keys and the configuration region
erased, and a device reset follows. LCS_SELECT with 0x69 starts a trial of SLOT; LCS_CONFIRM with 0x96 raises each rollback counter to the
running SVN and ends the trial; not confirmed within CONFTMO s a trial image brings a device reset. Revoked keys and LOCK stay. With EN,
in RUN, an ageing measurement posts drifts, scores and levels; a plan's level never falls and sets VOFS, the background-test interval and
the ADC calibration interval; each rise reports source 91. (The drifts of monitors 0, 1 and 3 are measured outside, and the factory
baselines and coefficients are open: logs 41, 131.) Completes: lcsTrans, lcsSelect, lcsConfirm, confirmTimeout, keyRevoke, lcsLock,
ageingMeasurement. (R520, R521, R524, R525, R527, R528, R529.) -/
def Obligations.LifecycleCommandsAndAgeing : Prop :=
  ∀ (s : State),
    let state := s.get Reg.LCS_STATE_STATE
    let r := s.boot.record
    let life (t : State) : Prop := Frame [.boot, .memt] [Win.lcs] [] s t
    let mram (a : Nat) : Prop := 0x14000000 ≤ a ∧ a ≤ 0x141FFFFF
    let hamper (a : Nat) : Prop := 0x12000000 ≤ a ∧ a ≤ 0x1203FFFF
    let resets (t : State) : Prop := (s.get Reg.MEM_HAMPER_HSTATE ≠ 4 ∧ s.pwr.pllLost.testBit 0 = false ∧ s.get Reg.PWR_STAT_STATE = 3 → ∀ p ∈ ([.cad, .adc, .cle, .grd, .cel, .edg, .dl, .pwm, .trp, .spk, .pel, .hst, .pool, .saf, .net] : List Part), p ≠ .trp ∧ p ≠ .saf → p.same State.reset t)
      ∧ t.boot.due = true ∧ t.boot.image = none ∧ t.get Reg.TRP_PULSE_EN_EN = 0 ∧ t.get Reg.CAD_CTRL_RUN = 0 ∧ t.pending = s.pending
    (∀ v : Word,
      let n := v.toNat
      let target := n % 8
      let mayEnter : Prop := target = 1 ∧ state = 0 ∨ target = 2 ∧ state = 1 ∨ target = 3 ∧ state = 2
        ∨ target = 4 ∧ (state = 2 ∨ state = 3) ∧ s.get Reg.LCS_STATE_TOKENOK ≠ 0 ∨ target = 5
      (n / 256 % 256 ≠ 0x3C ∨ 5 < target → Does (.lcsTrans v) s (fun t => t = s))
      ∧ (n / 256 % 256 = 0x3C ∧ target ≤ 5 ∧ (s.get Reg.TRP_PULSE_EN_EN ≠ 0 ∨ ¬mayEnter) → Does (.lcsTrans v) s (fun t =>
        t.get Reg.LCS_STATE_TREF = 1 ∧ Frame [] [] [Reg.LCS_STATE_TREF] s t))
      ∧ (n / 256 % 256 = 0x3C ∧ s.get Reg.TRP_PULSE_EN_EN = 0 ∧ mayEnter → Does (.lcsTrans v) s (fun t =>
        t.get Reg.LCS_STATE_STATE = target ∧ t.boot.record.state = target ∧ t.get Reg.MEM_HAMPER_CAUSE = 2 ∧ t.get Reg.MEM_HAMPER_HSTATE = 1
        ∧ t.boot.record.present = (if target = 1 then r.present ||| 1 else if 4 ≤ target then r.present % 2 else r.present)
        ∧ (∀ a : Nat, t.byteAt a = if mram a ∧ (target < 4 ∨ a < 0x14100000) then s.byteAt a else State.reset.byteAt a)
        ∧ ((s.pwr.pllLost.testBit 0 = false ∧ s.get Reg.PWR_STAT_STATE = 3 → ∀ p ∈ ([.cad, .adc, .cle, .grd, .cel, .edg, .dl, .pwm, .trp, .spk, .pel, .hst, .pool, .saf, .net] : List Part), p ≠ .trp ∧ p ≠ .saf → p.same State.reset t)
          ∧ t.boot.due = true ∧ t.boot.image = none ∧ t.get Reg.TRP_PULSE_EN_EN = 0 ∧ t.get Reg.CAD_CTRL_RUN = 0 ∧ t.pending = s.pending)))
      ∧ (n / 256 % 256 ≠ 0x69 → Does (.lcsSelect v) s (fun t => t = s))
      ∧ (n / 256 % 256 = 0x69 → Does (.lcsSelect v) s (fun t => t.boot = { s.boot with record := { r with pref := n % 2, trial := true, attempts := 0 } }
        ∧ t.get Reg.LCS_BOOT_PREF = n % 2 ∧ t.get Reg.LCS_BOOT_TRIAL = 1 ∧ t.get Reg.LCS_BOOT_ATTEMPTS = 0 ∧ t.now = s.now + 1
        ∧ Frame [.boot, .memt, .cad] [Win.lcs] [] s t))
      ∧ (n % 256 ≠ 0x96 → Does (.lcsConfirm v) s (fun t => t = s))
      ∧ (n % 256 = 0x96 → Does (.lcsConfirm v) s (fun t => t.boot.record.trial = false ∧ t.get Reg.LCS_BOOT_TRIAL = 0
        ∧ (s.boot.image = none → t.boot.record.counters = r.counters ∧ t.boot.image = none)
        ∧ (∀ i ∈ s.boot.image, t.boot.record.counters = r.counters.map (fun c => max c i.svn) ∧ t.boot.image = some { i with trial := false })
        ∧ life t)))
    ∧ (∀ i ∈ s.boot.image, let c := s.get Reg.LCS_CTRL_CONFTMO
      (i.trial = false ∨ c = 0 ∨ s.tri.testing.isSome = true → Does .confirmTimeout s (fun t => t = s))
      ∧ (i.trial = true ∧ c ≠ 0 ∧ s.tri.testing = none → Does .confirmTimeout s (fun t => resets t
        ∧ t.boot.record.trial = r.trial ∧ t.boot.record.attempts = r.attempts ∧ t.boot.record.counters = r.counters
        ∧ (∀ a : Nat, t.byteAt a = if mram a ∨ hamper a then s.byteAt a else State.reset.byteAt a))))
    ∧ (s.boot.image = none → Does .confirmTimeout s (fun t => t = s))
    ∧ (∀ k : BitVec 4, Does (.keyRevoke k) s (fun t => t.boot = { s.boot with record := { r with revoked := r.revoked ||| k.toNat } }
      ∧ (∀ j : Fin 4, t.bit Reg.LCS_KEYS_REVOKED j = (r.revoked.testBit j || k.getLsbD j)) ∧ life t))
    ∧ Does .lcsLock s (fun t => t.get Reg.LCS_CTRL_LOCK = 1 ∧ Frame [] [] [Reg.LCS_CTRL_LOCK] s t)
    ∧ (∀ (d0 d1 d3 : BitVec 16) (h2 h4 : Int),
      (s.get Reg.AGE_CTRL_EN = 0 ∨ s.get Reg.PWR_STAT_STATE ≠ 3 → Does (.ageingMeasurement d0 d1 h2 d3 h4) s (fun t => t = s))
      ∧ (s.get Reg.AGE_CTRL_EN ≠ 0 ∧ s.get Reg.PWR_STAT_STATE = 3 ∧ r.levels.length = 3 ∧ (∀ l ∈ r.levels, l ≤ 3) →
        Does (.ageingMeasurement d0 d1 h2 d3 h4) s (fun t =>
        let score (m : Nat) : Nat := t.get (Reg.AGE_MON_SCORE m)
        let level (m : Nat) : Nat := t.get (Reg.AGE_MON_LEVEL m)
        let old (p : Nat) : Nat := r.levels.getD p 0
        let vcore := max (old 0) (max (level 0) (level 2))
        let test := max (old 1) (level 1)
        let adc := max (old 2) (max (level 3) (level 4))
        t.get (Reg.AGE_MON_VALUE 0) = d0.toNat ∧ t.get (Reg.AGE_MON_VALUE 1) = d1.toNat ∧ t.get (Reg.AGE_MON_VALUE 3) = d3.toNat
        ∧ t.get (Reg.AGE_MON_VALUE 2) = min 0xFFFF ((s.get Reg.EDG_DLCAL_STAT_TMEAN : Int) + h2 - Config.trimBaseline).natAbs
        ∧ (let change (c : Fin 8) : Nat := min 0xFFFF (s.getInt (Reg.ADC_CONV_OFS_OFS c) + h4 - Config.offsetBaseline c).natAbs
          (∀ c : Fin 8, change c ≤ t.get (Reg.AGE_MON_VALUE 4)) ∧ ∃ c : Fin 8, t.get (Reg.AGE_MON_VALUE 4) = change c)
        ∧ (∀ m : Fin 5, score m = min 255 (100 * t.get (Reg.AGE_MON_VALUE m) / ([600, 4, 2048, 2000, 1024] : List Nat).getD m 1)
          ∧ level m = (if score m < 50 then 0 else if score m < 80 then 1 else if score m < 100 then 2 else 3))
        ∧ t.boot.record.levels = [vcore, test, adc] ∧ t.get Reg.AGE_HEALTH_LVCORE = vcore ∧ t.get Reg.AGE_HEALTH_LBT = test
        ∧ t.get Reg.AGE_HEALTH_LADC = adc ∧ (t.boot.record.levels ≠ r.levels → t.fltBit Reg.FLT_SRC_SRC 91 = true)
        ∧ (t.get Reg.AGE_HEALTH_EOL = 1 ↔ ∃ m : Fin 5, 100 ≤ score m)
        ∧ t.get Reg.AGE_PLAN_VOFS = ([0, 5, 10, 20] : List Nat).getD vcore 0 ∧ t.get Reg.AGE_PLAN_BTREQ = ([0, 5000, 2000, 1000] : List Nat).getD test 0
        ∧ t.get Reg.AGE_PLAN_ADCUSE = max 1 (s.get Reg.AGE_CTRL_ADCINT / 2 ^ adc) % 2 ^ Reg.AGE_PLAN_ADCUSE.width
        ∧ Frame ([.cad, .boot, .memt] ++ Part.ofFault) ([Win.age, Win.lcs] ++ Win.ofFault) [Reg.MEM_BT_USE_INT] s t)))

/-- An image is judged by the ten checks of R517 in order. At BOOT, retried 1 s after every source has failed, the sources of BOOTORD are
taken in order: from QSPI the preferred slot, then the other, which then is preferred with FALLBK; the host is waited for, 10 s at most
after its last block; SCRAPPED boots nothing. A rejection records reason and source in LCS_IMG and reports source 92. An accepted image
has its segments copied, PLL0 at 4 GHz, LCS_BOOT set, its mode staged and the voter test started. After TRI_RESET only the control-TCM
segments are taken again. An IMAGE block out of order ends the transfer with reason 11; LAST judges the image. (A token is held; a field
the spec does not close: log 41.) Completes: boot, bootRetry, imageSourceTimeout, clusterImageReload, imageDescriptor. (R501, R511, R512,
R513, R514, R515, R516, R517, R519, R520, R522.) -/
def Obligations.ImagesAreJudgedThenRun : Prop :=
  ∀ (s : State),
    let r := s.boot.record
    let runs : Prop := s.tri.testing = none ∧ (s.get Reg.TRI_STAT_STATE = 1 ∨ s.get Reg.TRI_STAT_STATE = 2)
    let field (b : List Byte) (i n : Nat) : Nat := leField (b.map (fun x => x.toNat)) i n
    let nums (i : Image) : List Nat := i.bytes.map (fun x => x.toNat)
    let flags (i : Image) : Nat := field i.bytes 5 1
    let early (i : Image) : Prop := 1 ≤ s.judge (nums i) i.verdict ∧ s.judge (nums i) i.verdict ≤ 8
    let boots (i : Image) : Prop := s.judge (nums i) i.verdict = 0 ∧ (flags i).testBit 0 = false
    let started (i : Image) (src slot : Nat) (trial : Bool) (t : State) : Prop :=
      t.boot.image = some ⟨field i.bytes 4 1, field i.bytes 15 1, src, slot, trial, field i.bytes 28 4, field i.bytes 32 4⟩ ∧ t.boot.due = false
      ∧ t.boot.waiting = none ∧ t.boot.failedAt = none ∧ t.get Reg.LCS_BOOT_SRC = src ∧ t.get Reg.LCS_BOOT_SLOT = slot
      ∧ t.tri.stagedMode = field i.bytes 25 1 ∧ t.tri.testing = some t.now ∧ t.get Reg.CLK_PLL0_CFG_N * (25 * 2 ^ t.get Reg.CLK_PLL0_CFG_REFSEL) = 8000
    let copied (i : Image) (targets : List Nat) (t : State) : Prop := ∀ k : Fin 15, k.val < field i.bytes 6 1 →
      let g := 64 + 64 * k.val
      field i.bytes g 1 ∈ targets → ∀ j : Nat, j < field i.bytes (g + 12) 4 →
        t.byteAt (field i.bytes (g + 4) 4 + j) = BitVec.ofNat 8 (field i.bytes (field i.bytes (g + 8) 4 + j) 1)
    let rejected (source reason : Nat) (t : State) : Prop := t.get Reg.LCS_IMG_VALID = 1 ∧ t.get Reg.LCS_IMG_SOURCE = source
      ∧ t.get Reg.LCS_IMG_REASON = reason ∧ t.fltBit Reg.FLT_SRC_SRC 92 = true
    (∀ (b : List Byte) (v : ImageVerdict),
      let bs := b.map (fun x => x.toNat)
      let f (i n : Nat) : Nat := field b i n
      let key := f 7 1
      let checks : List Bool := [
        decide (f 0 4 = 0x48535342 ∧ f 8 4 % 64 = 0 ∧ f 8 4 ≠ 0 ∧ f 8 4 ≤ 0x800000),
        s.bit Reg.LCS_INFO_FMTMAP (f 4 1) && fieldsOk bs,
        decide (f 12 2 = 0x96 ∧ (f 16 8 = 0 ∨ f 16 8 = r.serial)),
        decide (v.keyOk = true ∧ (r.state = 0 ∨ r.present.testBit key = true ∧ r.revoked.testBit key = false
          ∧ (r.state = 1 ∧ key < 4 ∨ (r.state = 2 ∨ r.state = 3) ∧ 1 ≤ key ∧ key < 4 ∨ r.state = 4 ∧ key = 0))),
        v.sigOk,
        decide ((r.state = 2 ∨ r.state = 3) → r.counters.getD (f 14 1) 0 ≤ f 15 1),
        (f 24 1).testBit r.state,
        (imgSegments bs).all (fun g => g.inside (f 8 4)) && noOverlap (imgSegments bs),
        decide (∀ k ∈ v.badSegment, f 6 1 ≤ k.val),
        if (f 5 1).testBit 0 then decide (f 6 1 = 0) else !(f 5 1).testBit 1 && !(f 5 1).testBit 2]
      (s.judge bs v = 0 ↔ ∀ p ∈ checks, p = true) ∧ (∀ n : Fin 10, s.judge bs v = n.val + 1 ↔ checks.getD n true = false ∧ ∀ m : Fin 10, m < n → checks.getD m true = true)
      ∧ (s.judge bs v = 0 ∨ s.judge bs v < 11))
    ∧ (∀ offers : ImageOffers,
      let img (k : Nat) : Image := if k = 0 then offers.slotA else offers.slotB
      let p := r.pref
      let q := 1 - r.pref
      let may : Prop := s.boot.due = true ∧ runs ∧ s.boot.waiting = none ∧ s.boot.failedAt = none
      let plain : Prop := p < 2 ∧ (∀ e ∈ r.trims, e.1 / 32 < 0x40150000) ∧ (r.trial = true → r.attempts < 3)
      (¬may → Does (.boot offers) s (fun t => t = s))
      ∧ (may ∧ r.state = 5 → Does (.boot offers) s (fun t => t.boot = s.boot ∧ Frame [.memt] [Win.lcs] [] s t))
      ∧ (may ∧ r.state ≠ 5 ∧ r.order.head? = some 1 → Does (.boot offers) s (fun t => t.boot.waiting = some (0, s.now) ∧ t.boot.due = true
        ∧ (r.state = 3 → t.get Reg.LCS_CTRL_LOCK = 1) ∧ Part.same s t .mem))
      ∧ (may ∧ r.state ≠ 5 ∧ r.order.head? = some 0 ∧ plain ∧ boots (img p) → Does (.boot offers) s (fun t => started (img p) 0 p r.trial t
        ∧ t.boot.record.attempts = (if r.trial then r.attempts + 1 else r.attempts) ∧ copied (img p) [1, 2, 6] t))
      ∧ (may ∧ r.state ≠ 5 ∧ r.order.head? = some 0 ∧ plain ∧ early (img p) ∧ boots (img q) → Does (.boot offers) s (fun t => started (img q) 0 q false t
        ∧ rejected p (s.judge (nums (img p)) (img p).verdict) t ∧ t.get Reg.LCS_BOOT_FALLBK = 1 ∧ t.boot.record.pref = q ∧ t.boot.record.trial = false))
      ∧ (may ∧ r.state ≠ 5 ∧ r.order = [0] ∧ plain ∧ early (img p) ∧ early (img q) → Does (.boot offers) s (fun t => t.boot.failedAt = some t.now
        ∧ t.boot.due = true ∧ t.boot.image = s.boot.image ∧ rejected q (s.judge (nums (img q)) (img q).verdict) t ∧ Part.same s t .mem))
      ∧ (s.boot.failedAt = none ∨ s.boot.due = false ∨ ¬runs → Does (.bootRetry offers) s (fun t => t = s))
      ∧ (∀ x ∈ s.boot.failedAt, s.boot.due = true ∧ runs →
        (r.order.head? = some 1 → Does (.bootRetry offers) s (fun t => t.boot.waiting = some (0, t.now) ∧ t.boot.failedAt = none
          ∧ (s.now < x + 400000000 → x + 400000000 < 0x10000000000000000 → t.now = x + 400000000) ∧ Frame [.cad, .boot] [] [] s t))
        ∧ (r.order.head? = some 0 ∧ plain ∧ boots (img p) → Does (.bootRetry offers) s (fun t => started (img p) 0 p r.trial t ∧ copied (img p) [1, 2, 6] t)))
      ∧ (s.boot.waiting = none ∨ ¬runs → Does (.imageSourceTimeout offers) s (fun t => t = s))
      ∧ (∀ w ∈ s.boot.waiting, runs → (r.order.drop (w.1 + 1) = [] → Does (.imageSourceTimeout offers) s (fun t => t.boot.waiting = none ∧ t.boot.transfer = none
          ∧ t.boot.failedAt = some t.now ∧ (s.now < w.2 + 4000000000 → w.2 + 4000000000 < 0x10000000000000000 → t.now = w.2 + 4000000000)
          ∧ Frame [.cad, .boot] [] [] s t))
        ∧ ((r.order.drop (w.1 + 1)).head? = some 0 ∧ plain ∧ boots (img p) → Does (.imageSourceTimeout offers) s (fun t => started (img p) 0 p r.trial t))))
    ∧ (∀ i : Image,
      let v : ImageVerdict := { i.verdict with badSegment := i.verdict.badSegment.filter (fun k => field i.bytes (64 + 64 * k.val) 1 == 1) }
      let reason := s.judge (nums i) v
      let goes : Prop := s.tri.reload = true ∧ s.tri.testing = none ∧ (s.get Reg.TRI_STAT_STATE = 1 ∨ s.get Reg.TRI_STAT_STATE = 2 ∨ s.get Reg.TRI_STAT_STATE = 4)
      let token : Prop := (field i.bytes 5 1).testBit 0 = true
      let again (t : State) : Prop := (s.boot.failedAt = none → t.now = s.now)
        ∧ (∀ x ∈ s.boot.failedAt, s.now < x + 400000000 → x + 400000000 < 0x10000000000000000 → t.now = x + 400000000)
      (s.boot.image = none ∨ ¬goes → Does (.clusterImageReload i) s (fun t => t = s))
      ∧ (∀ run ∈ s.boot.image, goes ∧ reason ≠ 0 → Does (.clusterImageReload i) s (fun t => t.tri.reload = true ∧ t.boot.image = some run
        ∧ again t ∧ t.boot.failedAt = some t.now
        ∧ rejected ((if run.source = 0 then run.slot else run.source + 1) % 2 ^ Reg.LCS_IMG_SOURCE.width) reason t
        ∧ (∀ a : Nat, a < 0x01000000 ∨ 0x01100000 ≤ a → t.byteAt a = s.byteAt a)))
      ∧ (∀ run ∈ s.boot.image, goes ∧ reason = 0 ∧ token → Does (.clusterImageReload i) s (fun t => t.tri.reload = true
        ∧ t.boot.image = some run ∧ again t ∧ t.boot.failedAt = some t.now ∧ Part.same s t .mem))
      ∧ (∀ run ∈ s.boot.image, goes ∧ reason = 0 ∧ ¬token → Does (.clusterImageReload i) s (fun t => t.tri.reload = false
        ∧ t.boot = { s.boot with failedAt := none } ∧ again t ∧ copied i [1] t
        ∧ (∀ a : Nat, a < 0x01000000 ∨ 0x01100000 ≤ a → t.byteAt a = s.byteAt a)
        ∧ tblGet 0 (t.core 0).words pcPlace = field i.bytes 28 4 ∧ Frame [.cad, .boot, .mem, .tri] [] [] s t)))
    ∧ (∀ (n : Fin 16) (q : Fin 4) (block : List Byte) (v : ImageVerdict) (dma : Bool),
      let i := Instr.imageDescriptor n q block v dma
      let takes (o : HostOp) : Prop := o.opc = 9 ∧ (s.boot.due = true → n = 0 ∧ s.boot.waiting.isSome = true ∧ runs)
      (s.firstOp n q = none → Does i s (fun t => t = s))
      ∧ (∀ o : HostOp, s.firstOp n q = some o →
        let bytes : List Byte := (List.range o.len).map (fun k => block.getD k 0)
        let first : Bool := (o.args.getD 0 0).testBit 0
        let last : Bool := (o.args.getD 0 0).testBit 1
        let had : List Byte := if first then [] else s.boot.transfer.getD []
        let inOrder : Prop := o.arg0 = had.length ∧ (first = false → s.boot.transfer.isSome = true)
        let whole := (had ++ bytes).map (fun x => x.toNat)
        let fetched : Prop := takes o ∧ o.allowed = true ∧ dma = true
        let ends (status result : Nat) (u t : State) : Prop := t = u.finishOp n q status result
        (¬takes o → Does i s (fun t => t = s))
        ∧ (takes o ∧ o.allowed = false → Does i s (fun t => t.get (Reg.HST_TEN_VIOL_COUNT n) = min (s.get (Reg.HST_TEN_VIOL_COUNT n) + 1) 0xFFFFFFFF
          ∧ t.boot = s.boot ∧ t.mem = s.mem))
        ∧ (takes o ∧ o.allowed = true ∧ dma = false → Does i s (ends 5 0 s))
        ∧ (fetched ∧ ¬inOrder → Does i s (fun t => t.boot.transfer = none ∧ rejected 2 11 t ∧ t.boot.image = s.boot.image ∧ t.mem = s.mem))
        ∧ (fetched ∧ inOrder ∧ last = false → Does i s (fun t => t.boot.transfer = some (had ++ bytes) ∧ t.boot.image = s.boot.image ∧ t.mem = s.mem
          ∧ t.boot.record = r))
        ∧ (fetched ∧ inOrder ∧ last = true ∧ s.boot.due = true ∧ 1 ≤ s.judge whole v ∧ s.judge whole v ≤ 8 → Does i s (fun t =>
          t.boot.transfer = none ∧ rejected 2 (s.judge whole v) t ∧ t.boot.image = s.boot.image ∧ t.boot.waiting.isSome = true ∧ t.mem = s.mem))
        ∧ (fetched ∧ inOrder ∧ last = true ∧ s.boot.due = true ∧ s.judge whole v = 0 ∧ (leField whole 5 1).testBit 0 = false → Does i s (fun t =>
          t.boot.image = some ⟨leField whole 4 1, leField whole 15 1, 1, 0, false, leField whole 28 4, leField whole 32 4⟩ ∧ t.boot.due = false
          ∧ t.get Reg.LCS_BOOT_SRC = 1 ∧ t.tri.stagedMode = leField whole 25 1))
        ∧ (fetched ∧ inOrder ∧ last = true ∧ s.boot.due = false ∧ (leField whole 5 1).testBit 0 = true ∧ s.judge whole v = 0 → Does i s (fun t =>
          t.boot.transfer = none ∧ t.boot.image = s.boot.image
          ∧ (leField whole 16 8 ≠ 0 ∧ (leField whole 5 1).testBit 1 = true → t.boot.debugToken = true)
          ∧ (leField whole 16 8 ≠ 0 ∧ (leField whole 5 1).testBit 2 = true → t.boot.returnToken = true)))))

/-- For every command c and state s: a step of s with c at the front of its queue is exec of c on s with the rest of the queue. On an empty
queue the step is one 400 MHz clock (the model's choice, log 1): with the main domain powered and PLL0 locked, and no source to steer it,
TIME counts by 1 the station ports take the frames whose time has come, a SERVICE frame that waits starts where it may, and where no run
of the control engine is in progress and no frame waits nothing else changes, and where one is in progress, no frame waits and its next
instruction is due that instruction is decoded from the program store and executed. With a source, one clock slews the phase that is left
by SLEW_MAX at most, towards 0, and touches TIME, STEPPEND and the frames that wait alone. Without the clock nothing changes.
(18_power_start_clocks.md, 01_cadence.md, 04_control_engine.md.) -/
def Obligations.AStepExecutesTheFrontCommand : Prop :=
  (∀ (c : Instr) (rest : List Instr) (s : State), step { s with pending := c :: rest } = exec c { s with pending := rest })
    ∧ ∀ s : State, s.pending = [] →
      let clock : Prop := s.pwr.main = .on ∧ s.pwr.pllLost.testBit 0 = false
      (¬clock → step s = .next s)
      ∧ (clock ∧ s.get Reg.CAD_SYNC_SRC = 0 ∧ s.get Reg.CLE_STAT_STATE ≠ 2 ∧ s.get Reg.CLE_STAT_STATE ≠ 3 → ∃ t, step s = .next t ∧ t.now = (s.reach (s.now + 1)).now
        ∧ t = (s.reach (s.now + 1)).netServe.laneServe ∧ Frame [.cad, .net, .out, .free, .pel] [] [] s t ∧ (s.net.tx = [] ∧ s.pel.services = [] → Frame [.cad] [] [] s t))
      ∧ (clock ∧ s.get Reg.CAD_SYNC_SRC ≠ 0 ∧ s.get Reg.CLE_STAT_STATE ≠ 2 ∧ s.get Reg.CLE_STAT_STATE ≠ 3 → ∃ t, step s = .next t
        ∧ t.cad.phaseLeft.natAbs ≤ s.cad.phaseLeft.natAbs
        ∧ s.cad.phaseLeft.natAbs ≤ t.cad.phaseLeft.natAbs + s.get Reg.CAD_SYNC_SLEW_MAX * 1000000
        ∧ (s.net.tx = [] ∧ s.pel.services = [] → Frame [.cad] [] [Reg.CAD_STAT_STEPPEND] s t) ∧ Frame [.cad, .net, .out, .free, .pel] [] [Reg.CAD_STAT_STEPPEND] s t)
      ∧ (∀ i, clock ∧ s.net.tx = [] ∧ s.pel.services = [] ∧ s.get Reg.CAD_SYNC_SRC = 0 ∧ s.get Reg.CLE_STAT_STATE = 2 ∧ s.cle.waitUntil = none ∧ s.cle.issue ≤ s.now + 1
          ∧ cleDecode (tblGet (0 : Word) s.cle.prog s.cle.pc) = some i → step s = exec i (s.reach (s.now + 1)))

/-- Every command completes: it answers a next state in every state, with the queue of waiting commands as it was; then each of the 321 is
named, by the shape of its operands. What the spec calls a fault is a report to the collector, and an access that is not permitted reads 0
or is ignored (the reading of the whole spec; log 13). (13_fault_collector.md, 12_memory_and_queues.md, 95_what_each_step_holds.md.) -/
def Obligations.EveryCommandAnswersAndKeepsTheQueue : Prop :=
  let keeps (i : Instr) : Prop := ∀ s : State, Does i s (fun t => t.pending = s.pending)
  (∀ i : Instr, keeps i)
    ∧ (∀ (a : Bool), ∀ i ∈ [Instr.planDeadline a, Instr.dispatchDeadline a, Instr.resyncFreeze a, Instr.hamperVerifyComplete a,
      Instr.faultNReadbackMismatch a, Instr.safeEnChange a, Instr.cupThresholdCrossed a], keeps i)
    ∧ (∀ (a : BitVec 3), ∀ i ∈ [Instr.holdlimWrite a], keeps i)
    ∧ (∀ (a : Fin 32), ∀ i ∈ [Instr.cadTimeLoRead a, Instr.cadTimeHiRead a, Instr.adcUrgReq a, Instr.triReset a, Instr.queAlloc a], keeps i)
    ∧ (∀ (a : TimingReg) (b : Word), ∀ i ∈ [Instr.timingSetWrite a b], keeps i)
    ∧ (∀ (a : ConvReg) (b : Word), ∀ i ∈ [Instr.converterSetWrite a b], keeps i)
    ∧ (∀ (a : Fin 2), ∀ i ∈ [Instr.converterPrewake a, Instr.samplingInstant a, Instr.meteringPulse a, Instr.svPublish a, Instr.pelErrRead
      a, Instr.meteringPulseEnd a], keeps i)
    ∧ (∀ (a : Fin 32) (b : BitVec 16) (c : Int), ∀ i ∈ [Instr.resultPost a b c], keeps i)
    ∧ (∀ (a : Fin 8) (b : BitVec 16) (c : Int), ∀ i ∈ [Instr.urgentSample a b c], keeps i)
    ∧ (∀ (a : Fin 8), ∀ i ∈ [Instr.urgentResultPost a, Instr.hamperWipe a, Instr.svSampleDue a, Instr.deviceUnheard a], keeps i)
    ∧ (∀ (a : Fin 8) (b : CalEvent) (c : Int), ∀ i ∈ [Instr.calibrationStep a b c], keeps i)
    ∧ (∀ (a : SampReg) (b : Word), ∀ i ∈ [Instr.samplingSetWrite a b], keeps i)
    ∧ (∀ (a : Fin 32) (b : Word), ∀ i ∈ [Instr.restart a b, Instr.registerPairLoRead a b], keeps i)
    ∧ (∀ (a : Fin 16) (b : Fin 16384), ∀ i ∈ [Instr.cleBr a b], keeps i)
    ∧ (∀ (a : Fin 4096) (b : Fin 16384), ∀ i ∈ [Instr.cleLoop a b], keeps i)
    ∧ (∀ (a : Fin 256), ∀ i ∈ [Instr.cleRuno a, Instr.escalationExpiry a], keeps i)
    ∧ (∀ (a : Fin 65536), ∀ i ∈ [Instr.cleWaitt a], keeps i)
    ∧ (∀ (a : Fin 16) (b : MemOperand), ∀ i ∈ [Instr.cleLd a b, Instr.cleSt a b, Instr.cleLd2 a b, Instr.cleSt2 a b, Instr.cleLdx a b,
      Instr.cleStx a b], keeps i)
    ∧ (∀ (a : Fin 16) (b : MemOperand) (c : Bool) (d : Bool), ∀ i ∈ [Instr.cleLds a b c d], keeps i)
    ∧ (∀ (a : Fin 16) (b : Fin 16) (c : Fin 16) (d : Bool), ∀ i ∈ [Instr.cleAdd a b c d, Instr.cleSub a b c d, Instr.cleMinmax a b c d,
      Instr.cleDmac a b c d, Instr.cleAadd a b c d], keeps i)
    ∧ (∀ (a : Fin 16) (b : Fin 16), ∀ i ∈ [Instr.cleNeg a b, Instr.cleAbs a b, Instr.cleMov a b, Instr.cleCmp a b, Instr.cleSincos a b,
      Instr.cleSqrt a b], keeps i)
    ∧ (∀ (a : Fin 16) (b : Fin 16) (c : Fin 16), ∀ i ∈ [Instr.cleMul a b c, Instr.cleDiv a b c, Instr.cleClamp a b c, Instr.cleMac a b c,
      Instr.cleMsu a b c, Instr.cleMpy a b c, Instr.cleExt a b c], keeps i)
    ∧ (∀ (a : Fin 16) (b : BitVec 18), ∀ i ∈ [Instr.cleMovi a b], keeps i)
    ∧ (∀ (a : Fin 16) (b : BitVec 14), ∀ i ∈ [Instr.cleMovl a b], keeps i)
    ∧ (∀ (a : Fin 16) (b : Fin 16) (c : Fin 16) (d : Fin 64) (e : Bool) (f : Fin 8), ∀ i ∈ [Instr.cleSh a b c d e f], keeps i)
    ∧ (∀ (a : Fin 16) (b : Fin 16) (c : Fin 16) (d : Fin 4), ∀ i ∈ [Instr.cleLogic a b c d], keeps i)
    ∧ (∀ (a : Fin 16) (b : Fin 16) (c : Fin 16) (d : Fin 16), ∀ i ∈ [Instr.cleSel a b c d], keeps i)
    ∧ (∀ (a : Fin 4) (b : Fin 16) (c : Bool) (d : BitVec 12), ∀ i ∈ [Instr.cleSetx a b c d], keeps i)
    ∧ (∀ (a : Fin 16) (b : Fin 16) (c : Bool), ∀ i ∈ [Instr.cleAld a b c], keeps i)
    ∧ (∀ (a : Word), ∀ i ∈ [Instr.undefinedInstruction a, Instr.clePdataWrite a, Instr.pwmCtrlWrite a, Instr.arm a, Instr.mtrClr a,
      Instr.pwrRtcWrite a, Instr.clkPll2CfgWrite a, Instr.lcsTrans a, Instr.lcsSelect a, Instr.lcsConfirm a], keeps i)
    ∧ (∀ (a : CleMemWord) (b : Word), ∀ i ∈ [Instr.cleMemoryBusWrite a b], keeps i)
    ∧ (∀ (a : Fin 16384) (b : Word), ∀ i ∈ [Instr.grdRegisterWrite a b, Instr.celRegisterWrite a b, Instr.edgRegisterWrite a b,
      Instr.spkRegisterWrite a b, Instr.hstRegisterWrite a b, Instr.mtrRegisterWrite a b, Instr.netRegisterWrite a b, Instr.pelRegisterWrite a
      b, Instr.pwrRegisterWrite a b], keeps i)
    ∧ (∀ i ∈ [Instr.tickStart, Instr.acquireDeadline, Instr.solveDeadline, Instr.planFrameStart, Instr.apply,
      Instr.timingSetActivate, Instr.runSet, Instr.runClear, Instr.ticksStop, Instr.cadLock, Instr.cap, Instr.syncHoldoverTimeout,
      Instr.commit, Instr.converterSetCheck, Instr.samplingSetActivate, Instr.adcUrgCntRead, Instr.cleNop, Instr.cleEnd, Instr.waittRelease,
      Instr.writeQueueDrain, Instr.holdwClear, Instr.clePdataRead, Instr.mailboxCommit, Instr.mailboxCopy, Instr.cleEnClear, Instr.cycclr,
      Instr.cleImplStatRead, Instr.deferredWriteEffect, Instr.grdRestart, Instr.bsreq, Instr.observerLocked, Instr.observerLost, Instr.rejoin,
      Instr.shadowLock, Instr.freewheelTimeout, Instr.alignEnd, Instr.handover, Instr.blackstartTimeout, Instr.rtHoldExpiry,
      Instr.ageingHourEnd, Instr.baseline, Instr.edgWinCntRead, Instr.hlLock, Instr.trpHlLockRead, Instr.exportLimitTimeout, Instr.echo,
      Instr.serviceFrameSend, Instr.rate, Instr.kickstandPlan, Instr.takeoutEffect, Instr.gob, Instr.goc, Instr.setpointApply,
      Instr.linkReset, Instr.dispatchStale, Instr.backgroundTestStepTimeout, Instr.memEccCntRead, Instr.freeListRebuild,
      Instr.freeListRebuildComplete, Instr.cancel, Instr.fltLock, Instr.demand, Instr.spdTimeout, Instr.safLimitChangeEffect, Instr.safLock,
      Instr.meteringResult, Instr.meteringWindowEnd, Instr.snap, Instr.savenow, Instr.periodicSave, Instr.saveComplete, Instr.saveTimeout,
      Instr.callock, Instr.totlock, Instr.mtrStatRead, Instr.announceTimeout, Instr.activePortChange, Instr.goosePublish,
      Instr.safetyFrameReceived, Instr.supervisionFrameSend, Instr.generalFrameTransmit, Instr.summarySend, Instr.pelotonHello,
      Instr.leaderElection, Instr.vauxRise, Instr.powerOnReset, Instr.vauxLoss, Instr.earlyWarning, Instr.earlyWarningClear, Instr.ksreq,
      Instr.kickstandEntryComplete, Instr.wake, Instr.kickstandExitComplete, Instr.jugThresholdCrossed, Instr.rtcSecond, Instr.reverseCurrent,
      Instr.confirmTimeout, Instr.lcsLock, Instr.supplyReturn, Instr.pelotonServiceSend], keeps i)
    ∧ (∀ (a : Fin 4), ∀ i ∈ [Instr.passiveTestTimerExpiry a, Instr.safetyWatchdogExpiry a, Instr.upshift a, Instr.gooseResend a], keeps i)
    ∧ (∀ (a : Fin 96), ∀ i ∈ [Instr.mpptUpdate a, Instr.mpptScanStart a, Instr.socWindowEnd a, Instr.gatesat a, Instr.bypassDecision a,
      Instr.bypassConfirmTimeout a, Instr.rejoinJudgement a, Instr.dlyjump a, Instr.dlystale a, Instr.cellDeclaredLost a, Instr.helloOffer a,
      Instr.alignmentFound a, Instr.alignmentLoss a, Instr.resyncTimeout a, Instr.spkSvcRead a, Instr.kickstandAlignTimeout a], keeps i)
    ∧ (∀ (a : Fin 3) (b : Word), ∀ i ∈ [Instr.celBypReq a b, Instr.celRjReq a b, Instr.retrain a b, Instr.spkPortEnWrite a b], keeps i)
    ∧ (∀ (a : Fin 13) (b : TrimResult), ∀ i ∈ [Instr.dlCalStep a b], keeps i)
    ∧ (∀ (a : Fin 13), ∀ i ∈ [Instr.dlGroupSwap a], keeps i)
    ∧ (∀ (a : Fin 6) (b : Fin 6), ∀ i ∈ [Instr.pwmCounterEvent a b], keeps i)
    ∧ (∀ (a : Fin 6), ∀ i ∈ [Instr.pwmDeadtimeEnd a, Instr.tripfClear a, Instr.pwmChnStatRead a, Instr.mtrCounterRead a], keeps i)
    ∧ (∀ (a : Fin 8) (b : Bool) (c : Nat), ∀ i ∈ [Instr.tripInputChange a b c], keeps i)
    ∧ (∀ (a : Fin 16) (b : Int), ∀ i ∈ [Instr.comparatorOut a b, Instr.comparatorIn a b], keeps i)
    ∧ (∀ (a : Fin 16), ∀ i ∈ [Instr.blankingWindowClose a, Instr.detach a, Instr.tenantResetComplete a, Instr.functionLevelReset a,
      Instr.gooseTalExpiry a, Instr.blankingCapReached a], keeps i)
    ∧ (∀ (a : BitVec 6), ∀ i ∈ [Instr.pulseEnableRequest a, Instr.trpBlkReq a], keeps i)
    ∧ (∀ (a : Bool) (b : Word), ∀ i ∈ [Instr.tripFlagClear a b], keeps i)
    ∧ (∀ (a : HardLimitReg) (b : Word), ∀ i ∈ [Instr.hardLimitWrite a b], keeps i)
    ∧ (∀ (a : Fin 96) (b : Nat), ∀ i ∈ [Instr.echoReplyReceived a b], keeps i)
    ∧ (∀ (a : Fin 96) (b : LineFrame), ∀ i ∈ [Instr.reportFrameReceived a b, Instr.hello a b, Instr.serviceFrameReceived a b], keeps i)
    ∧ (∀ (a : Fin 96) (b : Fin 64), ∀ i ∈ [Instr.serviceRetransmit a b], keeps i)
    ∧ (∀ (a : Fin 3) (b : Fin 96), ∀ i ∈ [Instr.spkErrRead a b], keeps i)
    ∧ (∀ (a : BusOut) (b : BusOut) (c : BusOut), ∀ i ∈ [Instr.clusterBusOutput a b c], keeps i)
    ∧ (∀ (a : Fin 3), ∀ i ∈ [Instr.rsreq a, Instr.takeout a, Instr.debugHaltRequest a, Instr.timeCsrRead a, Instr.timehCsrRead a,
      Instr.pllLockLoss a, Instr.pllRelock a, Instr.clkPllStatRead a], keeps i)
    ∧ (∀ (a : HartRequest), ∀ i ∈ [Instr.debugResume a], keeps i)
    ∧ (∀ (a : Fin 3) (b : Bool), ∀ i ∈ [Instr.lbistComplete a b], keeps i)
    ∧ (∀ (a : Option (Fin 42)), ∀ i ∈ [Instr.voterTestComplete a], keeps i)
    ∧ (∀ (a : Image), ∀ i ∈ [Instr.clusterImageReload a], keeps i)
    ∧ (∀ (a : Fin 3) (b : Word) (c : Word), ∀ i ∈ [Instr.tcirqpendWrite a b c], keeps i)
    ∧ (∀ (a : Fin 16) (b : Fin 4) (c : Word), ∀ i ∈ [Instr.sqTailDoorbell a b c], keeps i)
    ∧ (∀ (a : Fin 16) (b : Fin 5) (c : Word), ∀ i ∈ [Instr.cqHeadDoorbell a b c], keeps i)
    ∧ (∀ (a : List Byte), ∀ i ∈ [Instr.descriptorFetch a], keeps i)
    ∧ (∀ (a : Fin 16) (b : Fin 4) (c : Bool), ∀ i ∈ [Instr.readRegs a b c, Instr.readRegsSnapshot a b c, Instr.qrecv a b c,
      Instr.timeDescriptor a b c], keeps i)
    ∧ (∀ (a : Fin 16) (b : Fin 4), ∀ i ∈ [Instr.setpoint a b, Instr.recordDescriptor a b, Instr.mgcDefinedOperation a b, Instr.nopDescriptor
      a b, Instr.cqCoalescingTimer a b], keeps i)
    ∧ (∀ (a : Fin 16) (b : Fin 4) (c : List Byte) (d : Bool), ∀ i ∈ [Instr.qsend a b c d, Instr.safetyDescriptor a b c d], keeps i)
    ∧ (∀ (a : Fin 16) (b : Fin 4) (c : List Byte) (d : ImageVerdict) (e : Bool), ∀ i ∈ [Instr.imageDescriptor a b c d e], keeps i)
    ∧ (∀ (a : Fin 16) (b : Fin 4) (c : BitVec 16) (d : Fin 8) (e : Word), ∀ i ∈ [Instr.mgcOperationComplete a b c d e], keeps i)
    ∧ (∀ (a : Fin 16) (b : BitVec 4), ∀ i ∈ [Instr.attach a b], keeps i)
    ∧ (∀ (a : Fin 16) (b : Word), ∀ i ∈ [Instr.hstTReset a b], keeps i)
    ∧ (∀ (a : Fin 16) (b : Fin 9) (c : Word), ∀ i ∈ [Instr.ringEnableWrite a b c], keeps i)
    ∧ (∀ (a : Fin 16) (b : Fin 9), ∀ i ∈ [Instr.tenantDmaFailure a b], keeps i)
    ∧ (∀ (a : Bool) (b : Bool), ∀ i ∈ [Instr.backgroundTestStep a b], keeps i)
    ∧ (∀ (a : Fin 32) (b : Fin 64) (c : Word), ∀ i ∈ [Instr.push a b c, Instr.close a b c, Instr.xferWrite a b c], keeps i)
    ∧ (∀ (a : Fin 32) (b : Fin 64), ∀ i ∈ [Instr.pop a b, Instr.xferRead a b], keeps i)
    ∧ (∀ (a : Fin 64), ∀ i ∈ [Instr.flush a, Instr.flushEffect a, Instr.skip a, Instr.queueReset a, Instr.queueResetComplete a], keeps i)
    ∧ (∀ (a : Fin 32) (b : Fin 4096), ∀ i ∈ [Instr.queFree a b], keeps i)
    ∧ (∀ (a : Fin 256) (b : Word) (c : Option ReportedAccess), ∀ i ∈ [Instr.faultReport a b c], keeps i)
    ∧ (∀ (a : Fin 256) (b : Bool), ∀ i ∈ [Instr.railPairInvalid a b], keeps i)
    ∧ (∀ (a : Fin 8) (b : Word), ∀ i ∈ [Instr.fltAckWrite a b, Instr.fltSrcClear a b, Instr.clkOutWrite a b], keeps i)
    ∧ (∀ (a : Fin 32) (b : Fin 8) (c : Word), ∀ i ∈ [Instr.fltForceWrite a b c], keeps i)
    ∧ (∀ (a : Fin 4) (b : Fin 3) (c : Fin 16) (d : List Byte), ∀ i ∈ [Instr.safetyPduReceived a b c d], keeps i)
    ∧ (∀ (a : Fin 4) (b : Bool), ∀ i ∈ [Instr.safetyConnectionEnWrite a b, Instr.railOutOfBand a b], keeps i)
    ∧ (∀ (a : Fin 32) (b : Fin 16384) (c : Word), ∀ i ∈ [Instr.safRegisterWrite a b c], keeps i)
    ∧ (∀ (a : SafCounter), ∀ i ∈ [Instr.safReadCounters a], keeps i)
    ∧ (∀ (a : MeterSample), ∀ i ∈ [Instr.meteringSample a], keeps i)
    ∧ (∀ (a : Fin 2) (b : List Byte) (c : Bool) (d : Bool), ∀ i ∈ [Instr.stationFrameReceived a b c d], keeps i)
    ∧ (∀ (a : BitVec 8) (b : PtpBody) (c : Nat), ∀ i ∈ [Instr.ptpMessageReceived a b c], keeps i)
    ∧ (∀ (a : Nat) (b : Nat), ∀ i ∈ [Instr.pdelayReqSend a b, Instr.gaugeMeasurement a b, Instr.jugCapacitanceMeasured a b], keeps i)
    ∧ (∀ (a : Nat) (b : Nat) (c : Nat), ∀ i ∈ [Instr.gooseMessageReceived a b c], keeps i)
    ∧ (∀ (a : List SvAsdu) (b : Bool), ∀ i ∈ [Instr.svFrameReceived a b], keeps i)
    ∧ (∀ (a : Fin 2) (b : Bool), ∀ i ∈ [Instr.stationLinkChange a b], keeps i)
    ∧ (∀ (a : Fin 27), ∀ i ∈ [Instr.netCounterRead a], keeps i)
    ∧ (∀ (a : Fin 2) (b : LaneEvent), ∀ i ∈ [Instr.laneAlignmentChange a b], keeps i)
    ∧ (∀ (a : Fin 2) (b : LineFrame) (c : Nat), ∀ i ∈ [Instr.pelotonTimeFrame a b c], keeps i)
    ∧ (∀ (a : Fin 2) (b : LineFrame), ∀ i ∈ [Instr.summaryReceived a b, Instr.gridFrameReceived a b, Instr.pelotonBlockFrame a b], keeps i)
    ∧ (∀ (a : Fin 2) (b : LineFrame) (c : PelService), ∀ i ∈ [Instr.pelotonServiceFrame a b c], keeps i)
    ∧ (∀ (a : Fin 2) (b : LaneEcho), ∀ i ∈ [Instr.pelotonEcho a b], keeps i)
    ∧ (∀ (a : BitVec 2), ∀ i ∈ [Instr.tamperSample a], keeps i)
    ∧ (∀ (a : BitVec 16), ∀ i ∈ [Instr.junctionTemperatureSample a], keeps i)
    ∧ (∀ (a : ImageOffers), ∀ i ∈ [Instr.boot a, Instr.bootRetry a, Instr.imageSourceTimeout a], keeps i)
    ∧ (∀ (a : BitVec 4), ∀ i ∈ [Instr.keyRevoke a], keeps i)
    ∧ (∀ a b c d : Int, ∀ i ∈ [Instr.toneWindowEnd a b c d], keeps i)
    ∧ (∀ (a b d : BitVec 16) (c e : Int), ∀ i ∈ [Instr.ageingMeasurement a b c d e], keeps i)
    ∧ (∀ (a : FabricCommand), ∀ i ∈ [Instr.registerWrite a], keeps i)

/-- The reset state is canonical, its queue is empty, and registers read as their tables say: the timing set (8000 counts, deadlines and
delays of 01), the converter and sensing defaults, the trip and safety limits, the collector's timers, power, clock and ageing defaults,
and the identity of the port map; memory reads 0 (the model's choice, log 5). (01_cadence.md, 02_cells_and_arms.md, 07_edge_scheduler.md,
08_trip_network.md, 13_fault_collector.md, 14_safety_functions.md.) -/
def Obligations.ResetIsCanonicalAndAsTheTablesSay : Prop :=
  State.reset.Canonical ∧ State.reset.pending = [] ∧ (∀ a, State.reset.byteAt a = 0)
    ∧ (∀ p : Fin 96, State.reset.get (Reg.SYS_PORT_MAP_CELL p) = p)
    ∧ State.reset.get Reg.SYS_VMAX_VMAX = 1150
    ∧ State.reset.get Reg.CLK_PLL2_CFG_EN = 1
    ∧ State.reset.get Reg.CLK_PLL2_CFG_REFSEL = 1
    ∧ State.reset.get Reg.CLK_PLL2_CFG_N = 160
    ∧ State.reset.get Reg.PWR_CTRL_JUGMODE = 1
    ∧ State.reset.get Reg.PWR_CTRL_JUGCHG = 1
    ∧ State.reset.get Reg.PWR_CTRL_CSEN = 1
    ∧ State.reset.get Reg.CAD_PERIOD_PERIOD = 8000
    ∧ State.reset.get Reg.CAD_DL_ACQ_DL = 2400
    ∧ State.reset.get Reg.CAD_DL_SOLVE_DL = 6000
    ∧ State.reset.get Reg.CAD_DL_PLAN_DL = 7000
    ∧ State.reset.get Reg.CAD_DL_DISP_DL = 8000
    ∧ State.reset.get Reg.CAD_APPLY_DLY_DLY = 800
    ∧ State.reset.get Reg.MTR_CTRL_DERAIL = 1
    ∧ State.reset.get Reg.CLE_CTRL_SUPEN = 1
    ∧ State.reset.get Reg.GRD_CTRL_FWACT = 1
    ∧ State.reset.get Reg.TRP_HL_FREQ_FMAX = 6600
    ∧ State.reset.get Reg.TRP_HL_FREQ_FMIN = 4250
    ∧ State.reset.get Reg.PEL_CTRL_MEMBERS = 1
    ∧ State.reset.get Reg.PEL_CTRL_LOSSN = 3
    ∧ State.reset.get Reg.PEL_CTRL_VERMAX = 2
    ∧ State.reset.get Reg.PEL_CTRL_VERMIN = 1
    ∧ State.reset.get Reg.TRI_CTRL_RSWIN = 1
    ∧ State.reset.get Reg.TRI_CTRL_RSLIM = 2
    ∧ State.reset.get Reg.TRI_CTRL_TEST = 1
    ∧ State.reset.get Reg.TRI_CTRL_AUTORS = 1
    ∧ State.reset.get Reg.MEM_CTRL_BTEN = 1
    ∧ State.reset.get Reg.MEM_BT_INT_INT = 10000
    ∧ State.reset.get Reg.FLT_CTRL_CAPMIN = 2
    ∧ State.reset.get Reg.FLT_ESC0_TMO_N = 10000
    ∧ State.reset.get Reg.FLT_ESC1_TMO_S = 100
    ∧ State.reset.get Reg.FLT_ESC1_TMO_R = 1000
    ∧ State.reset.get Reg.SAF_CTRL_SENFLT = 4
    ∧ State.reset.get Reg.SAF_CTRL_FEN = 1
    ∧ (∀ i : Fin 2, State.reset.get (Reg.SAF_S_A_ILIM i) = 2000)
    ∧ (∀ i : Fin 2, State.reset.get (Reg.SAF_S_A_VCELL i) = 1250)
    ∧ (∀ i : Fin 2, State.reset.get (Reg.SAF_S_B_VDC i) = 1400)
    ∧ (∀ i : Fin 2, State.reset.get (Reg.SAF_S_B_PEXP i) = 1100)
    ∧ (∀ i : Fin 2, State.reset.get (Reg.SAF_S_C_FMAX i) = 6600)
    ∧ (∀ i : Fin 2, State.reset.get (Reg.SAF_S_C_FMIN i) = 4250)
    ∧ (∀ i : Fin 2, State.reset.get (Reg.SAF_S_D_PIMP i) = 1100)
    ∧ (∀ i : Fin 2, State.reset.get (Reg.SAF_S_D_TDIR i) = 20)
    ∧ (∀ i : Fin 4, State.reset.get (Reg.SAF_C_CFG_VERMAX i) = 2)
    ∧ (∀ i : Fin 4, State.reset.get (Reg.SAF_C_CFG_SEQWIN i) = 4)
    ∧ (∀ i : Fin 4, State.reset.get (Reg.SAF_C_TIME_TEXP i) = 200)
    ∧ (∀ i : Fin 4, State.reset.get (Reg.SAF_C_TIME_MAXAGE i) = 500)
    ∧ State.reset.get Reg.LCS_STATE_DBGOPEN = 1
    ∧ State.reset.get Reg.AGE_CTRL_EN = 1
    ∧ State.reset.get Reg.AGE_CTRL_INT = 10
    ∧ State.reset.get Reg.AGE_CTRL_ADCINT = 10
    ∧ ∀ f : Fld, f.width ≤ 32 → State.reset.get f < 2 ^ f.width

/-- From every state whose tables are canonical (keys strictly rising, no entry equal to what an unlisted key reads as) a step leads to a
state whose tables are canonical: register fields, memory bytes, the uncommitted words of a run, and the owner tags of the pool. Equal
contents are therefore equal data after every run. (12_memory_and_queues.md, 04_control_engine.md, 00_scope.md.) -/
def Obligations.EveryStepKeepsTheTablesCanonical : Prop :=
  ∀ (s t : State), s.Canonical → step s = .next t → t.Canonical
end

