-- ==== Sys2Proof/Laws/Table.lean ====
section
/-! SUPPORT. The laws of the sparse tables: a read after a write, and that a write keeps the canonical form. -/

namespace Sys2Proof.Machine

variable {V : Type}

theorem tblGet_insert_same [DecidableEq V] (d : V) (t : Tbl V) (i : Nat) (v : V) (h : ∀ e ∈ t, e.1 ≠ i) :
    tblGet d (tblInsert i v t) i = v := by
  induction t with
  | nil => simp [tblInsert, tblGet]
  | cons e t ih =>
    obtain ⟨k, w⟩ := e
    have hk : k ≠ i := h _ (List.mem_cons_self ..)
    have ht : ∀ e ∈ t, e.1 ≠ i := fun e he => h e (List.mem_cons_of_mem _ he)
    by_cases hi : i < k <;> simp [tblInsert, hi, tblGet, hk, ih ht]

theorem tblGet_insert_other (d : V) (t : Tbl V) (i j : Nat) (v : V) (h : j ≠ i) :
    tblGet d (tblInsert i v t) j = tblGet d t j := by
  induction t with
  | nil => simp [tblInsert, tblGet, Ne.symm h]
  | cons e t ih =>
    obtain ⟨k, w⟩ := e
    by_cases hi : i < k
    · simp [tblInsert, hi, tblGet, Ne.symm h]
    · rw [tblInsert, if_neg hi]
      by_cases hk : k = j <;> simp [tblGet, hk, ih]

theorem tblErase_ne (t : Tbl V) (i : Nat) : ∀ e ∈ tblErase t i, e.1 ≠ i := by
  intro e he
  simpa [tblErase] using (List.mem_filter.mp he).2

theorem tblGet_of_absent (d : V) (t : Tbl V) (i : Nat) (h : ∀ e ∈ t, e.1 ≠ i) : tblGet d t i = d := by
  induction t with
  | nil => rfl
  | cons e t ih =>
    obtain ⟨k, w⟩ := e
    have hk : k ≠ i := h _ (List.mem_cons_self ..)
    simp [tblGet, hk, ih (fun e he => h e (List.mem_cons_of_mem _ he))]

theorem tblGet_erase_other (d : V) (t : Tbl V) (i j : Nat) (h : j ≠ i) : tblGet d (tblErase t i) j = tblGet d t j := by
  induction t with
  | nil => rfl
  | cons e t ih =>
    obtain ⟨k, w⟩ := e
    by_cases hk : k = i
    · subst hk
      simpa [tblErase, tblGet, Ne.symm h] using ih
    · by_cases hj : k = j <;> simp_all [tblErase, tblGet]

/-- A read of the key just written gives the value written. -/
@[simp] theorem tblGet_set_same [DecidableEq V] (d : V) (t : Tbl V) (i : Nat) (v : V) : tblGet d (tblSet d t i v) i = v := by
  unfold tblSet
  split
  · next h => rw [tblGet_of_absent d _ i (tblErase_ne t i), h]
  · exact tblGet_insert_same d _ i v (tblErase_ne t i)

/-- A write leaves every other key alone, whatever the two default values. -/
theorem tblGet_set_other [DecidableEq V] (d d' : V) (t : Tbl V) (i j : Nat) (v : V) (h : j ≠ i) :
    tblGet d' (tblSet d t i v) j = tblGet d' t j := by
  unfold tblSet
  split
  · exact tblGet_erase_other d' t i j h
  · rw [tblGet_insert_other d' _ i j v h, tblGet_erase_other d' t i j h]

/-- The keys above a bound and no listed default: the canonical form as a proposition. -/
theorem tblWfFrom_cons [DecidableEq V] (d : Nat → V) (lo : Option Nat) (k : Nat) (v : V) (t : Tbl V) :
    tblWfFrom d lo ((k, v) :: t) = true ↔ (∀ l ∈ lo, l < k) ∧ v ≠ d k ∧ tblWfFrom d (some k) t = true := by
  cases lo <;> simp [tblWfFrom, and_assoc]

theorem tblWfFrom_weaken [DecidableEq V] (d : Nat → V) (lo lo' : Option Nat) (t : Tbl V)
    (h : ∀ l' ∈ lo', ∃ l ∈ lo, l' ≤ l) (ht : tblWfFrom d lo t = true) : tblWfFrom d lo' t = true := by
  cases t with
  | nil => rfl
  | cons e t =>
    obtain ⟨k, v⟩ := e
    rw [tblWfFrom_cons] at ht ⊢
    refine ⟨fun l' hl' => ?_, ht.2⟩
    obtain ⟨l, hl, hle⟩ := h l' hl'
    exact Nat.lt_of_le_of_lt hle (ht.1 l hl)

theorem tblWfFrom_erase [DecidableEq V] (d : Nat → V) (lo : Option Nat) (t : Tbl V) (i : Nat)
    (ht : tblWfFrom d lo t = true) : tblWfFrom d lo (tblErase t i) = true := by
  induction t generalizing lo with
  | nil => rfl
  | cons e t ih =>
    obtain ⟨k, v⟩ := e
    rw [tblWfFrom_cons] at ht
    by_cases hk : k = i
    · have h1 : tblErase ((k, v) :: t) i = tblErase t i := by simp [tblErase, hk]
      rw [h1]
      exact tblWfFrom_weaken d (some k) lo _ (fun l hl => ⟨k, rfl, Nat.le_of_lt (ht.1 l hl)⟩) (ih _ ht.2.2)
    · have h1 : tblErase ((k, v) :: t) i = (k, v) :: tblErase t i := by simp [tblErase, hk]
      rw [h1, tblWfFrom_cons]
      exact ⟨ht.1, ht.2.1, ih _ ht.2.2⟩

theorem tblWfFrom_insert [DecidableEq V] (d : Nat → V) (lo : Option Nat) (t : Tbl V) (i : Nat) (v : V) (hlo : ∀ l ∈ lo, l < i)
    (hv : v ≠ d i) (hi : ∀ e ∈ t, e.1 ≠ i) (ht : tblWfFrom d lo t = true) : tblWfFrom d lo (tblInsert i v t) = true := by
  induction t generalizing lo with
  | nil =>
    rw [tblInsert, tblWfFrom_cons]
    exact ⟨hlo, hv, rfl⟩
  | cons e t ih =>
    obtain ⟨k, w⟩ := e
    rw [tblWfFrom_cons] at ht
    by_cases hik : i < k
    · rw [tblInsert, if_pos hik, tblWfFrom_cons]
      refine ⟨hlo, hv, ?_⟩
      rw [tblWfFrom_cons]
      exact ⟨by simpa using hik, ht.2⟩
    · have hk : k ≠ i := hi _ (List.mem_cons_self ..)
      rw [tblInsert, if_neg hik, tblWfFrom_cons]
      refine ⟨ht.1, ht.2.1, ih _ (by simp; omega) (fun e he => hi e (List.mem_cons_of_mem _ he)) ht.2.2⟩

/-- A write keeps the canonical form. -/
theorem tblWf_set [DecidableEq V] (d : Nat → V) (t : Tbl V) (i : Nat) (v : V) (ht : tblWf d t = true) :
    tblWf d (tblSet (d i) t i v) = true := by
  unfold tblSet
  split
  · exact tblWfFrom_erase d none t i ht
  · next h => exact tblWfFrom_insert d none _ i v (by simp) h (tblErase_ne t i) (tblWfFrom_erase d none t i ht)

theorem tblWf_erase [DecidableEq V] (d : Nat → V) (t : Tbl V) (i : Nat) (ht : tblWf d t = true) : tblWf d (tblErase t i) = true :=
  tblWfFrom_erase d none t i ht

end Sys2Proof.Machine
end

