-- ==== Sys2Proof/Laws/State.lean ====
section
/-! SUPPORT. The laws of the state's updates: what each leaves alone (one lemma per field, by rfl), and reads after writes of register fields
and memory bytes. -/

namespace Sys2Proof.Machine

/-- A field reads the value just written, narrowed to its width. -/
@[simp] theorem State.get_set_same (s : State) (f : Fld) (v : Nat) : (s.set f v).get f = v % 2 ^ f.width := by
  simp [State.get, State.set]

/-- A field's value is one of its width. -/
theorem State.get_lt (s : State) (f : Fld) : s.get f < 2 ^ f.width := Nat.mod_lt _ (Nat.two_pow_pos _)

/-- A write of one field leaves a field with another key alone. -/
theorem State.get_set_other (s : State) (f g : Fld) (v : Nat) (h : g.key ≠ f.key) : (s.set f v).get g = s.get g := by
  simp only [State.get, State.set]
  rw [tblGet_set_other _ _ _ _ _ _ h]

/-- A register word that names no changed field: reading through a write of a field at another address. -/
theorem State.get_set_key (s : State) (f g : Fld) (v : Nat) :
    (s.set f v).get g = if g.key = f.key then v % 2 ^ f.width % 2 ^ g.width else s.get g := by
  split
  · next h => simp only [State.get, State.set, h, tblGet_set_same]
  · next h => exact State.get_set_other s f g v h

/-- A byte reads the value just written. -/
@[simp] theorem State.byteAt_setByte_same (s : State) (a : Nat) (b : Byte) : (s.setByte a b).byteAt a = b := by
  simp [State.byteAt, State.setByte]

/-- A write of one byte leaves every other byte alone. -/
theorem State.byteAt_setByte_other (s : State) (a c : Nat) (b : Byte) (h : c ≠ a) : (s.setByte a b).byteAt c = s.byteAt c := by
  simp only [State.byteAt, State.setByte]
  exact tblGet_set_other _ _ _ _ _ _ h

/-- A register write keeps the register table canonical. -/
theorem State.set_regsWf (s : State) (f : Fld) (v : Nat) (h : tblWf Reg.resetOfKey s.regs = true) :
    tblWf Reg.resetOfKey (s.set f v).regs = true := tblWf_set _ _ _ _ h

/-- A byte write keeps the memory canonical. -/
theorem State.setByte_memWf (s : State) (a : Nat) (b : Byte) (h : Memory.wf s.mem = true) : Memory.wf (s.setByte a b).mem = true :=
  tblWf_set (fun _ => (0 : Byte)) _ _ _ h

/-! ### set -/

@[simp] theorem State.set_mem (s : State) (f : Fld) (v : Nat) : (s.set f v).mem = s.mem := rfl
@[simp] theorem State.set_cad (s : State) (f : Fld) (v : Nat) : (s.set f v).cad = s.cad := rfl
@[simp] theorem State.set_sys (s : State) (f : Fld) (v : Nat) : (s.set f v).sys = s.sys := rfl
@[simp] theorem State.set_adc (s : State) (f : Fld) (v : Nat) : (s.set f v).adc = s.adc := rfl
@[simp] theorem State.set_cle (s : State) (f : Fld) (v : Nat) : (s.set f v).cle = s.cle := rfl
@[simp] theorem State.set_grd (s : State) (f : Fld) (v : Nat) : (s.set f v).grd = s.grd := rfl
@[simp] theorem State.set_cel (s : State) (f : Fld) (v : Nat) : (s.set f v).cel = s.cel := rfl
@[simp] theorem State.set_edg (s : State) (f : Fld) (v : Nat) : (s.set f v).edg = s.edg := rfl
@[simp] theorem State.set_dl (s : State) (f : Fld) (v : Nat) : (s.set f v).dl = s.dl := rfl
@[simp] theorem State.set_pwm (s : State) (f : Fld) (v : Nat) : (s.set f v).pwm = s.pwm := rfl
@[simp] theorem State.set_trp (s : State) (f : Fld) (v : Nat) : (s.set f v).trp = s.trp := rfl
@[simp] theorem State.set_spk (s : State) (f : Fld) (v : Nat) : (s.set f v).spk = s.spk := rfl
@[simp] theorem State.set_pel (s : State) (f : Fld) (v : Nat) : (s.set f v).pel = s.pel := rfl
@[simp] theorem State.set_tri (s : State) (f : Fld) (v : Nat) : (s.set f v).tri = s.tri := rfl
@[simp] theorem State.set_hst (s : State) (f : Fld) (v : Nat) : (s.set f v).hst = s.hst := rfl
@[simp] theorem State.set_memt (s : State) (f : Fld) (v : Nat) : (s.set f v).memt = s.memt := rfl
@[simp] theorem State.set_pool (s : State) (f : Fld) (v : Nat) : (s.set f v).pool = s.pool := rfl
@[simp] theorem State.set_flt (s : State) (f : Fld) (v : Nat) : (s.set f v).flt = s.flt := rfl
@[simp] theorem State.set_saf (s : State) (f : Fld) (v : Nat) : (s.set f v).saf = s.saf := rfl
@[simp] theorem State.set_mtr (s : State) (f : Fld) (v : Nat) : (s.set f v).mtr = s.mtr := rfl
@[simp] theorem State.set_net (s : State) (f : Fld) (v : Nat) : (s.set f v).net = s.net := rfl
@[simp] theorem State.set_pwr (s : State) (f : Fld) (v : Nat) : (s.set f v).pwr = s.pwr := rfl
@[simp] theorem State.set_boot (s : State) (f : Fld) (v : Nat) : (s.set f v).boot = s.boot := rfl
@[simp] theorem State.set_bus (s : State) (f : Fld) (v : Nat) : (s.set f v).bus = s.bus := rfl
@[simp] theorem State.set_out (s : State) (f : Fld) (v : Nat) : (s.set f v).out = s.out := rfl
@[simp] theorem State.set_free (s : State) (f : Fld) (v : Nat) : (s.set f v).free = s.free := rfl
@[simp] theorem State.set_pending (s : State) (f : Fld) (v : Nat) : (s.set f v).pending = s.pending := rfl

/-! ### putBit -/

@[simp] theorem State.putBit_mem (s : State) (f : Fld) (i : Nat) (b : Bool) : (s.putBit f i b).mem = s.mem := rfl
@[simp] theorem State.putBit_cad (s : State) (f : Fld) (i : Nat) (b : Bool) : (s.putBit f i b).cad = s.cad := rfl
@[simp] theorem State.putBit_sys (s : State) (f : Fld) (i : Nat) (b : Bool) : (s.putBit f i b).sys = s.sys := rfl
@[simp] theorem State.putBit_adc (s : State) (f : Fld) (i : Nat) (b : Bool) : (s.putBit f i b).adc = s.adc := rfl
@[simp] theorem State.putBit_cle (s : State) (f : Fld) (i : Nat) (b : Bool) : (s.putBit f i b).cle = s.cle := rfl
@[simp] theorem State.putBit_grd (s : State) (f : Fld) (i : Nat) (b : Bool) : (s.putBit f i b).grd = s.grd := rfl
@[simp] theorem State.putBit_cel (s : State) (f : Fld) (i : Nat) (b : Bool) : (s.putBit f i b).cel = s.cel := rfl
@[simp] theorem State.putBit_edg (s : State) (f : Fld) (i : Nat) (b : Bool) : (s.putBit f i b).edg = s.edg := rfl
@[simp] theorem State.putBit_dl (s : State) (f : Fld) (i : Nat) (b : Bool) : (s.putBit f i b).dl = s.dl := rfl
@[simp] theorem State.putBit_pwm (s : State) (f : Fld) (i : Nat) (b : Bool) : (s.putBit f i b).pwm = s.pwm := rfl
@[simp] theorem State.putBit_trp (s : State) (f : Fld) (i : Nat) (b : Bool) : (s.putBit f i b).trp = s.trp := rfl
@[simp] theorem State.putBit_spk (s : State) (f : Fld) (i : Nat) (b : Bool) : (s.putBit f i b).spk = s.spk := rfl
@[simp] theorem State.putBit_pel (s : State) (f : Fld) (i : Nat) (b : Bool) : (s.putBit f i b).pel = s.pel := rfl
@[simp] theorem State.putBit_tri (s : State) (f : Fld) (i : Nat) (b : Bool) : (s.putBit f i b).tri = s.tri := rfl
@[simp] theorem State.putBit_hst (s : State) (f : Fld) (i : Nat) (b : Bool) : (s.putBit f i b).hst = s.hst := rfl
@[simp] theorem State.putBit_memt (s : State) (f : Fld) (i : Nat) (b : Bool) : (s.putBit f i b).memt = s.memt := rfl
@[simp] theorem State.putBit_pool (s : State) (f : Fld) (i : Nat) (b : Bool) : (s.putBit f i b).pool = s.pool := rfl
@[simp] theorem State.putBit_flt (s : State) (f : Fld) (i : Nat) (b : Bool) : (s.putBit f i b).flt = s.flt := rfl
@[simp] theorem State.putBit_saf (s : State) (f : Fld) (i : Nat) (b : Bool) : (s.putBit f i b).saf = s.saf := rfl
@[simp] theorem State.putBit_mtr (s : State) (f : Fld) (i : Nat) (b : Bool) : (s.putBit f i b).mtr = s.mtr := rfl
@[simp] theorem State.putBit_net (s : State) (f : Fld) (i : Nat) (b : Bool) : (s.putBit f i b).net = s.net := rfl
@[simp] theorem State.putBit_pwr (s : State) (f : Fld) (i : Nat) (b : Bool) : (s.putBit f i b).pwr = s.pwr := rfl
@[simp] theorem State.putBit_boot (s : State) (f : Fld) (i : Nat) (b : Bool) : (s.putBit f i b).boot = s.boot := rfl
@[simp] theorem State.putBit_bus (s : State) (f : Fld) (i : Nat) (b : Bool) : (s.putBit f i b).bus = s.bus := rfl
@[simp] theorem State.putBit_out (s : State) (f : Fld) (i : Nat) (b : Bool) : (s.putBit f i b).out = s.out := rfl
@[simp] theorem State.putBit_free (s : State) (f : Fld) (i : Nat) (b : Bool) : (s.putBit f i b).free = s.free := rfl
@[simp] theorem State.putBit_pending (s : State) (f : Fld) (i : Nat) (b : Bool) : (s.putBit f i b).pending = s.pending := rfl

/-! ### setBool -/

@[simp] theorem State.setBool_mem (s : State) (f : Fld) (b : Bool) : (s.setBool f b).mem = s.mem := rfl
@[simp] theorem State.setBool_cad (s : State) (f : Fld) (b : Bool) : (s.setBool f b).cad = s.cad := rfl
@[simp] theorem State.setBool_sys (s : State) (f : Fld) (b : Bool) : (s.setBool f b).sys = s.sys := rfl
@[simp] theorem State.setBool_adc (s : State) (f : Fld) (b : Bool) : (s.setBool f b).adc = s.adc := rfl
@[simp] theorem State.setBool_cle (s : State) (f : Fld) (b : Bool) : (s.setBool f b).cle = s.cle := rfl
@[simp] theorem State.setBool_grd (s : State) (f : Fld) (b : Bool) : (s.setBool f b).grd = s.grd := rfl
@[simp] theorem State.setBool_cel (s : State) (f : Fld) (b : Bool) : (s.setBool f b).cel = s.cel := rfl
@[simp] theorem State.setBool_edg (s : State) (f : Fld) (b : Bool) : (s.setBool f b).edg = s.edg := rfl
@[simp] theorem State.setBool_dl (s : State) (f : Fld) (b : Bool) : (s.setBool f b).dl = s.dl := rfl
@[simp] theorem State.setBool_pwm (s : State) (f : Fld) (b : Bool) : (s.setBool f b).pwm = s.pwm := rfl
@[simp] theorem State.setBool_trp (s : State) (f : Fld) (b : Bool) : (s.setBool f b).trp = s.trp := rfl
@[simp] theorem State.setBool_spk (s : State) (f : Fld) (b : Bool) : (s.setBool f b).spk = s.spk := rfl
@[simp] theorem State.setBool_pel (s : State) (f : Fld) (b : Bool) : (s.setBool f b).pel = s.pel := rfl
@[simp] theorem State.setBool_tri (s : State) (f : Fld) (b : Bool) : (s.setBool f b).tri = s.tri := rfl
@[simp] theorem State.setBool_hst (s : State) (f : Fld) (b : Bool) : (s.setBool f b).hst = s.hst := rfl
@[simp] theorem State.setBool_memt (s : State) (f : Fld) (b : Bool) : (s.setBool f b).memt = s.memt := rfl
@[simp] theorem State.setBool_pool (s : State) (f : Fld) (b : Bool) : (s.setBool f b).pool = s.pool := rfl
@[simp] theorem State.setBool_flt (s : State) (f : Fld) (b : Bool) : (s.setBool f b).flt = s.flt := rfl
@[simp] theorem State.setBool_saf (s : State) (f : Fld) (b : Bool) : (s.setBool f b).saf = s.saf := rfl
@[simp] theorem State.setBool_mtr (s : State) (f : Fld) (b : Bool) : (s.setBool f b).mtr = s.mtr := rfl
@[simp] theorem State.setBool_net (s : State) (f : Fld) (b : Bool) : (s.setBool f b).net = s.net := rfl
@[simp] theorem State.setBool_pwr (s : State) (f : Fld) (b : Bool) : (s.setBool f b).pwr = s.pwr := rfl
@[simp] theorem State.setBool_boot (s : State) (f : Fld) (b : Bool) : (s.setBool f b).boot = s.boot := rfl
@[simp] theorem State.setBool_bus (s : State) (f : Fld) (b : Bool) : (s.setBool f b).bus = s.bus := rfl
@[simp] theorem State.setBool_out (s : State) (f : Fld) (b : Bool) : (s.setBool f b).out = s.out := rfl
@[simp] theorem State.setBool_free (s : State) (f : Fld) (b : Bool) : (s.setBool f b).free = s.free := rfl
@[simp] theorem State.setBool_pending (s : State) (f : Fld) (b : Bool) : (s.setBool f b).pending = s.pending := rfl

/-! ### count -/

@[simp] theorem State.count_mem (s : State) (f : Fld) (n : Nat) : (s.count f n).mem = s.mem := rfl
@[simp] theorem State.count_cad (s : State) (f : Fld) (n : Nat) : (s.count f n).cad = s.cad := rfl
@[simp] theorem State.count_sys (s : State) (f : Fld) (n : Nat) : (s.count f n).sys = s.sys := rfl
@[simp] theorem State.count_adc (s : State) (f : Fld) (n : Nat) : (s.count f n).adc = s.adc := rfl
@[simp] theorem State.count_cle (s : State) (f : Fld) (n : Nat) : (s.count f n).cle = s.cle := rfl
@[simp] theorem State.count_grd (s : State) (f : Fld) (n : Nat) : (s.count f n).grd = s.grd := rfl
@[simp] theorem State.count_cel (s : State) (f : Fld) (n : Nat) : (s.count f n).cel = s.cel := rfl
@[simp] theorem State.count_edg (s : State) (f : Fld) (n : Nat) : (s.count f n).edg = s.edg := rfl
@[simp] theorem State.count_dl (s : State) (f : Fld) (n : Nat) : (s.count f n).dl = s.dl := rfl
@[simp] theorem State.count_pwm (s : State) (f : Fld) (n : Nat) : (s.count f n).pwm = s.pwm := rfl
@[simp] theorem State.count_trp (s : State) (f : Fld) (n : Nat) : (s.count f n).trp = s.trp := rfl
@[simp] theorem State.count_spk (s : State) (f : Fld) (n : Nat) : (s.count f n).spk = s.spk := rfl
@[simp] theorem State.count_pel (s : State) (f : Fld) (n : Nat) : (s.count f n).pel = s.pel := rfl
@[simp] theorem State.count_tri (s : State) (f : Fld) (n : Nat) : (s.count f n).tri = s.tri := rfl
@[simp] theorem State.count_hst (s : State) (f : Fld) (n : Nat) : (s.count f n).hst = s.hst := rfl
@[simp] theorem State.count_memt (s : State) (f : Fld) (n : Nat) : (s.count f n).memt = s.memt := rfl
@[simp] theorem State.count_pool (s : State) (f : Fld) (n : Nat) : (s.count f n).pool = s.pool := rfl
@[simp] theorem State.count_flt (s : State) (f : Fld) (n : Nat) : (s.count f n).flt = s.flt := rfl
@[simp] theorem State.count_saf (s : State) (f : Fld) (n : Nat) : (s.count f n).saf = s.saf := rfl
@[simp] theorem State.count_mtr (s : State) (f : Fld) (n : Nat) : (s.count f n).mtr = s.mtr := rfl
@[simp] theorem State.count_net (s : State) (f : Fld) (n : Nat) : (s.count f n).net = s.net := rfl
@[simp] theorem State.count_pwr (s : State) (f : Fld) (n : Nat) : (s.count f n).pwr = s.pwr := rfl
@[simp] theorem State.count_boot (s : State) (f : Fld) (n : Nat) : (s.count f n).boot = s.boot := rfl
@[simp] theorem State.count_bus (s : State) (f : Fld) (n : Nat) : (s.count f n).bus = s.bus := rfl
@[simp] theorem State.count_out (s : State) (f : Fld) (n : Nat) : (s.count f n).out = s.out := rfl
@[simp] theorem State.count_free (s : State) (f : Fld) (n : Nat) : (s.count f n).free = s.free := rfl
@[simp] theorem State.count_pending (s : State) (f : Fld) (n : Nat) : (s.count f n).pending = s.pending := rfl

/-! ### setInt -/

@[simp] theorem State.setInt_mem (s : State) (f : Fld) (v : Int) : (s.setInt f v).mem = s.mem := rfl
@[simp] theorem State.setInt_cad (s : State) (f : Fld) (v : Int) : (s.setInt f v).cad = s.cad := rfl
@[simp] theorem State.setInt_sys (s : State) (f : Fld) (v : Int) : (s.setInt f v).sys = s.sys := rfl
@[simp] theorem State.setInt_adc (s : State) (f : Fld) (v : Int) : (s.setInt f v).adc = s.adc := rfl
@[simp] theorem State.setInt_cle (s : State) (f : Fld) (v : Int) : (s.setInt f v).cle = s.cle := rfl
@[simp] theorem State.setInt_grd (s : State) (f : Fld) (v : Int) : (s.setInt f v).grd = s.grd := rfl
@[simp] theorem State.setInt_cel (s : State) (f : Fld) (v : Int) : (s.setInt f v).cel = s.cel := rfl
@[simp] theorem State.setInt_edg (s : State) (f : Fld) (v : Int) : (s.setInt f v).edg = s.edg := rfl
@[simp] theorem State.setInt_dl (s : State) (f : Fld) (v : Int) : (s.setInt f v).dl = s.dl := rfl
@[simp] theorem State.setInt_pwm (s : State) (f : Fld) (v : Int) : (s.setInt f v).pwm = s.pwm := rfl
@[simp] theorem State.setInt_trp (s : State) (f : Fld) (v : Int) : (s.setInt f v).trp = s.trp := rfl
@[simp] theorem State.setInt_spk (s : State) (f : Fld) (v : Int) : (s.setInt f v).spk = s.spk := rfl
@[simp] theorem State.setInt_pel (s : State) (f : Fld) (v : Int) : (s.setInt f v).pel = s.pel := rfl
@[simp] theorem State.setInt_tri (s : State) (f : Fld) (v : Int) : (s.setInt f v).tri = s.tri := rfl
@[simp] theorem State.setInt_hst (s : State) (f : Fld) (v : Int) : (s.setInt f v).hst = s.hst := rfl
@[simp] theorem State.setInt_memt (s : State) (f : Fld) (v : Int) : (s.setInt f v).memt = s.memt := rfl
@[simp] theorem State.setInt_pool (s : State) (f : Fld) (v : Int) : (s.setInt f v).pool = s.pool := rfl
@[simp] theorem State.setInt_flt (s : State) (f : Fld) (v : Int) : (s.setInt f v).flt = s.flt := rfl
@[simp] theorem State.setInt_saf (s : State) (f : Fld) (v : Int) : (s.setInt f v).saf = s.saf := rfl
@[simp] theorem State.setInt_mtr (s : State) (f : Fld) (v : Int) : (s.setInt f v).mtr = s.mtr := rfl
@[simp] theorem State.setInt_net (s : State) (f : Fld) (v : Int) : (s.setInt f v).net = s.net := rfl
@[simp] theorem State.setInt_pwr (s : State) (f : Fld) (v : Int) : (s.setInt f v).pwr = s.pwr := rfl
@[simp] theorem State.setInt_boot (s : State) (f : Fld) (v : Int) : (s.setInt f v).boot = s.boot := rfl
@[simp] theorem State.setInt_bus (s : State) (f : Fld) (v : Int) : (s.setInt f v).bus = s.bus := rfl
@[simp] theorem State.setInt_out (s : State) (f : Fld) (v : Int) : (s.setInt f v).out = s.out := rfl
@[simp] theorem State.setInt_free (s : State) (f : Fld) (v : Int) : (s.setInt f v).free = s.free := rfl
@[simp] theorem State.setInt_pending (s : State) (f : Fld) (v : Int) : (s.setInt f v).pending = s.pending := rfl

/-! ### set64 -/

@[simp] theorem State.set64_mem (s : State) (lo hi : Fld) (v : Nat) : (s.set64 lo hi v).mem = s.mem := rfl
@[simp] theorem State.set64_cad (s : State) (lo hi : Fld) (v : Nat) : (s.set64 lo hi v).cad = s.cad := rfl
@[simp] theorem State.set64_sys (s : State) (lo hi : Fld) (v : Nat) : (s.set64 lo hi v).sys = s.sys := rfl
@[simp] theorem State.set64_adc (s : State) (lo hi : Fld) (v : Nat) : (s.set64 lo hi v).adc = s.adc := rfl
@[simp] theorem State.set64_cle (s : State) (lo hi : Fld) (v : Nat) : (s.set64 lo hi v).cle = s.cle := rfl
@[simp] theorem State.set64_grd (s : State) (lo hi : Fld) (v : Nat) : (s.set64 lo hi v).grd = s.grd := rfl
@[simp] theorem State.set64_cel (s : State) (lo hi : Fld) (v : Nat) : (s.set64 lo hi v).cel = s.cel := rfl
@[simp] theorem State.set64_edg (s : State) (lo hi : Fld) (v : Nat) : (s.set64 lo hi v).edg = s.edg := rfl
@[simp] theorem State.set64_dl (s : State) (lo hi : Fld) (v : Nat) : (s.set64 lo hi v).dl = s.dl := rfl
@[simp] theorem State.set64_pwm (s : State) (lo hi : Fld) (v : Nat) : (s.set64 lo hi v).pwm = s.pwm := rfl
@[simp] theorem State.set64_trp (s : State) (lo hi : Fld) (v : Nat) : (s.set64 lo hi v).trp = s.trp := rfl
@[simp] theorem State.set64_spk (s : State) (lo hi : Fld) (v : Nat) : (s.set64 lo hi v).spk = s.spk := rfl
@[simp] theorem State.set64_pel (s : State) (lo hi : Fld) (v : Nat) : (s.set64 lo hi v).pel = s.pel := rfl
@[simp] theorem State.set64_tri (s : State) (lo hi : Fld) (v : Nat) : (s.set64 lo hi v).tri = s.tri := rfl
@[simp] theorem State.set64_hst (s : State) (lo hi : Fld) (v : Nat) : (s.set64 lo hi v).hst = s.hst := rfl
@[simp] theorem State.set64_memt (s : State) (lo hi : Fld) (v : Nat) : (s.set64 lo hi v).memt = s.memt := rfl
@[simp] theorem State.set64_pool (s : State) (lo hi : Fld) (v : Nat) : (s.set64 lo hi v).pool = s.pool := rfl
@[simp] theorem State.set64_flt (s : State) (lo hi : Fld) (v : Nat) : (s.set64 lo hi v).flt = s.flt := rfl
@[simp] theorem State.set64_saf (s : State) (lo hi : Fld) (v : Nat) : (s.set64 lo hi v).saf = s.saf := rfl
@[simp] theorem State.set64_mtr (s : State) (lo hi : Fld) (v : Nat) : (s.set64 lo hi v).mtr = s.mtr := rfl
@[simp] theorem State.set64_net (s : State) (lo hi : Fld) (v : Nat) : (s.set64 lo hi v).net = s.net := rfl
@[simp] theorem State.set64_pwr (s : State) (lo hi : Fld) (v : Nat) : (s.set64 lo hi v).pwr = s.pwr := rfl
@[simp] theorem State.set64_boot (s : State) (lo hi : Fld) (v : Nat) : (s.set64 lo hi v).boot = s.boot := rfl
@[simp] theorem State.set64_bus (s : State) (lo hi : Fld) (v : Nat) : (s.set64 lo hi v).bus = s.bus := rfl
@[simp] theorem State.set64_out (s : State) (lo hi : Fld) (v : Nat) : (s.set64 lo hi v).out = s.out := rfl
@[simp] theorem State.set64_free (s : State) (lo hi : Fld) (v : Nat) : (s.set64 lo hi v).free = s.free := rfl
@[simp] theorem State.set64_pending (s : State) (lo hi : Fld) (v : Nat) : (s.set64 lo hi v).pending = s.pending := rfl

/-! ### reach -/

@[simp] theorem State.reach_regs (s : State) (t : Nat) : (s.reach t).regs = s.regs := rfl
@[simp] theorem State.reach_mem (s : State) (t : Nat) : (s.reach t).mem = s.mem := rfl
@[simp] theorem State.reach_sys (s : State) (t : Nat) : (s.reach t).sys = s.sys := rfl
@[simp] theorem State.reach_adc (s : State) (t : Nat) : (s.reach t).adc = s.adc := rfl
@[simp] theorem State.reach_cle (s : State) (t : Nat) : (s.reach t).cle = s.cle := rfl
@[simp] theorem State.reach_grd (s : State) (t : Nat) : (s.reach t).grd = s.grd := rfl
@[simp] theorem State.reach_cel (s : State) (t : Nat) : (s.reach t).cel = s.cel := rfl
@[simp] theorem State.reach_edg (s : State) (t : Nat) : (s.reach t).edg = s.edg := rfl
@[simp] theorem State.reach_dl (s : State) (t : Nat) : (s.reach t).dl = s.dl := rfl
@[simp] theorem State.reach_pwm (s : State) (t : Nat) : (s.reach t).pwm = s.pwm := rfl
@[simp] theorem State.reach_trp (s : State) (t : Nat) : (s.reach t).trp = s.trp := rfl
@[simp] theorem State.reach_spk (s : State) (t : Nat) : (s.reach t).spk = s.spk := rfl
@[simp] theorem State.reach_pel (s : State) (t : Nat) : (s.reach t).pel = s.pel := rfl
@[simp] theorem State.reach_tri (s : State) (t : Nat) : (s.reach t).tri = s.tri := rfl
@[simp] theorem State.reach_hst (s : State) (t : Nat) : (s.reach t).hst = s.hst := rfl
@[simp] theorem State.reach_memt (s : State) (t : Nat) : (s.reach t).memt = s.memt := rfl
@[simp] theorem State.reach_pool (s : State) (t : Nat) : (s.reach t).pool = s.pool := rfl
@[simp] theorem State.reach_flt (s : State) (t : Nat) : (s.reach t).flt = s.flt := rfl
@[simp] theorem State.reach_saf (s : State) (t : Nat) : (s.reach t).saf = s.saf := rfl
@[simp] theorem State.reach_mtr (s : State) (t : Nat) : (s.reach t).mtr = s.mtr := rfl
@[simp] theorem State.reach_net (s : State) (t : Nat) : (s.reach t).net = s.net := rfl
@[simp] theorem State.reach_pwr (s : State) (t : Nat) : (s.reach t).pwr = s.pwr := rfl
@[simp] theorem State.reach_boot (s : State) (t : Nat) : (s.reach t).boot = s.boot := rfl
@[simp] theorem State.reach_bus (s : State) (t : Nat) : (s.reach t).bus = s.bus := rfl
@[simp] theorem State.reach_out (s : State) (t : Nat) : (s.reach t).out = s.out := rfl
@[simp] theorem State.reach_free (s : State) (t : Nat) : (s.reach t).free = s.free := rfl
@[simp] theorem State.reach_pending (s : State) (t : Nat) : (s.reach t).pending = s.pending := rfl
@[simp] theorem State.reach_get (s : State) (t : Nat) (r : Fld) : (s.reach t).get r = s.get r := rfl

/-! ### emit -/

@[simp] theorem State.emit_regs (s : State) (o : Out) : (s.emit o).regs = s.regs := rfl
@[simp] theorem State.emit_mem (s : State) (o : Out) : (s.emit o).mem = s.mem := rfl
@[simp] theorem State.emit_cad (s : State) (o : Out) : (s.emit o).cad = s.cad := rfl
@[simp] theorem State.emit_sys (s : State) (o : Out) : (s.emit o).sys = s.sys := rfl
@[simp] theorem State.emit_adc (s : State) (o : Out) : (s.emit o).adc = s.adc := rfl
@[simp] theorem State.emit_cle (s : State) (o : Out) : (s.emit o).cle = s.cle := rfl
@[simp] theorem State.emit_grd (s : State) (o : Out) : (s.emit o).grd = s.grd := rfl
@[simp] theorem State.emit_cel (s : State) (o : Out) : (s.emit o).cel = s.cel := rfl
@[simp] theorem State.emit_edg (s : State) (o : Out) : (s.emit o).edg = s.edg := rfl
@[simp] theorem State.emit_dl (s : State) (o : Out) : (s.emit o).dl = s.dl := rfl
@[simp] theorem State.emit_pwm (s : State) (o : Out) : (s.emit o).pwm = s.pwm := rfl
@[simp] theorem State.emit_trp (s : State) (o : Out) : (s.emit o).trp = s.trp := rfl
@[simp] theorem State.emit_spk (s : State) (o : Out) : (s.emit o).spk = s.spk := rfl
@[simp] theorem State.emit_pel (s : State) (o : Out) : (s.emit o).pel = s.pel := rfl
@[simp] theorem State.emit_tri (s : State) (o : Out) : (s.emit o).tri = s.tri := rfl
@[simp] theorem State.emit_hst (s : State) (o : Out) : (s.emit o).hst = s.hst := rfl
@[simp] theorem State.emit_memt (s : State) (o : Out) : (s.emit o).memt = s.memt := rfl
@[simp] theorem State.emit_pool (s : State) (o : Out) : (s.emit o).pool = s.pool := rfl
@[simp] theorem State.emit_flt (s : State) (o : Out) : (s.emit o).flt = s.flt := rfl
@[simp] theorem State.emit_saf (s : State) (o : Out) : (s.emit o).saf = s.saf := rfl
@[simp] theorem State.emit_mtr (s : State) (o : Out) : (s.emit o).mtr = s.mtr := rfl
@[simp] theorem State.emit_net (s : State) (o : Out) : (s.emit o).net = s.net := rfl
@[simp] theorem State.emit_pwr (s : State) (o : Out) : (s.emit o).pwr = s.pwr := rfl
@[simp] theorem State.emit_boot (s : State) (o : Out) : (s.emit o).boot = s.boot := rfl
@[simp] theorem State.emit_bus (s : State) (o : Out) : (s.emit o).bus = s.bus := rfl
@[simp] theorem State.emit_free (s : State) (o : Out) : (s.emit o).free = s.free := rfl
@[simp] theorem State.emit_pending (s : State) (o : Out) : (s.emit o).pending = s.pending := rfl
@[simp] theorem State.emit_get (s : State) (o : Out) (r : Fld) : (s.emit o).get r = s.get r := rfl

/-! ### nextFree -/

@[simp] theorem State.nextFree_regs (s : State) : (s.nextFree).regs = s.regs := rfl
@[simp] theorem State.nextFree_mem (s : State) : (s.nextFree).mem = s.mem := rfl
@[simp] theorem State.nextFree_cad (s : State) : (s.nextFree).cad = s.cad := rfl
@[simp] theorem State.nextFree_sys (s : State) : (s.nextFree).sys = s.sys := rfl
@[simp] theorem State.nextFree_adc (s : State) : (s.nextFree).adc = s.adc := rfl
@[simp] theorem State.nextFree_cle (s : State) : (s.nextFree).cle = s.cle := rfl
@[simp] theorem State.nextFree_grd (s : State) : (s.nextFree).grd = s.grd := rfl
@[simp] theorem State.nextFree_cel (s : State) : (s.nextFree).cel = s.cel := rfl
@[simp] theorem State.nextFree_edg (s : State) : (s.nextFree).edg = s.edg := rfl
@[simp] theorem State.nextFree_dl (s : State) : (s.nextFree).dl = s.dl := rfl
@[simp] theorem State.nextFree_pwm (s : State) : (s.nextFree).pwm = s.pwm := rfl
@[simp] theorem State.nextFree_trp (s : State) : (s.nextFree).trp = s.trp := rfl
@[simp] theorem State.nextFree_spk (s : State) : (s.nextFree).spk = s.spk := rfl
@[simp] theorem State.nextFree_pel (s : State) : (s.nextFree).pel = s.pel := rfl
@[simp] theorem State.nextFree_tri (s : State) : (s.nextFree).tri = s.tri := rfl
@[simp] theorem State.nextFree_hst (s : State) : (s.nextFree).hst = s.hst := rfl
@[simp] theorem State.nextFree_memt (s : State) : (s.nextFree).memt = s.memt := rfl
@[simp] theorem State.nextFree_pool (s : State) : (s.nextFree).pool = s.pool := rfl
@[simp] theorem State.nextFree_flt (s : State) : (s.nextFree).flt = s.flt := rfl
@[simp] theorem State.nextFree_saf (s : State) : (s.nextFree).saf = s.saf := rfl
@[simp] theorem State.nextFree_mtr (s : State) : (s.nextFree).mtr = s.mtr := rfl
@[simp] theorem State.nextFree_net (s : State) : (s.nextFree).net = s.net := rfl
@[simp] theorem State.nextFree_pwr (s : State) : (s.nextFree).pwr = s.pwr := rfl
@[simp] theorem State.nextFree_boot (s : State) : (s.nextFree).boot = s.boot := rfl
@[simp] theorem State.nextFree_bus (s : State) : (s.nextFree).bus = s.bus := rfl
@[simp] theorem State.nextFree_out (s : State) : (s.nextFree).out = s.out := rfl
@[simp] theorem State.nextFree_pending (s : State) : (s.nextFree).pending = s.pending := rfl
@[simp] theorem State.nextFree_get (s : State) (r : Fld) : (s.nextFree).get r = s.get r := rfl

/-! ### modCore -/

@[simp] theorem State.modCore_regs (s : State) (x : Nat) (f : CoreState → CoreState) : (s.modCore x f).regs = s.regs := rfl
@[simp] theorem State.modCore_mem (s : State) (x : Nat) (f : CoreState → CoreState) : (s.modCore x f).mem = s.mem := rfl
@[simp] theorem State.modCore_cad (s : State) (x : Nat) (f : CoreState → CoreState) : (s.modCore x f).cad = s.cad := rfl
@[simp] theorem State.modCore_sys (s : State) (x : Nat) (f : CoreState → CoreState) : (s.modCore x f).sys = s.sys := rfl
@[simp] theorem State.modCore_adc (s : State) (x : Nat) (f : CoreState → CoreState) : (s.modCore x f).adc = s.adc := rfl
@[simp] theorem State.modCore_cle (s : State) (x : Nat) (f : CoreState → CoreState) : (s.modCore x f).cle = s.cle := rfl
@[simp] theorem State.modCore_grd (s : State) (x : Nat) (f : CoreState → CoreState) : (s.modCore x f).grd = s.grd := rfl
@[simp] theorem State.modCore_cel (s : State) (x : Nat) (f : CoreState → CoreState) : (s.modCore x f).cel = s.cel := rfl
@[simp] theorem State.modCore_edg (s : State) (x : Nat) (f : CoreState → CoreState) : (s.modCore x f).edg = s.edg := rfl
@[simp] theorem State.modCore_dl (s : State) (x : Nat) (f : CoreState → CoreState) : (s.modCore x f).dl = s.dl := rfl
@[simp] theorem State.modCore_pwm (s : State) (x : Nat) (f : CoreState → CoreState) : (s.modCore x f).pwm = s.pwm := rfl
@[simp] theorem State.modCore_trp (s : State) (x : Nat) (f : CoreState → CoreState) : (s.modCore x f).trp = s.trp := rfl
@[simp] theorem State.modCore_spk (s : State) (x : Nat) (f : CoreState → CoreState) : (s.modCore x f).spk = s.spk := rfl
@[simp] theorem State.modCore_pel (s : State) (x : Nat) (f : CoreState → CoreState) : (s.modCore x f).pel = s.pel := rfl
@[simp] theorem State.modCore_hst (s : State) (x : Nat) (f : CoreState → CoreState) : (s.modCore x f).hst = s.hst := rfl
@[simp] theorem State.modCore_memt (s : State) (x : Nat) (f : CoreState → CoreState) : (s.modCore x f).memt = s.memt := rfl
@[simp] theorem State.modCore_pool (s : State) (x : Nat) (f : CoreState → CoreState) : (s.modCore x f).pool = s.pool := rfl
@[simp] theorem State.modCore_flt (s : State) (x : Nat) (f : CoreState → CoreState) : (s.modCore x f).flt = s.flt := rfl
@[simp] theorem State.modCore_saf (s : State) (x : Nat) (f : CoreState → CoreState) : (s.modCore x f).saf = s.saf := rfl
@[simp] theorem State.modCore_mtr (s : State) (x : Nat) (f : CoreState → CoreState) : (s.modCore x f).mtr = s.mtr := rfl
@[simp] theorem State.modCore_net (s : State) (x : Nat) (f : CoreState → CoreState) : (s.modCore x f).net = s.net := rfl
@[simp] theorem State.modCore_pwr (s : State) (x : Nat) (f : CoreState → CoreState) : (s.modCore x f).pwr = s.pwr := rfl
@[simp] theorem State.modCore_boot (s : State) (x : Nat) (f : CoreState → CoreState) : (s.modCore x f).boot = s.boot := rfl
@[simp] theorem State.modCore_bus (s : State) (x : Nat) (f : CoreState → CoreState) : (s.modCore x f).bus = s.bus := rfl
@[simp] theorem State.modCore_out (s : State) (x : Nat) (f : CoreState → CoreState) : (s.modCore x f).out = s.out := rfl
@[simp] theorem State.modCore_free (s : State) (x : Nat) (f : CoreState → CoreState) : (s.modCore x f).free = s.free := rfl
@[simp] theorem State.modCore_pending (s : State) (x : Nat) (f : CoreState → CoreState) : (s.modCore x f).pending = s.pending := rfl
@[simp] theorem State.modCore_get (s : State) (x : Nat) (f : CoreState → CoreState) (r : Fld) : (s.modCore x f).get r = s.get r := rfl

/-! ### irq -/

@[simp] theorem State.irq_regs (s : State) (n : Nat) : (s.irq n).regs = s.regs := rfl
@[simp] theorem State.irq_mem (s : State) (n : Nat) : (s.irq n).mem = s.mem := rfl
@[simp] theorem State.irq_cad (s : State) (n : Nat) : (s.irq n).cad = s.cad := rfl
@[simp] theorem State.irq_sys (s : State) (n : Nat) : (s.irq n).sys = s.sys := rfl
@[simp] theorem State.irq_adc (s : State) (n : Nat) : (s.irq n).adc = s.adc := rfl
@[simp] theorem State.irq_cle (s : State) (n : Nat) : (s.irq n).cle = s.cle := rfl
@[simp] theorem State.irq_grd (s : State) (n : Nat) : (s.irq n).grd = s.grd := rfl
@[simp] theorem State.irq_cel (s : State) (n : Nat) : (s.irq n).cel = s.cel := rfl
@[simp] theorem State.irq_edg (s : State) (n : Nat) : (s.irq n).edg = s.edg := rfl
@[simp] theorem State.irq_dl (s : State) (n : Nat) : (s.irq n).dl = s.dl := rfl
@[simp] theorem State.irq_pwm (s : State) (n : Nat) : (s.irq n).pwm = s.pwm := rfl
@[simp] theorem State.irq_trp (s : State) (n : Nat) : (s.irq n).trp = s.trp := rfl
@[simp] theorem State.irq_spk (s : State) (n : Nat) : (s.irq n).spk = s.spk := rfl
@[simp] theorem State.irq_pel (s : State) (n : Nat) : (s.irq n).pel = s.pel := rfl
@[simp] theorem State.irq_hst (s : State) (n : Nat) : (s.irq n).hst = s.hst := rfl
@[simp] theorem State.irq_memt (s : State) (n : Nat) : (s.irq n).memt = s.memt := rfl
@[simp] theorem State.irq_pool (s : State) (n : Nat) : (s.irq n).pool = s.pool := rfl
@[simp] theorem State.irq_flt (s : State) (n : Nat) : (s.irq n).flt = s.flt := rfl
@[simp] theorem State.irq_saf (s : State) (n : Nat) : (s.irq n).saf = s.saf := rfl
@[simp] theorem State.irq_mtr (s : State) (n : Nat) : (s.irq n).mtr = s.mtr := rfl
@[simp] theorem State.irq_net (s : State) (n : Nat) : (s.irq n).net = s.net := rfl
@[simp] theorem State.irq_pwr (s : State) (n : Nat) : (s.irq n).pwr = s.pwr := rfl
@[simp] theorem State.irq_boot (s : State) (n : Nat) : (s.irq n).boot = s.boot := rfl
@[simp] theorem State.irq_bus (s : State) (n : Nat) : (s.irq n).bus = s.bus := rfl
@[simp] theorem State.irq_out (s : State) (n : Nat) : (s.irq n).out = s.out := rfl
@[simp] theorem State.irq_free (s : State) (n : Nat) : (s.irq n).free = s.free := rfl
@[simp] theorem State.irq_pending (s : State) (n : Nat) : (s.irq n).pending = s.pending := rfl
@[simp] theorem State.irq_get (s : State) (n : Nat) (r : Fld) : (s.irq n).get r = s.get r := rfl

/-! ### modPort -/

@[simp] theorem State.modPort_regs (s : State) (p : Nat) (f : PortState → PortState) : (s.modPort p f).regs = s.regs := rfl
@[simp] theorem State.modPort_mem (s : State) (p : Nat) (f : PortState → PortState) : (s.modPort p f).mem = s.mem := rfl
@[simp] theorem State.modPort_cad (s : State) (p : Nat) (f : PortState → PortState) : (s.modPort p f).cad = s.cad := rfl
@[simp] theorem State.modPort_sys (s : State) (p : Nat) (f : PortState → PortState) : (s.modPort p f).sys = s.sys := rfl
@[simp] theorem State.modPort_adc (s : State) (p : Nat) (f : PortState → PortState) : (s.modPort p f).adc = s.adc := rfl
@[simp] theorem State.modPort_cle (s : State) (p : Nat) (f : PortState → PortState) : (s.modPort p f).cle = s.cle := rfl
@[simp] theorem State.modPort_grd (s : State) (p : Nat) (f : PortState → PortState) : (s.modPort p f).grd = s.grd := rfl
@[simp] theorem State.modPort_cel (s : State) (p : Nat) (f : PortState → PortState) : (s.modPort p f).cel = s.cel := rfl
@[simp] theorem State.modPort_edg (s : State) (p : Nat) (f : PortState → PortState) : (s.modPort p f).edg = s.edg := rfl
@[simp] theorem State.modPort_dl (s : State) (p : Nat) (f : PortState → PortState) : (s.modPort p f).dl = s.dl := rfl
@[simp] theorem State.modPort_pwm (s : State) (p : Nat) (f : PortState → PortState) : (s.modPort p f).pwm = s.pwm := rfl
@[simp] theorem State.modPort_trp (s : State) (p : Nat) (f : PortState → PortState) : (s.modPort p f).trp = s.trp := rfl
@[simp] theorem State.modPort_pel (s : State) (p : Nat) (f : PortState → PortState) : (s.modPort p f).pel = s.pel := rfl
@[simp] theorem State.modPort_tri (s : State) (p : Nat) (f : PortState → PortState) : (s.modPort p f).tri = s.tri := rfl
@[simp] theorem State.modPort_hst (s : State) (p : Nat) (f : PortState → PortState) : (s.modPort p f).hst = s.hst := rfl
@[simp] theorem State.modPort_memt (s : State) (p : Nat) (f : PortState → PortState) : (s.modPort p f).memt = s.memt := rfl
@[simp] theorem State.modPort_pool (s : State) (p : Nat) (f : PortState → PortState) : (s.modPort p f).pool = s.pool := rfl
@[simp] theorem State.modPort_flt (s : State) (p : Nat) (f : PortState → PortState) : (s.modPort p f).flt = s.flt := rfl
@[simp] theorem State.modPort_saf (s : State) (p : Nat) (f : PortState → PortState) : (s.modPort p f).saf = s.saf := rfl
@[simp] theorem State.modPort_mtr (s : State) (p : Nat) (f : PortState → PortState) : (s.modPort p f).mtr = s.mtr := rfl
@[simp] theorem State.modPort_net (s : State) (p : Nat) (f : PortState → PortState) : (s.modPort p f).net = s.net := rfl
@[simp] theorem State.modPort_pwr (s : State) (p : Nat) (f : PortState → PortState) : (s.modPort p f).pwr = s.pwr := rfl
@[simp] theorem State.modPort_boot (s : State) (p : Nat) (f : PortState → PortState) : (s.modPort p f).boot = s.boot := rfl
@[simp] theorem State.modPort_bus (s : State) (p : Nat) (f : PortState → PortState) : (s.modPort p f).bus = s.bus := rfl
@[simp] theorem State.modPort_out (s : State) (p : Nat) (f : PortState → PortState) : (s.modPort p f).out = s.out := rfl
@[simp] theorem State.modPort_free (s : State) (p : Nat) (f : PortState → PortState) : (s.modPort p f).free = s.free := rfl
@[simp] theorem State.modPort_pending (s : State) (p : Nat) (f : PortState → PortState) : (s.modPort p f).pending = s.pending := rfl
@[simp] theorem State.modPort_get (s : State) (p : Nat) (f : PortState → PortState) (r : Fld) : (s.modPort p f).get r = s.get r := rfl

/-! ### modChan -/

@[simp] theorem State.modChan_regs (s : State) (n : Nat) (f : PwmChan → PwmChan) : (s.modChan n f).regs = s.regs := rfl
@[simp] theorem State.modChan_mem (s : State) (n : Nat) (f : PwmChan → PwmChan) : (s.modChan n f).mem = s.mem := rfl
@[simp] theorem State.modChan_cad (s : State) (n : Nat) (f : PwmChan → PwmChan) : (s.modChan n f).cad = s.cad := rfl
@[simp] theorem State.modChan_sys (s : State) (n : Nat) (f : PwmChan → PwmChan) : (s.modChan n f).sys = s.sys := rfl
@[simp] theorem State.modChan_adc (s : State) (n : Nat) (f : PwmChan → PwmChan) : (s.modChan n f).adc = s.adc := rfl
@[simp] theorem State.modChan_cle (s : State) (n : Nat) (f : PwmChan → PwmChan) : (s.modChan n f).cle = s.cle := rfl
@[simp] theorem State.modChan_grd (s : State) (n : Nat) (f : PwmChan → PwmChan) : (s.modChan n f).grd = s.grd := rfl
@[simp] theorem State.modChan_cel (s : State) (n : Nat) (f : PwmChan → PwmChan) : (s.modChan n f).cel = s.cel := rfl
@[simp] theorem State.modChan_edg (s : State) (n : Nat) (f : PwmChan → PwmChan) : (s.modChan n f).edg = s.edg := rfl
@[simp] theorem State.modChan_dl (s : State) (n : Nat) (f : PwmChan → PwmChan) : (s.modChan n f).dl = s.dl := rfl
@[simp] theorem State.modChan_trp (s : State) (n : Nat) (f : PwmChan → PwmChan) : (s.modChan n f).trp = s.trp := rfl
@[simp] theorem State.modChan_spk (s : State) (n : Nat) (f : PwmChan → PwmChan) : (s.modChan n f).spk = s.spk := rfl
@[simp] theorem State.modChan_pel (s : State) (n : Nat) (f : PwmChan → PwmChan) : (s.modChan n f).pel = s.pel := rfl
@[simp] theorem State.modChan_tri (s : State) (n : Nat) (f : PwmChan → PwmChan) : (s.modChan n f).tri = s.tri := rfl
@[simp] theorem State.modChan_hst (s : State) (n : Nat) (f : PwmChan → PwmChan) : (s.modChan n f).hst = s.hst := rfl
@[simp] theorem State.modChan_memt (s : State) (n : Nat) (f : PwmChan → PwmChan) : (s.modChan n f).memt = s.memt := rfl
@[simp] theorem State.modChan_pool (s : State) (n : Nat) (f : PwmChan → PwmChan) : (s.modChan n f).pool = s.pool := rfl
@[simp] theorem State.modChan_flt (s : State) (n : Nat) (f : PwmChan → PwmChan) : (s.modChan n f).flt = s.flt := rfl
@[simp] theorem State.modChan_saf (s : State) (n : Nat) (f : PwmChan → PwmChan) : (s.modChan n f).saf = s.saf := rfl
@[simp] theorem State.modChan_mtr (s : State) (n : Nat) (f : PwmChan → PwmChan) : (s.modChan n f).mtr = s.mtr := rfl
@[simp] theorem State.modChan_net (s : State) (n : Nat) (f : PwmChan → PwmChan) : (s.modChan n f).net = s.net := rfl
@[simp] theorem State.modChan_pwr (s : State) (n : Nat) (f : PwmChan → PwmChan) : (s.modChan n f).pwr = s.pwr := rfl
@[simp] theorem State.modChan_boot (s : State) (n : Nat) (f : PwmChan → PwmChan) : (s.modChan n f).boot = s.boot := rfl
@[simp] theorem State.modChan_bus (s : State) (n : Nat) (f : PwmChan → PwmChan) : (s.modChan n f).bus = s.bus := rfl
@[simp] theorem State.modChan_out (s : State) (n : Nat) (f : PwmChan → PwmChan) : (s.modChan n f).out = s.out := rfl
@[simp] theorem State.modChan_free (s : State) (n : Nat) (f : PwmChan → PwmChan) : (s.modChan n f).free = s.free := rfl
@[simp] theorem State.modChan_pending (s : State) (n : Nat) (f : PwmChan → PwmChan) : (s.modChan n f).pending = s.pending := rfl
@[simp] theorem State.modChan_get (s : State) (n : Nat) (f : PwmChan → PwmChan) (r : Fld) : (s.modChan n f).get r = s.get r := rfl

/-! ### setByte -/

@[simp] theorem State.setByte_regs (s : State) (a : Nat) (b : Byte) : (s.setByte a b).regs = s.regs := rfl
@[simp] theorem State.setByte_cad (s : State) (a : Nat) (b : Byte) : (s.setByte a b).cad = s.cad := rfl
@[simp] theorem State.setByte_sys (s : State) (a : Nat) (b : Byte) : (s.setByte a b).sys = s.sys := rfl
@[simp] theorem State.setByte_adc (s : State) (a : Nat) (b : Byte) : (s.setByte a b).adc = s.adc := rfl
@[simp] theorem State.setByte_cle (s : State) (a : Nat) (b : Byte) : (s.setByte a b).cle = s.cle := rfl
@[simp] theorem State.setByte_grd (s : State) (a : Nat) (b : Byte) : (s.setByte a b).grd = s.grd := rfl
@[simp] theorem State.setByte_cel (s : State) (a : Nat) (b : Byte) : (s.setByte a b).cel = s.cel := rfl
@[simp] theorem State.setByte_edg (s : State) (a : Nat) (b : Byte) : (s.setByte a b).edg = s.edg := rfl
@[simp] theorem State.setByte_dl (s : State) (a : Nat) (b : Byte) : (s.setByte a b).dl = s.dl := rfl
@[simp] theorem State.setByte_pwm (s : State) (a : Nat) (b : Byte) : (s.setByte a b).pwm = s.pwm := rfl
@[simp] theorem State.setByte_trp (s : State) (a : Nat) (b : Byte) : (s.setByte a b).trp = s.trp := rfl
@[simp] theorem State.setByte_spk (s : State) (a : Nat) (b : Byte) : (s.setByte a b).spk = s.spk := rfl
@[simp] theorem State.setByte_pel (s : State) (a : Nat) (b : Byte) : (s.setByte a b).pel = s.pel := rfl
@[simp] theorem State.setByte_tri (s : State) (a : Nat) (b : Byte) : (s.setByte a b).tri = s.tri := rfl
@[simp] theorem State.setByte_hst (s : State) (a : Nat) (b : Byte) : (s.setByte a b).hst = s.hst := rfl
@[simp] theorem State.setByte_memt (s : State) (a : Nat) (b : Byte) : (s.setByte a b).memt = s.memt := rfl
@[simp] theorem State.setByte_pool (s : State) (a : Nat) (b : Byte) : (s.setByte a b).pool = s.pool := rfl
@[simp] theorem State.setByte_flt (s : State) (a : Nat) (b : Byte) : (s.setByte a b).flt = s.flt := rfl
@[simp] theorem State.setByte_saf (s : State) (a : Nat) (b : Byte) : (s.setByte a b).saf = s.saf := rfl
@[simp] theorem State.setByte_mtr (s : State) (a : Nat) (b : Byte) : (s.setByte a b).mtr = s.mtr := rfl
@[simp] theorem State.setByte_net (s : State) (a : Nat) (b : Byte) : (s.setByte a b).net = s.net := rfl
@[simp] theorem State.setByte_pwr (s : State) (a : Nat) (b : Byte) : (s.setByte a b).pwr = s.pwr := rfl
@[simp] theorem State.setByte_boot (s : State) (a : Nat) (b : Byte) : (s.setByte a b).boot = s.boot := rfl
@[simp] theorem State.setByte_bus (s : State) (a : Nat) (b : Byte) : (s.setByte a b).bus = s.bus := rfl
@[simp] theorem State.setByte_out (s : State) (a : Nat) (b : Byte) : (s.setByte a b).out = s.out := rfl
@[simp] theorem State.setByte_free (s : State) (a : Nat) (b : Byte) : (s.setByte a b).free = s.free := rfl
@[simp] theorem State.setByte_pending (s : State) (a : Nat) (b : Byte) : (s.setByte a b).pending = s.pending := rfl
@[simp] theorem State.setByte_get (s : State) (a : Nat) (b : Byte) (r : Fld) : (s.setByte a b).get r = s.get r := rfl

end Sys2Proof.Machine
end

