-- ==== Sys2Proof/Machine/Package.lean ====
section
/-!
DEFINITION. The package's ball map (R545 to R547): fixed data of the part, which no command changes and no meaning reads.
-/

namespace Sys2Proof.Machine

/-- The rows' letters, by index 1 to 34 (R545). -/
def packageRows : List String :=
  ["A", "B", "C", "D", "E", "F", "G", "H", "J", "K", "L", "M", "N", "P", "T", "U", "V"] ++
  ["W", "Y", "AA", "AB", "AC", "AD", "AE", "AF", "AG", "AH", "AJ", "AK", "AL", "AM", "AN", "AP", "AT"]

/-- A ball: the index of its row and its column, both 1 to 34. -/
structure Ball where
  row : Nat
  column : Nat
deriving DecidableEq, Repr

/-- The name of a ball. -/
def Ball.name (b : Ball) : String := packageRows.getD (b.row - 1) "" ++ toString b.column

/-- The balls of a Spoke port: TX_P, TX_N, GND, RX_P, RX_N from the edge inwards on the port's line (R546). -/
def spokeBalls (p : Fin 96) : List Ball :=
  let j := p.val % 24
  (List.range 5).map (fun k => match p.val / 24 with
    | 0 => ⟨1 + k, 6 + j⟩
    | 1 => ⟨6 + j, 34 - k⟩
    | 2 => ⟨34 - k, 29 - j⟩
    | _ => ⟨29 - j, 1 + k⟩)

/-- A region of the other balls: its first and last row and column, its groups in the table's order with the balls of each, and what its
other balls are (R547). -/
structure BallRegion where
  rows : Nat × Nat
  columns : Nat × Nat
  groups : List (String × Nat)
  rest : String
deriving DecidableEq, Repr

/-- The regions of R547. -/
def ballRegions : List BallRegion := [
  ⟨(1, 5), (1, 5), [("PCIE_TX/RX", 16), ("PCIE_REFCLK", 2), ("PCIE_PERST_N", 1)], "GND"⟩,
  ⟨(1, 5), (30, 34), [("NET_TX/RX", 8), ("PEL_TX/RX", 8)], "GND"⟩,
  ⟨(30, 34), (30, 34), [("VAUX", 8), ("VIN_S", 1), ("RPG", 1), ("V33_HG", 1), ("V33_LG", 1), ("V33_SW", 1), ("V33_FB", 1),
    ("V33_ISP", 1), ("V33_ISN", 1), ("VC_HG", 1), ("VC_LG", 1), ("VC_SW", 1), ("VC_ISP", 1), ("VC_ISN", 1), ("VC_FBP", 1), ("VC_FBN", 1)], "GND"⟩,
  ⟨(30, 34), (1, 5), [("XTAL_IN", 1), ("XTAL_OUT", 1), ("XTAL_BYP", 1), ("RTC_XI", 1), ("RTC_XO", 1), ("QSPI_CLK", 1), ("QSPI_CS_N", 1),
    ("QSPI_IO", 4), ("TCK", 1), ("TMS", 1), ("TDI", 1), ("TDO", 1), ("TRST_N", 1), ("DBG_TCKC", 1), ("DBG_TMSC", 1), ("PEL_IDX", 3),
    ("PEL_CAND", 1), ("CS_IN", 1), ("CS_FB", 1), ("VCUP", 1)], "GND"⟩,
  ⟨(6, 13), (6, 17), [("AIN", 64), ("ADC_REFP", 1), ("ADC_REFN", 1), ("AVDD", 8)], "AGND"⟩,
  ⟨(6, 10), (18, 29), [("MTR_V/I", 16), ("MTR_REF", 1), ("MTR_AVDD", 4)], "AGND"⟩,
  ⟨(11, 13), (18, 29), [("PWM_OUT", 12), ("TRIP_IN", 8), ("MTR_PULSE", 2), ("FAULT_N", 1), ("SAFE_EN", 1), ("TAMP0", 1), ("TAMP1", 1)], "GND"⟩,
  ⟨(14, 29), (6, 29), [("VCORE", 120), ("V33", 40), ("V18", 24), ("VJUG", 4), ("VAON_DEC", 1)], "GND"⟩]

/-- The balls of a region, across the columns first and then across the rows. -/
def BallRegion.balls (r : BallRegion) : List Ball :=
  (List.range (r.rows.2 - r.rows.1 + 1)).flatMap (fun i => (List.range (r.columns.2 - r.columns.1 + 1)).map (fun j =>
    ⟨r.rows.1 + i, r.columns.1 + j⟩))

/-- The signals of a region's balls in that order, the groups one after another (DEDUCED, log 161). -/
def BallRegion.signals (r : BallRegion) : List String :=
  let taken := r.groups.flatMap (fun g => List.replicate g.2 g.1)
  taken ++ List.replicate (r.balls.length - taken.length) r.rest

/-- What a ball is: a line of a Spoke port, else its place in its region. -/
def ballSignal (b : Ball) : Option String :=
  match (List.finRange 96).findSome? (fun p => ((spokeBalls p).zip ["TX_P", "TX_N", "GND", "RX_P", "RX_N"]).lookup b) with
  | some n => some n
  | none => ballRegions.findSome? (fun r => (r.balls.zip r.signals).lookup b)

end Sys2Proof.Machine
end

