-- ==== Sys2Proof/Tests/Slice0.lean ====
section
/-!
SUPPORT. Tests of single commands, of the checks of WellFormed, of decoded words of the control engine, and states that meet the hypotheses
of the statements. Expected results come from the spec's tables and examples, as each test's docstring says.
-/

namespace Sys2Proof.Tests

open Sys2Proof.Machine

set_option Elab.async false

/-- The reset state with register fields set. -/
def with_ (l : List (Fld × Nat)) : State := l.foldl (fun s p => s.set p.1 p.2) State.reset

/-- What a command leaves of one register field; none where it stops. -/
def after (i : Instr) (s : State) (f : Fld) : Option Nat := match exec i s with | .next t => some (t.get f) | _ => none

/-! ### Ill-formed commands are refused by the check -/

theorem test_wf_access_size : (Instr.registerWrite (.one ⟨3, .write, 3, 0x40120000, 0⟩)).wf = false := by decide
theorem test_wf_access_value : (Instr.registerWrite (.one ⟨3, .write, 1, 0x40120000, 0x100⟩)).wf = false := by decide
theorem test_wf_descriptor_length : (Instr.descriptorFetch [0, 1, 2]).wf = false := by decide
theorem test_wf_offset : (Instr.grdRegisterWrite 2 0).wf = false := by decide
theorem test_wf_pair_address : (Instr.registerPairLoRead 3 0x40030029).wf = false := by decide
theorem test_wf_meter_path : (Instr.meteringSample ⟨[0], [0, 0, 0, 0], 0, 0, 0, 0⟩).wf = false := by decide
theorem test_wf_meter_code : (Instr.meteringSample ⟨[0, 0, 0, 0, 0, 0, 0, 0x800000], [0, 0, 0, 0], 0, 0, 0, 0⟩).wf = false := by decide
theorem test_wf_ptp_time : (Instr.ptpMessageReceived 0 (.sync 1 2 true 0 1000000000 0) 0).wf = false := by decide
theorem test_wf_accepts : (Instr.registerWrite (.one ⟨3, .write, 4, 0x40120000, 2⟩)).wf = true := by decide
theorem test_wf_accepts_ptp : (Instr.ptpMessageReceived 0 (.sync 1 2 true 0 999999999 0) 0).wf = true := by decide

/-! ### Words of the control engine -/

/-- The example of chapter 04: DMAC A2, W4, W6 is 0x8891_8000 (R82). -/
theorem test_decode_dmac : cleDecode 0x88918000 = some (.cleDmac 2 4 6 false) := by decide
/-- ADD W1, W2, W3: 010000 0001 0010 0011 and fourteen zeros (R82). -/
theorem test_decode_add : cleDecode 0x4048C000 = some (.cleAdd 1 2 3 false) := by decide
/-- END: 000010 and 26 zeros (R82). -/
theorem test_decode_end : cleDecode 0x08000000 = some .cleEnd := by decide
/-- MOVI W15, −1: 011000 1111 0000 and eighteen ones (R82). -/
theorem test_decode_movi : cleDecode 0x63C3FFFF = some (.cleMovi 15 0x3FFFF) := by decide
/-- A word of zeros is no instruction (R82, R96). -/
theorem test_decode_zero : cleDecode 0 = none := by decide

/-! ### Single commands against the spec's tables and examples -/

/-- 3.0 pu is 0x6000_0000 (R48), and 3.0 pu and 3.0 pu saturate to the largest value (R83). -/
theorem test_sat_add : clampInt (0x60000000 + 0x60000000) (-0x80000000) 0x7FFFFFFF = 0x7FFFFFFF := by decide
/-- APPLY refuses a PERIOD below 4000 (R9, R30). -/
theorem test_apply_refuses : after .apply (with_ [(Reg.CAD_PERIOD_PERIOD.shadow, 3999)]) Reg.CAD_STAT_CFGERR = some 1 := by decide +kernel
/-- APPLY takes a PERIOD of 4000 with every deadline inside it (R9, R14, R30). -/
theorem test_apply_takes : after .apply (with_ [(Reg.CAD_PERIOD_PERIOD.shadow, 4000), (Reg.CAD_DL_ACQ_DL.shadow, 1200), (Reg.CAD_DL_SOLVE_DL.shadow, 2400),
    (Reg.CAD_DL_PLAN_DL.shadow, 3000), (Reg.CAD_DL_DISP_DL.shadow, 4000)]) Reg.CAD_PERIOD_PERIOD = some 4000 := by decide +kernel
/-- A block request of arms 0 and 2 leaves arm 1 enabled (R224). -/
theorem test_block : after (.trpBlkReq 5) (with_ [(Reg.TRP_PULSE_EN_EN, 7)]) Reg.TRP_PULSE_EN_EN = some 2 := by decide +kernel
/-- A locked hard limit only tightens (R241). -/
theorem test_limit_locked : after (.hardLimitWrite .iarm 2000) (with_ [(Reg.TRP_HL_LOCK_LOCK, 1), (Reg.TRP_HL_IARM_LIMIT, 1500)])
    Reg.TRP_HL_IARM_LIMIT = some 1500 := by decide +kernel
/-- CLK_PLL2_CFG with SSC 3 is reserved (R503, R509). -/
theorem test_pll2_reserved : after (.clkPll2CfgWrite 0x01C000A0) State.reset Reg.CLK_REF_CFGERR = some 1 := by decide +kernel
/-- The wrong key changes no lifecycle state (R524). -/
theorem test_trans_key : after (.lcsTrans 0x3D01) State.reset Reg.LCS_STATE_STATE = some 0 := by decide +kernel

/-! ### States that meet the hypotheses of the statements, each named after its statement -/

/-- The header of an image without segments, MODE 1, for every lifecycle state (R514), and the bytes that follow, all 0. -/
def bootable : List Nat :=
  [0x42, 0x53, 0x53, 0x48, 2, 0, 0, 0, 0, 5, 0, 0, 0x96, 0, 0, 0] ++ List.replicate 8 0 ++ [0x1F, 1] ++ List.replicate 1254 0

theorem witness_ApplyChecksTheWholeSet :
    let s : State := with_ [(Reg.CAD_CTRL_RUN, 1)]
    s.get Reg.CAD_CTRL_RUN ≠ 0 ∧ 4000 ≤ s.get Reg.CAD_PERIOD_PERIOD.shadow ∧ State.reset.get Reg.CAD_CTRL_RUN = 0 := by decide +kernel
theorem witness_RunStartsAndStopsTicks :
    let s : State := { with_ [(Reg.CAD_STAT_SYNC, 2)] with cad := { State.reset.cad with stopAt := some 8000 } }
    s.cad.inTick = false ∧ s.cad.stopAt = some 8000 ∧ s.get Reg.CAD_STAT_SYNC = 2 ∧ s.get Reg.CAD_CTRL_RUN = 0 := by decide +kernel
theorem witness_TickPhasesFollowInOrder :
    let s : State := { with_ [(Reg.CAD_STAT_PHASE, 3)] with cad := { State.reset.cad with inTick := true } }
    s.inKickstand = false ∧ s.pwr.pllLost.testBit 0 = false ∧ s.cad.inTick = true ∧ s.get Reg.CAD_STAT_PHASE = 3
      ∧ s.cad.dispatched = false := by decide +kernel
theorem witness_OverrunsHoldThenBlock :
    let s : State := with_ [(Reg.CAD_CTRL_HOLDLIM, 4), (Reg.CAD_STAT_HOLDCNT, 3)]
    s.cad.overrun = false ∧ s.get Reg.CAD_STAT_HOLDCNT < s.get Reg.CAD_CTRL_HOLDLIM ∧ s.get Reg.CAD_CTRL_HOLDLIM ≤ 4 := by decide +kernel
theorem witness_OverrunsHoldThenBlock_last :
    let s : State := with_ [(Reg.CAD_CTRL_HOLDLIM, 4), (Reg.CAD_STAT_HOLDCNT, 4)]
    s.cad.overrun = false ∧ s.get Reg.CAD_CTRL_HOLDLIM ≤ s.get Reg.CAD_STAT_HOLDCNT := by decide +kernel
theorem witness_ClearingRunBlocksAndSettles :
    let s : State := with_ [(Reg.CAD_CTRL_RUN, 1)]
    s.get Reg.CAD_CTRL_RUN ≠ 0 := by decide +kernel
theorem witness_ConverterCommitIsWholeOrNothing :
    let s : State := with_ [(Reg.CAD_CTRL_RUN, 1)]
    s.get Reg.CAD_CTRL_RUN ≠ 0 ∧ s.cad.tickStart < 0 + 40 := by decide +kernel
theorem witness_SamplingSetIsJudgedWhole :
    let s : State := with_ [(Reg.CAD_CTRL_RUN, 1)]
    s.get Reg.CAD_CTRL_RUN ≠ 0 ∧ s.get (Reg.ADC_INST_OFS 0).shadow < 40000 := by decide +kernel
theorem witness_SequencedSamplesAreCorrectedAndFiltered :
    let s : State := { State.reset with cad := { State.reset.cad with inTick := true } }
    s.cad.inTick = true ∧ s.inKickstand = false ∧ 0 < s.instants.length ∧ s.adc.urgent = [] := by decide +kernel
theorem witness_UrgentConversionsAndCalibration :
    let s : State := with_ [(Reg.ADC_CTRL_CONV_EN, 1)]
    s.bit Reg.ADC_CTRL_CONV_EN 0 = true ∧ s.bit Reg.ADC_CTRL_CONV_EN 7 = false
      ∧ ((s.urgentOf 0).filter (fun r => r.isHeld s.now)).length < 2 := by decide +kernel
theorem witness_CleArithmeticIsExactThenSaturated :
    let s : State := with_ [(Reg.CLE_STAT_STATE, 2)]
    s.get Reg.CLE_STAT_STATE = 2 ∧ max s.now s.cle.issue < s.cad.tickStart + s.get Reg.CAD_DL_SOLVE_DL
      ∧ s.get Reg.CLE_SAT_CNT_COUNT ≤ 0xFFFFFFFF ∧ s.wInt 1 = 0 := by decide +kernel
theorem witness_CleMovesLoadsAndStores :
    let s : State := with_ [(Reg.CLE_STAT_STATE, 2)]
    s.get Reg.CLE_STAT_STATE = 2 ∧ max s.now s.cle.issue < s.cad.tickStart + s.get Reg.CAD_DL_SOLVE_DL
      ∧ ∃ d : Fin 16, d.val % 2 = 0 := by decide +kernel
theorem witness_CleAccumulatorsAndFunctions :
    let s : State := with_ [(Reg.CLE_STAT_STATE, 2)]
    s.get Reg.CLE_STAT_STATE = 2 ∧ max s.now s.cle.issue < s.cad.tickStart + s.get Reg.CAD_DL_SOLVE_DL
      ∧ max s.now s.cle.issue < 0x10000000000000000 := by decide +kernel
theorem witness_CleProgramOrderAndStops :
    let s : State := { with_ [(Reg.CLE_STAT_STATE, 3)] with cle := { State.reset.cle with waitUntil := some 5999 } }
    s.get Reg.CLE_STAT_STATE = 3 ∧ s.cle.waitUntil = some 5999 ∧ s.now ≤ 5999
      ∧ 5999 < s.cad.tickStart + s.get Reg.CAD_DL_SOLVE_DL := by decide +kernel
theorem witness_CleMemoriesFromTheBus :
    let s : State := { with_ [(Reg.CLE_CTRL_HOLDW, 1)] with cle := { State.reset.cle with mbxReq := some 0 } }
    s.cle.wq.length < 64 ∧ s.get Reg.CLE_CTRL_HOLDW ≠ 0 ∧ s.cle.mbxReq = some 0 ∧ s.get Reg.CAD_CTRL_RUN = 0
      ∧ s.get Reg.CLE_CTRL_EN = 0 := by decide +kernel
theorem witness_GridModesChangeAsTheTableSays :
    let s : State := { with_ [(Reg.GRD_STAT_MODE, 1), (Reg.GRD_CTRL_EN, 1)] with grd := { State.reset.grd with lowSince := some 0, goods := 65535 }, cad := { State.reset.cad with time := 40000000 } }
    s.get Reg.GRD_STAT_MODE = 1 ∧ (∃ a ∈ s.grd.lowSince, a + 40000000 ≤ s.now) ∧ s.get Reg.GRD_CTRL_EN ≠ 0 ∧ s.get Reg.GRD_STAT_OBS = 0
      ∧ s.get Reg.GRD_OBS_CNT_LOCK_N ≤ s.grd.goods := by decide +kernel
theorem witness_GridModesChangeAsTheTableSays_free :
    let s : State := { with_ [(Reg.GRD_STAT_MODE, 4), (Reg.GRD_STAT_OBS, 2)] with cel := { State.reset.cel with acqAt := 400000 * 65536 } }
    s.get Reg.GRD_STAT_MODE = 4 ∧ s.get Reg.GRD_STAT_OBS ≠ 0 ∧ s.grd.freeAt + s.get Reg.GRD_FW_TMO_TMO * 400000 ≤ s.cel.acqAt
      ∧ s.get Reg.GRD_CTRL_FWACT ≠ 0 := by decide +kernel
theorem witness_GridWritesAreJudgedThenWait :
    let s : State := { State.reset with bus := { State.reset.bus with waiting := [⟨0, Reg.GRD_CTRL_EN, 1⟩] } }
    s.get Reg.GRD_CTRL_EN = 0 ∧ s.get Reg.CAD_CTRL_RUN = 0 ∧ s.get Reg.GRD_OBS_LIM_VLOSS < s.get Reg.GRD_OBS_LIM_VMIN := by decide +kernel
theorem witness_ImpedanceIslandingAndRecovery :
    let s : State := { with_ [(Reg.GRD_CTRL_EN, 1), (Reg.GRD_ISL_EN_TEST, 1), (Reg.GRD_STAT_RT, 1)] with cel := { State.reset.cel with acqAt := 400000 * 65536 } }
    s.get Reg.PEL_STAT_ROLE ≠ 2 ∧ s.bit Reg.GRD_ISL_EN_TEST 0 = true ∧ 0 + 400000 * s.get Reg.GRD_ISL_ROC_TIME ≤ s.cel.acqAt
      ∧ s.grd.testMet.testBit 0 = false ∧ s.get Reg.GRD_STAT_RT ≠ 0 := by decide +kernel
theorem witness_BypassAndRejoinOfACell :
    let s : State := { with_ [(Reg.SYS_CELL_CFG_EN 95, 1)] with cel := { State.reset.cel with bypDue := 2 ^ 95 } }
    s.cellOn 95 = true ∧ s.cel.bypDue.testBit 95 = true ∧ (s.cell 95).satRun < 1000 ∧ s.linkUp 95 = false := by decide +kernel
theorem witness_MpptUpdatesByIncrementalConductance :
    let s : State := State.reset.modCell 7 (fun x => { x with socAwait := true, mppt := { x.mppt with sums := (1, 1, 1), usable := true, ticks := 65535 } }) |>.set (Reg.CEL_MPPT_STATE 7) 2
    s.get (Reg.CEL_MPPT_STATE 7) = 2 ∧ s.get Reg.CEL_MPPT_CFG_TSTEP ≤ (s.cell 7).mppt.ticks ∧ (s.cell 7).socAwait = true
      ∧ (s.cell 7).mppt.prev = none := by decide +kernel
theorem witness_CellSettingsAndAgeing :
    (2 ≤ 0x20101 / 65536 ∧ 0x20101 % 256 ≠ 0 ∧ 0x20101 % 256 ≤ 0x20101 / 256 % 256)
      ∧ State.reset.get Reg.CEL_MPPT_CFG_SMIN ≤ State.reset.get Reg.CEL_MPPT_CFG_SMAX := by decide +kernel
theorem witness_PwmEventsCutsAndInputs :
    let s : State := State.reset.modChan 0 (fun c => { c with turnOn := some (true, 40) })
    (s.chan 0).turnOn = some (true, 40) ∧ s.pwmCause 0 = false := by decide +kernel
theorem witness_EdgeSettingsAndDelayLines :
    let s : State := { with_ [(Reg.CAD_CTRL_RUN, 1)] with dl := { State.reset.dl with swapDue := 4096 } }
    s.get Reg.CAD_CTRL_RUN ≠ 0 ∧ s.dl.swapDue.testBit 12 = true ∧ s.dl.swapDue.testBit 0 = false := by decide +kernel
theorem witness_LegsEndAsModulated :
    (LegPos.upper ≠ .off)
      ∧ ([LegPos.lower, .upper].foldl (fun (p : LegPos × Bool) x => (x, p.2 && x == (if p.1 = .upper then .lower else .upper))) (LegPos.upper, true)).2 = true := by decide +kernel
theorem witness_ABlockTakesEffectAtOnce :
    let s : State := State.reset
    (1 : BitVec 6) ≠ 0 ∧ s.get Reg.TRP_SRC_LO_SRC = 0 ∧ s.get Reg.TRP_SRC_HI_SRC = 0
      ∧ tblGet none s.trp.cleared 31 = none := by decide +kernel
theorem witness_EnablingAndClearingAreJudged :
    let s : State := { with_ [(Reg.PWR_STAT_STATE, 2)] with trp := { State.reset.trp with pexpSince := some 0 } }
    s.inKickstand = true ∧ s.trp.pexpSince = some 0 ∧ State.reset.trp.pexpSince = none
      ∧ State.reset.bit Reg.TRP_PULSE_EN_EN 5 = false := by decide +kernel
theorem witness_ComparatorsFollowTheirThresholds :
    let s : State := State.reset
    ∀ w ∈ s.blankSpans 15, w.2 ≤ 32 * (s.now : Int) := by decide +kernel
theorem witness_HardLimitsOnlyTightenAfterLock :
    let s : State := with_ [(Reg.TRP_HL_LOCK_LOCK, 1)]
    s.get Reg.TRP_HL_LOCK_LOCK ≠ 0 ∧ (0x2800001 / 0x400000 : Nat) = 10 ∧ (0x2800001 % 65536 : Nat) ≠ 0 := by decide +kernel
theorem witness_LinkStatesFollowAlignment :
    let s : State := (with_ [(Reg.SPK_PORT_EN_PORT 2, 0x80000000), (Reg.SPK_PSTAT_LSTATE 95, 6)]).modPort 95 (fun x => { x with lossAt := some (0, true) })
    s.bit (Reg.SPK_PORT_EN_PORT 2) 31 = true ∧ s.get (Reg.SPK_PSTAT_LSTATE 95) = 6 ∧ (s.port 95).lossAt = some (0, true)
      ∧ s.now ≤ 0 + 400 * s.get Reg.SPK_RSTMO_VALUE ∧ s.get (Reg.SPK_PSTAT_MISSN 95) ≠ 3 := by decide +kernel
theorem witness_ReportsAndDelaysAreJudged :
    let s : State := (with_ [(Reg.SPK_PSTAT_LSTATE 0, 5)]).modPort 0 (fun x => { x with rejects := 16, echoT1 := some 1 })
    s.get (Reg.SPK_PSTAT_LSTATE 0) = 5 ∧ 16 ≤ (s.port 0).rejects ∧ (s.port 0).echoT1 = some 1 ∧ (LineFrame.mk [] true).codeError = true
      ∧ s.get Reg.CAD_CTRL_RUN = 0 := by decide +kernel
theorem witness_NegotiationAndServiceOfAPort :
    let s : State := { with_ [(Reg.SPK_PSTAT_LSTATE 0, 3)] with spk := { State.reset.spk with rateTo := some true } }
    s.get (Reg.SPK_PSTAT_LSTATE 0) = 3 ∧ (s.port 0).acked = false ∧ s.spk.rateTo = some true ∧ (∀ p : Fin 96, (s.port p).rateAt = none ∧ (s.port p).rateWait = none)
      ∧ s.inKickstand = false := by decide +kernel
theorem witness_TheClusterVotesOrStops :
    let s : State := let t := with_ [(Reg.TRI_STAT_STATE, 1)]; { t with tri := { t.tri with testing := none, stagedMode := 2 } }
    s.get Reg.TRI_STAT_STATE = 1 ∧ s.tri.testing = none ∧ s.tri.stagedMode = 2 ∧ (⟨0, 0, 0, 0, 0, 0⟩ : BusOut) ≠ ⟨1, 0, 0, 0, 0, 0⟩
      ∧ s.cstat 0 = 0 := by decide +kernel
theorem witness_CoresLeaveReturnAndAnswer :
    let s : State := with_ [(Reg.TRI_STAT_STATE, 2), (cstatFld 2, 2), (Reg.LCS_STATE_DBGOPEN, 1)]
    s.get Reg.TRI_STAT_STATE = 2 ∧ s.cstat 2 = 2 ∧ (s.core 2).rsAt = none ∧ (s.core 2).testSince = none
      ∧ s.get Reg.LCS_STATE_DBGOPEN = 1 := by decide +kernel
theorem witness_RingsFetchAndDoorbells :
    let s : State := with_ [(ringEn 15 3, 1), (ringSize 15 3, 16), (Reg.HST_T_STAT_STATE 15, 1)]
    s.get (ringEn 15 3) ≠ 0 ∧ 15 < s.get (ringSize 15 3) ∧ ¬(16 < s.get (ringSize 15 3)) ∧ s.inKickstand = false
      ∧ s.get (ringLo 15 3) % 64 = 0 ∧ s.get (Reg.HST_T_STAT_STATE 15) = 1 := by decide +kernel
theorem witness_TenantsAttachFaultAndReset :
    let s : State := with_ [(Reg.HST_TEN_CFG_EN 3, 1), (Reg.HST_T_STAT_STATE 4, 3)]
    s.get (Reg.HST_T_STAT_STATE 3) = 0 ∧ s.get (Reg.HST_TEN_CFG_EN 3) ≠ 0 ∧ 1 ≤ s.get Reg.HST_CTRL_VERMAX
      ∧ s.get (Reg.HST_T_STAT_STATE 4) = 3 ∧ (s.tenant 4).ops = [] := by decide +kernel
theorem witness_DescriptorsDoAsTheirOpcodesSay :
    let s : State := State.reset.modTenant 0 (fun x => { x with ops := [{ opc := 1, tag := 7, sqHead := 0, rights := 0xFF, qbase := 0, qnum := 64, spmask := 0xFFFF, wins := [] }] })
    (s.firstOp 0 0).map (fun o => o.opc) = some 1 ∧ s.firstOp 1 0 = none := by decide +kernel
theorem witness_QueuesCarryPackets :
    let s : State := with_ [(Reg.QUE_CFG_EN 63, 1), (Reg.QUE_CFG_PROD 63, 0x3F)]
    s.get Reg.FLT_INJ_CTRL_ARM = 0 ∧ tblWf (fun _ => 0xFF) s.pool.tags = true ∧ s.get Reg.QUE_POOL_REBUILD = 0 ∧ s.tag 4095 = 0xFF
      ∧ s.get (Reg.QUE_CFG_EN 63) ≠ 0 ∧ s.get (Reg.QUE_STAT_PTRRST 63) = 0 ∧ s.get (Reg.QUE_CFG_PROD 63) = 0x3F := by decide +kernel
theorem witness_AccessesFollowTheFabricRules :
    let s : State := with_ [(Reg.MEM_HAMPER_HSTATE, 2)]
    isLo 0x40030028 = true ∧ isLo 0x4003002C = false ∧ (0xFFFFFFFB + 4 : Nat) < 0x100000000 ∧ s.get Reg.MEM_HAMPER_HSTATE = 2
      ∧ s.get Reg.FLT_INJ_CTRL_ARM = 0 := by decide +kernel
theorem witness_FaultsLatchWithTheirClassReaction :
    let s : State := State.reset
    s.fltBit Reg.FLT_SRC_SRC 255 = false ∧ s.fltBit Reg.FLT_SRC_SRC 2 = false := by decide +kernel
theorem witness_FaultsAreHandledClearedAndForced :
    let s : State := with_ [(Reg.FLT_INJ_CTRL_ARM, 1)]
    s.get Reg.FLT_INJ_CTRL_ARM = 1 ∧ s.fltBit Reg.FLT_FORCE_FORCE 10 = false := by decide +kernel
theorem witness_SafetyFunctionsDemandAndLock :
    let s : State := { with_ [(Reg.TRI_STAT_STATE, 1)] with saf := { State.reset.saf with spdSince := some 0 } }
    s.saf.spdSince = some 0 ∧ s.get Reg.SAF_STAT_SENLVL ≤ 1 ∧ s.get (Reg.SAF_C_CFG_EN 3) = 0
      ∧ s.get Reg.SAF_CTRL_LOCK = 0 := by decide +kernel
theorem witness_SafetyConnectionsJudgeTheirPdus :
    let s : State := with_ [(Reg.SAF_C_STAT_CSTATE 3, 2), (Reg.SAF_C_ID_CONNID 0, 1)]
    s.get (Reg.SAF_C_STAT_CSTATE 3) = 2 ∧ s.get (Reg.SAF_C_CFG_EN 0) = 0 ∧ s.get (Reg.SAF_C_ID_CONNID 0) ≠ 0
      ∧ s.get (Reg.SAF_C_ID_CONNID 1) = 0 := by decide +kernel
theorem witness_MeteringAccumulatesAndPulses :
    let s : State := with_ [(Reg.PWR_STAT_STATE, 2)]
    s.inKickstand = true ∧ State.reset.inKickstand = false ∧ s.mtr.due = [] ∧ (s.mpulse 1).since = none := by decide +kernel
theorem witness_MeteringRegistersWaitAndTotalsAreSaved :
    let s : State := State.reset
    (0xC3 % 256 : Nat) = 0xC3 ∧ s.mtr.save = none ∧ s.get Reg.MTR_SAVE_SAVEINT = State.reset.get Reg.MTR_SAVE_SAVEINT := by decide +kernel
theorem witness_StationFramesAreClassifiedAndSent :
    let s : State := State.reset
    s.netUp 0 = false ∧ s.takeGiven .safety = none ∧ s.nextGeneral = none := by decide +kernel
theorem witness_StationTimeGooseAndSampledValues :
    let s : State := State.reset
    s.takeGiven .ptp = none ∧ s.takeGiven .goose = none ∧ s.takeGiven .sv = none ∧ s.mtr.lastAt = none
      ∧ s.get Reg.NET_QSEL_GOOSEEN = 0 := by decide +kernel
theorem witness_RingFramesAreTakenOnceAndForwarded :
    let s : State := State.reset
    s.get Reg.FLT_INJ_CTRL_ARM = 0 ∧ (0, 0, 0) ∉ s.pel.seen ∧ (LineFrame.mk [] false).codeError = false := by decide +kernel
theorem witness_PelotonLanesLeaderAndRegisters :
    let s : State := with_ [(Reg.CAD_CTRL_RUN, 1)]
    (40000 ≤ 40000 % 65536) ∧ (39999 % 65536 < 40000) ∧ s.get Reg.CAD_CTRL_RUN ≠ 0 ∧ s.pel.electDue = false := by decide +kernel
theorem witness_PowerStatesFollowTheStores :
    let s : State := with_ [(Reg.PWR_STAT_STATE, 3)]
    s.get Reg.PWR_STAT_STATE = 3 ∧ s.get Reg.TRP_PULSE_EN_EN = 0 ∧ State.reset.pwr.exitFrom = none
      ∧ s.get Reg.PWR_STAT_SRC = 0 := by decide +kernel
theorem witness_ClocksRailsTampersAndGauges :
    let s : State := State.reset
    (25 * 2 ^ 1 * 128 : Nat) = 6400 ∧ (25 * 2 ^ 1 * 256 : Nat) = 12800 ∧ (60 : Nat) ≤ 300
      ∧ s.pwr.pllLost.testBit 1 = false := by decide +kernel
theorem witness_LifecycleCommandsAndAgeing :
    let s : State := let t := with_ [(Reg.AGE_CTRL_EN, 1), (Reg.PWR_STAT_STATE, 3)]; { t with boot := { t.boot with image := some ⟨2, 0, 0, 0, true, 0, 0⟩ }, tri := { t.tri with testing := none } }
    s.get Reg.AGE_CTRL_EN ≠ 0 ∧ s.get Reg.PWR_STAT_STATE = 3 ∧ s.boot.record.levels.length = 3 ∧ (∀ l ∈ s.boot.record.levels, l ≤ 3)
      ∧ s.boot.image.isSome = true ∧ s.tri.testing = none ∧ s.get Reg.LCS_STATE_STATE = 0
      ∧ s.get Reg.TRP_PULSE_EN_EN = 0 := by decide +kernel
theorem witness_ImagesAreJudgedThenRun :
    let s : State := let t := with_ [(Reg.TRI_STAT_STATE, 1)]; { t with tri := { t.tri with testing := none } }
    s.boot.due = true ∧ s.tri.testing = none ∧ s.get Reg.TRI_STAT_STATE = 1 ∧ s.boot.waiting = none ∧ s.boot.failedAt = none
      ∧ s.boot.record.state ≠ 5 ∧ s.boot.record.order.head? = some 0 ∧ s.judge [] ⟨true, true, none⟩ = 1
      ∧ s.judge bootable ⟨true, true, none⟩ = 0 := by decide +kernel
/-! ### The examples of R546 and the counts of R547 -/

theorem test_spoke_balls :
    (spokeBalls 5).map Ball.name = ["A11", "B11", "C11", "D11", "E11"] ∧ (spokeBalls 37).map Ball.name = ["Y34", "Y33", "Y32", "Y31", "Y30"]
      ∧ (spokeBalls 53).map Ball.name = ["AT24", "AP24", "AN24", "AM24", "AL24"]
      ∧ (spokeBalls 80).map Ball.name = ["AB1", "AB2", "AB3", "AB4", "AB5"] := by decide +kernel
theorem test_ball_counts :
    (ballRegions.map (fun r => r.balls.length)).sum + 5 * 96 = 1156
      ∧ ballRegions.map (fun r => r.balls.length - (r.groups.map Prod.snd).sum) = [6, 9, 2, 0, 22, 39, 10, 195] := by decide +kernel

theorem witness_AStepExecutesTheFrontCommand :
    let s : State := { State.reset with pwr := { State.reset.pwr with main := .on } }
    s.pending = [] ∧ s.pwr.main = .on ∧ s.pwr.pllLost.testBit 0 = false ∧ s.get Reg.CAD_SYNC_SRC = 0
      ∧ s.get Reg.CLE_STAT_STATE ≠ 2 := by decide +kernel
theorem witness_EveryStepKeepsTheTablesCanonical :
    let s : State := State.reset
    s.pending = [] ∧ Memory.wf s.mem = true := by decide +kernel

end Sys2Proof.Tests
end

section
/-!
Cadence: reads of TIME, LOCK, the timing set, RUN, the phases of a tick and overruns; and the station network's time and samples.
What a command leaves alone is stated by `Frame`; the rules for it stand first.
-/

namespace Sys2Proof.Machine

/-! ### The frame of a command -/

section

variable {ps : List Part} {bs : List Nat} {fs : List Fld} {s t : State}

theorem Frame.refl (ps : List Part) (bs : List Nat) (fs : List Fld) (s : State) : Frame ps bs fs s s :=
  ⟨fun p _ => by cases p <;> simp [Part.same], fun _ _ _ => rfl⟩

/-- A frame extends over a write of a field it names. -/
theorem Frame.set (h : Frame ps bs fs s t) {f : Fld}
    (hf : f ∈ fs) (v : Nat) : Frame ps bs fs s (t.set f v) := by
  obtain ⟨hparts, hflds⟩ := h
  refine ⟨fun p hp => by cases p <;> exact hparts _ hp, fun g hg hb => ?_⟩
  have hkey : g.key ≠ f.key := fun e => by
    simp only [fldOneOf, List.any_eq_false, beq_iff_eq] at hg
    exact hg f hf e.symm
  rw [State.get_set_other _ _ _ _ hkey, hflds g hg hb]

/-- A frame extends over a change that keeps the registers and every part it does not name. -/
theorem Frame.parts {u : State} (h : Frame ps bs fs s t)
    (hregs : u.regs = t.regs) (hparts : ∀ p, p ∉ ps → p.same t u) : Frame ps bs fs s u := by
  refine ⟨fun p hp => ?_, fun g hg hb => ?_⟩
  · have h1 := h.1 p hp
    have h2 := hparts p hp
    cases p <;> simp_all [Part.same]
  · rw [← h.2 g hg hb]
    simp [State.get, hregs]

theorem Frame.nextFree (h : Frame ps bs fs s t) (hp : Part.free ∈ ps) :
    Frame ps bs fs s t.nextFree :=
  h.parts rfl (fun p hmem => by cases p <;> simp_all [Part.same, State.byteAt, State.nextFree])

/-- A second field of the key of `f`, at address 0. `Fld` does not bound its low bit, so it is a field too. -/
def keyTwin (f : Fld) : Fld := ⟨0, f.key, f.width⟩

@[simp] theorem keyTwin_key (f : Fld) : (keyTwin f).key = f.key := by simp [keyTwin, Fld.key]

@[simp] theorem State.get_keyTwin (s : State) (f : Fld) : s.get (keyTwin f) = s.get f := by
  simp only [State.get, keyTwin_key]; rfl

/-- A window named in a frame frees no field. `Frame` speaks of every `Fld`, also of one with a low bit of 32 or more; each field has such
a twin outside the window, under one and the same key. So a field reads the same unless the frame names it. -/
theorem Frame.get_eq (h : Frame ps bs fs s t) (hbs : 0 ∉ bs)
    {f : Fld} (hf : fldOneOf fs f = false) : t.get f = s.get f := by
  have htwin := h.2 (keyTwin f) (by simpa [fldOneOf] using hf) (by simpa [keyTwin, fldBlock] using hbs)
  simpa using htwin

/-- So a frame that names the collector's window alone lets no fault latch. -/
theorem Frame.fltBit_eq (h : Frame ps bs fs s t) (hbs : 0 ∉ bs) (n : Nat)
    (hf : fldOneOf fs (Reg.FLT_SRC_SRC (n / 32)) = false) : t.fltBit Reg.FLT_SRC_SRC n = s.fltBit Reg.FLT_SRC_SRC n := by
  rw [State.fltBit, State.fltBit, State.bit, State.bit, h.get_eq hbs hf]

end

/-! ### Reads of TIME and the capture (R25 to R27) -/

theorem Frame.ofBus {s t : State} (h : t = { s with bus := t.bus }) : Frame [.bus] [] [] s t :=
  (Frame.refl _ _ _ s).parts (by rw [h]) (fun p hp => by rw [h]; cases p <;> simp_all [Part.same, State.byteAt])

/-- A master's snapshot of a pair leaves the other masters' alone (R346). -/
theorem State.snap_takeSnap (s : State) (lo m m' v : Nat) :
    (s.takeSnap lo m v).snap lo m' = if m' = m then v else s.snap lo m' := by
  split
  · next h => simp [State.snap, State.takeSnap, h]
  · next h =>
    have hkey : snapKey lo m' ≠ snapKey lo m := by simpa [snapKey] using h
    simp [State.snap, State.takeSnap, tblGet_set_other _ _ _ _ _ _ hkey]

/-- With the lines not ready, or the capture line bad, a captured fraction is a multiple of 32, of which five bits are 0 (R207, R208). -/
theorem State.captureFraction_mod (s : State)
    (h : s.get Reg.EDG_STAT_DLRDY = 0 ∨ (List.range 5).any (fun g => s.dl.bad.testBit (60 + g)) = true) : s.captureFraction % 32 = 0 := by
  have hline : ¬(s.on Reg.EDG_STAT_DLRDY = true ∧ (List.range 5).all (fun g => !s.dl.bad.testBit (5 * 12 + g)) = true) := by
    rintro ⟨hready, hgood⟩
    rcases h with h | h
    · simp [State.on, h] at hready
    · rw [← List.not_any_eq_all_not, h] at hgood
      cases hgood
  rw [State.captureFraction, State.onLine, if_neg hline]
  omega

/-- What CAP leaves in the registers (R27): the four captured values, each in its own field. -/
theorem doCap_gets (s : State) :
    (doCap s).get64 Reg.CAD_CAP_LO_TIME Reg.CAD_CAP_HI_TIME = s.now % 0x10000000000000000
      ∧ (doCap s).get Reg.CAD_CAP_FRAC_TICK = s.tick % 0x10000
      ∧ (doCap s).get Reg.CAD_CAP_FRAC_PHASE = s.phaseNow % 4
      ∧ (doCap s).get Reg.CAD_CAP_FRAC_FRAC = s.captureFraction % 32 := by
  have hfree (u : State) (f : Fld) : u.nextFree.get f = u.get f := rfl
  refine ⟨?_, ?_, ?_, ?_⟩
  · simp (disch := decide) [doCap, hfree, State.get64, State.set64, State.get_set_other]
    simp [Reg.CAD_CAP_LO_TIME, Reg.CAD_CAP_HI_TIME]
    omega
  · simp (disch := decide) [doCap, hfree, State.get_set_other]
    simp [Reg.CAD_CAP_FRAC_TICK]
  · simp (disch := decide) [doCap, hfree, State.get_set_other]
    simp [Reg.CAD_CAP_FRAC_PHASE]
  · simp [doCap, hfree, Reg.CAD_CAP_FRAC_FRAC]

theorem doCap_frame (s : State) : Frame [.free] []
    [Reg.CAD_CAP_LO_TIME, Reg.CAD_CAP_HI_TIME, Reg.CAD_CAP_FRAC_TICK, Reg.CAD_CAP_FRAC_PHASE, Reg.CAD_CAP_FRAC_FRAC] s (doCap s) := by
  unfold doCap State.set64
  exact (((((Frame.refl _ _ _ s).set (by simp) _).set (by simp) _).set (by simp) _).set (by simp) _ |>.set (by simp) _).nextFree
    (by simp)

/-- Settles O1: a read changes the answered word and the reading master's snapshot, CAP its own five fields. -/
theorem cadenceReadsTime : Obligations.CadenceReadsTime := by
  unfold Obligations.CadenceReadsTime
  intro s m
  refine ⟨⟨_, rfl, ?_⟩, ⟨_, rfl, ?_⟩, ⟨_, rfl, ?_⟩⟩
  · have hsnap (m' : Nat) : (doCadTimeLoRead m.val s).snap Reg.CAD_TIME_LO_TIME.addr m'
        = if m' = m.val then s.now / 0x100000000 % 0x100000000 else s.snap Reg.CAD_TIME_LO_TIME.addr m' :=
      s.snap_takeSnap _ _ _ _
    refine ⟨rfl, by simp [hsnap], fun m' hm => ?_, Frame.ofBus rfl⟩
    rw [hsnap, if_neg (fun h => hm (Fin.ext h))]
  · exact ⟨rfl, rfl, Frame.ofBus rfl⟩
  · obtain ⟨htime, htick, hphase, hfrac⟩ := doCap_gets s
    refine ⟨htime, htick, ?_, by omega, fun h => by rw [hfrac, s.captureFraction_mod h], doCap_frame s⟩
    rw [hphase]
    by_cases h : s.get Reg.CAD_CTRL_RUN = 0 <;> simp [State.phaseNow, State.running, State.on, h]

/-! ### LOCK and HOLDLIM (R33, R345) -/

/-- Settles O2: LOCK is written 1, and HOLDLIM is written where the value is one of 1 to 4 and, with LOCK set, no higher than before. -/
theorem cadenceLockAndHoldLimit : Obligations.CadenceLockAndHoldLimit := by
  unfold Obligations.CadenceLockAndHoldLimit
  intro s v
  refine ⟨⟨_, rfl, ?_⟩, ⟨_, rfl, ?_⟩⟩
  · exact ⟨by simp [doCadLock, Reg.CAD_CTRL_LOCK], (Frame.refl _ _ _ s).set (by simp) _⟩
  · have hkept : (v.toNat = 0 ∨ 4 < v.toNat ∨ (s.on Reg.CAD_CTRL_LOCK = true ∧ s.get Reg.CAD_CTRL_HOLDLIM < v.toNat))
        ↔ ¬(1 ≤ v.toNat ∧ v.toNat ≤ 4 ∧ (s.get Reg.CAD_CTRL_LOCK = 0 ∨ v.toNat ≤ s.get Reg.CAD_CTRL_HOLDLIM)) := by
      simp only [State.on, bne_iff_ne, ne_eq]
      omega
    simp only [doHoldlimWrite, hkept, ite_not]
    split
    · exact ⟨by simp [Reg.CAD_CTRL_HOLDLIM, Nat.mod_eq_of_lt v.isLt], (Frame.refl _ _ _ s).set (by simp) _⟩
    · rfl

/-! ### The timing set (R14, R29, R30) -/

/-- The shadow of one register of the timing set is no active field of it, no PEND, and no other's shadow. -/
theorem timingFld_shadow_key (r q : TimingReg) :
    (timingFld q).key ≠ (timingFld r).shadow.key ∧ Reg.CAD_STAT_PEND.key ≠ (timingFld r).shadow.key
      ∧ (timingFld r).key ≠ Reg.CAD_STAT_PEND.key := by
  cases r <;> cases q <;> decide

theorem mem_timingSet (f : Fld) : f ∈ timingSet ↔ ∃ q : TimingReg, f = timingFld q := by
  constructor
  · intro h
    simp only [timingSet, List.map_cons, List.map_nil, List.mem_cons, List.not_mem_nil, or_false] at h
    rcases h with h | h | h | h | h | h | h <;> exact ⟨_, h⟩
  · rintro ⟨q, rfl⟩
    cases q <;> simp [timingSet]

/-- PEND stands for a shadow copy that differs, and setting it touches no copy (R29). -/
theorem State.timingPend_get (s : State) (q : TimingReg) :
    s.timingPend.get (timingFld q) = s.get (timingFld q) ∧ s.timingPend.get (timingFld q).shadow = s.get (timingFld q).shadow := by
  obtain ⟨-, hshadow, hactive⟩ := timingFld_shadow_key q q
  exact ⟨State.get_set_other _ _ _ _ hactive, State.get_set_other _ _ _ _ hshadow.symm⟩

theorem State.shadowDiffers_timingSet (s : State) :
    s.shadowDiffers timingSet = true ↔ ∃ q : TimingReg, s.get (timingFld q).shadow ≠ s.get (timingFld q) := by
  simp only [State.shadowDiffers, List.any_eq_true, mem_timingSet, bne_iff_ne]
  exact ⟨fun ⟨f, ⟨q, hq⟩, h⟩ => ⟨q, hq ▸ h⟩, fun ⟨q, h⟩ => ⟨_, ⟨q, rfl⟩, h⟩⟩

theorem State.timingPend_pend (s : State) :
    s.timingPend.get Reg.CAD_STAT_PEND = if s.shadowDiffers timingSet then 1 else 0 := by
  rw [State.timingPend, State.setBool, State.get_set_same]
  split <;> rfl

/-- Settles O3: the write goes to the shadow copy alone, and PEND is formed anew from all the copies. -/
theorem timingSetWritesAreShadowed : Obligations.TimingSetWritesAreShadowed := by
  unfold Obligations.TimingSetWritesAreShadowed
  intro s r v
  obtain ⟨hactive, -, -⟩ := timingFld_shadow_key r r
  obtain ⟨hkeep, hkeepShadow⟩ := (s.set (timingFld r).shadow v.toNat).timingPend_get r
  refine ⟨_, rfl, ?_, ?_, ?_, ?_, ((Frame.refl _ _ _ s).set (by simp) _).set (by simp) _⟩
  · exact hkeepShadow.trans (State.get_set_same _ _ _)
  · exact hkeep.trans (State.get_set_other _ _ _ _ hactive)
  · simp only [doTimingSetWrite, State.timingPend_pend, State.timingPend_get, ← State.shadowDiffers_timingSet]
    split <;> simp_all
  · rw [doTimingSetWrite, State.timingPend_pend]
    split <;> simp

/-- Refutes O4: APPLY with one new value, an apply delay of 801 counts in place of 800, makes it active, as the clause says; but the
clause's frame names no field, and by `Frame.get_eq` its windows free none. -/
theorem not_applyChecksTheWholeSet : ¬ Obligations.ApplyChecksTheWholeSet := by
  unfold Obligations.ApplyChecksTheWholeSet
  intro h
  obtain ⟨t, -, hactive, -, hframe⟩ :=
    (h (State.reset.set Reg.CAD_APPLY_DLY_DLY.shadow 801) (by decide +kernel)).1 (by decide +kernel)
  have hkept := hframe.get_eq (by decide) (f := Reg.CAD_APPLY_DLY_DLY) rfl
  exact absurd (hkept.symm.trans (hactive .applyDly).1) (by decide +kernel)

/-! ### RUN and holdover (R32, R34) -/

/-- Refutes O5: three seconds without a Sync in LOCKED latch source 86, as the last clause says; but its frame names SYNC alone, and by
`Frame.get_eq` the collector's window frees no field. -/
theorem not_runStartsAndStopsTicks : ¬ Obligations.RunStartsAndStopsTicks := by
  unfold Obligations.RunStartsAndStopsTicks
  intro h
  obtain ⟨-, -, -, -, hhold⟩ := h (State.reset.set Reg.CAD_STAT_SYNC 2)
  obtain ⟨t, -, -, hlatched, hframe⟩ := hhold (by decide +kernel)
  have hkept := hframe.fltBit_eq (by decide) 86 rfl
  exact absurd (hkept.symm.trans hlatched) (by decide +kernel)

/-! ### The phases of a tick (R13) -/

/-- Refutes O6: the clause of PLAN_FRAME_START lets nothing change but Cadence and the Hub. With port 0 in OPERATE, a service frame on its
line that the Plan frame (TIME 6936 to 7960) meets yields and is sent again (R13, R273): its abandoning and its new start are recorded
among what is sent. -/
theorem not_tickPhasesFollowInOrder : ¬ Obligations.TickPhasesFollowInOrder := by
  unfold Obligations.TickPhasesFollowInOrder
  intro h
  obtain ⟨-, -, -, -, hframes, -⟩ := h
    { (State.reset.set Reg.CAD_STAT_PHASE 2).set (Reg.SPK_PSTAT_LSTATE 0) 5 with
      cad := { State.reset.cad with inTick := true }
      spk := { State.reset.spk with ports := [(0, { line := [(6940, [])] })] } }
  obtain ⟨t, hexec, -, -, hparts, -⟩ := hframes (by decide +kernel)
  have hout : t.out = [] := hparts .out (by decide)
  rw [← Host.Outcome.next.inj hexec] at hout
  exact absurd hout (by decide +kernel)

/-! ### Overruns (R18, R21) -/

/-- Refutes O7: the first overrun of a tick latches source 16, as the first clause says; but its frame names CAD_OVR_TICK and HOLDCNT
alone, and by `Frame.get_eq` the collector's window frees no field. -/
theorem not_overrunsHoldThenBlock : ¬ Obligations.OverrunsHoldThenBlock := by
  unfold Obligations.OverrunsHoldThenBlock
  intro h
  obtain ⟨-, -, -, hlatched, hframe⟩ := (h State.reset).1 (by decide +kernel)
  have hkept := hframe.fltBit_eq (by decide) 16 rfl
  exact absurd (hkept.symm.trans hlatched) (by decide +kernel)

/-! ### Sampled Values (R450) -/

/-- Refutes O50: an absent sample of a VALID stream with LOSSN 1 makes it LOST and latches source 87, as its clause says; but the clause's
frame names WIDX and STATE alone, and by `Frame.get_eq` the collector's window frees no field. -/
theorem not_stationTimeGooseAndSampledValues : ¬ Obligations.StationTimeGooseAndSampledValues := by
  unfold Obligations.StationTimeGooseAndSampledValues
  intro h
  obtain ⟨-, -, -, -, -, -, -, -, -, -, -, -, -, -, hdue, -⟩ := h ((State.reset.set (Reg.NET_SVS_STAT_STATE 0) 3).set (Reg.NET_SVS_SUP_LOSSN 0) 1)
  obtain ⟨t, -, -, -, -, hlatched, -, -, hframe⟩ := (hdue 0).2.2 (by decide +kernel)
  have hkept := hframe.fltBit_eq (by decide) 87 rfl
  exact absurd (hkept.symm.trans hlatched) (by decide +kernel)

end Sys2Proof.Machine
end

section
/-!
Cells and arms: writes of the converter set, its commit, and the bypass, rejoin and gate saturation of a cell.
-/

namespace Sys2Proof.Machine

/-! ### Writes of the converter set (R49, R550) -/

/-- The fields of a register of the converter set, in the order of its table row. -/
def convFlds : ConvReg → List Fld
  | .topo => [Reg.SYS_TOPO_FNOM, Reg.SYS_TOPO_TOPO]
  | .baseV => [Reg.SYS_BASE_V_VALUE]
  | .baseS => [Reg.SYS_BASE_S_VALUE]
  | .baseVdc => [Reg.SYS_BASE_VDC_VALUE]
  | .vmax => [Reg.SYS_VMAX_VMAX]
  | .armCfg a => [Reg.SYS_ARM_CFG_NCELL a.val, Reg.SYS_ARM_CFG_K a.val]
  | .portMap p => [Reg.SYS_PORT_MAP_CELL p.val]
  | .cellCfg c => [Reg.SYS_CELL_CFG_VNOM c.val, Reg.SYS_CELL_CFG_ARM c.val, Reg.SYS_CELL_CFG_LEGS c.val, Reg.SYS_CELL_CFG_KIND c.val,
      Reg.SYS_CELL_CFG_EN c.val]
  | .cellCap c => [Reg.SYS_CELL_CAP_CAP c.val]

/-- The part of a written word that a field takes. -/
def fldPart (f : Fld) (n : Nat) : Nat := n / 2 ^ f.lo % 2 ^ f.width

/-! The rows of the register table that the arrays of the set stand in. -/

theorem fieldsAt_armCfg : ∀ a : Fin 6, fieldsAt (Reg.SYS_ARM_CFG_NCELL a.val).addr
    = [⟨16, 9, .RW, .const 0, []⟩, ⟨0, 8, .RW, .const 0, []⟩] := by decide +kernel

theorem fieldsAt_portMap : ∀ p : Fin 96, fieldsAt (Reg.SYS_PORT_MAP_CELL p.val).addr
    = [⟨0, 7, .RW, .index, [(0, 95), (127, 127)]⟩] := by decide +kernel

theorem fieldsAt_cellCfg : ∀ c : Fin 96, fieldsAt (Reg.SYS_CELL_CFG_VNOM c.val).addr
    = [⟨16, 16, .RW, .const 0, []⟩, ⟨4, 3, .RW, .const 0, [(0, 5)]⟩, ⟨3, 1, .RW, .const 0, []⟩, ⟨1, 2, .RW, .const 0, [(0, 2)]⟩,
      ⟨0, 1, .RW, .const 0, []⟩] := by decide +kernel

theorem fieldsAt_cellCap : ∀ c : Fin 96, fieldsAt (Reg.SYS_CELL_CAP_CAP c.val).addr = [⟨0, 16, .RW, .const 0, []⟩] := by decide +kernel

/-- The fields of a register that software may write. -/
def rwFlds (addr : Nat) : List Fld := ((fieldsAt addr).filter FieldRow.isRW).map (fun r => r.fld addr)

theorem rwParts_eq_map (addr n : Nat) : rwParts addr n = (rwFlds addr).map (fun f => (f, fldPart f n)) := by
  simp [rwParts, rwFlds, FieldRow.part, FieldRow.fld, fldPart, Nat.shiftRight_eq_div_pow]

theorem rwFlds_convAddr (r : ConvReg) : rwFlds (convAddr r) = convFlds r := by
  cases r with
  | armCfg a => rw [convAddr, rwFlds, fieldsAt_armCfg]; rfl
  | portMap p => rw [convAddr, rwFlds, fieldsAt_portMap]; rfl
  | cellCfg c => rw [convAddr, rwFlds, fieldsAt_cellCfg]; rfl
  | cellCap c => rw [convAddr, rwFlds, fieldsAt_cellCap]; rfl
  | topo => decide
  | baseV => decide
  | baseS => decide
  | baseVdc => decide
  | vmax => decide

theorem convFlds_keys_nodup (r : ConvReg) : ((convFlds r).map (fun f => f.shadow.key)).Nodup := by
  cases r <;> simp [convFlds, Fld.shadow, Fld.key, Reg.SYS_TOPO_FNOM, Reg.SYS_TOPO_TOPO, Reg.SYS_ARM_CFG_NCELL, Reg.SYS_ARM_CFG_K,
    Reg.SYS_CELL_CFG_VNOM, Reg.SYS_CELL_CFG_ARM, Reg.SYS_CELL_CFG_LEGS, Reg.SYS_CELL_CFG_KIND, Reg.SYS_CELL_CFG_EN]

/-! Which values are stored (R550). -/

/-- Beside TOPO and FNOM, a field stores what its row of the register table allows. -/
theorem convStores_of_rows {addr : Nat} {rows : List FieldRow} (hrows : fieldsAt addr = rows) (htopo : addr ≠ Reg.SYS_TOPO_TOPO.addr)
    {f : Fld} (hf : f.addr = addr) (n : Nat) :
    convStores f n = (rows.filter (fun r => r.lo == f.lo && r.width == f.width)).all (fun r => r.allows n) := by
  obtain ⟨a, lo, width⟩ := f
  subst hf
  rw [convStores, if_neg htopo, hrows, List.all_filter]
  refine congrArg _ (funext fun r => Bool.eq_iff_iff.mpr ?_)
  simp [FieldRow.fld, ← imp_iff_not_or]

theorem convStores_armCfg (a : Fin 6) :
    (∀ n, convStores (Reg.SYS_ARM_CFG_NCELL a.val) n = true) ∧ ∀ n, convStores (Reg.SYS_ARM_CFG_K a.val) n = true := by
  have hrows {f : Fld} := convStores_of_rows (f := f) (fieldsAt_armCfg a) (show 0x40000120 + 4 * a.val ≠ 0x40000108 by omega)
  exact ⟨hrows rfl, hrows rfl⟩

theorem convStores_portMap (p : Fin 96) (n : Nat) :
    convStores (Reg.SYS_PORT_MAP_CELL p.val) n = true ↔ n < 96 ∨ n = 127 := by
  rw [convStores_of_rows (fieldsAt_portMap p) (show 0x40000200 + 4 * p.val ≠ 0x40000108 by omega) rfl]
  simp [FieldRow.allows, Reg.SYS_PORT_MAP_CELL]
  omega

theorem convStores_cellCap (c : Fin 96) (n : Nat) : convStores (Reg.SYS_CELL_CAP_CAP c.val) n = true :=
  convStores_of_rows (fieldsAt_cellCap c) (show 0x40000600 + 4 * c.val ≠ 0x40000108 by omega) rfl n

theorem convStores_cellCfg (c : Fin 96) :
    (∀ n, convStores (Reg.SYS_CELL_CFG_VNOM c.val) n = true) ∧ (∀ n, convStores (Reg.SYS_CELL_CFG_LEGS c.val) n = true)
      ∧ (∀ n, convStores (Reg.SYS_CELL_CFG_EN c.val) n = true) ∧ (∀ n, convStores (Reg.SYS_CELL_CFG_ARM c.val) n = true ↔ n < 6)
      ∧ ∀ n, convStores (Reg.SYS_CELL_CFG_KIND c.val) n = true ↔ n < 3 := by
  have hrows {f : Fld} := convStores_of_rows (f := f) (fieldsAt_cellCfg c) (show 0x40000400 + 4 * c.val ≠ 0x40000108 by omega)
  refine ⟨hrows rfl, hrows rfl, hrows rfl, fun n => ?_, fun n => ?_⟩
  · rw [hrows (f := Reg.SYS_CELL_CFG_ARM c.val) rfl]
    simp [FieldRow.allows, Reg.SYS_CELL_CFG_ARM]
    omega
  · rw [hrows (f := Reg.SYS_CELL_CFG_KIND c.val) rfl]
    simp [FieldRow.allows, Reg.SYS_CELL_CFG_KIND]
    omega

/-! What a write leaves in the shadow copies. -/

/-- One field of a written word stored in its shadow copy. -/
def State.storeShadow (n : Nat) (s : State) (f : Fld) : State :=
  if convStores f (fldPart f n) then s.set f.shadow (fldPart f n) else s

theorem doConverterSetWrite_eq (r : ConvReg) (n : Nat) (s : State) :
    doConverterSetWrite r n s = ((convFlds r).foldl (State.storeShadow n) s).converterPend := by
  rw [doConverterSetWrite, rwParts_eq_map, rwFlds_convAddr, List.foldl_map]
  rfl

theorem State.storeShadow_get (n : Nat) (s : State) (f : Fld) : (s.storeShadow n f).get f.shadow
    = if convStores f (fldPart f n) then fldPart f n else s.get f.shadow := by
  unfold State.storeShadow
  split
  · exact (State.get_set_same _ _ _).trans (Nat.mod_mod _ _)
  · rfl

theorem State.storeShadow_get_other (n : Nat) (s : State) {f g : Fld} (h : g.key ≠ f.shadow.key) :
    (s.storeShadow n f).get g = s.get g := by
  unfold State.storeShadow
  split
  · exact State.get_set_other _ _ _ _ h
  · rfl

theorem foldl_storeShadow_get_other (n : Nat) (fs : List Fld) {g : Fld} (h : ∀ f ∈ fs, g.key ≠ f.shadow.key) (s : State) :
    (fs.foldl (State.storeShadow n) s).get g = s.get g :=
  List.foldlRecOn fs _ (motive := fun t : State => t.get g = s.get g) rfl
    (fun t ht f hf => (t.storeShadow_get_other n (h f hf)).trans ht)

theorem foldl_storeShadow_get (n : Nat) (fs : List Fld) (hfs : (fs.map (fun f => f.shadow.key)).Nodup) {f : Fld} (hf : f ∈ fs)
    (s : State) : (fs.foldl (State.storeShadow n) s).get f.shadow
      = if convStores f (fldPart f n) then fldPart f n else s.get f.shadow := by
  induction fs generalizing s with
  | nil => cases hf
  | cons e fs ih =>
    obtain ⟨he, hnodup⟩ := List.nodup_cons.mp hfs
    have hne : ∀ g ∈ fs, e.shadow.key ≠ g.shadow.key := fun g hg h => he (List.mem_map.mpr ⟨g, hg, h.symm⟩)
    rcases List.mem_cons.mp hf with rfl | hmem
    · exact (foldl_storeShadow_get_other n fs hne _).trans (s.storeShadow_get n f)
    · rw [List.foldl_cons, ih hnodup hmem, s.storeShadow_get_other n (hne f hmem).symm]

theorem Frame.foldl_storeShadow {ps : List Part} {bs : List Nat} {qs fs : List Fld} (h : ∀ f ∈ fs, f.shadow ∈ qs) (n : Nat) (s : State) :
    Frame ps bs qs s (fs.foldl (State.storeShadow n) s) := by
  refine List.foldlRecOn fs _ (motive := fun t : State => Frame ps bs qs s t) (Frame.refl _ _ _ _) (fun t ht f hf => ?_)
  unfold State.storeShadow
  split
  · exact ht.set (h f hf) _
  · exact ht

/-! PEND (R49). -/

theorem shadow_key_ne_pend (f : Fld) : f.shadow.key ≠ Reg.SYS_CONV_STAT_PEND.key := by
  simp only [Fld.shadow, Fld.key, Reg.SYS_CONV_STAT_PEND]
  omega

theorem converterSet_key_ne_pend : ∀ f ∈ converterSet, f.key ≠ Reg.SYS_CONV_STAT_PEND.key := by decide +kernel

theorem State.converterPend_get_other (s : State) {f : Fld} (h : f.key ≠ Reg.SYS_CONV_STAT_PEND.key) :
    s.converterPend.get f = s.get f := State.get_set_other _ _ _ _ h

theorem State.converterPend_iff (s : State) : s.converterPend.get Reg.SYS_CONV_STAT_PEND = 1
    ↔ ∃ f ∈ converterSet, s.converterPend.get f.shadow ≠ s.converterPend.get f := by
  have hcopies : (∃ f ∈ converterSet, s.converterPend.get f.shadow ≠ s.converterPend.get f) ↔ s.shadowDiffers converterSet = true := by
    rw [State.shadowDiffers, List.any_eq_true]
    refine exists_congr fun f => and_congr_right fun hf => ?_
    rw [s.converterPend_get_other (converterSet_key_ne_pend f hf), s.converterPend_get_other (shadow_key_ne_pend f), bne_iff_ne]
  rw [hcopies, State.converterPend, State.setBool, State.get_set_same]
  split <;> simp_all [Reg.SYS_CONV_STAT_PEND]

/-! CONVERTER_SET_WRITE. -/

section

variable {r : ConvReg} {f : Fld}

theorem doConverterSetWrite_get (hf : f ∈ convFlds r) (n : Nat) (s : State) : (doConverterSetWrite r n s).get f.shadow
    = if convStores f (fldPart f n) then fldPart f n else s.get f.shadow := by
  rw [doConverterSetWrite_eq, State.converterPend_get_other _ (shadow_key_ne_pend f),
    foldl_storeShadow_get n _ (convFlds_keys_nodup r) hf]

theorem doConverterSetWrite_stored (hf : f ∈ convFlds r) (n : Nat) (s : State) (hst : convStores f (fldPart f n) = true) :
    (doConverterSetWrite r n s).get f.shadow = n / 2 ^ f.lo % 2 ^ f.width :=
  (doConverterSetWrite_get hf n s).trans (if_pos hst)

/-- A field with a reserved encoding takes the value where it is none, and keeps its shadow else (R550). -/
theorem doConverterSetWrite_unless_reserved (hf : f ∈ convFlds r) (n : Nat) (s : State) {P : Prop} [Decidable P]
    (hst : convStores f (fldPart f n) = true ↔ P) :
    if P then (doConverterSetWrite r n s).get f.shadow = n / 2 ^ f.lo % 2 ^ f.width
    else (doConverterSetWrite r n s).get f.shadow = s.get f.shadow := by
  split
  · next h => exact doConverterSetWrite_stored hf n s (hst.mpr h)
  · next h => exact (doConverterSetWrite_get hf n s).trans (if_neg (mt hst.mp h))

/-- PEND as it stands after a write, and the shadow copies of the register alone changed. -/
theorem doConverterSetWrite_only {fs : List Fld} (hfs : convFlds r ⊆ fs) (n : Nat) (s : State) :
    let t := doConverterSetWrite r n s
    (t.get Reg.SYS_CONV_STAT_PEND = 1 ↔ ∃ f ∈ converterSet, t.get f.shadow ≠ t.get f)
      ∧ Frame [] [] (Reg.SYS_CONV_STAT_PEND :: fs.map Fld.shadow) s t := by
  rw [doConverterSetWrite_eq]
  exact ⟨State.converterPend_iff _,
    (Frame.foldl_storeShadow (fun f hf => List.mem_cons_of_mem _ (List.mem_map_of_mem (hfs hf))) n s).set List.mem_cons_self _⟩

end

/-- Settles O9: each field of the register goes to its shadow copy unless its value is reserved, and PEND is formed anew from all copies. -/
theorem converterSetWritesAreShadowed : Obligations.ConverterSetWritesAreShadowed := by
  unfold Obligations.ConverterSetWritesAreShadowed
  intro s v
  have hdoes (r : ConvReg) {P : State → Prop} (h : P (doConverterSetWrite r v.toNat s)) : Does (.converterSetWrite r v) s P := ⟨_, rfl, h⟩
  have hstored {r : ConvReg} {f : Fld} (hst : convStores f (fldPart f v.toNat) = true) (hf : f ∈ convFlds r := by simp [convFlds]) :=
    doConverterSetWrite_stored hf v.toNat s hst
  have hunless {r : ConvReg} {f : Fld} {P : Prop} [Decidable P] (hst : convStores f (fldPart f v.toNat) = true ↔ P)
      (hf : f ∈ convFlds r := by simp [convFlds]) := doConverterSetWrite_unless_reserved hf v.toNat s hst
  have honly {r : ConvReg} {fs : List Fld} (hfs : convFlds r ⊆ fs := by simp [convFlds]) := doConverterSetWrite_only hfs v.toNat s
  refine ⟨hdoes .topo ⟨hstored rfl, hstored rfl, honly⟩, hdoes .baseV ⟨hstored rfl, honly⟩, hdoes .baseS ⟨hstored rfl, honly⟩,
    hdoes .baseVdc ⟨hstored rfl, honly⟩, hdoes .vmax ⟨hstored rfl, honly⟩, fun a => ?_, fun p => ?_, fun c => ?_, fun c => ?_⟩
  · obtain ⟨hncell, hk⟩ := convStores_armCfg a
    exact hdoes (.armCfg a) ⟨hstored (hncell _), hstored (hk _), honly⟩
  · have hcell := convStores_portMap p (fldPart (Reg.SYS_PORT_MAP_CELL p.val) v.toNat)
    exact hdoes (.portMap p) ⟨hunless (by simpa [fldPart, Reg.SYS_PORT_MAP_CELL] using hcell), honly⟩
  · exact hdoes (.cellCap c) ⟨hstored (convStores_cellCap c _), honly⟩
  · obtain ⟨hvnom, hlegs, hen, harm, hkind⟩ := convStores_cellCfg c
    exact hdoes (.cellCfg c) ⟨hstored (hvnom _), hstored (hlegs _), hstored (hen _), hunless (harm _), hunless (hkind _), honly⟩

/-! ### The arms' counts at a commit (R44, R49) -/

theorem State.arm_modArm (s : State) (a b : Nat) (f : ArmState → ArmState) :
    (s.modArm a f).arm b = if b = a then f (s.arm a) else s.arm b := by
  split
  · next h => simp [State.arm, State.modArm, tblMod, h]
  · next h => exact tblGet_set_other _ _ _ _ _ _ h

@[simp] theorem State.armsAnew_atK (s : State) (a : Fin 6) : (s.armsAnew.arm a).atK = false := by
  simp only [State.armsAnew, List.range, List.range.loop, List.foldl_cons, List.foldl_nil, State.arm_modArm]
  fin_cases a <;> rfl

@[simp] theorem State.admitCommitted_arm (s : State) (a : Nat) : s.admitCommitted.arm a = s.arm a := by
  unfold State.admitCommitted
  refine List.foldlRecOn _ _ (motive := fun t : State => t.arm a = s.arm a) rfl (fun t ht c _ => ?_)
  split
  · exact ht
  · split <;> exact ht

@[simp] theorem State.dcLinkCommitted_arm (s : State) (was a : Nat) : (s.dcLinkCommitted was).arm a = s.arm a := by
  unfold State.dcLinkCommitted
  split <;> rfl

theorem State.laneEmit_arm (s : State) (f : Nat → Out) (a : Nat) : (s.laneEmit f).arm a = s.arm a := by
  unfold State.laneEmit
  exact List.foldlRecOn _ _ (motive := fun t : State => t.arm a = s.arm a) rfl (fun _ ht _ _ => ht)

@[simp] theorem State.sendConfig_arm (s : State) (a : Nat) : s.sendConfig.arm a = s.arm a := by
  unfold State.sendConfig State.laneTell State.tellNow
  split
  · split
    · exact State.laneEmit_arm _ _ _
    · rfl
  · rfl

/-- A due request whose set passes the checks leaves no arm's count judged. -/
theorem doConverterSetCheck_atK {s : State} {at_ : Nat} (hreq : s.sys.commitReq = some at_) (hdue : s.requestDue at_ = true)
    (hpass : s.commitError.1 = 0) (a : Fin 6) : ((doConverterSetCheck s).arm a).atK = false := by
  have hpass' : ({ s with sys := { s.sys with commitReq := none } } : State).commitError.1 = 0 := hpass
  simp [doConverterSetCheck, hreq, hdue, hpass']

/-- So does a COMMIT with RUN 0, whose request is due at once. -/
theorem doCommit_atK {s : State} (hrun : s.get Reg.CAD_CTRL_RUN = 0) (hpass : s.commitError.1 = 0) (a : Fin 6) :
    ((doCommit s).arm a).atK = false := by
  have hstopped : s.running = false := by simp [State.running, State.on, hrun]
  let s1 : State := { s with sys := { s.sys with commitReq := some (s.sys.commitReq.getD s.now) } }
  have hdue : s1.requestDue (s.sys.commitReq.getD s.now) = true := Bool.or_eq_true_iff.mpr (.inl (congrArg not hstopped))
  have hcommit : doCommit s = doConverterSetCheck s1 := if_neg (ne_true_of_eq_false hstopped)
  rw [hcommit]
  exact doConverterSetCheck_atK rfl hdue hpass a

/-- Refutes O10: the checked set becomes active, and the arms' counts are judged anew (R44), which the frame of the clause does not name: a
single-star set without cells is committed while arm 0 stands at its k. -/
theorem not_converterCommitIsWholeOrNothing : ¬ Obligations.ConverterCommitIsWholeOrNothing := by
  unfold Obligations.ConverterCommitIsWholeOrNothing
  intro h
  let s : State := ((((((State.reset.set Reg.SYS_TOPO_TOPO.shadow 1).set Reg.SYS_BASE_V_VALUE.shadow 1000).set
    Reg.SYS_BASE_S_VALUE.shadow 100).set (Reg.SYS_ARM_CFG_NCELL 0).shadow 1).set (Reg.SYS_ARM_CFG_NCELL 1).shadow 1).set
    (Reg.SYS_ARM_CFG_NCELL 2).shadow 1).modArm 0 (fun x => { x with atK := true })
  obtain ⟨t, hexec, -, -, -, hparts, -⟩ := (h s).1 (by decide +kernel)
  have hcel : t.cel = s.cel := hparts .cel (by decide)
  have hkept : t.arm 0 = s.arm 0 := by rw [State.arm, hcel, State.arm]
  have hnext : t = doCommit s := (Host.Outcome.next.inj hexec).symm
  have hatK : (t.arm 0).atK = false := by
    rw [hnext]
    exact doCommit_atK (by decide +kernel) (by decide +kernel) 0
  exact absurd (hkept ▸ hatK) (by decide +kernel)

/-! ### Gate saturation (R173) -/

/-- Refutes O23: a code held at a bound for 1,000 updates latches source 43, as the clause of GATESAT says; but the clause's frame names
GATESAT alone, and by `Frame.get_eq` the collector's window frees no field. -/
theorem not_bypassAndRejoinOfACell : ¬ Obligations.BypassAndRejoinOfACell := by
  unfold Obligations.BypassAndRejoinOfACell
  intro h
  obtain ⟨-, -, hgate⟩ := h (State.reset.modCell 0 (fun x => { x with satRun := 1000 }))
  obtain ⟨t, -, -, hlatched, -, hframe⟩ := (hgate 0).1 (by decide +kernel)
  have hkept := hframe.fltBit_eq (by decide) 43 rfl
  exact absurd (hkept.symm.trans hlatched) (by decide +kernel)

end Sys2Proof.Machine
end

section
/-!
Sensing: the sampling set, sequenced samples with their results and filters, urgent conversions and calibration steps.
What a posted result sets off beside its words (grid samples, the DC-link limit, the safety functions, with the trip latch and the
report of a fault) leaves sensing alone; `SensingKept` states that, with one rule for each operation.
-/

namespace Sys2Proof.Machine

/-! ### Bits of a field -/

/-- The three parts of a number about bit `i`, that bit put to `b`. -/
theorem putBit_eq (n i : Nat) (b : Bool) : putBit n i b = 2 ^ i * (2 * (n / 2 ^ i / 2) + b.toNat) + n % 2 ^ i := by
  have hq : n / 2 ^ i = 2 * (n / 2 ^ i / 2) + (n.testBit i).toNat := by
    rw [Nat.toNat_testBit]
    omega
  have hn : n = 2 ^ i * (n / 2 ^ i) + n % 2 ^ i := (Nat.div_add_mod _ _).symm
  rw [hq, Nat.mul_add] at hn
  rw [Nat.mul_add]
  cases b <;> cases hi : n.testBit i <;> simp [putBit, setBit, clearBit, hi] at hn ⊢ <;> omega

theorem testBit_putBit (n i j : Nat) (b : Bool) : (putBit n i b).testBit j = if j = i then b else n.testBit j := by
  have hlow : n % 2 ^ i < 2 ^ i := Nat.mod_lt _ (Nat.two_pow_pos i)
  rw [putBit_eq, Nat.testBit_two_pow_mul_add _ hlow]
  rcases Nat.lt_trichotomy j i with hj | rfl | hj
  · simp [hj, hj.ne, Nat.testBit_mod_two_pow]
  · cases b <;> simp [Nat.testBit_zero]
  · obtain ⟨k, rfl⟩ := Nat.exists_eq_add_of_lt hj
    have hk : i + k + 1 - i = k + 1 := by omega
    have hhalf : (2 * (n / 2 ^ i / 2) + b.toNat) / 2 = n / 2 ^ i / 2 := by cases b <;> simp; omega
    rw [if_neg (by omega), if_neg (by omega), hk, Nat.testBit_succ, hhalf, ← Nat.testBit_succ, Nat.testBit_div_two_pow]
    exact congrArg n.testBit (by omega)

theorem testBit_setBit (n i j : Nat) : (setBit n i).testBit j = (n.testBit j || decide (j = i)) := by
  have h := testBit_putBit n i j true
  rw [Sys2Proof.putBit, if_pos rfl] at h
  rw [h]
  split <;> simp_all

theorem State.bit_putBit (s : State) (f : Fld) {i : Nat} (hi : i < f.width) (j : Nat) (b : Bool) :
    (s.putBit f i b).bit f j = if j = i then b else s.bit f j := by
  rw [State.bit, State.putBit, State.get_set_same, Nat.testBit_mod_two_pow, testBit_putBit]
  split
  · next h => simp [h, hi]
  · next h =>
    rcases Nat.lt_or_ge j f.width with hj | hj
    · simp [hj, State.bit]
    · simp [Nat.not_lt.mpr hj, State.bit, Nat.testBit_lt_two_pow (Nat.lt_of_lt_of_le (s.get_lt f) (Nat.pow_le_pow_right (by decide) hj))]

theorem bitsOf_lt (w : Nat) (i : Int) : bitsOf w i < 2 ^ w := by
  have hpos : (0 : Int) < 2 ^ w := by positivity
  have hlt := Int.emod_lt_of_pos i hpos
  have hge := Int.emod_nonneg i hpos.ne'
  rw [bitsOf]
  zify
  rwa [Int.toNat_of_nonneg hge]

theorem State.get_of_regs {s t : State} (h : t.regs = s.regs) (f : Fld) : t.get f = s.get f := by
  rw [State.get, State.get, h]

/-! ### What leaves sensing alone -/

/-- The register window that a key of the register table lies in: bits [31:16] of its address. -/
def keyWindow (key : Nat) : Nat := key / 0x200000 % 0x10000

/-- For a field of a 32-bit register that is its window. -/
theorem keyWindow_eq_fldBlock {f : Fld} (h : f.lo < 32) : keyWindow f.key = fldBlock f := by
  simp only [keyWindow, fldBlock, Fld.key]
  omega

/-- From `s` to `t` TIME and the rest of Cadence, sensing with its registers, the power state, the memory and the waiting commands stay. -/
structure SensingKept (s t : State) : Prop where
  cad : t.cad = s.cad
  adc : t.adc = s.adc
  mem : t.mem = s.mem
  pending : t.pending = s.pending
  get : ∀ f : Fld, keyWindow f.key ∈ [Win.adc, Win.pwr] → t.get f = s.get f

/-- A field outside the two windows of `SensingKept`. -/
abbrev OutsideSensing (f : Fld) : Prop := keyWindow f.key ∉ [Win.adc, Win.pwr]

namespace SensingKept

variable {s t u : State}

theorem refl (s : State) : SensingKept s s := ⟨rfl, rfl, rfl, rfl, fun _ _ => rfl⟩

theorem trans (h : SensingKept s t) (h' : SensingKept t u) : SensingKept s u :=
  ⟨h'.cad.trans h.cad, h'.adc.trans h.adc, h'.mem.trans h.mem, h'.pending.trans h.pending,
    fun f hf => (h'.get f hf).trans (h.get f hf)⟩

/-- A change of the parts beside registers, Cadence, sensing, memory and waiting commands. -/
theorem parts (h : SensingKept s t) (hregs : u.regs = t.regs := by rfl) (hcad : u.cad = t.cad := by rfl) (hadc : u.adc = t.adc := by rfl)
    (hmem : u.mem = t.mem := by rfl) (hpending : u.pending = t.pending := by rfl) : SensingKept s u :=
  h.trans ⟨hcad, hadc, hmem, hpending, fun f _ => State.get_of_regs hregs f⟩

theorem set (h : SensingKept s t) {f : Fld} (hf : OutsideSensing f) (v : Nat) : SensingKept s (t.set f v) :=
  h.trans ⟨rfl, rfl, rfl, rfl, fun _ hg => State.get_set_other _ _ _ _ (fun e => hf (e ▸ hg))⟩

theorem irq (h : SensingKept s t) (n : Nat) : SensingKept s (t.irq n) := h.parts

theorem putBit (h : SensingKept s t) {f : Fld} (hf : OutsideSensing f) (i : Nat) (b : Bool) : SensingKept s (t.putBit f i b) := h.set hf _

theorem setBool (h : SensingKept s t) {f : Fld} (hf : OutsideSensing f) (b : Bool) : SensingKept s (t.setBool f b) := h.set hf _

theorem count (h : SensingKept s t) {f : Fld} (hf : OutsideSensing f) (n : Nat) : SensingKept s (t.count f n) := h.set hf _

theorem set64 (h : SensingKept s t) {lo hi : Fld} (hlo : OutsideSensing lo) (hhi : OutsideSensing hi) (v : Nat) : SensingKept s (t.set64 lo hi v) :=
  (h.set hlo _).set hhi _

theorem ite {c : Prop} [Decidable c] (ht : SensingKept s t) (hu : SensingKept s u) : SensingKept s (if c then t else u) := by
  split <;> assumption

theorem foldl {α : Type} {f : State → α → State} {l : List α} (hf : ∀ a ∈ l, ∀ u, SensingKept s u → SensingKept s (f u a))
    (h : SensingKept s t) : SensingKept s (l.foldl f t) :=
  List.foldlRecOn l f (motive := fun u : State => SensingKept s u) h (fun u hu a ha => hf a ha u hu)

/-! The trip latch (R224, R230 to R239). -/

theorem putTripFlag (h : SensingKept s t) (src : Nat) (b : Bool) : SensingKept s (t.putTripFlag src b) :=
  .ite (h.putBit (by decide) _ _) (h.putBit (by decide) _ _)

theorem undoClear (h : SensingKept s t) (src : Nat) : SensingKept s (t.undoClear src) := by
  unfold State.undoClear
  split
  · exact h
  · exact .ite (((h.putTripFlag src true).parts).count (by decide) _) h

theorem noteFirst (h : SensingKept s t) (src : Nat) : SensingKept s (t.noteFirst src) :=
  .ite ((((h.set (by decide) _).set (by decide) _).set (by decide) _).set64 (by decide) (by decide) _) (.ite (h.set (by decide) _) h)

theorem refuseEnabled (h : SensingKept s t) (arms : Nat) : SensingKept s (t.refuseEnabled arms) :=
  h.foldl (fun _ _ _ hu => .ite ((hu.putBit (by decide) _ _).set (by decide) _) hu)

theorem abandonPlans (h : SensingKept s t) (ports : List Nat) : SensingKept s (t.abandonPlans ports) := .ite h h.parts

theorem placeAgain (h : SensingKept s t) (p u : Nat) (e : Nat × List Nat) : SensingKept s (t.placeAgain p u e) := h.parts

theorem lineYield (h : SensingKept s t) (p u : Nat) : SensingKept s (t.lineYield p u) :=
  .ite (.foldl (fun e _ _ hv => hv.placeAgain p u e) (.foldl (fun _ _ _ hv => hv.parts) h.parts)) h

theorem sendBlocks (h : SensingKept s t) (ports : List Nat) : SensingKept s (t.sendBlocks ports) :=
  .foldl (fun p _ _ hv => (SensingKept.parts hv).lineYield p _) h.parts

theorem laneSend (h : SensingKept s t) (kind : Nat) (body : List Nat) : SensingKept s (t.laneSend kind body) :=
  .foldl (fun _ _ _ hv => hv.parts) h.parts

theorem pelotonBlock (h : SensingKept s t) (src arms : Nat) : SensingKept s (t.pelotonBlock src arms) := .ite (h.laneSend _ _) h

theorem pwmApply (h : SensingKept s t) (n at_ : Nat) (aHigh : Bool) : SensingKept s (t.pwmApply n at_ aHigh) := .ite h.parts h.parts

/-- The trip flags and counters of the six PWM channels. -/
theorem pwmStat_outside : ∀ n ∈ List.range 6, OutsideSensing (Reg.PWM_STAT_TRIPF n) ∧ OutsideSensing (Reg.PWM_STAT_CBCF n)
    ∧ OutsideSensing (Reg.PWM_STAT_CBCCNT n) := by decide

theorem pwmJudge (h : SensingKept s t) {n : Nat} (hn : n ∈ List.range 6) : SensingKept s (t.pwmJudge n) := by
  obtain ⟨htripf, hcbcf, hcbccnt⟩ := pwmStat_outside n hn
  have hlatched : SensingKept s (if t.get (Reg.PWM_TRIP_TRIPMODE n) = 1 ∧ t.pwmInputCause n = true then t.set (Reg.PWM_STAT_TRIPF n) 1 else t) :=
    .ite (h.set htripf _) h
  exact .ite h (.ite hlatched ((SensingKept.parts (.ite hlatched ((hlatched.set hcbcf _).count hcbccnt _))).pwmApply _ _ _))

theorem pwmJudgeAll (h : SensingKept s t) : SensingKept s t.pwmJudgeAll := h.foldl (fun _ hn _ hu => hu.pwmJudge hn)

theorem stopCores (h : SensingKept s t) (xs : List Nat) (cause : Nat) : SensingKept s (t.stopCores xs cause) := by
  unfold State.stopCores
  extract_lets words seed s1
  have h1 : SensingKept s s1 := h.foldl (fun _ _ _ hu => hu.parts)
  exact h1.parts

theorem releaseHeldHalts (h : SensingKept s t) : SensingKept s t.releaseHeldHalts := by
  unfold State.releaseHeldHalts
  refine .ite h ?_
  split
  · exact h
  · next x xs _ => exact ((h.stopCores (x :: xs) 3).set (f := Reg.TRI_STAT_DBGHALT) (by decide) 1).parts

theorem tripLatch (h : SensingKept s t) (src arms : Nat) : SensingKept s (t.tripLatch src arms) := by
  unfold State.tripLatch
  extract_lets v added first s1 s2 edg s3 s4 ports s5
  have hv : SensingKept s v := h.undoClear src
  have h1 : SensingKept s s1 := .ite (((hv.noteFirst src).putTripFlag src true).irq 6) hv
  have h3 : SensingKept s s3 := (h1.refuseEnabled arms).parts
  have h4 : SensingKept s s4 := h3.set (by decide) _
  have h5 : SensingKept s s5 := .ite h4 (((h4.abandonPlans ports).sendBlocks ports).pelotonBlock src added)
  exact (SensingKept.ite h5.pwmJudgeAll h5).releaseHeldHalts

/-! The report of a fault (R375 to R380). -/

/-- The per-source fields of the collector. -/
theorem fltSource_outside : ∀ src < 256, OutsideSensing (Reg.FLT_SRC_SRC (src / 32)) ∧ OutsideSensing (Reg.FLT_INFO_INFO src) := by decide +kernel

theorem fltCounter_outside (cls : Nat) : OutsideSensing (fltCounter cls) := by
  unfold fltCounter
  split <;> decide

theorem pinFollow (h : SensingKept s t) (before : Bool) : SensingKept s (t.pinFollow before) :=
  .ite h (h.setBool (f := Reg.FLT_STAT_PIN) (by decide) t.faultNHigh).parts

theorem faultNotice (h : SensingKept s t) (src : Nat) : SensingKept s (t.faultNotice src) := (h.irq 7).parts

theorem lbistFld_outside : ∀ x ∈ [0, 1, 2], OutsideSensing (lbistFld x) := by decide

theorem holdCores (h : SensingKept s t) : SensingKept s t.holdCores := by
  unfold State.holdCores
  extract_lets s1 tri
  have h1 : SensingKept s s1 := h.foldl (fun x hx u hu => (SensingKept.ite (hu.set (lbistFld_outside x hx) 0) hu).parts)
  clear_value s1
  have h2 : SensingKept s { s1 with tri := { s1.tri with takeout := none, testing := none } } := h1.parts
  exact (h2.set (by decide) 0).set (by decide) 0

theorem blockReaction (h : SensingKept s t) : SensingKept s t.blockReaction := by
  unfold State.blockReaction
  extract_lets s1
  have h1 : SensingKept s s1 := (h.tripLatch 28 63).holdCores
  exact .ite h1 (h1.set (by decide) 3)

theorem faultFrom (h : SensingKept s t) {src : Nat} (hsrc : src < 256) (info : Nat) (o : FaultOrigin) :
    SensingKept s (t.faultFrom src info o) := by
  obtain ⟨hbit, hinfo⟩ := fltSource_outside src hsrc
  unfold State.faultFrom
  extract_lets cls fltBefore v info' s1 s2 flt s3 s4 s5
  have hv : SensingKept s v := h.parts
  have h1 : SensingKept s s1 := ((hv.putBit hbit _ _).set hinfo _).count (fltCounter_outside _) _
  have h2 : SensingKept s s2 := .ite ((((((((h1.set (by decide) _).set (by decide) _).setBool (by decide) _).set (by decide) _).set
    (by decide) _).set (by decide) _).set (by decide) _).set64 (by decide) (by decide) _) h1
  have h3 : SensingKept s s3 := h2.parts
  have h5 : SensingKept s s5 := (SensingKept.ite (h3.faultNotice src) h3).pinFollow _
  exact .ite h (.ite hv (.ite h5.blockReaction h5))

/-! What a posted result sets off (R60). -/

theorem modGrd (h : SensingKept s t) (f : GrdState → GrdState) : SensingKept s (t.modGrd f) := h.parts

theorem noteNv (h : SensingKept s t) : SensingKept s t.noteNv := .ite h (h.modGrd _)

theorem noteSample (h : SensingKept s t) : SensingKept s t.noteSample := by
  unfold State.noteSample
  exact h.noteNv.modGrd _

theorem observe (h : SensingKept s t) : SensingKept s t.observe :=
  have hstep : SensingKept s _ := (h.noteSample.modGrd _).modGrd _
  .ite (hstep.modGrd _) hstep

theorem toneSample (h : SensingKept s t) (input at_ : Nat) : SensingKept s (t.toneSample input at_) := .ite h (h.modGrd _)

theorem gridSample (h : SensingKept s t) (input at_ : Nat) : SensingKept s (t.gridSample input at_) :=
  have htone := h.toneSample input at_
  .ite h (.ite htone (.ite (htone.modGrd _).observe (htone.modGrd _)))

theorem checkDcLink (h : SensingKept s t) (input word : Nat) : SensingKept s (t.checkDcLink input word) :=
  .ite h (.ite (SensingKept.parts h |>.tripLatch _ _) h.parts)

theorem demandOnset (h : SensingKept s t) (fs : Nat) : SensingKept s (t.demandOnset fs) :=
  .ite h (SensingKept.tripLatch (.foldl (fun f _ _ hu => hu.faultFrom (by decide) f {}) (h.set (by decide) _)) _ _)

theorem safUpdate (h : SensingKept s t) : SensingKept s t.safUpdate := (h.set (by decide) _).demandOnset _

theorem safSample (h : SensingKept s t) (input word : Nat) : SensingKept s (t.safSample input word) := by
  unfold State.safSample
  extract_lets frac ampsExceed saf s1 voltsExceed saf1 s2
  have h1 : SensingKept s s1 := .ite h.parts h
  have h2 : SensingKept s s2 := .ite h1.parts h1
  exact .ite h h2.safUpdate

end SensingKept

/-! ### Refuted statements of the sampling set and calibration (R57, R74) -/

/-- Refutes O11: with RUN 0 a requested shadow set whose ADC_INST0 is 1 becomes active, as the last clause says; but the clause's frame names
no field, and by `Frame.get_eq` the sensing window frees none. -/
theorem not_samplingSetIsJudgedWhole : ¬ Obligations.SamplingSetIsJudgedWhole := by
  unfold Obligations.SamplingSetIsJudgedWhole
  intro h
  obtain ⟨-, -, hact⟩ := h { State.reset.set (Reg.ADC_INST_OFS 0).shadow 1 with adc := { State.reset.adc with setReq := [(0, .inst 0)] } }
  obtain ⟨t, -, hactive, -, hframe⟩ := (hact (by decide +kernel)).1 (by decide +kernel)
  have hkept := hframe.get_eq (by decide) (f := Reg.ADC_INST_OFS 0) rfl
  exact absurd (hkept.symm.trans (hactive (Reg.ADC_INST_OFS 0) (by decide)).1) (by decide +kernel)

/-- Refutes O13: a calibration step of converter 0 that ends with its reference 20,001 ppm off latches source 20, as the last clause says; but
its frame names CONV_OFS, CONVFLT and CALBUSY alone, and by `Frame.get_eq` the collector's window frees no field. -/
theorem not_urgentConversionsAndCalibration : ¬ Obligations.UrgentConversionsAndCalibration := by
  unfold Obligations.UrgentConversionsAndCalibration
  intro h
  obtain ⟨-, -, -, -, -, -, hfinish⟩ := h (State.reset.set Reg.ADC_STAT_CALBUSY 1)
  obtain ⟨t, -, -, -, hfar, -, hframe⟩ := hfinish 0 0 20001 (by decide +kernel)
  have hlatched := (hfar (.inl (by decide))).2 (by decide +kernel)
  have hkept := hframe.fltBit_eq (by decide) 20 rfl
  exact absurd (hkept.symm.trans hlatched) (by decide +kernel)

/-! ### The pre-wake and the sampling instant (R54, R55) -/

section

variable {ps : List Part} {bs : List Nat} {fs : List Fld} {s t : State}

theorem Frame.adc (h : Frame ps bs fs s t) (hp : .adc ∈ ps) (a : AdcState) : Frame ps bs fs s { t with adc := a } :=
  h.parts rfl (fun p hmem => by cases p <;> simp_all [Part.same, State.byteAt])

theorem Frame.reach (h : Frame ps bs fs s t) (hp : .cad ∈ ps) (at_ : Nat) : Frame ps bs fs s (t.reach at_) :=
  h.parts rfl (fun p hmem => by cases p <;> simp_all [Part.same, State.byteAt, State.reach])

end

theorem State.now_reach {s : State} {at_ : Nat} (hlater : s.now < at_) (hat : at_ < 0x10000000000000000) : (s.reach at_).now = at_ := by
  rw [State.now] at hlater
  simp [State.now, State.reach, hlater, Nat.mod_eq_of_lt hat]

/-- A converter woken for its burst: a calibration step on it ends. -/
def State.prewake (s : State) (c : Nat) : State :=
  if s.convUsed c then ({ s with adc := { s.adc with awake := setBit s.adc.awake c } } : State).putBit Reg.ADC_STAT_CALBUSY c false else s

theorem State.instantAhead_of_inTick {s : State} {k : Nat} (hrun : s.get Reg.CAD_CTRL_RUN ≠ 0) (htick : s.cad.inTick = true)
    (hahead : s.now < s.cad.tickStart + s.instants.getD k 0) : s.instantAhead k = some (s.cad.tickStart + s.instants.getD k 0) := by
  have hrunning : s.running ≠ false := by simp [State.running, State.on, hrun]
  exact (if_neg hrunning).trans (if_pos ⟨htick, hahead⟩)

theorem doConverterPrewake_of_ahead {s : State} {k at_ : Nat} (hahead : s.instantAhead k = some at_) (hks : s.inKickstand = false)
    (hk : k < s.instants.length) : doConverterPrewake k s = (List.range 8).foldl State.prewake (s.reach (at_ - 48)) := by
  simp only [doConverterPrewake, hahead, hks, Bool.false_eq_true, false_or, Nat.not_le.mpr hk, if_false]
  rfl

theorem State.convUsed_prewake (s : State) (d c : Nat) : (s.prewake d).convUsed c = s.convUsed c := by
  have hnslot : (Reg.ADC_PAIR_SEQ_NSLOT (c / 2)).key ≠ Reg.ADC_STAT_CALBUSY.key := by
    simp only [Fld.key, Reg.ADC_PAIR_SEQ_NSLOT, Reg.ADC_STAT_CALBUSY]
    omega
  unfold State.prewake
  split
  · rw [State.convUsed, State.bit, State.putBit, State.get_set_other _ _ _ _ (by decide), State.get_set_other _ _ _ _ hnslot]
    rfl
  · rfl

/-- What one pre-wake does to CALBUSY and to the converters awake. -/
theorem State.prewake_bits (s : State) {d : Nat} (hd : d < 8) (c : Nat) :
    (s.prewake d).bit Reg.ADC_STAT_CALBUSY c = (s.bit Reg.ADC_STAT_CALBUSY c && !(decide (c = d) && s.convUsed c))
      ∧ (s.prewake d).adc.awake.testBit c = (s.adc.awake.testBit c || (decide (c = d) && s.convUsed c)) := by
  unfold State.prewake
  by_cases hused : s.convUsed d = true
  · rw [if_pos hused, State.bit_putBit _ _ hd, State.putBit_adc, testBit_setBit]
    by_cases hc : c = d
    · simp [hc, hused]
    · simp [hc]; rfl
  · rw [if_neg hused]
    by_cases hc : c = d <;> simp [hc, hused]

theorem foldl_prewake_bits {cs : List Nat} (hcs : ∀ c ∈ cs, c < 8) (s : State) (c : Nat) :
    (cs.foldl State.prewake s).bit Reg.ADC_STAT_CALBUSY c = (s.bit Reg.ADC_STAT_CALBUSY c && !(decide (c ∈ cs) && s.convUsed c))
      ∧ (cs.foldl State.prewake s).adc.awake.testBit c = (s.adc.awake.testBit c || (decide (c ∈ cs) && s.convUsed c)) := by
  induction cs generalizing s with
  | nil => simp
  | cons d cs ih =>
    obtain ⟨hbusy, hawake⟩ := ih (fun c hc => hcs c (List.mem_cons_of_mem _ hc)) (s.prewake d)
    obtain ⟨hbusy', hawake'⟩ := s.prewake_bits (hcs d List.mem_cons_self) c
    rw [List.foldl_cons, hbusy, hawake, hbusy', hawake', s.convUsed_prewake]
    by_cases hc : c = d <;> by_cases hmem : c ∈ cs <;> cases s.convUsed c <;> simp [hc, hmem]

theorem foldl_prewake_frame (cs : List Nat) {s t : State} (h : Frame [.cad, .adc] [] [Reg.ADC_STAT_CALBUSY] s t) :
    Frame [.cad, .adc] [] [Reg.ADC_STAT_CALBUSY] s (cs.foldl State.prewake t) ∧ (cs.foldl State.prewake t).cad = t.cad := by
  refine List.foldlRecOn cs _ (motive := fun u : State => Frame _ _ _ s u ∧ u.cad = t.cad) ⟨h, rfl⟩ (fun u hu c _ => ?_)
  unfold State.prewake
  split
  · exact ⟨(hu.1.adc (by decide) _).set (by decide) _, hu.2⟩
  · exact hu

theorem State.mem_burst (s : State) (at_ : Nat) (x : SlotSample) : x ∈ s.burst at_ ↔ ∃ i < 4, ∃ c < 8,
    (i < s.get (Reg.ADC_PAIR_SEQ_NSLOT (c / 2)) ∧ s.bit Reg.ADC_CTRL_CONV_EN c = true)
      ∧ x = ⟨c / 2, i, c, 8 * s.muxOf c i + c, at_ + 40 * i⟩ := by
  simp only [State.burst, List.mem_flatMap, List.mem_filterMap, List.mem_range, Option.ite_none_right_eq_some, Option.some.injEq,
    eq_comm (b := x)]

/-- Without urgent conversions a burst displaces nothing. -/
theorem doSamplingInstant_of_no_urgent {s : State} {k : Nat} (htick : s.cad.inTick = true) (hrun : s.get Reg.CAD_CTRL_RUN ≠ 0)
    (hks : s.inKickstand = false) (hk : k < s.instants.length) (hurg : s.adc.urgent = []) :
    let at_ := s.cad.tickStart + s.instants.getD k 0
    doSamplingInstant k s = { s.reach at_ with adc := { s.adc with
      due := s.adc.due ++ s.burst at_, awake := ((s.burst at_).map (fun x => x.conv)).foldl setBit s.adc.awake } } := by
  intro at_
  have hgo : ¬(s.cad.inTick = false ∨ s.running = false ∨ s.inKickstand = true ∨ s.instants.length ≤ k) := by
    simp [htick, State.running, State.on, hrun, hks, hk]
  rw [doSamplingInstant, if_neg hgo]
  refine List.foldlRecOn _ _ (motive := fun u : State => u = _) rfl (fun u hu c _ => ?_)
  have hnone : u.urgentOf c = [] := by
    rw [hu, State.urgentOf]
    show tblGet [] s.adc.urgent c = []
    rw [hurg]
    rfl
  rw [hnone]
  exact hu

/-- While RUN is 0 there is neither pre-wake nor instant (R74). -/
theorem sampling_of_stopped {s : State} (hrun : s.get Reg.CAD_CTRL_RUN = 0) (k : Nat) :
    doConverterPrewake k s = s ∧ doSamplingInstant k s = s := by
  simp [doConverterPrewake, State.instantAhead, doSamplingInstant, State.running, State.on, hrun]

/-! ### A posted result (R60, R66 to R69) -/

/-- The state once the sample `x` has been taken off the due list, 48 counts after its instant. -/
def State.takeSample (s : State) (input : Nat) (x : SlotSample) : State :=
  let s0 := s.reach (x.time + 48)
  State.convRests { s0 with adc := { s0.adc with
    due := s0.adc.due.erase x, converted := setBit s0.adc.converted input, dropped := clearBit s0.adc.dropped input } } x.conv

/-- A raw word posted, with its NV noted. -/
def State.putRaw (s : State) (input w : Nat) (nv : Bool) : State :=
  let t := s.set (Reg.ADC_RAW_RESULT input) w
  { t with adc := { t.adc with lastNv := Sys2Proof.putBit t.adc.lastNv input nv } }

/-- A filtered word posted, with the filter's new state. -/
def State.putFiltered (s : State) (input : Nat) (f : FilterState) (w : Nat) : State :=
  (s.setFilter input f).set (Reg.ADC_FILT_RESULT input) w

/-- The words of a code posted: an NV one does not enter the filter. -/
def State.postWords (s : State) (input : Nat) (c : BitVec 16 × Bool) : State :=
  let nv := s.inputNv input
  let t := s.putRaw input (resultWord nv c.2 false input (rawValue (s.corrected input c.1))) nv
  let r := filterStep (t.filter input) (t.get (Reg.ADC_CH_CFG_ORDER input)) (t.get (Reg.ADC_CH_CFG_LEN input)) (s.corrected input c.1) c.2
  if nv then t.restartFilter input
  else t.putFiltered input r.1 (resultWord false r.2.2.2 r.2.2.1 input (bitsOf 24 r.2.1))

/-- A result is posted in three steps; the last leaves sensing alone. -/
theorem doResultPost_of_due {s : State} {input : Nat} {x : SlotSample} (hx : s.adc.due.find? (fun y => y.input == input) = some x)
    (code : BitVec 16) (level : Int) :
    SensingKept ((s.takeSample input x).postWords input (sampled code level)) (doResultPost input code level s) := by
  simp only [doResultPost, hx]
  exact (((SensingKept.refl _).gridSample input x.time).checkDcLink input _).safSample input _

/-- Powering down a converter changes the converters awake alone. -/
theorem State.convRests_eq (s : State) (c : Nat) : ∃ a, s.convRests c = { s with adc := { s.adc with awake := a } } := by
  unfold State.convRests
  split
  · exact ⟨s.adc.awake, rfl⟩
  · exact ⟨_, rfl⟩

theorem State.takeSample_keeps (s : State) (input : Nat) (x : SlotSample) :
    let t := s.takeSample input x
    t.regs = s.regs ∧ t.cad = (s.reach (x.time + 48)).cad ∧ t.adc.due = s.adc.due.erase x ∧ t.mem = s.mem ∧ t.pending = s.pending := by
  obtain ⟨a, ha⟩ := State.convRests_eq { s.reach (x.time + 48) with adc := { s.adc with
    due := s.adc.due.erase x, converted := setBit s.adc.converted input, dropped := clearBit s.adc.dropped input } } x.conv
  intro t
  have ht : t = _ := ha
  rw [ht]
  exact ⟨rfl, rfl, rfl, rfl, rfl⟩

/-- The registers that decide whether the words of an input are NV now (R68). -/
def nvFlds (input : Nat) : List Fld :=
  [Reg.ADC_PAIR_SEQ_NSLOT (input % 8 / 2), Reg.ADC_PAIR_SEQ_SLOT (input % 8 / 2), Reg.ADC_CTRL_CONV_EN, Reg.ADC_STAT_CONVFLT,
    Reg.PWR_STAT_STATE]

theorem State.inputNv_congr {s t : State} {input : Nat} (hget : ∀ f ∈ nvFlds input, t.get f = s.get f)
    (hconverted : t.adc.converted = s.adc.converted) (hdropped : t.adc.dropped = s.adc.dropped) : t.inputNv input = s.inputNv input := by
  simp only [nvFlds, List.forall_mem_cons] at hget
  obtain ⟨hnslot, hslot, hen, hflt, hpwr, -⟩ := hget
  simp only [State.inputNv, State.inSlot, State.muxOf, State.convOut, State.bit, State.inKickstand, hnslot, hslot, hen, hflt, hpwr,
    hconverted, hdropped]

/-- Those registers and the words of an input lie in the two windows of `SensingKept`. -/
theorem nvFlds_window (n : Fin 32) : ∀ f ∈ Reg.ADC_RAW_RESULT n.val :: Reg.ADC_FILT_RESULT n.val :: nvFlds n.val,
    keyWindow f.key ∈ [Win.adc, Win.pwr] := by
  revert n
  decide

/-- The words of an input are no other register that a posting reads. -/
theorem resultKeys_ne : ∀ n : Fin 32, (Reg.ADC_RAW_RESULT n.val).key ≠ (Reg.ADC_FILT_RESULT n.val).key
    ∧ (∀ f ∈ Reg.ADC_CH_CFG_ORDER n.val :: nvFlds n.val, f.key ≠ (Reg.ADC_RAW_RESULT n.val).key)
    ∧ ∀ f ∈ nvFlds n.val, f.key ≠ (Reg.ADC_FILT_RESULT n.val).key := by decide

/-- A settled result word is OVR, CHAN and VALUE, under its NV bit (R65). -/
theorem resultWord_settled {n v : Nat} (hn : n < 32) (hv : v < 2 ^ 24) (ovr : Bool) :
    resultWord false ovr false n v % 2 ^ 32 = (if ovr then 0x40000000 else 0) + n * 0x1000000 + v
      ∧ ∀ nv : Bool, resultWord nv ovr false n v % 2 ^ 32 % 0x80000000 = (if ovr then 0x40000000 else 0) + n * 0x1000000 + v := by
  refine ⟨?_, fun nv => ?_⟩
  · cases ovr <;> simp [resultWord] <;> omega
  · cases nv <;> cases ovr <;> simp [resultWord] <;> omega

theorem rawValue_lt (v : Int) : rawValue v < 2 ^ 24 := bitsOf_lt _ _

/-- Without stages a filter passes its input on (R69). -/
theorem filterStep_order_zero (f : FilterState) (len : Nat) (x : Int) (ovr : Bool) :
    filterStep f 0 len x ovr = ({ f with restart := false }, x, false, ovr) := if_pos rfl

theorem State.get_set_word (s : State) {f : Fld} (hf : f.width = 32) (v : Nat) : (s.set f v).get f = v % 2 ^ 32 := by
  rw [State.get_set_same, hf]

/-- From `s` to `t` nothing but the filters, the notes of NV and registers changed. -/
structure WordsOnly (s t : State) : Prop where
  cad : t.cad = s.cad
  due : t.adc.due = s.adc.due
  converted : t.adc.converted = s.adc.converted
  dropped : t.adc.dropped = s.adc.dropped
  mem : t.mem = s.mem
  pending : t.pending = s.pending

theorem WordsOnly.trans {s t u : State} (h : WordsOnly s t) (h' : WordsOnly t u) : WordsOnly s u :=
  ⟨h'.cad.trans h.cad, h'.due.trans h.due, h'.converted.trans h.converted, h'.dropped.trans h.dropped, h'.mem.trans h.mem,
    h'.pending.trans h.pending⟩

theorem State.putRaw_spec (s : State) (input w : Nat) (nv : Bool) : (s.putRaw input w nv).get (Reg.ADC_RAW_RESULT input) = w % 2 ^ 32
    ∧ (∀ f : Fld, f.key ≠ (Reg.ADC_RAW_RESULT input).key → (s.putRaw input w nv).get f = s.get f) ∧ WordsOnly s (s.putRaw input w nv) :=
  ⟨State.get_set_word s rfl w, fun _ hf => State.get_set_other s _ _ _ hf, rfl, rfl, rfl, rfl, rfl, rfl⟩

theorem State.putFiltered_spec (s : State) (input : Nat) (f : FilterState) (w : Nat) :
    (s.putFiltered input f w).get (Reg.ADC_FILT_RESULT input) = w % 2 ^ 32
    ∧ (∀ g : Fld, g.key ≠ (Reg.ADC_FILT_RESULT input).key → (s.putFiltered input f w).get g = s.get g)
    ∧ WordsOnly s (s.putFiltered input f w) :=
  ⟨State.get_set_word _ rfl w, fun _ hg => State.get_set_other (s.setFilter input f) _ _ _ hg, rfl, rfl, rfl, rfl, rfl, rfl⟩

theorem State.restartFilter_spec (s : State) (input : Nat) :
    (∀ f : Fld, (s.restartFilter input).get f = s.get f) ∧ (s.restartFilter input).filter input = {} ∧ WordsOnly s (s.restartFilter input) :=
  ⟨fun _ => rfl, by simp [State.filter, State.restartFilter, State.setFilter], rfl, rfl, rfl, rfl, rfl, rfl⟩

/-- What the posting of a code leaves in the words, and what it leaves alone (R65, R66, R69). -/
theorem State.postWords_spec (s : State) (n : Fin 32) (c : BitVec 16 × Bool) :
    let t := s.postWords n.val c
    t.get (Reg.ADC_RAW_RESULT n.val) = resultWord (s.inputNv n.val) c.2 false n.val (rawValue (s.corrected n.val c.1)) % 2 ^ 32
      ∧ (s.get (Reg.ADC_CH_CFG_ORDER n.val) = 0 ∧ s.inputNv n.val = false →
        t.get (Reg.ADC_FILT_RESULT n.val) = resultWord false c.2 false n.val (bitsOf 24 (s.corrected n.val c.1)) % 2 ^ 32)
      ∧ (∀ f ∈ nvFlds n.val, t.get f = s.get f) ∧ WordsOnly s t := by
  obtain ⟨hrawFilt, hraw, hfilt⟩ := resultKeys_ne n
  obtain ⟨horder, hraw⟩ := List.forall_mem_cons.mp hraw
  unfold State.postWords
  extract_lets nv u r t
  obtain ⟨hword, hrest, honly⟩ : u.get (Reg.ADC_RAW_RESULT n.val) = _ ∧ _ := s.putRaw_spec n.val _ nv
  rcases Bool.eq_false_or_eq_true nv with hnv | hnv
  · obtain ⟨hkept, -, honly'⟩ := u.restartFilter_spec n.val
    have ht : t = u.restartFilter n.val := if_pos hnv
    rw [ht]
    exact ⟨(hkept _).trans hword, fun h => absurd (hnv.symm.trans h.2) (by decide), fun f hf => (hkept f).trans (hrest f (hraw f hf)),
      honly.trans honly'⟩
  · obtain ⟨hpassed, hkept, honly'⟩ := u.putFiltered_spec n.val r.1 (resultWord false r.2.2.2 r.2.2.1 n.val (bitsOf 24 r.2.1))
    have ht : t = u.putFiltered n.val r.1 _ := if_neg (ne_true_of_eq_false hnv)
    rw [ht]
    refine ⟨(hkept _ hrawFilt).trans hword, fun h => ?_, fun f hf => (hkept f (hfilt f hf)).trans (hrest f (hraw f hf)),
      honly.trans honly'⟩
    have hr : r = _ := (congrArg (fun order => filterStep _ order _ _ _) ((hrest _ horder).trans h.1)).trans (filterStep_order_zero _ _ _ _)
    rw [hpassed, hr]

theorem State.corrected_of_regs {s t : State} (h : t.regs = s.regs) (input : Nat) (code : BitVec 16) :
    t.corrected input code = s.corrected input code := by
  simp only [State.corrected, State.getInt, State.get_of_regs h]

/-- What RESULT_POST leaves of a due sample: the words, the time, the samples due, memory and the waiting commands. -/
theorem doResultPost_spec {s : State} {n : Fin 32} {x : SlotSample} (hx : s.adc.due.find? (fun y => y.input == n.val) = some x)
    (code : BitVec 16) (level : Int) :
    let t := doResultPost n.val code level s
    let c := sampled code level
    let v := s.corrected n.val c.1
    t.get (Reg.ADC_RAW_RESULT n.val) % 0x80000000 = (if c.2 then 0x40000000 else 0) + n.val * 0x1000000 + rawValue v
      ∧ t.cad = (s.reach (x.time + 48)).cad ∧ t.adc.due = s.adc.due.erase x
      ∧ (s.get (Reg.ADC_CH_CFG_ORDER n.val) = 0 ∧ t.inputNv n.val = false →
        t.get (Reg.ADC_FILT_RESULT n.val) = (if c.2 then 0x40000000 else 0) + n.val * 0x1000000 + bitsOf 24 v)
      ∧ t.mem = s.mem ∧ t.pending = s.pending := by
  intro t c v
  obtain ⟨hregs, hcad, hdue, hmem, hpending⟩ := s.takeSample_keeps n.val x
  obtain ⟨hraw, hfilt, hnv, hwords⟩ := (s.takeSample n.val x).postWords_spec n c
  have hkept : SensingKept ((s.takeSample n.val x).postWords n.val c) t := doResultPost_of_due hx code level
  have hwindow := nvFlds_window n
  simp only [List.forall_mem_cons] at hwindow
  obtain ⟨hwraw, hwfilt, hwnv⟩ := hwindow
  have hv : (s.takeSample n.val x).corrected n.val c.1 = v := State.corrected_of_regs hregs _ _
  have hnow : t.inputNv n.val = (s.takeSample n.val x).inputNv n.val :=
    State.inputNv_congr (fun f hf => (hkept.get f (hwnv f hf)).trans (hnv f hf)) (by rw [hkept.adc, hwords.converted])
      (by rw [hkept.adc, hwords.dropped])
  refine ⟨?_, hkept.cad.trans (hwords.cad.trans hcad), by rw [hkept.adc, hwords.due, hdue], fun h => ?_,
    hkept.mem.trans (hwords.mem.trans hmem), hkept.pending.trans (hwords.pending.trans hpending)⟩
  · rw [hkept.get _ hwraw, hraw, hv, (resultWord_settled n.isLt (rawValue_lt v) c.2).2]
  · have horder : (s.takeSample n.val x).get (Reg.ADC_CH_CFG_ORDER n.val) = 0 := (State.get_of_regs hregs _).trans h.1
    rw [hkept.get _ hwfilt, hfilt ⟨horder, hnow ▸ h.2⟩, hv, (resultWord_settled n.isLt (bitsOf_lt 24 v) c.2).1]

/-! ### ADC_CH_CFG (R70, R345) -/

theorem fieldsAt_chCfg : ∀ n : Fin 32, fieldsAt (Reg.ADC_CH_CFG_LEN n.val).addr
    = [⟨31, 1, .WO, .const 0, []⟩, ⟨8, 8, .RW, .const 2, [(1, 255)]⟩, ⟨0, 3, .RW, .const 1, [(0, 4)]⟩] := by decide +kernel

/-- A write of ADC_CH_CFG stores a LEN that is not 0 and an ORDER of 0 to 4. -/
theorem storeAllowed_chCfg (s : State) (n : Fin 32) (v : Nat) : s.storeAllowed (Reg.ADC_CH_CFG_LEN n.val).addr v
    = let s1 := if v / 256 % 256 = 0 then s else s.set (Reg.ADC_CH_CFG_LEN n.val) (v / 256 % 256)
      if v % 8 ≤ 4 then s1.set (Reg.ADC_CH_CFG_ORDER n.val) (v % 8) else s1 := by
  have hlen : (1 ≤ v / 256 % 256 ∧ v / 256 % 256 ≤ 255) ↔ ¬ v / 256 % 256 = 0 := by omega
  simp [State.storeAllowed, fieldsAt_chCfg, FieldRow.isRW, FieldRow.allows, FieldRow.part, FieldRow.fld, Nat.shiftRight_eq_div_pow, hlen]
  rfl

/-- What such a write leaves in the two fields. -/
theorem storeAllowed_chCfg_spec (s : State) (n : Fin 32) (v : Nat) :
    let t := s.storeAllowed (Reg.ADC_CH_CFG_LEN n.val).addr v
    t.get (Reg.ADC_CH_CFG_LEN n.val) = (if v / 256 % 256 = 0 then s.get (Reg.ADC_CH_CFG_LEN n.val) else v / 256 % 256)
      ∧ t.get (Reg.ADC_CH_CFG_ORDER n.val) = (if v % 8 ≤ 4 then v % 8 else s.get (Reg.ADC_CH_CFG_ORDER n.val))
      ∧ Frame [.adc] [] [Reg.ADC_CH_CFG_LEN n.val, Reg.ADC_CH_CFG_ORDER n.val] s t := by
  have hkey : (Reg.ADC_CH_CFG_LEN n.val).key ≠ (Reg.ADC_CH_CFG_ORDER n.val).key := by simp [Fld.key, Reg.ADC_CH_CFG_LEN, Reg.ADC_CH_CFG_ORDER]
  rw [storeAllowed_chCfg]
  have hframe : Frame [.adc] [] [Reg.ADC_CH_CFG_LEN n.val, Reg.ADC_CH_CFG_ORDER n.val] s s := Frame.refl _ _ _ s
  split <;> split
  all_goals simp [State.get_set_other, hkey, hkey.symm, Frame.set, hframe]
  all_goals simp [Reg.ADC_CH_CFG_LEN, Reg.ADC_CH_CFG_ORDER]

/-- What RESTART leaves in LEN, ORDER and the filter. -/
theorem doRestart_spec (s : State) (n : Fin 32) (v : Nat) :
    let t := doRestart n.val v s
    t.get (Reg.ADC_CH_CFG_LEN n.val) = (if v / 256 % 256 = 0 then s.get (Reg.ADC_CH_CFG_LEN n.val) else v / 256 % 256)
      ∧ t.get (Reg.ADC_CH_CFG_ORDER n.val) = (if v % 8 ≤ 4 then v % 8 else s.get (Reg.ADC_CH_CFG_ORDER n.val))
      ∧ (v.testBit 31 = true ∨ t.get (Reg.ADC_CH_CFG_LEN n.val) ≠ s.get (Reg.ADC_CH_CFG_LEN n.val)
          ∨ t.get (Reg.ADC_CH_CFG_ORDER n.val) ≠ s.get (Reg.ADC_CH_CFG_ORDER n.val) → t.filter n.val = {})
      ∧ Frame [.adc] [] [Reg.ADC_CH_CFG_LEN n.val, Reg.ADC_CH_CFG_ORDER n.val] s t := by
  obtain ⟨hlen, horder, hframe⟩ := storeAllowed_chCfg_spec s n v
  obtain ⟨hkept, hempty, -⟩ := (s.storeAllowed (Reg.ADC_CH_CFG_LEN n.val).addr v).restartFilter_spec n.val
  unfold doRestart
  extract_lets addr u t
  by_cases hrestart : v.testBit 31 = true ∨ u.get (Reg.ADC_CH_CFG_LEN n.val) ≠ s.get (Reg.ADC_CH_CFG_LEN n.val)
      ∨ u.get (Reg.ADC_CH_CFG_ORDER n.val) ≠ s.get (Reg.ADC_CH_CFG_ORDER n.val)
  · have ht : t = u.restartFilter n.val := if_pos hrestart
    rw [ht]
    exact ⟨(hkept _).trans hlen, (hkept _).trans horder, fun _ => hempty, hframe.adc (by decide) _⟩
  · have ht : t = u := if_neg hrestart
    rw [ht]
    exact ⟨hlen, horder, fun h => absurd h hrestart, hframe⟩

/-! ### The statement of sequenced samples -/

/-- Settles O12: the pre-wakes fold over the eight converters, a burst without urgent conversions is the instant's slots in order, the words
of a posting stay through all that it sets off, and ADC_CH_CFG stores what its row allows. -/
theorem sequencedSamplesAreCorrectedAndFiltered : Obligations.SequencedSamplesAreCorrectedAndFiltered := by
  unfold Obligations.SequencedSamplesAreCorrectedAndFiltered
  intro s
  refine ⟨fun k h => ?_, fun k hrun => ?_, fun k h => ?_, fun n word level x _ hx => ?_, fun n w => ?_⟩
  · obtain ⟨htick, hrun, hks, hk, hahead⟩ := h
    intro at_ used
    have heq := doConverterPrewake_of_ahead (State.instantAhead_of_inTick hrun htick hahead) hks hk
    obtain ⟨hframe, hcad⟩ := foldl_prewake_frame (List.range 8) ((Frame.refl _ _ _ s).reach (by decide) at_)
    refine ⟨_, rfl, ?_⟩
    rw [heq]
    refine ⟨fun c => ?_, fun hlater hat => ?_, hframe⟩
    · obtain ⟨hbusy, hawake⟩ := foldl_prewake_bits (cs := List.range 8) (by simp) (s.reach at_) c.val
      simp only [List.mem_range, c.isLt, decide_true, Bool.true_and] at hbusy hawake
      exact ⟨hbusy, hawake⟩
    · exact (congrArg CadState.time hcad).trans (State.now_reach hlater hat)
  · obtain ⟨hprewake, hinstant⟩ := sampling_of_stopped hrun k.val
    exact ⟨⟨_, rfl, hprewake⟩, ⟨_, rfl, hinstant⟩⟩
  · obtain ⟨htick, hrun, hks, hk, hurg⟩ := h
    intro at_
    have heq := doSamplingInstant_of_no_urgent htick hrun hks hk hurg
    refine ⟨_, rfl, ?_⟩
    rw [heq]
    refine ⟨State.now_reach, fun i c hi => ?_, fun x hx => ?_, ((Frame.refl _ _ _ s).reach (by decide) at_).adc (by decide) _⟩
    · refine List.mem_append_right _ ((s.mem_burst at_ _).mpr ⟨i.val, i.isLt, c.val, c.isLt, hi, ?_⟩)
      simp only [State.muxOf, Nat.shiftRight_eq_div_pow]
    · rcases List.mem_append.mp hx with hx | hx
      · exact .inl hx
      · obtain ⟨i, hi, c, -, -, rfl⟩ := (s.mem_burst at_ x).mp hx
        exact .inr ⟨⟨i, hi⟩, rfl, rfl⟩
  · obtain ⟨hraw, hcad, hdue, hfilt, hmem, hpending⟩ := doResultPost_spec hx word level
    refine ⟨_, rfl, hraw, fun hlater hat => ?_, hdue, hfilt, fun a => ?_, hpending⟩
    · exact (congrArg CadState.time hcad).trans (State.now_reach hlater hat)
    · rw [State.byteAt, hmem, State.byteAt]
  · obtain ⟨hlen, horder, hfilter, hframe⟩ := doRestart_spec s n w.toNat
    exact ⟨_, rfl, hlen, horder, fun h => hfilter h, hframe⟩

end Sys2Proof.Machine
end

section
/-!
The control engine's program words: their fields, and the decoding of each format.
-/

namespace Sys2Proof.Machine

/-! ### The fields of a program word (R81) -/

section

variable {op d s t f : Nat}

theorem encR_toNat (hop : op < 64) (hd : d < 16) (hs : s < 16) (hf : t * 2 ^ 14 + f < 2 ^ 18) :
    (encR op d s t f).toNat = op * 2 ^ 26 + d * 2 ^ 22 + s * 2 ^ 18 + t * 2 ^ 14 + f := by
  rw [encR, BitVec.toNat_ofNat]
  omega

theorem encR_op (hop : op < 64) (hd : d < 16) (hs : s < 16) (hf : t * 2 ^ 14 + f < 2 ^ 18) : (encR op d s t f).toNat >>> 26 = op := by
  rw [encR_toNat hop hd hs hf, Nat.shiftRight_eq_div_pow]
  omega

theorem encR_d (hop : op < 64) (hd : d < 16) (hs : s < 16) (hf : t * 2 ^ 14 + f < 2 ^ 18) :
    Fin.ofNat 16 ((encR op d s t f).toNat >>> 22) = Fin.ofNat 16 d := by
  rw [encR_toNat hop hd hs hf, Nat.shiftRight_eq_div_pow]
  exact Fin.ext (by simp only [Fin.ofNat]; omega)

theorem encR_s (hop : op < 64) (hd : d < 16) (hs : s < 16) (hf : t * 2 ^ 14 + f < 2 ^ 18) :
    Fin.ofNat 16 ((encR op d s t f).toNat >>> 18) = Fin.ofNat 16 s := by
  rw [encR_toNat hop hd hs hf, Nat.shiftRight_eq_div_pow]
  exact Fin.ext (by simp only [Fin.ofNat]; omega)

theorem encR_t (hop : op < 64) (hd : d < 16) (hs : s < 16) (ht : t < 16) (hf : f < 2 ^ 14) :
    Fin.ofNat 16 ((encR op d s t f).toNat >>> 14) = Fin.ofNat 16 t := by
  rw [encR_toNat hop hd hs (by omega), Nat.shiftRight_eq_div_pow]
  exact Fin.ext (by simp only [Fin.ofNat]; omega)

theorem encR_f (hop : op < 64) (hd : d < 16) (hs : s < 16) (ht : t < 16) (hf : f < 2 ^ 14) :
    (encR op d s t f).toNat % 2 ^ 14 = f := by
  rw [encR_toNat hop hd hs (by omega)]
  omega

end

theorem fBit_lt (b : Bool) : fBit b < 2 := by cases b <;> decide

theorem fBit_beq_one (b : Bool) : (fBit b == 1) = b := by cases b <;> rfl

theorem whenOk_true {α : Type} (x : α) : whenOk true x = some x := rfl

theorem testBit_of_div {n i : Nat} {b : Bool} (h : n / 2 ^ i % 2 = b.toNat) : n.testBit i = b := by
  rw [Nat.testBit_eq_decide_div_mod_eq, h]
  cases b <;> rfl

theorem finOfNat_val {n : Nat} [NeZero n] (a : Fin n) : Fin.ofNat n a.val = a := Fin.cast_val_eq_self a

/-! ### Decoding by formats (R82) -/

/-- Format R with F of one bit. -/
theorem cleDecode_encR_bit (d s t : Fin 16) (b : Bool) :
    cleDecode (encR 0x10 d s t (fBit b)) = some (.cleAdd d s t b) ∧ cleDecode (encR 0x11 d s t (fBit b)) = some (.cleSub d s t b)
    ∧ cleDecode (encR 0x16 d s t (fBit b)) = some (.cleMinmax d s t b) ∧ cleDecode (encR 0x22 d s t (fBit b)) = some (.cleDmac d s t b)
    ∧ cleDecode (encR 0x24 d s 0 (fBit b)) = some (.cleAld d s b) ∧ cleDecode (encR 0x26 d s t (fBit b)) = some (.cleAadd d s t b) := by
  have hF := fBit_lt b
  simp (disch := omega) only [cleDecode, encR_op, encR_d, encR_s, encR_t, encR_f, finOfNat_val, fBit_beq_one, hF, decide_true,
    Fin.ofNat_zero, beq_self_eq_true, Bool.and_self, whenOk_true, and_self]

/-- Format R with F 0. -/
theorem cleDecode_encR_zero (d s t : Fin 16) :
    cleDecode (encR 0x12 d s 0 0) = some (.cleNeg d s) ∧ cleDecode (encR 0x13 d s 0 0) = some (.cleAbs d s)
    ∧ cleDecode (encR 0x14 d s t 0) = some (.cleMul d s t) ∧ cleDecode (encR 0x15 d s t 0) = some (.cleDiv d s t)
    ∧ cleDecode (encR 0x17 d s t 0) = some (.cleClamp d s t)
    ∧ cleDecode (encR 0x1A d s 0 0) = some (.cleMov d s) ∧ cleDecode (encR 0x1D 0 s t 0) = some (.cleCmp s t)
    ∧ cleDecode (encR 0x20 d s t 0) = some (.cleMac d s t) ∧ cleDecode (encR 0x21 d s t 0) = some (.cleMsu d s t)
    ∧ cleDecode (encR 0x23 d s t 0) = some (.cleMpy d s t)
    ∧ cleDecode (encR 0x28 d s 0 0) = some (.cleSincos d s) ∧ cleDecode (encR 0x29 d s 0 0) = some (.cleSqrt d s) := by
  simp (disch := omega) only [cleDecode, encR_op, encR_d, encR_s, encR_t, encR_f, finOfNat_val,
    Fin.ofNat_zero, beq_self_eq_true, Bool.and_self, whenOk_true, and_self]

/-- Format R with a number in F. -/
theorem cleDecode_cleLogic (d s t : Fin 16) (op : Fin 4) : cleDecode (encR 0x1C d s t op) = some (.cleLogic d s t op) := by
  have hF := op.isLt
  simp (disch := omega) only [cleDecode, encR_op, encR_d, encR_s, encR_t, encR_f, finOfNat_val, hF, decide_true, whenOk_true]

theorem cleDecode_cleSel (d s t c : Fin 16) : cleDecode (encR 0x1E d s t c) = some (.cleSel d s t c) := by
  have hF := c.isLt
  simp (disch := omega) only [cleDecode, encR_op, encR_d, encR_s, encR_t, encR_f, finOfNat_val, hF, decide_true, whenOk_true]

theorem cleDecode_cleExt (d s c : Fin 16) : cleDecode (encR 0x25 d s 0 c) = some (.cleExt d s c) := by
  have hF := c.isLt
  simp (disch := omega) only [cleDecode, encR_op, encR_d, encR_s, encR_t, encR_f, finOfNat_val, hF, decide_true,
    Fin.ofNat_zero, beq_self_eq_true, Bool.and_self, whenOk_true]

/-- SH: AMT, REG and KIND share F. -/
theorem cleDecode_cleSh (d s t : Fin 16) (amt : Fin 64) (b : Bool) (kind : Fin 8) :
    cleDecode (encR 0x1B d s t (amt.val * 256 + (if b then 128 else 0) + kind.val)) = some (.cleSh d s t amt b kind) := by
  have hreg : (if b then 128 else 0) = b.toNat * 128 := by cases b <;> rfl
  have hb := b.toNat_lt
  rw [hreg]
  generalize hF : amt.val * 256 + b.toNat * 128 + kind.val = f
  have hgap : (f >>> 3) % 16 = 0 := by rw [Nat.shiftRight_eq_div_pow]; omega
  have hamt : Fin.ofNat 64 (f >>> 8) = amt := Fin.ext (by rw [Nat.shiftRight_eq_div_pow]; simp only [Fin.ofNat]; omega)
  have hkind : Fin.ofNat 8 f = kind := Fin.ext (by simp only [Fin.ofNat]; omega)
  have hbit : f.testBit 7 = b := testBit_of_div (by omega)
  simp (disch := omega) only [cleDecode, encR_op, encR_d, encR_s, encR_t, encR_f, finOfNat_val, hgap, hamt, hkind, hbit,
    beq_self_eq_true, whenOk_true]

/-- SETX: SRC and the immediate share F; the index register stands in D. -/
theorem cleDecode_cleSetx (x : Fin 4) (s : Fin 16) (b : Bool) (imm : BitVec 12) :
    cleDecode (encR 0x1F x s 0 ((if b then 4096 else 0) + imm.toNat)) = some (.cleSetx x s b imm) := by
  have hsrc : (if b then 4096 else 0) = b.toNat * 4096 := by cases b <;> rfl
  have hb := b.toNat_lt
  have himm := imm.isLt
  rw [hsrc]
  generalize hf : b.toNat * 4096 + imm.toNat = f
  have hF : f < 8192 := by omega
  have hn := encR_toNat (op := 0x1F) (d := x) (s := s) (t := 0) (f := f) (by omega) (by omega) (by omega) (by omega)
  have hbit : (encR 0x1F x s 0 f).toNat.testBit 12 = b := testBit_of_div (by rw [hn]; omega)
  have hlow : BitVec.ofNat 12 (encR 0x1F x s 0 f).toNat = imm := BitVec.eq_of_toNat_eq (by rw [BitVec.toNat_ofNat, hn]; omega)
  have hx : (Fin.ofNat 16 x.val).val = x.val := Nat.mod_eq_of_lt (by omega)
  simp (disch := omega) only [cleDecode, encR_op, encR_d, encR_s, encR_t, encR_f, finOfNat_val, hx, x.isLt, hbit, hlow, hF, decide_true,
    Fin.ofNat_zero, beq_self_eq_true, Bool.and_self, whenOk_true]

/-- MOVI and MOVL: the immediate takes the place of T and F, or of F. -/
theorem cleDecode_cleMovi (d : Fin 16) (imm : BitVec 18) : cleDecode (encR 0x18 d 0 0 imm.toNat) = some (.cleMovi d imm) := by
  have himm := imm.isLt
  have hn := encR_toNat (op := 0x18) (d := d) (s := 0) (t := 0) (f := imm.toNat) (by omega) (by omega) (by omega) (by omega)
  have hlow : BitVec.ofNat 18 (encR 0x18 d 0 0 imm.toNat).toNat = imm :=
    BitVec.eq_of_toNat_eq (by rw [BitVec.toNat_ofNat, hn]; omega)
  simp (disch := omega) only [cleDecode, encR_op, encR_d, encR_s, finOfNat_val, hlow, Fin.ofNat_zero, beq_self_eq_true, whenOk_true]

theorem cleDecode_cleMovl (d : Fin 16) (imm : BitVec 14) : cleDecode (encR 0x19 d 0 0 imm.toNat) = some (.cleMovl d imm) := by
  have himm := imm.isLt
  have hn := encR_toNat (op := 0x19) (d := d) (s := 0) (t := 0) (f := imm.toNat) (by omega) (by omega) (by omega) (by omega)
  have hlow : BitVec.ofNat 14 (encR 0x19 d 0 0 imm.toNat).toNat = imm :=
    BitVec.eq_of_toNat_eq (by rw [BitVec.toNat_ofNat, hn]; omega)
  simp (disch := omega) only [cleDecode, encR_op, encR_d, encR_s, encR_t, finOfNat_val, hlow, Fin.ofNat_zero, beq_self_eq_true, Bool.and_self,
    whenOk_true]

/-! Format M. -/

theorem encM_toNat {op : Nat} (hop : op < 64) (d : Fin 16) (m : MemOperand) (fr u : Bool) :
    (encM op d m fr u).toNat = op * 2 ^ 26 + d * 2 ^ 22 + m.xi * 2 ^ 20 + m.xb.toNat * 2 ^ 19 + m.inc.toNat * 2 ^ 18 + fr.toNat * 2 ^ 13
      + u.toNat * 2 ^ 12 + m.ofs := by
  have hbit (b : Bool) (w : Nat) : (if b then w else 0) = b.toNat * w := by cases b <;> simp
  have hxb := m.xb.toNat_lt
  have hinc := m.inc.toNat_lt
  have hfr := fr.toNat_lt
  have hu := u.toNat_lt
  rw [encM, BitVec.toNat_ofNat, hbit, hbit, hbit, hbit]
  omega

theorem encM_bits {op : Nat} (hop : op < 64) (d : Fin 16) (m : MemOperand) (fr u : Bool) :
    (encM op d m fr u).toNat.testBit 19 = m.xb ∧ (encM op d m fr u).toNat.testBit 18 = m.inc
      ∧ (encM op d m fr u).toNat.testBit 13 = fr ∧ (encM op d m fr u).toNat.testBit 12 = u := by
  have hxb := m.xb.toNat_lt
  have hinc := m.inc.toNat_lt
  have hfr := fr.toNat_lt
  have hu := u.toNat_lt
  rw [encM_toNat hop]
  refine ⟨testBit_of_div ?_, testBit_of_div ?_, testBit_of_div ?_, testBit_of_div ?_⟩ <;> omega

theorem encM_op {op : Nat} (hop : op < 64) (d : Fin 16) (m : MemOperand) (fr u : Bool) : (encM op d m fr u).toNat >>> 26 = op := by
  have hxb := m.xb.toNat_lt
  have hinc := m.inc.toNat_lt
  have hfr := fr.toNat_lt
  have hu := u.toNat_lt
  rw [encM_toNat hop, Nat.shiftRight_eq_div_pow]
  omega

theorem encM_d {op : Nat} (hop : op < 64) (d : Fin 16) (m : MemOperand) (fr u : Bool) : Fin.ofNat 16 ((encM op d m fr u).toNat >>> 22) = d := by
  have hxb := m.xb.toNat_lt
  have hinc := m.inc.toNat_lt
  have hfr := fr.toNat_lt
  have hu := u.toNat_lt
  rw [encM_toNat hop, Nat.shiftRight_eq_div_pow]
  exact Fin.ext (by simp only [Fin.ofNat]; omega)

/-- The operand of format M is read back; FR and U are taken only for LDS. -/
theorem decodeM_encM {op : Nat} (hop : op < 64) (d : Fin 16) (m : MemOperand) {fr u lds : Bool} (hlds : lds = false → fr = false ∧ u = false) :
    decodeM (encM op d m fr u).toNat lds = some m := by
  obtain ⟨hbxb, hbinc, -, -⟩ := encM_bits hop d m fr u
  have hxb := m.xb.toNat_lt
  have hinc := m.inc.toNat_lt
  have hfr := fr.toNat_lt
  have hu := u.toNat_lt
  have hn := encM_toNat hop d m fr u
  have hgap : ¬((encM op d m fr u).toNat >>> 14 % 16 ≠ 0 ∨ lds = false ∧ (encM op d m fr u).toNat >>> 12 % 4 ≠ 0) := by
    rw [hn, Nat.shiftRight_eq_div_pow, Nat.shiftRight_eq_div_pow]
    rintro (h | ⟨h, h'⟩)
    · omega
    · obtain ⟨rfl, rfl⟩ := hlds h
      simp only [Bool.toNat_false] at h'
      omega
  have hxi : Fin.ofNat 4 ((encM op d m fr u).toNat >>> 20) = m.xi :=
    Fin.ext (by rw [hn, Nat.shiftRight_eq_div_pow]; simp only [Fin.ofNat]; omega)
  have hofs : Fin.ofNat 4096 (encM op d m fr u).toNat = m.ofs := Fin.ext (by rw [hn]; simp only [Fin.ofNat]; omega)
  rw [decodeM, if_neg hgap, hbxb, hbinc, hxi, hofs]

theorem cleDecode_encM (d : Fin 16) (m : MemOperand) (fr u : Bool) :
    cleDecode (encM 0x08 d m false false) = some (.cleLd d m) ∧ cleDecode (encM 0x09 d m false false) = some (.cleSt d m)
    ∧ cleDecode (encM 0x0A d m false false) = some (.cleLd2 d m) ∧ cleDecode (encM 0x0B d m false false) = some (.cleSt2 d m)
    ∧ cleDecode (encM 0x0C d m false false) = some (.cleLdx d m) ∧ cleDecode (encM 0x0D d m false false) = some (.cleStx d m)
    ∧ cleDecode (encM 0x0E d m fr u) = some (.cleLds d m fr u) := by
  have hmem {op : Nat} (hop : op < 64) : decodeM (encM op d m false false).toNat false = some m := decodeM_encM hop d m fun _ => ⟨rfl, rfl⟩
  have hlds : decodeM (encM 0x0E d m fr u).toNat true = some m := decodeM_encM (by decide) d m fun h => absurd h (by decide)
  obtain ⟨-, -, hfr, hu⟩ := encM_bits (op := 0x0E) (by decide) d m fr u
  simp (disch := decide) only [cleDecode, encM_op, encM_d, hmem, hlds, hfr, hu, Option.map_some, and_self]

/-! Formats with one number in the low 26 bits. -/

theorem encWord_toNat {op low : Nat} (hop : op < 64) (hlow : low < 2 ^ 26) : (encWord op low).toNat = op * 2 ^ 26 + low := by
  rw [encWord, BitVec.toNat_ofNat]
  omega

theorem encWord_op {op low : Nat} (hop : op < 64) (hlow : low < 2 ^ 26) : (encWord op low).toNat >>> 26 = op := by
  rw [encWord_toNat hop hlow, Nat.shiftRight_eq_div_pow]
  omega

theorem cleDecode_cleBr (c : Fin 16) (target : Fin 16384) : cleDecode (encWord 0x03 (c.val * 2 ^ 22 + target.val)) = some (.cleBr c target) := by
  have hop := encWord_op (op := 0x03) (low := c.val * 2 ^ 22 + target.val) (by omega) (by omega)
  have hn := encWord_toNat (op := 0x03) (low := c.val * 2 ^ 22 + target.val) (by omega) (by omega)
  generalize encWord 0x03 (c.val * 2 ^ 22 + target.val) = word at hop hn ⊢
  have hc : Fin.ofNat 16 (word.toNat >>> 22) = c := Fin.ext (by rw [Nat.shiftRight_eq_div_pow]; simp only [Fin.ofNat]; omega)
  have hs : Fin.ofNat 16 (word.toNat >>> 18) = 0 := Fin.ext (by rw [Nat.shiftRight_eq_div_pow]; simp only [Fin.ofNat]; omega)
  have ht : Fin.ofNat 16 (word.toNat >>> 14) = 0 := Fin.ext (by rw [Nat.shiftRight_eq_div_pow]; simp only [Fin.ofNat]; omega)
  have htarget : Fin.ofNat 16384 word.toNat = target := Fin.ext (by simp only [Fin.ofNat]; omega)
  simp only [cleDecode, hop, hc, hs, ht, htarget, beq_self_eq_true, Bool.and_self, whenOk_true]

theorem cleDecode_cleLoop (count : Fin 4096) (last : Fin 16384) :
    cleDecode (encWord 0x04 (count.val * 2 ^ 14 + last.val)) = some (.cleLoop count last) := by
  have hop := encWord_op (op := 0x04) (low := count.val * 2 ^ 14 + last.val) (by omega) (by omega)
  have hn := encWord_toNat (op := 0x04) (low := count.val * 2 ^ 14 + last.val) (by omega) (by omega)
  generalize encWord 0x04 (count.val * 2 ^ 14 + last.val) = word at hop hn ⊢
  have hcount : Fin.ofNat 4096 (word.toNat >>> 14) = count := Fin.ext (by rw [Nat.shiftRight_eq_div_pow]; simp only [Fin.ofNat]; omega)
  have hlast : Fin.ofNat 16384 word.toNat = last := Fin.ext (by simp only [Fin.ofNat]; omega)
  simp only [cleDecode, hop, hcount, hlast]

theorem cleDecode_cleRuno (obj : Fin 256) : cleDecode (encWord 0x05 (obj.val * 2 ^ 18)) = some (.cleRuno obj) := by
  have hop := encWord_op (op := 0x05) (low := obj.val * 2 ^ 18) (by omega) (by omega)
  have hn := encWord_toNat (op := 0x05) (low := obj.val * 2 ^ 18) (by omega) (by omega)
  generalize encWord 0x05 (obj.val * 2 ^ 18) = word at hop hn ⊢
  have hobj : Fin.ofNat 256 (word.toNat >>> 18) = obj := Fin.ext (by rw [Nat.shiftRight_eq_div_pow]; simp only [Fin.ofNat]; omega)
  have hgap : word.toNat % 2 ^ 18 = 0 := by omega
  simp only [cleDecode, hop, hobj, hgap, beq_self_eq_true, whenOk_true]

theorem cleDecode_cleWaitt (cnt : Fin 65536) : cleDecode (encWord 0x06 cnt.val) = some (.cleWaitt cnt) := by
  have hop := encWord_op (op := 0x06) (low := cnt.val) (by omega) (by omega)
  have hn := encWord_toNat (op := 0x06) (low := cnt.val) (by omega) (by omega)
  generalize encWord 0x06 cnt.val = word at hop hn ⊢
  have hcnt : Fin.ofNat 65536 word.toNat = cnt := Fin.ext (by simp only [Fin.ofNat]; omega)
  have hgap : (word.toNat >>> 16) % 2 ^ 10 = 0 := by rw [Nat.shiftRight_eq_div_pow]; omega
  simp only [cleDecode, hop, hcnt, hgap, beq_self_eq_true, whenOk_true]

/-- A word whose opcode R82 leaves undefined decodes to nothing. -/
theorem cleDecode_of_undefined {word : Word} (h : opDefined (word.toNat >>> 26) = false) : cleDecode word = none := by
  simp only [cleDecode]
  generalize word.toNat >>> 26 = op at h ⊢
  split
  case h_39 => rfl
  all_goals exact absurd h (by decide)

theorem opDefined_eq_false : ∀ op : Fin 64, op.val ∈ [0x00, 0x07, 0x0F, 0x27, 0x2A, 0x2B, 0x2C, 0x2D, 0x2E, 0x2F] ∨ 0x30 ≤ op.val →
    opDefined op.val = false := by decide

/-- Settles O14: in each format the fields are read back from the word, and an opcode that R82 leaves undefined decodes to nothing. -/
theorem cleWordsDecodeToTheirInstructions : Obligations.CleWordsDecodeToTheirInstructions := by
  unfold Obligations.CleWordsDecodeToTheirInstructions
  refine ⟨fun d s t b => ?_, cleDecode_cleMovi, cleDecode_cleMovl, cleDecode_encM, cleDecode_cleBr, cleDecode_cleLoop, cleDecode_cleRuno,
    cleDecode_cleWaitt, by decide, by decide, fun op low hop => cleDecode_of_undefined ?_⟩
  · obtain ⟨hadd, hsub, hminmax, hdmac, hald, haadd⟩ := cleDecode_encR_bit d s t b
    obtain ⟨hneg, habs, hmul, hdiv, hclamp, hmov, hcmp, hmac, hmsu, hmpy, hsincos, hsqrt⟩ := cleDecode_encR_zero d s t
    exact ⟨hadd, hsub, hneg, habs, hmul, hdiv, hminmax, hclamp, hmov, hcmp, hmac, hmsu, hdmac, hmpy, hald, haadd, hsincos, hsqrt,
      cleDecode_cleLogic d s t, fun c => ⟨cleDecode_cleSel d s t c, cleDecode_cleExt d s c⟩,
      fun amt kind => cleDecode_cleSh d s t amt b kind, fun x imm => cleDecode_cleSetx x s b imm⟩
  · rw [encWord_op op.isLt low.isLt]
    exact opDefined_eq_false op hop

end Sys2Proof.Machine
end

section
/-!
The control engine's run: the issue of an instruction, and its effects on the words, accumulators, flags and counters.
-/

namespace Sys2Proof.Machine

/-! ### The issue of an instruction (R80) -/

/-- The next instruction of the run in progress issues, and meets neither the Solve deadline nor a parity error nor an injection. -/
def State.CleReady (s : State) : Prop :=
  s.get Reg.CLE_STAT_STATE = 2 ∧ max s.now s.cle.issue < s.cad.tickStart + s.get Reg.CAD_DL_SOLVE_DL
    ∧ max s.now s.cle.issue < 0x10000000000000000 ∧ s.cle.pc < 16384 ∧ s.cle.progBad.contains s.cle.pc = false
    ∧ s.get Reg.FLT_INJ_CTRL_ARM = 0

/-- The state in which an instruction of `c` cycles acts: its clock has come, and the next issue is fixed. -/
def State.issued (s : State) (c : Nat) : State :=
  { s.reach s.cle.issue with cle := { s.cle with issue := (s.reach s.cle.issue).now + c } }

section

variable {s : State}

theorem State.now_reach_issue (h : max s.now s.cle.issue < 0x10000000000000000) : (s.reach s.cle.issue).now = max s.now s.cle.issue := by
  rcases Nat.lt_or_ge s.now s.cle.issue with hlt | hge
  · rw [State.now_reach hlt (by omega)]
    omega
  · rw [State.now] at hge
    simp [State.now, State.reach, Nat.not_lt.mpr hge, hge]

theorem State.CleReady.now_reach (h : s.CleReady) : (s.reach s.cle.issue).now = max s.now s.cle.issue := by
  obtain ⟨-, -, hlt, -⟩ := h
  exact State.now_reach_issue hlt

theorem State.CleReady.canIssue (h : s.CleReady) : s.cleCanIssue = true := by
  obtain ⟨hstate, hsolve, -⟩ := h
  simp [State.cleCanIssue, State.solveTime, hstate, hsolve]

/-- No injection is armed, so no read of the engine meets one (R386). -/
theorem State.not_injected (h : s.get Reg.FLT_INJ_CTRL_ARM = 0) (chk arg : Nat) : s.injected chk arg = false := by
  simp [State.injected, State.on, h]

theorem State.cleEcc_of_disarmed (h : s.get Reg.FLT_INJ_CTRL_ARM = 0) (chk word : Nat) (o : FaultOrigin) : s.cleEcc chk word o = s := by
  simp [State.cleEcc, State.not_injected h]

/-- A defined instruction takes its cycles and acts; an undefined one stops the run where it stands (R80, R91, R92). -/
theorem cleIssue_of_ready (h : s.CleReady) (word : Word) (undef : Bool) (c : Nat) (f : State → State) :
    s.cleIssue word undef c f = if undef then (s.reach s.cle.issue).cleUndef word false else f (s.issued c) := by
  have hgo := h.canIssue
  obtain ⟨-, -, -, hpc, hparity, harm⟩ := h
  have hinjected : (s.reach s.cle.issue).injected 10 (s.reach s.cle.issue).cle.pc = false := State.not_injected (s := s.reach s.cle.issue) harm _ _
  have hpc' : ¬16384 ≤ (s.reach s.cle.issue).cle.pc := Nat.not_le.mpr hpc
  have hparity' : (s.reach s.cle.issue).cle.progBad.contains (s.reach s.cle.issue).cle.pc = false := hparity
  simp only [State.cleIssue, hgo, hinjected, hpc', hparity', Bool.true_eq_false, Bool.false_eq_true, if_false, Bool.false_or]
  rfl

theorem clePlain_of_ready (h : s.CleReady) (word : Word) {undef : Bool} (hdef : undef = false) (c : Nat) (f : State → State) :
    s.clePlain word undef c f = (f (s.issued c)).cleNext := by
  rw [State.clePlain, cleIssue_of_ready h, hdef]
  rfl

/-- An instruction that only computes does what its effect followed by the step to the next address does. -/
theorem does_plain {i : Instr} {word : Word} {undef : Bool} {c : Nat} {f : State → State} {P : State → Prop} (h : s.CleReady)
    (hexec : exec i s = .next (s.clePlain word undef c f)) (hdef : undef = false) (hP : P (f (s.issued c)).cleNext) : Does i s P :=
  ⟨_, hexec, by rwa [clePlain_of_ready h word hdef]⟩

end

/-- What the issue of an instruction of `c` cycles does to time and place: TIME, the next issue and, outside loops, the address (R80, R88). -/
def CleTook (s : State) (c : Nat) (t : State) : Prop :=
  t.now = max s.now s.cle.issue ∧ t.cle.issue = max s.now s.cle.issue + c ∧ (s.cle.loops = [] → t.cle.pc = s.cle.pc + 1)

/-- An effect that leaves time, place and loops alone. -/
structure KeepsPlace (u v : State) : Prop where
  cad : v.cad = u.cad
  issue : v.cle.issue = u.cle.issue
  loops : v.cle.loops = u.cle.loops
  pc : v.cle.pc = u.cle.pc

theorem CleTook.of_keepsPlace {s v : State} {c : Nat} (h : s.CleReady) (hv : KeepsPlace (s.issued c) v) : CleTook s c v.cleNext := by
  obtain ⟨hcad, hissue, hloops, hpc⟩ := hv
  refine ⟨?_, ?_, fun hnone => ?_⟩
  · rw [← h.now_reach]
    exact congrArg CadState.time hcad
  · rw [← h.now_reach]
    exact hissue
  · have hv : v.cle.loops = [] := hloops.trans hnone
    simp only [State.cleNext, State.cleAfter, hv, loopNext, hpc]
    rfl

/-! ### Frames of the engine's effects -/

section

variable {ps : List Part} {bs : List Nat} {fs : List Fld} {s t : State}

/-- A frame extends over a change of the parts it names that keeps the registers. -/
theorem Frame.cle (h : Frame ps bs fs s t) (hp : .cle ∈ ps) (c : CleState) : Frame ps bs fs s { t with cle := c } :=
  h.parts rfl (fun p hmem => by cases p <;> simp_all [Part.same, State.byteAt])

theorem Frame.issued (hcad : .cad ∈ ps) (hcle : .cle ∈ ps) (c : Nat) : Frame ps bs fs s (s.issued c) :=
  ((Frame.refl ps bs fs s).reach hcad _).cle hcle _

theorem Frame.cleNext (h : Frame ps bs fs s t) (hp : .cle ∈ ps) : Frame ps bs fs s t.cleNext := h.cle hp _

theorem Frame.flagZnv (h : Frame ps bs fs s t) (hp : .cle ∈ ps) (hf : Reg.CLE_SAT_CNT_COUNT ∈ fs) (r : Int) (v : Bool) :
    Frame ps bs fs s (t.flagZnv r v) := by
  unfold State.flagZnv
  split
  · exact (h.cle hp _).set hf _
  · exact h.cle hp _

end

/-! ### Flags and counters (R83, R86, R111) -/

/-- A counter counts on and stops at its maximum (R347). -/
theorem State.get_count_same (s : State) (f : Fld) (n : Nat) : (s.count f n).get f = min (s.get f + n) (2 ^ f.width - 1) := by
  have hpos : 0 < 2 ^ f.width := Nat.two_pow_pos _
  rw [State.count, State.get_set_same, satAdd, Nat.mod_eq_of_lt (by omega), Nat.min_comm]

@[simp] theorem State.flagZnv_cle (s : State) (r : Int) (v : Bool) :
    (s.flagZnv r v).cle = { s.cle with flags := { s.cle.flags with z := decide (r = 0), n := decide (r < 0), v := v } } := by
  unfold State.flagZnv
  split <;> rfl

@[simp] theorem State.flagZnv_cad (s : State) (r : Int) (v : Bool) : (s.flagZnv r v).cad = s.cad := by
  unfold State.flagZnv
  split <;> rfl

theorem State.flagZnv_satCnt (s : State) (r : Int) (v : Bool) : (s.flagZnv r v).get Reg.CLE_SAT_CNT_COUNT
    = if v then min (s.get Reg.CLE_SAT_CNT_COUNT + 1) 0xFFFFFFFF else s.get Reg.CLE_SAT_CNT_COUNT := by
  unfold State.flagZnv
  split
  · exact State.get_count_same _ _ _
  · rfl

theorem State.flagZnv_get_other (s : State) (r : Int) (v : Bool) {f : Fld} (hf : f.key ≠ Reg.CLE_SAT_CNT_COUNT.key) :
    (s.flagZnv r v).get f = s.get f := by
  unfold State.flagZnv
  split
  · exact State.get_set_other _ _ _ _ hf
  · rfl

/-- Where the words and accumulators are `w` and `a` after an effect, the flags of a result change neither time nor place, and of the
registers the count of V alone. -/
theorem flagZnv_took {s : State} (h : s.CleReady) (c : Nat) (w : Tbl Word) (a : Tbl (BitVec 72)) (r : Int) (v : Bool) :
    let u : State := { s.issued c with cle := { (s.issued c).cle with w := w, acc := a } }
    CleTook s c (u.flagZnv r v).cleNext
      ∧ ∀ fs, Reg.CLE_SAT_CNT_COUNT ∈ fs → Frame [.cad, .cle] [] fs s (u.flagZnv r v).cleNext := by
  intro u
  refine ⟨.of_keepsPlace h (by constructor <;> cases v <;> rfl), fun fs hfs => ?_⟩
  have hframe : Frame [.cad, .cle] [] fs s u := (Frame.issued (by decide) (by decide) c).cle (by decide) _
  exact (hframe.flagZnv (by decide) hfs r v).cleNext (by decide)

/-! ### Words and accumulators (R79, R83) -/

theorem State.wInt_setW (s : State) (d : Nat) (v : Word) (j : Nat) : (s.setW d v).wInt j = if j = d then v.toInt else s.wInt j := by
  split
  · next h => simp [State.wInt, State.setW, h]
  · next h => exact congrArg BitVec.toInt (tblGet_set_other _ _ _ _ _ _ h)

theorem State.wNat_setW (s : State) (d : Nat) (v : Word) (j : Nat) : (s.setW d v).wNat j = if j = d then v.toNat else s.wNat j := by
  split
  · next h => simp [State.wNat, State.setW, h]
  · next h => exact congrArg BitVec.toNat (tblGet_set_other _ _ _ _ _ _ h)

theorem State.accInt_setAcc (s : State) (d : Nat) (v : Int) (j : Nat) :
    (s.setAcc d v).accInt j = if j = d then (BitVec.ofInt 72 v).toInt else s.accInt j := by
  split
  · next h => simp [State.accInt, State.setAcc, h]
  · next h => exact congrArg BitVec.toInt (tblGet_set_other _ _ _ _ _ _ h)

/-- A number of the Q1.31 range. -/
def InWord (x : Int) : Prop := -0x80000000 ≤ x ∧ x ≤ 0x7FFFFFFF

theorem InWord.toInt_ofInt {x : Int} (h : InWord x) : (BitVec.ofInt 32 x).toInt = x := by
  obtain ⟨hlo, hhi⟩ := h
  exact BitVec.toInt_ofInt_eq_self (by decide) (by norm_num; omega) (by norm_num; omega)

theorem inWord_toInt (w : Word) : InWord w.toInt := by
  have hlo := BitVec.le_toInt w
  have hhi := @BitVec.toInt_lt 32 w
  exact ⟨by norm_num at hlo; omega, by norm_num at hhi; omega⟩

theorem State.wInt_inWord (s : State) (d : Nat) : InWord (s.wInt d) := inWord_toInt _

theorem inWord_sat32 (x : Int) : InWord (sat32 x) := by
  unfold InWord sat32 clampInt
  omega

theorem InWord.sat32_eq {x : Int} (h : InWord x) : sat32 x = x := by
  obtain ⟨hlo, hhi⟩ := h
  unfold sat32 clampInt
  omega

theorem InWord.wInt_setWInt {x : Int} (h : InWord x) (s : State) (d j : Nat) : (s.setWInt d x).wInt j = if j = d then x else s.wInt j := by
  rw [State.setWInt, State.wInt_setW, h.toInt_ofInt]

/-- A result held to the range is a result in the range, with V where it was not. -/
theorem State.putW_eq_putWv (s : State) (d : Nat) (x : Int) : s.putW d x = s.putWv d (sat32 x) (decide (sat32 x ≠ x)) := by
  have hv : decide (sat32 x ≠ x) = (sat32 x != x) := by rw [decide_not]; rfl
  rw [hv]
  rfl

theorem sat72_toInt (x : Int) : (BitVec.ofInt 72 (sat72 x)).toInt = sat72 x := by
  have hrange : -0x800000000000000000 ≤ sat72 x ∧ sat72 x ≤ 0x7FFFFFFFFFFFFFFFFF := by
    unfold sat72 clampInt
    omega
  exact BitVec.toInt_ofInt_eq_self (by decide) (by norm_num; omega) (by norm_num; omega)

end Sys2Proof.Machine
end

section
/-!
The control engine's arithmetic instructions: each leaves a Q1.31 word with Z, N and V, and nothing else of the engine.
-/

namespace Sys2Proof.Machine

/-! ### The effect of an arithmetic instruction (R83, R86, R111) -/

/-- Z, N and V stand for the result `r`, and a V is counted. -/
def FlagsCounted (s t : State) (r : Int) (v : Bool) : Prop :=
  t.cle.flags = { s.cle.flags with z := decide (r = 0), n := decide (r < 0), v := v }
    ∧ t.get Reg.CLE_SAT_CNT_COUNT = (if v then min (s.get Reg.CLE_SAT_CNT_COUNT + 1) 0xFFFFFFFF else s.get Reg.CLE_SAT_CNT_COUNT)

/-- Nothing of the engine changes but words, flags, the two counters, place and time. -/
def ArithRest (s : State) (c : Nat) (t : State) : Prop :=
  CleTook s c t
    ∧ t.cle = { s.cle with w := t.cle.w, flags := t.cle.flags, pc := t.cle.pc, loops := t.cle.loops, issue := t.cle.issue }
    ∧ Frame [.cad, .cle] [] [Reg.CLE_SAT_CNT_COUNT, Reg.CLE_DZ_CNT_COUNT] s t

/-- An instruction of `c` cycles left `r` in W[D], with V as given. -/
def ArithWrote (s : State) (d : Fin 16) (c : Nat) (r : Int) (v : Bool) (t : State) : Prop :=
  t.wInt d = r ∧ (∀ j : Fin 16, j ≠ d → t.wInt j = s.wInt j) ∧ FlagsCounted s t r v ∧ ArithRest s c t

/-- An instruction of `c` cycles left `x`, held to the range, in W[D]. -/
def ArithExact (s : State) (d : Fin 16) (c : Nat) (x : Int) (t : State) : Prop :=
  ArithWrote s d c (sat32 x) (decide (sat32 x ≠ x)) t ∧ t.get Reg.CLE_DZ_CNT_COUNT = s.get Reg.CLE_DZ_CNT_COUNT

section

variable {s : State}

/-- Where the words are `w` after an effect, Z, N and V follow the result, and the rest stays. -/
theorem flagZnv_arithRest (h : s.CleReady) (c : Nat) (w : Tbl Word) (r : Int) (v : Bool) :
    let u : State := { s.issued c with cle := { (s.issued c).cle with w := w } }
    FlagsCounted s (u.flagZnv r v).cleNext r v ∧ ArithRest s c (u.flagZnv r v).cleNext := by
  intro u
  obtain ⟨htook, hframe⟩ := flagZnv_took h c w s.cle.acc r v
  have hflags : (u.flagZnv r v).cleNext.cle.flags = (u.flagZnv r v).cle.flags := rfl
  refine ⟨⟨by rw [hflags, State.flagZnv_cle]; rfl, u.flagZnv_satCnt r v⟩, htook, ?_, hframe _ (by simp)⟩
  cases v <;> rfl

theorem putWv_arithWrote (h : s.CleReady) (d : Fin 16) (c : Nat) {r : Int} (hr : InWord r) (v : Bool) :
    ArithWrote s d c r v ((s.issued c).putWv d r v).cleNext := by
  have hword (j : Nat) : ((s.issued c).putWv d r v).cleNext.wInt j = if j = d.val then r else s.wInt j := by
    show (((s.issued c).setWInt d r).flagZnv r v).wInt j = _
    rw [State.wInt, State.flagZnv_cle]
    exact hr.wInt_setWInt _ _ _
  exact ⟨(hword d).trans (if_pos rfl), fun j hj => (hword j).trans (if_neg fun e => hj (Fin.ext e)), flagZnv_arithRest h c _ r v⟩

/-- A division by 0 is counted beside. -/
theorem ArithWrote.count_dz {t : State} {d : Fin 16} {c : Nat} {r : Int} {v : Bool} (ht : ArithWrote s d c r v t) :
    ArithWrote s d c r v (t.count Reg.CLE_DZ_CNT_COUNT 1) := by
  obtain ⟨hd, hj, ⟨hflags, hsat⟩, htook, hcle, hframe⟩ := ht
  exact ⟨hd, hj, ⟨hflags, (State.get_set_other _ _ _ _ (by decide)).trans hsat⟩, htook, hcle, hframe.set (by simp) _⟩

theorem putWv_dzCnt (s : State) (c d : Nat) (r : Int) (v : Bool) :
    ((s.issued c).putWv d r v).cleNext.get Reg.CLE_DZ_CNT_COUNT = s.get Reg.CLE_DZ_CNT_COUNT :=
  State.flagZnv_get_other ((s.issued c).setWInt d r) r v (by decide)

theorem putW_arithExact (h : s.CleReady) (d : Fin 16) (c : Nat) (x : Int) : ArithExact s d c x ((s.issued c).putW d x).cleNext := by
  rw [State.putW_eq_putWv]
  exact ⟨putWv_arithWrote h d c (inWord_sat32 x) _, putWv_dzCnt s c d _ _⟩

end

/-! ### Words as numbers -/

theorem signedOf_toNat (w : Word) : signedOf 32 w.toNat = w.toInt := by
  rw [signedOf, Nat.mod_eq_of_lt w.isLt, BitVec.toInt_eq_toNat_cond]
  split <;> split <;> omega

theorem bitsOf_toInt (w : Word) : bitsOf 32 w.toInt = w.toNat := by
  have hlt := w.isLt
  rw [bitsOf, BitVec.toInt_eq_toNat_cond]
  split <;> omega

theorem inWord_signedOf (n : Nat) : InWord (signedOf 32 n) := by
  have hlt : n % 2 ^ 32 < 2 ^ 32 := Nat.mod_lt _ (by decide)
  unfold InWord signedOf
  extract_lets m
  split <;> omega

/-- The low 32 bits of an integer, signed: a sum or difference modulo 2^32 (R83). -/
theorem toInt_ofInt_eq_signedOf (x : Int) : (BitVec.ofInt 32 x).toInt = signedOf 32 (x % 0x100000000).toNat := by
  rw [← signedOf_toNat, BitVec.toNat_ofInt]
  rfl

/-! ### Shifts (R85, R87) -/

theorem roundHalfEven_bounds (x y : Int) : x / y ≤ roundHalfEven x y ∧ roundHalfEven x y ≤ x / y + 1 := by
  unfold roundHalfEven
  extract_lets q r
  split
  · omega
  · split
    · omega
    · split <;> omega

theorem roundHalfEven_one (x : Int) : roundHalfEven x 1 = x := by
  simp [roundHalfEven]

/-- A word shifted right by at least one place. -/
theorem InWord.div_two_pow {x : Int} (h : InWord x) {n : Nat} (hn : n ≠ 0) : -0x40000000 ≤ x / 2 ^ n ∧ x / 2 ^ n < 0x40000000 := by
  obtain ⟨hlo, hhi⟩ := h
  have htwo : (2 : Int) ≤ 2 ^ n := by
    have := Nat.pow_le_pow_right (n := 2) (by decide) (Nat.one_le_iff_ne_zero.mpr hn)
    exact_mod_cast this
  exact ⟨Int.le_ediv_of_mul_le (by omega) (by nlinarith), Int.ediv_lt_of_lt_mul (by omega) (by nlinarith)⟩

/-- A result in the range is itself, without V. -/
theorem InWord.sat32_pair {x : Int} (h : InWord x) : (x, false) = (sat32 x, sat32 x != x) := by
  simp [h.sat32_eq]

section

variable {x : Int} (h : InWord x) (n : Nat)

include h

theorem shiftResult_left : shiftResult 0 x n = (sat32 (x * 2 ^ n), sat32 (x * 2 ^ n) != x * 2 ^ n) := by
  rcases Nat.eq_zero_or_pos n with rfl | hn
  · simp [shiftResult, h.sat32_eq]
  · rw [shiftResult, if_neg (by omega)]
    rfl

theorem shiftResult_right : shiftResult 1 x n = (sat32 (x / 2 ^ n), sat32 (x / 2 ^ n) != x / 2 ^ n) := by
  rcases Nat.eq_zero_or_pos n with rfl | hn
  · simp [shiftResult, h.sat32_eq]
  · obtain ⟨hlo, hhi⟩ := h.div_two_pow (Nat.ne_of_gt hn)
    rw [shiftResult, if_neg (by omega)]
    exact InWord.sat32_pair ⟨by omega, by omega⟩

theorem shiftResult_rounded :
    shiftResult 2 x n = (sat32 (roundHalfEven x (2 ^ n)), sat32 (roundHalfEven x (2 ^ n)) != roundHalfEven x (2 ^ n)) := by
  rcases Nat.eq_zero_or_pos n with rfl | hn
  · simp [shiftResult, roundHalfEven_one, h.sat32_eq]
  · obtain ⟨hlo, hhi⟩ := h.div_two_pow (Nat.ne_of_gt hn)
    obtain ⟨hge, hle⟩ := roundHalfEven_bounds x (2 ^ n)
    rw [shiftResult, if_neg (by omega)]
    exact InWord.sat32_pair ⟨by omega, by omega⟩

end

theorem shiftResult_logicalRight (w : Word) (n : Nat) :
    let y : Int := if n = 0 then w.toInt else ((w.toNat / 2 ^ n : Nat) : Int)
    shiftResult 3 w.toInt n = (sat32 y, sat32 y != y) := by
  rcases Nat.eq_zero_or_pos n with rfl | hn
  · simp [shiftResult, (inWord_toInt w).sat32_eq]
  · have htwo : 2 ≤ 2 ^ n := Nat.pow_le_pow_right (n := 2) (by decide) hn
    have hlt : w.toNat / 2 ^ n < 2 ^ 31 := Nat.div_lt_of_lt_mul (by have := w.isLt; omega)
    have hne : n ≠ 0 := by omega
    simp only [shiftResult, if_neg hne, bitsOf_toInt]
    generalize w.toNat / 2 ^ n = q at hlt
    exact InWord.sat32_pair ⟨by omega, by omega⟩

theorem shiftResult_logicalLeft (w : Word) (n : Nat) :
    let y := signedOf 32 (w.toNat * 2 ^ n)
    shiftResult 4 w.toInt n = (sat32 y, sat32 y != y) := by
  rcases Nat.eq_zero_or_pos n with rfl | hn
  · simp [shiftResult, signedOf_toNat, (inWord_toInt w).sat32_eq]
  · have hshift : shiftResult 4 w.toInt n = (signedOf 32 (bitsOf 32 w.toInt * 2 ^ n), false) := if_neg (by omega)
    rw [hshift, bitsOf_toInt]
    exact InWord.sat32_pair (inWord_signedOf _)

/-- SH by AMT or by a register: the exact shift, held to the range. -/
theorem does_sh {s : State} (h : s.CleReady) {d a b : Fin 16} {amt : Fin 64} {reg : Bool} {kind : Fin 8} {n : Nat} {y : Int}
    (hn : n = if reg then s.wNat b % 256 else amt.val)
    (hdef : (decide (5 ≤ kind.val) || (if reg then amt.val != 0 else b.val != 0)) = false)
    (hy : shiftResult kind (s.wInt a) n = (sat32 y, sat32 y != y)) : Does (.cleSh d a b amt reg kind) s (ArithExact s d 1 y) := by
  refine does_plain h rfl hdef ?_
  have hput : (s.issued 1).putWv d (shiftResult kind (s.wInt a) n).1 (shiftResult kind (s.wInt a) n).2 = (s.issued 1).putW d y := by
    rw [hy]
    rfl
  have hexact := putW_arithExact h d 1 y
  rw [← hput, hn] at hexact
  exact hexact

/-! ### The statement -/

/-- Settles O15: each instruction acts in the state of its issue by `putW` or `putWv`, and the result of each is its exact value held to the
range. -/
theorem cleArithmeticIsExactThenSaturated : Obligations.CleArithmeticIsExactThenSaturated := by
  unfold Obligations.CleArithmeticIsExactThenSaturated
  intro s d a b at_ ready took x y sat flags rest wrote exact_ hready
  have h : s.CleReady := hready.2
  have hexact (c : Nat) (v : Int) : exact_ c v ((s.issued c).putW d v).cleNext := putW_arithExact h d c v
  have hwrote (c : Nat) {r : Int} (hr : InWord r) (v : Bool) : wrote c r v ((s.issued c).putWv d r v).cleNext := putWv_arithWrote h d c hr v
  have hx : InWord x := s.wInt_inWord a
  have hwrap (z : Int) : wrote 1 (signedOf 32 (z % 0x100000000).toNat) false ((s.issued 1).putWv d (BitVec.ofInt 32 z).toInt false).cleNext := by
    rw [← toInt_ofInt_eq_signedOf]
    exact hwrote 1 (inWord_toInt _) false
  have hlogic (w : Word) {n : Nat} (hw : w.toNat = n) : wrote 1 (signedOf 32 n) false ((s.issued 1).putWv d w.toInt false).cleNext := by
    rw [← hw, signedOf_toNat]
    exact hwrote 1 (inWord_toInt w) false
  refine ⟨does_plain h rfl rfl (hexact 1 (x + y)), does_plain h rfl rfl (hexact 1 (x - y)), does_plain h rfl rfl (hwrap (x + y)),
    does_plain h rfl rfl (hwrap (x - y)), does_plain h rfl rfl (hexact 1 (-x)), does_plain h rfl rfl (hexact 1 x.natAbs),
    does_plain h rfl rfl (hexact 1 (roundHalfEven (x * y) 0x80000000)), fun hy => does_plain h rfl rfl ?_, fun hy => does_plain h rfl rfl ?_,
    fun hy => does_plain h rfl rfl ?_, does_plain h rfl rfl (hexact 1 (min x y)), does_plain h rfl rfl (hexact 1 (max x y)),
    does_plain h rfl rfl (hexact 1 (max x (min (s.wInt d) y))), fun n => ?_, ?_,
    does_plain h rfl rfl (hlogic (tblGet 0 s.cle.w a &&& tblGet 0 s.cle.w b) (BitVec.toNat_and _ _)),
    does_plain h rfl rfl (hlogic (tblGet 0 s.cle.w a ||| tblGet 0 s.cle.w b) (BitVec.toNat_or _ _)),
    does_plain h rfl rfl (hlogic (tblGet 0 s.cle.w a ^^^ tblGet 0 s.cle.w b) (BitVec.toNat_xor _ _)), does_plain h rfl rfl ?_⟩
  · have hu : (s.issued 12).wInt b ≠ 0 := Int.ne_of_gt hy
    have hdiv : divRounded x y = roundHalfEven (x * 0x80000000) y := if_pos hy
    rw [if_neg hu, ← hdiv]
    exact hexact 12 _
  · have hu : (s.issued 12).wInt b ≠ 0 := Int.ne_of_lt hy
    have hdiv : divRounded x y = roundHalfEven (-x * 0x80000000) (-y) := if_neg (Int.not_lt.mpr hy.le)
    rw [if_neg hu, ← hdiv]
    exact hexact 12 _
  · have hu : (s.issued 12).wInt b = 0 := hy
    have hr : InWord (if 0 < x then 0x7FFFFFFF else if x < 0 then -0x80000000 else 0) := by
      unfold InWord
      split <;> [skip; split] <;> omega
    rw [if_pos hu]
    exact ⟨(putWv_arithWrote h d 12 hr true).count_dz,
      (State.get_count_same _ _ _).trans (by rw [← putWv_dzCnt s 12 d _ true]; rfl)⟩
  · exact ⟨does_sh h rfl rfl (shiftResult_left hx n), does_sh h rfl rfl (shiftResult_right hx n), does_sh h rfl rfl (shiftResult_rounded hx n),
      does_sh h rfl rfl (shiftResult_logicalRight _ n), does_sh h rfl rfl (shiftResult_logicalLeft _ n)⟩
  · intro k
    exact ⟨does_sh h rfl rfl (shiftResult_left hx k), does_sh h rfl rfl (shiftResult_right hx k), does_sh h rfl rfl (shiftResult_rounded hx k),
      does_sh h rfl rfl (shiftResult_logicalRight _ k), does_sh h rfl rfl (shiftResult_logicalLeft _ k)⟩
  · obtain ⟨hflags, hrest⟩ := flagZnv_arithRest h 1 s.cle.w (x - y) false
    exact ⟨rfl, hflags, hrest⟩

end Sys2Proof.Machine
end

section
/-!
The control engine's moves, loads and stores.
-/

namespace Sys2Proof.Machine

/-! ### What a move or a store changes (R83, R84, R93 to R95) -/

/-- Only words, index registers and flags of the engine change from `u` to `v`. -/
def OnlyWords (u v : State) : Prop := ∃ w i f, v = { u with cle := { u.cle with w := w, idx := i, flags := f } }

/-- Only data memory, uncommitted words and index registers change from `u` to `v`. -/
def OnlyStores (u v : State) : Prop := ∃ x o i, v = { u with cle := { u.cle with data := x, runOut := o, idx := i } }

/-- Time and place after an instruction of one cycle that touches no register field. -/
def MoveRest (s t : State) : Prop := CleTook s 1 t ∧ Frame [.cad, .cle] [] [] s t

def MoveOnly (s t : State) : Prop := MoveRest s t
  ∧ t.cle = { s.cle with w := t.cle.w, idx := t.cle.idx, flags := t.cle.flags, pc := t.cle.pc, loops := t.cle.loops, issue := t.cle.issue }

def StoreOnly (s t : State) : Prop := MoveRest s t
  ∧ t.cle = { s.cle with data := t.cle.data, runOut := t.cle.runOut, idx := t.cle.idx, pc := t.cle.pc, loops := t.cle.loops, issue := t.cle.issue }

/-- A move left `x` in W[D]. -/
def MoveWrote (s : State) (d : Fin 16) (x : Nat) (t : State) : Prop :=
  t.wNat d = x ∧ (∀ j : Fin 16, j ≠ d → t.wNat j = s.wNat j) ∧ MoveOnly s t

/-- The index registers after an access with operand `m` that counts by `n`. -/
def IdxCounted (s : State) (m : MemOperand) (n : Nat) (t : State) : Prop :=
  ∀ j : Fin 4, t.idxNat j.val = (if m.inc = true ∧ j = m.xi then (s.idxNat j.val + n) % 4096 else s.idxNat j.val)

section

variable {s u v : State}

theorem MoveRest.of_cle (h : s.CleReady) {c : CleState} (hissue : c.issue = (s.issued 1).cle.issue) (hloops : c.loops = s.cle.loops)
    (hpc : c.pc = s.cle.pc) : MoveRest s (State.cleNext { s.issued 1 with cle := c }) :=
  ⟨.of_keepsPlace h ⟨rfl, hissue, hloops, hpc⟩, ((Frame.issued (by decide) (by decide) 1).cle (by decide) _).cleNext (by decide)⟩

theorem OnlyWords.moveOnly (h : s.CleReady) (hv : OnlyWords (s.issued 1) v) : MoveOnly s v.cleNext := by
  obtain ⟨w, i, f, rfl⟩ := hv
  exact ⟨.of_cle h rfl rfl rfl, rfl⟩

theorem OnlyStores.storeOnly (h : s.CleReady) (hv : OnlyStores (s.issued 1) v) : StoreOnly s v.cleNext := by
  obtain ⟨x, o, i, rfl⟩ := hv
  exact ⟨.of_cle h rfl rfl rfl, rfl⟩

theorem OnlyWords.memInc (hv : OnlyWords u v) (m : MemOperand) (n : Nat) : OnlyWords u (v.memInc m n) := by
  obtain ⟨w, i, f, rfl⟩ := hv
  unfold State.memInc
  split <;> exact ⟨_, _, _, rfl⟩

theorem OnlyStores.memInc (hv : OnlyStores u v) (m : MemOperand) (n : Nat) : OnlyStores u (v.memInc m n) := by
  obtain ⟨x, o, i, rfl⟩ := hv
  unfold State.memInc
  split <;> exact ⟨_, _, _, rfl⟩

/-! ### The index registers (R81) -/

theorem State.idxNat_setIdx (s : State) (x n j : Nat) : (s.setIdx x n).idxNat j = if j = x then n % 4096 else s.idxNat j := by
  split
  · next h => simp [State.idxNat, State.setIdx, h]
  · next h => exact congrArg BitVec.toNat (tblGet_set_other _ _ _ _ _ _ h)

theorem State.idxNat_memInc (s : State) (m : MemOperand) (n : Nat) (j : Fin 4) :
    (s.memInc m n).idxNat j.val = if m.inc = true ∧ j = m.xi then (s.idxNat j.val + n) % 4096 else s.idxNat j.val := by
  unfold State.memInc
  split
  · next hinc =>
    simp only [State.idxNat_setIdx, hinc, true_and, Fin.ext_iff]
    split
    · next hj => rw [hj]
    · rfl
  · next hinc => simp [hinc]

/-- Counting on leaves all but the index registers alone. -/
theorem State.memInc_cle (s : State) (m : MemOperand) (n : Nat) : (s.memInc m n).cle = { s.cle with idx := (s.memInc m n).cle.idx } := by
  unfold State.memInc
  split <;> rfl

theorem State.flags_memInc (s : State) (m : MemOperand) (n : Nat) : (s.memInc m n).cleNext.cle.flags = s.cle.flags := by
  show (s.memInc m n).cle.flags = _
  rw [State.memInc_cle]

theorem State.runOut_memInc (s : State) (m : MemOperand) (n : Nat) : (s.memInc m n).cleNext.cle.runOut = s.cle.runOut := by
  show (s.memInc m n).cle.runOut = _
  rw [State.memInc_cle]

theorem State.data_memInc (s : State) (m : MemOperand) (n : Nat) : (s.memInc m n).cleNext.cle.data = s.cle.data := by
  show (s.memInc m n).cle.data = _
  rw [State.memInc_cle]

theorem memInc_idxCounted {u : State} (hu : u.cle.idx = s.cle.idx) (m : MemOperand) (n : Nat) : IdxCounted s m n (u.memInc m n).cleNext :=
  fun j => (u.idxNat_memInc m n j).trans (by rw [State.idxNat, hu, ← State.idxNat])

theorem memUndef_eq_false {m : MemOperand} (h : m.inc = true → m.xb = true) : memUndef m = false := by
  unfold memUndef
  cases hinc : m.inc
  · rfl
  · simp [h hinc]

/-! ### Words and data memory -/

theorem State.wNat_memInc (s : State) (m : MemOperand) (n j : Nat) : (s.memInc m n).wNat j = s.wNat j := by
  rw [State.wNat, State.memInc_cle]
  rfl

/-- A move into W[D], with or without a count of an index register. -/
theorem setW_moveWrote (h : s.CleReady) (d : Fin 16) (w : Word) : MoveWrote s d w.toNat ((s.issued 1).setW d w).cleNext :=
  have hword := (s.issued 1).wNat_setW d w
  ⟨(hword d).trans (if_pos rfl), fun j hj => (hword j).trans (if_neg fun e => hj (Fin.ext e)), OnlyWords.moveOnly h ⟨_, _, _, rfl⟩⟩

theorem setW_memInc_moveWrote (h : s.CleReady) (d : Fin 16) (w : Word) (m : MemOperand) (n : Nat) (f : CleFlags) :
    MoveWrote s d w.toNat ((((s.issued 1).setW d w).setFlags f).memInc m n).cleNext :=
  have hword (j : Nat) : State.wNat (State.cleNext _) j = if j = d.val then w.toNat else s.wNat j :=
    (State.wNat_memInc (((s.issued 1).setW d w).setFlags f) m n j).trans ((s.issued 1).wNat_setW d w j)
  ⟨(hword d).trans (if_pos rfl), fun j hj => (hword j).trans (if_neg fun e => hj (Fin.ext e)),
    (OnlyWords.memInc ⟨_, _, _, rfl⟩ m n).moveOnly h⟩

/-- A pair of words into W[D] and W[D + 1]. -/
theorem setW_pair_moved (h : s.CleReady) (d : Fin 16) (x y : Word) (m : MemOperand) :
    let t := ((((s.issued 1).setW d x).setW (d + 1) y).memInc m 2).cleNext
    t.wNat d = x.toNat ∧ t.wNat (d.val + 1) = y.toNat ∧ (∀ j : Fin 16, j.val ≠ d.val → j.val ≠ d.val + 1 → t.wNat j = s.wNat j)
      ∧ IdxCounted s m 2 t ∧ t.cle.flags = s.cle.flags ∧ MoveOnly s t := by
  intro t
  have hword (j : Nat) : t.wNat j = if j = d + 1 then y.toNat else if j = d then x.toNat else s.wNat j :=
    (State.wNat_memInc _ m 2 j).trans ((State.wNat_setW _ _ _ _).trans (congrArg (ite _ _) (State.wNat_setW _ _ _ _)))
  exact ⟨by simp [hword], by simp [hword], fun j hj hj' => by simp [hword, hj, hj'], memInc_idxCounted rfl m 2, State.flags_memInc _ m 2,
    (OnlyWords.memInc ⟨_, _, _, rfl⟩ m 2).moveOnly h⟩

theorem State.dataWord_setData (s : State) (a : Nat) (w : Word) (i : Nat) :
    (s.setData a w).dataWord i = if i = a then w else s.dataWord i := by
  split
  · next h => simp [State.dataWord, State.setData, h]
  · next h => exact tblGet_set_other _ _ _ _ _ _ h

theorem State.dataWord_memInc (s : State) (m : MemOperand) (n i : Nat) : (s.memInc m n).dataWord i = s.dataWord i := by
  rw [State.dataWord, State.memInc_cle]
  rfl

/-- A store of W[D] to data memory. -/
theorem setData_stored (h : s.CleReady) (a : Nat) (w : Word) (m : MemOperand) :
    let t := (((s.issued 1).setData a w).memInc m 1).cleNext
    (t.dataWord a).toNat = w.toNat ∧ (∀ i, i ≠ a → t.dataWord i = s.dataWord i) ∧ t.cle.runOut = s.cle.runOut ∧ IdxCounted s m 1 t
      ∧ StoreOnly s t := by
  intro t
  have hdata (i : Nat) : t.dataWord i = if i = a then w else s.dataWord i :=
    (State.dataWord_memInc _ m 1 i).trans ((s.issued 1).dataWord_setData a w i)
  exact ⟨by simp [hdata], fun i hi => by simp [hdata, hi], State.runOut_memInc _ m 1, memInc_idxCounted rfl m 1,
    (OnlyStores.memInc ⟨_, _, _, rfl⟩ m 1).storeOnly h⟩

/-- A store of a pair of words; the second address wraps. -/
theorem setData_pair_stored (h : s.CleReady) {a b : Nat} (hab : a ≠ b) (x y : Word) (m : MemOperand) :
    let t := ((((s.issued 1).setData a x).setData b y).memInc m 2).cleNext
    (t.dataWord a).toNat = x.toNat ∧ (t.dataWord b).toNat = y.toNat ∧ (∀ i, i ≠ a → i ≠ b → t.dataWord i = s.dataWord i)
      ∧ t.cle.runOut = s.cle.runOut ∧ IdxCounted s m 2 t ∧ StoreOnly s t := by
  intro t
  have hdata (i : Nat) : t.dataWord i = if i = b then y else if i = a then x else s.dataWord i :=
    (State.dataWord_memInc _ m 2 i).trans ((State.dataWord_setData _ _ _ _).trans (congrArg (ite _ _) (State.dataWord_setData _ _ _ _)))
  exact ⟨by simp [hdata, hab], by simp [hdata], fun i hi hi' => by simp [hdata, hi, hi'], State.runOut_memInc _ m 2, memInc_idxCounted rfl m 2,
    (OnlyStores.memInc ⟨_, _, _, rfl⟩ m 2).storeOnly h⟩

/-- The effect of STX on the uncommitted words (R95). -/
def State.stageOut (s : State) (a d : Nat) : State :=
  if outMapHas a then { s with cle := { s.cle with runOut := tblSet none s.cle.runOut a (some (tblGet (0 : Word) s.cle.w d)) } } else s

/-- A store to the output map stays uncommitted; one to an address without a word changes nothing. -/
theorem stageOut_stored (h : s.CleReady) (a d : Nat) (m : MemOperand) :
    let t := (((s.issued 1).stageOut a d).memInc m 1).cleNext
    t.cle.data = s.cle.data ∧ IdxCounted s m 1 t ∧ StoreOnly s t
      ∧ (if a < 0x180 ∨ (0x200 ≤ a ∧ a < 0x206) ∨ (0xC00 ≤ a ∧ a < 0xD00)
        then (∃ v ∈ tblGet none t.cle.runOut a, v.toNat = s.wNat d) ∧ (∀ i, i ≠ a → tblGet none t.cle.runOut i = tblGet none s.cle.runOut i)
        else t.cle.runOut = s.cle.runOut) := by
  intro t
  have hdata : t.cle.data = ((s.issued 1).stageOut a d).cle.data := State.data_memInc _ m 1
  have hout : t.cle.runOut = ((s.issued 1).stageOut a d).cle.runOut := State.runOut_memInc _ m 1
  have hhas : outMapHas a = decide (a < 0x180 ∨ (0x200 ≤ a ∧ a < 0x206) ∨ (0xC00 ≤ a ∧ a < 0xD00)) := rfl
  by_cases ha : a < 0x180 ∨ (0x200 ≤ a ∧ a < 0x206) ∨ (0xC00 ≤ a ∧ a < 0xD00)
  · have hstage : (s.issued 1).stageOut a d = { s.issued 1 with cle := { (s.issued 1).cle with
        runOut := tblSet none s.cle.runOut a (some (tblGet (0 : Word) s.cle.w d)) } } := if_pos (hhas.trans (decide_eq_true ha))
    have hstaged : t.cle.runOut = tblSet none s.cle.runOut a (some (tblGet (0 : Word) s.cle.w d)) := hout.trans (by rw [hstage])
    rw [if_pos ha, hstaged]
    rw [hstage] at hdata
    refine ⟨hdata, ?_, ?_, ⟨_, tblGet_set_same _ _ _ _, rfl⟩, fun i hi => tblGet_set_other _ _ _ _ _ _ hi⟩
    · exact memInc_idxCounted (by rw [hstage]; rfl) m 1
    · exact (OnlyStores.memInc (by rw [hstage]; exact ⟨_, _, _, rfl⟩) m 1).storeOnly h
  · have hstage : (s.issued 1).stageOut a d = s.issued 1 := if_neg (by rw [hhas]; simpa using ha)
    rw [hstage] at hdata hout
    rw [if_neg ha]
    refine ⟨hdata, ?_, ?_, hout⟩
    · exact memInc_idxCounted (by rw [hstage]; rfl) m 1
    · exact (OnlyStores.memInc (by rw [hstage]; exact ⟨_, _, _, rfl⟩) m 1).storeOnly h

theorem State.loadData_of_disarmed (h : s.get Reg.FLT_INJ_CTRL_ARM = 0) (d a : Nat) : s.loadData d a = s.setW d (s.dataWord a) := by
  rw [State.loadData, State.cleEcc_of_disarmed h]

end

/-! ### The words moved (R83, R94) -/

theorem toNat_movi (imm : BitVec 18) : (imm ++ (0 : BitVec 14)).toNat = imm.toNat * 0x4000 := by
  rw [BitVec.toNat_append]
  simp [Nat.shiftLeft_eq]

theorem toNat_movl (w : Word) (imm : BitVec 14) : (w.extractLsb' 14 18 ++ imm).toNat = w.toNat / 0x4000 * 0x4000 + imm.toNat := by
  have hw := w.isLt
  rw [BitVec.toNat_append, ← Nat.shiftLeft_add_eq_or_of_lt imm.isLt, BitVec.extractLsb'_toNat, Nat.shiftLeft_eq, Nat.shiftRight_eq_div_pow]
  omega

theorem toNat_lds (n : Nat) : (BitVec.ofInt 32 ((n % 0x1000000 * 256 : Nat) : Int)).toNat = n % 0x1000000 * 256 := by
  rw [BitVec.ofInt_natCast, BitVec.toNat_ofNat]
  omega

/-! ### The statement -/

/-- Settles O16: each instruction changes the words, index registers, flags, data memory or uncommitted words that it names, and counting on
an index register changes that register alone. -/
theorem cleMovesLoadsAndStores : Obligations.CleMovesLoadsAndStores := by
  unfold Obligations.CleMovesLoadsAndStores
  intro s d a b at_ ready took rest onlyW wrote sameIdx hready
  have h : s.CleReady := hready
  obtain ⟨-, -, -, -, -, harm⟩ := hready
  have hmove (w : Word) {x : Nat} (hw : w.toNat = x) : wrote x ((s.issued 1).setW d w).cleNext := hw ▸ setW_moveWrote h d w
  have hload (m : MemOperand) (w : Word) (f : CleFlags) : wrote w.toNat ((((s.issued 1).setW d w).setFlags f).memInc m 1).cleNext :=
    setW_memInc_moveWrote h d w m 1 f
  refine ⟨fun imm => does_plain h rfl rfl ⟨hmove _ (toNat_movi imm), rfl, rfl⟩,
    fun imm => does_plain h rfl rfl ⟨hmove _ (toNat_movl _ imm), rfl, rfl⟩,
    does_plain h rfl rfl ⟨hmove _ rfl, rfl, rfl⟩, fun c hc => ?_, fun i imm => ⟨does_plain h rfl rfl ?_, does_plain h rfl rfl ?_⟩, fun m hm => ?_⟩
  · refine does_plain h rfl (decide_eq_false (by omega)) ⟨hmove _ ?_, rfl, rfl⟩
    show BitVec.toNat (tblGet 0 s.cle.w (if s.cle.flags.holds c.val then a.val else b.val)) = _
    split <;> rfl
  · have hidx (j : Nat) := (s.issued 1).idxNat_setIdx i.val imm.toNat j
    exact ⟨(hidx _).trans ((if_pos rfl).trans (Nat.mod_eq_of_lt imm.isLt)), rfl, rfl,
      fun j hj => (hidx _).trans (if_neg fun e => hj (Fin.ext e)), OnlyWords.moveOnly h ⟨_, _, _, rfl⟩⟩
  · have hidx (j : Nat) := (s.issued 1).idxNat_setIdx i.val (s.wNat a) j
    exact ⟨(hidx _).trans (if_pos rfl), rfl, rfl, fun j hj => (hidx _).trans (if_neg fun e => hj (Fin.ext e)),
      OnlyWords.moveOnly h ⟨_, _, _, rfl⟩⟩
  · intro ad counted stores
    have hdef : memUndef m = false := memUndef_eq_false hm
    have hpair (hd : d.val % 2 = 0) : (memUndef m || d.val % 2 == 1) = false := by rw [hdef, hd]; rfl
    refine ⟨does_plain h rfl hdef ?_, does_plain h rfl hdef (setData_stored h ad _ m), fun hd => does_plain h rfl (hpair hd) ?_,
      fun hd => does_plain h rfl (hpair hd) (setData_pair_stored h (by omega) _ _ m), does_plain h rfl hdef ?_,
      does_plain h rfl hdef (stageOut_stored h ad d m), fun fr u had => ?_⟩
    · rw [State.loadData_of_disarmed (s := s.issued 1) harm]
      exact ⟨hload m _ s.cle.flags, memInc_idxCounted rfl m 1, State.flags_memInc _ m 1⟩
    · have hloaded : ((s.issued 1).loadData d ad).loadData (d + 1) ((ad + 1) % 4096)
          = ((s.issued 1).setW d (s.dataWord ad)).setW (d + 1) (s.dataWord ((ad + 1) % 4096)) := by
        rw [State.loadData_of_disarmed (s := s.issued 1) harm, State.loadData_of_disarmed (s := (s.issued 1).setW d _) harm]
        rfl
      have hmoved := setW_pair_moved h d (s.dataWord ad) (s.dataWord ((ad + 1) % 4096)) m
      rw [← hloaded] at hmoved
      exact hmoved
    · exact ⟨hload m _ s.cle.flags, memInc_idxCounted rfl m 1, State.flags_memInc _ m 1⟩
    · have hlds : (memUndef m || decide (0x48 ≤ ad)) = false := by rw [hdef]; exact decide_eq_false (by omega)
      have hmoved := hload m (BitVec.ofInt 32 (((s.inputMap ad).toNat % 0x1000000 * 256 : Nat) : Int))
      rw [toNat_lds] at hmoved
      exact does_plain h rfl hlds ⟨hmoved _, memInc_idxCounted rfl m 1, State.flags_memInc _ m 1⟩

end Sys2Proof.Machine
end

section
/-!
The control engine's accumulator instructions, square root, sine and cosine.
-/

namespace Sys2Proof.Machine

/-! ### The effect of an accumulator instruction (R79, R83) -/

/-- Nothing of the engine changes but words, accumulators, flags, the count of V, place and time. -/
def AccRest (s : State) (c : Nat) (t : State) : Prop :=
  CleTook s c t
    ∧ t.cle = { s.cle with w := t.cle.w, acc := t.cle.acc, flags := t.cle.flags, pc := t.cle.pc, loops := t.cle.loops, issue := t.cle.issue }
    ∧ Frame [.cad, .cle] [] [Reg.CLE_SAT_CNT_COUNT] s t

/-- Z, N and V stand for a result. -/
def FlagsSet (s t : State) (r : Int) (v : Bool) : Prop :=
  t.cle.flags = { s.cle.flags with z := decide (r = 0), n := decide (r < 0), v := v }

/-- An instruction left `x`, held to the Q9.62 range, in A[D]. -/
def AccWrote (s : State) (d : Fin 16) (x : Int) (t : State) : Prop :=
  t.accInt d = sat72 x ∧ (∀ j : Fin 16, j ≠ d → t.accInt j = s.accInt j) ∧ t.cle.w = s.cle.w
    ∧ FlagsSet s t (sat72 x) (decide (sat72 x ≠ x)) ∧ AccRest s 1 t

/-- A function of `c` cycles left `r` in W[D]. -/
def FunWrote (s : State) (d : Fin 16) (c : Nat) (r : Int) (v : Bool) (t : State) : Prop :=
  t.wInt d = r ∧ (∀ j : Fin 16, j ≠ d → t.wInt j = s.wInt j) ∧ t.cle.acc = s.cle.acc ∧ FlagsSet s t r v ∧ AccRest s c t

section

variable {s : State}

theorem flagZnv_accRest (h : s.CleReady) (c : Nat) (w : Tbl Word) (a : Tbl (BitVec 72)) (r : Int) (v : Bool) :
    let u : State := { s.issued c with cle := { (s.issued c).cle with w := w, acc := a } }
    FlagsSet s (u.flagZnv r v).cleNext r v ∧ AccRest s c (u.flagZnv r v).cleNext := by
  intro u
  obtain ⟨htook, hframe⟩ := flagZnv_took h c w a r v
  exact ⟨by cases v <;> rfl, htook, by cases v <;> rfl, hframe _ (by simp)⟩

theorem putAcc_accWrote (h : s.CleReady) (d : Fin 16) (x : Int) : AccWrote s d x ((s.issued 1).putAcc d x).cleNext := by
  have hv : (sat72 x != x) = decide (sat72 x ≠ x) := by rw [decide_not]; rfl
  have hacc (j : Nat) : ((s.issued 1).putAcc d x).cleNext.accInt j = if j = d.val then sat72 x else s.accInt j := by
    show (((s.issued 1).setAcc d (sat72 x)).flagZnv (sat72 x) (sat72 x != x)).accInt j = _
    rw [State.accInt, State.flagZnv_cle]
    exact ((s.issued 1).accInt_setAcc d _ j).trans (by rw [sat72_toInt]; rfl)
  have hw : ((s.issued 1).putAcc d x).cleNext.cle.w = s.cle.w := by
    show (((s.issued 1).setAcc d (sat72 x)).flagZnv (sat72 x) (sat72 x != x)).cle.w = _
    rw [State.flagZnv_cle]
    rfl
  exact ⟨(hacc d).trans (if_pos rfl), fun j hj => (hacc j).trans (if_neg fun e => hj (Fin.ext e)), hw,
    hv ▸ flagZnv_accRest h 1 s.cle.w _ (sat72 x) (sat72 x != x)⟩

theorem putWv_funWrote (h : s.CleReady) (d : Fin 16) (c : Nat) {r : Int} (hr : InWord r) (v : Bool) :
    FunWrote s d c r v ((s.issued c).putWv d r v).cleNext := by
  obtain ⟨hd, hj, -⟩ := putWv_arithWrote h d c hr v
  exact ⟨hd, hj, by cases v <;> rfl, flagZnv_accRest h c _ s.cle.acc r v⟩

end

/-! ### The square root (R83, R85, R86) -/

/-- After `k` of its 32 steps the root is known to within 2^(32 − k). -/
theorem isqrt_steps (n : Nat) (hn : n < 2 ^ 64) (k : Nat) (hk : k ≤ 32) :
    let r := (List.range k).foldl (fun r i => let t := r + 2 ^ (31 - i); if t * t ≤ n then t else r) 0
    r * r ≤ n ∧ n < (r + 2 ^ (32 - k)) * (r + 2 ^ (32 - k)) := by
  induction k with
  | zero => exact ⟨Nat.zero_le _, by simpa using hn⟩
  | succ k ih =>
    obtain ⟨hle, hlt⟩ := ih (by omega)
    rw [List.range_succ, List.foldl_append]
    generalize (List.range k).foldl _ 0 = r at hle hlt
    have hpow : 2 ^ (32 - k) = 2 ^ (31 - k) + 2 ^ (31 - k) := by
      rw [← Nat.two_mul, ← Nat.pow_succ']
      exact congrArg (2 ^ ·) (by omega)
    have hexp : 32 - (k + 1) = 31 - k := by omega
    rw [hpow] at hlt
    simp only [List.foldl_cons, List.foldl_nil, hexp]
    split
    · next hsq => exact ⟨hsq, by rwa [Nat.add_assoc]⟩
    · next hsq => exact ⟨hle, Nat.not_le.mp hsq⟩

theorem isqrt_spec {n : Nat} (hn : n < 2 ^ 64) : isqrt n * isqrt n ≤ n ∧ n < (isqrt n + 1) * (isqrt n + 1) :=
  isqrt_steps n hn 32 (Nat.le_refl _)

/-- The rounded root of a word is the nearest number to the root: half a unit off at most. -/
theorem sqrtRounded_spec {a : Nat} (ha : a < 2 ^ 31) :
    let r := sqrtRounded a
    r * r ≤ a * 0x80000000 + r ∧ a * 0x80000000 ≤ r * r + r ∧ r < 2 ^ 31 := by
  obtain ⟨hle, hlt⟩ := isqrt_spec (n := a * 0x80000000) (by omega)
  unfold sqrtRounded
  extract_lets n q r
  change q * q ≤ n at hle
  change n < (q + 1) * (q + 1) at hlt
  have hn : n ≤ 0x7FFFFFFF * 0x80000000 := Nat.mul_le_mul_right _ (by omega)
  have hq : q ≤ 0x7FFFFFFF := by
    by_contra hge
    have := Nat.mul_le_mul (Nat.not_le.mp hge) (Nat.not_le.mp hge)
    omega
  have hsucc : (q + 1) * (q + 1) = q * q + q + q + 1 := by ring
  by_cases hup : q < n - q * q
  · have hr : r = q + 1 := if_pos hup
    have hne : q ≠ 0x7FFFFFFF := fun e => by
      rw [e] at hup
      omega
    rw [hr, hsucc]
    omega
  · have hr : r = q := if_neg hup
    rw [hr]
    omega

/-! ### Sine and cosine (R83) -/

theorem sinCosWord_spec {e : Int} (he : e.natAbs ≤ 2 ^ 60) (o : Nat) : (sinCosWord e o * 0x20000000 - e).natAbs ≤ 4 * 0x20000000 := by
  unfold sinCosWord
  split
  · omega
  · split
    · omega
    · extract_lets lo hi
      have hmod := Int.emod_nonneg (o : Int) (show hi - lo + 1 ≠ 0 by omega)
      have hmod' := Int.emod_lt_of_pos (o : Int) (show 0 < hi - lo + 1 by omega)
      generalize (o : Int) % (hi - lo + 1) = m at hmod hmod'
      unfold sat32 clampInt
      omega

theorem sinCosWord_inWord (e : Int) (o : Nat) : InWord (sinCosWord e o) := by
  unfold sinCosWord
  split
  · exact ⟨by decide, by decide⟩
  · split
    · exact ⟨by decide, by decide⟩
    · exact inWord_sat32 _

/-- A function of `c` cycles left `x` and `y` in W[D] and W[D + 1], without flags. -/
def PairWrote (s : State) (c : Nat) (d : Fin 16) (x y : Int) (t : State) : Prop :=
  t.wInt d = x ∧ t.wInt (d.val + 1) = y ∧ (∀ j : Fin 16, j.val ≠ d.val → j.val ≠ d.val + 1 → t.wInt j = s.wInt j)
    ∧ t.cle.acc = s.cle.acc ∧ t.cle.flags = s.cle.flags ∧ AccRest s c t

theorem setWInt_pairWrote {s : State} (h : s.CleReady) (c : Nat) (d : Fin 16) {x y : Int} (hx : InWord x) (hy : InWord y) :
    PairWrote s c d x y (((s.issued c).setWInt d x).setWInt (d + 1) y).cleNext := by
  set t := (((s.issued c).setWInt d x).setWInt (d + 1) y).cleNext
  have hword (j : Nat) : t.wInt j = if j = d + 1 then y else if j = d then x else s.wInt j :=
    (hy.wInt_setWInt _ _ _).trans (congrArg (ite _ _) (hx.wInt_setWInt _ _ _))
  exact ⟨by simp [hword], by simp [hword], fun j hj hj' => by simp [hword, hj, hj'], rfl, rfl, .of_keepsPlace h ⟨rfl, rfl, rfl, rfl⟩, rfl,
    ((Frame.issued (by decide) (by decide) c).cle (by decide) _).cleNext (by decide)⟩

/-! The series are exact at the quarter turns. -/

theorem cosSinScaled_zero : (cosSinScaled (mkRat 0 (2 ^ 31))).1 = 2 ^ 60 := by decide +kernel

theorem cosSinScaled_half_turn : (cosSinScaled (mkRat (-0x80000000) (2 ^ 31))).1 = -(2 ^ 60) := by decide +kernel

/-! ### The statement -/

/-- Settles O17: the accumulator instructions act by `putAcc`, the functions by their result words; the root is the nearest by the invariant
of its 32 steps, and sine and cosine lie within 4 LSB by the choice of their words. -/
theorem cleAccumulatorsAndFunctions : Obligations.CleAccumulatorsAndFunctions := by
  unfold Obligations.CleAccumulatorsAndFunctions
  intro s d a b at_ ready took x y flags rest top sat acc hready
  have h : s.CleReady := hready
  have hacc (z : Int) : acc z ((s.issued 1).putAcc d z).cleNext := putAcc_accWrote h d z
  refine ⟨does_plain h rfl rfl ⟨CleTook.of_keepsPlace h ⟨rfl, rfl, rfl, rfl⟩, rfl,
      (Frame.issued (by decide) (by decide) 1).cleNext (by decide)⟩,
    does_plain h rfl rfl (hacc _), does_plain h rfl rfl (hacc _), does_plain h rfl rfl (hacc _), fun ⟨ha, hb⟩ => ?_,
    does_plain h rfl rfl (hacc _), does_plain h rfl rfl (hacc _), does_plain h rfl rfl (hacc _), does_plain h rfl rfl (hacc _),
    fun k hk => ?_, ?_, fun hd => ?_⟩
  · have hdef : (a.val % 2 == 1 || b.val % 2 == 1) = false := by rw [ha, hb]; rfl
    have hsum : acc (x * y + s.wInt (a + 1) * s.wInt (b + 1))
        ((s.issued 1).putAcc d (0 + x * y + s.wInt (a + 1) * s.wInt (b + 1))).cleNext := by
      rw [Int.zero_add]
      exact hacc _
    exact ⟨does_plain h rfl hdef (hacc _), does_plain h rfl hdef hsum⟩
  · refine does_plain h rfl (decide_eq_false (by omega)) ?_
    rw [State.putW_eq_putWv]
    exact putWv_funWrote h d 1 (inWord_sat32 _) _
  · by_cases hx : x < 0
    · have hdoes : Does (.cleSqrt d a) s (FunWrote s d 8 0 true) := by
        refine does_plain h rfl rfl ?_
        have hneg : (s.issued 8).wInt a < 0 := hx
        rw [if_pos hneg]
        exact putWv_funWrote h d 8 ⟨by decide, by decide⟩ true
      obtain ⟨t, hexec, hword, hothers, haccs, hflags, hrest⟩ := hdoes
      refine ⟨t, hexec, hothers, haccs, hrest, ?_, fun _ => hword, fun hge => absurd hx (Int.not_lt.mpr hge)⟩
      rw [hword, decide_eq_true hx]
      exact hflags
    · obtain ⟨n, hn⟩ := Int.eq_ofNat_of_zero_le (Int.not_lt.mp hx)
      obtain ⟨-, hhi⟩ := s.wInt_inWord a
      obtain ⟨hlo, hup, hlt⟩ := sqrtRounded_spec (a := n) (by omega)
      have hdoes : Does (.cleSqrt d a) s (FunWrote s d 8 (sqrtRounded n) false) := by
        refine does_plain h rfl rfl ?_
        have hval : (s.issued 8).wInt a = n := hn
        rw [hval, if_neg (by omega)]
        exact putWv_funWrote h d 8 ⟨by omega, by omega⟩ false
      obtain ⟨t, hexec, hword, hothers, haccs, hflags, hrest⟩ := hdoes
      refine ⟨t, hexec, hothers, haccs, hrest, ?_, fun hneg => absurd hneg hx, fun _ => ?_⟩
      · rw [hword, decide_eq_false hx]
        exact hflags
      · rw [hword, hn]
        zify at hlo hup
        refine ⟨by omega, by nlinarith, by nlinarith⟩
  · have hdef : (d.val % 2 == 1) = false := by rw [hd]; rfl
    have hpair : Does (.cleSincos d a) s (PairWrote s 4 d
        (sinCosWord (cosSinScaled (mkRat x (2 ^ 31))).1 (Config.cosOpen (tblGet 0 s.cle.w a)))
        (sinCosWord (cosSinScaled (mkRat x (2 ^ 31))).2 (Config.sinOpen (tblGet 0 s.cle.w a)))) :=
      does_plain h rfl hdef (setWInt_pairWrote h 4 d (sinCosWord_inWord _ _) (sinCosWord_inWord _ _))
    obtain ⟨t, hexec, hcos, hsin, hothers, haccs, hflags, hrest⟩ := hpair
    refine ⟨t, hexec, fun he => ?_, fun he => ?_, fun hx => ?_, fun hx => ?_, hothers, haccs, hflags, hrest⟩
    · rw [hcos]
      exact sinCosWord_spec he _
    · rw [hsin]
      exact sinCosWord_spec he _
    · rw [hcos, hx, cosSinScaled_zero]
      rfl
    · rw [hcos, hx, cosSinScaled_half_turn]
      rfl

end Sys2Proof.Machine
end

section
/-!
What the latch of a trip source and the report of a fault leave alone: the control engine, and every register outside their windows.
-/

namespace Sys2Proof.Machine

/-- From `s` to `t` the control engine stays, and every register field outside the windows `ws`. -/
structure OutsideKept (ws : List Nat) (s t : State) : Prop where
  cle : t.cle = s.cle
  get : ∀ f : Fld, keyWindow f.key ∉ ws → t.get f = s.get f

/-- The windows of what follows on newly blocked arms, of a trip latch, and of a fault below Fatal. -/
abbrev Win.ofYield : List Nat := [Win.pwm, Win.tri]
abbrev Win.ofReaction : List Nat := [Win.trp, Win.pwm, Win.tri, Win.flt]

namespace OutsideKept

variable {ws : List Nat} {s t u : State}

theorem refl (ws : List Nat) (s : State) : OutsideKept ws s s := ⟨rfl, fun _ _ => rfl⟩

theorem trans (h : OutsideKept ws s t) (h' : OutsideKept ws t u) : OutsideKept ws s u :=
  ⟨h'.cle.trans h.cle, fun f hf => (h'.get f hf).trans (h.get f hf)⟩

/-- A change of the parts beside registers and the engine. -/
theorem parts (h : OutsideKept ws s t) (hregs : u.regs = t.regs := by rfl) (hcle : u.cle = t.cle := by rfl) : OutsideKept ws s u :=
  h.trans ⟨hcle, fun f _ => State.get_of_regs hregs f⟩

theorem irq (h : OutsideKept ws s t) (n : Nat) : OutsideKept ws s (t.irq n) := h.parts

theorem emit (h : OutsideKept ws s t) (o : Out) : OutsideKept ws s (t.emit o) := h.parts

theorem modPort (h : OutsideKept ws s t) (p : Nat) (f : PortState → PortState) : OutsideKept ws s (t.modPort p f) := h.parts

theorem set (h : OutsideKept ws s t) {f : Fld} (hf : keyWindow f.key ∈ ws) (v : Nat) : OutsideKept ws s (t.set f v) :=
  h.trans ⟨rfl, fun _ hg => State.get_set_other _ _ _ _ (fun e => hg (e ▸ hf))⟩

theorem set64 (h : OutsideKept ws s t) {lo hi : Fld} (hlo : keyWindow lo.key ∈ ws) (hhi : keyWindow hi.key ∈ ws) (v : Nat) :
    OutsideKept ws s (t.set64 lo hi v) := (h.set hlo _).set hhi _

theorem ite {c : Prop} [Decidable c] (ht : OutsideKept ws s t) (hu : OutsideKept ws s u) : OutsideKept ws s (if c then t else u) := by
  split <;> assumption

theorem foldl {α : Type} {f : State → α → State} {l : List α} (hf : ∀ a ∈ l, ∀ u, OutsideKept ws s u → OutsideKept ws s (f u a))
    (h : OutsideKept ws s t) : OutsideKept ws s (l.foldl f t) :=
  List.foldlRecOn l f (motive := fun u : State => OutsideKept ws s u) h (fun u hu a ha => hf a ha u hu)

/-! Plans, block symbols and the Peloton (R13, R235, R239, R273): no register changes. -/

theorem placeFrame (h : OutsideKept ws s t) (p at_ : Nat) (bytes : List Nat) : OutsideKept ws s (t.placeFrame p at_ bytes) :=
  (h.modPort p _).emit _

theorem placeAgain (h : OutsideKept ws s t) (p at_ : Nat) (e : Nat × List Nat) : OutsideKept ws s (t.placeAgain p at_ e) :=
  (h.placeFrame p at_ e.2).modPort p _

theorem lineYield (h : OutsideKept ws s t) (p at_ : Nat) : OutsideKept ws s (t.lineYield p at_) :=
  .ite (.foldl (fun e _ _ hv => hv.placeAgain p at_ e) (.foldl (fun _ _ _ hv => hv.emit _) (h.modPort p _))) h

theorem sendBlocks (h : OutsideKept ws s t) (ports : List Nat) : OutsideKept ws s (t.sendBlocks ports) :=
  .foldl (fun p _ _ hv => (OutsideKept.modPort hv p _).lineYield p _) (h.emit _)

theorem abandonPlans (h : OutsideKept ws s t) (ports : List Nat) : OutsideKept ws s (t.abandonPlans ports) :=
  .ite h (OutsideKept.emit h.parts _)

theorem laneSend (h : OutsideKept ws s t) (kind : Nat) (body : List Nat) : OutsideKept ws s (t.laneSend kind body) :=
  .foldl (fun _ _ _ hv => hv.emit _) h.parts

theorem pelotonBlock (h : OutsideKept ws s t) (src arms : Nat) : OutsideKept ws s (t.pelotonBlock src arms) := .ite (h.laneSend _ _) h

/-! The PWM cut and held halts (R217 to R219, R307). -/

/-- The trip flags and counters of the six PWM channels stand in the PWM window. -/
theorem pwmStat_window : ∀ n ∈ List.range 6, keyWindow (Reg.PWM_STAT_TRIPF n).key = Win.pwm ∧ keyWindow (Reg.PWM_STAT_CBCF n).key = Win.pwm
    ∧ keyWindow (Reg.PWM_STAT_CBCCNT n).key = Win.pwm := by decide

theorem pwmApply (h : OutsideKept ws s t) (n at_ : Nat) (aHigh : Bool) : OutsideKept ws s (t.pwmApply n at_ aHigh) :=
  have hdriven : OutsideKept ws s (t.modChan n _) := h.parts
  .ite hdriven (hdriven.emit _)

theorem pwmJudge (hws : Win.ofYield ⊆ ws) (h : OutsideKept ws s t) {n : Nat} (hn : n ∈ List.range 6) : OutsideKept ws s (t.pwmJudge n) := by
  have hpwm : Win.pwm ∈ ws := hws (by decide)
  obtain ⟨htripf, hcbcf, hcbccnt⟩ := pwmStat_window n hn
  have hlatched : OutsideKept ws s (if t.get (Reg.PWM_TRIP_TRIPMODE n) = 1 ∧ t.pwmInputCause n = true then t.set (Reg.PWM_STAT_TRIPF n) 1 else t) :=
    .ite (h.set (htripf ▸ hpwm) _) h
  have hcounted := (hlatched.set (hcbcf ▸ hpwm) 1).set (hcbccnt ▸ hpwm)
  have hcut {u : State} (hu : OutsideKept ws s u) (f : PwmChan → PwmChan) : OutsideKept ws s (u.modChan n f) := hu.parts
  exact .ite h (.ite hlatched ((hcut (.ite hlatched (hcounted _)) _).pwmApply _ _ _))

theorem pwmJudgeAll (hws : Win.ofYield ⊆ ws) (h : OutsideKept ws s t) : OutsideKept ws s t.pwmJudgeAll :=
  h.foldl (fun _ hn _ hu => hu.pwmJudge hws hn)

theorem stopCores (h : OutsideKept ws s t) (xs : List Nat) (cause : Nat) : OutsideKept ws s (t.stopCores xs cause) := by
  unfold State.stopCores
  extract_lets words seed s1
  have h1 : OutsideKept ws s s1 := h.foldl (fun _ _ _ hu => hu.parts)
  exact h1.parts

theorem releaseHeldHalts (hws : Win.ofYield ⊆ ws) (h : OutsideKept ws s t) : OutsideKept ws s t.releaseHeldHalts := by
  unfold State.releaseHeldHalts
  refine .ite h ?_
  split
  · exact h
  · next x xs _ => exact ((h.stopCores (x :: xs) 3).set (f := Reg.TRI_STAT_DBGHALT) (hws (by decide)) 1).parts

end OutsideKept

/-! ### The latch of a trip source in two steps (R224, R230 to R240) -/

/-- A trip latch up to the blocking of its arms: the flag, TRP_FIRST, refused enables and PULSE_EN. -/
def State.tripFlagged (u : State) (src arms : Nat) : State :=
  let s := u.undoClear src
  let s1 := if !s.tripFlag src then ((s.noteFirst src).putTripFlag src true).irq 6 else s
  let s2 := (s1.refuseEnabled arms).modTrp (fun t => { t with
    latched := tblSet none t.latched src (some (s.now, s.blockedBefore src))
    blocks := tblSet 0 t.blocks src (s.tripArms src ||| (arms % 64)) })
  let s3 : State := { s2 with edg := { s2.edg with offArms := s2.edg.offArms ||| (s2.get Reg.TRP_PULSE_EN_EN &&& (arms % 64)) } }
  s3.set Reg.TRP_PULSE_EN_EN (armsMinus (s3.get Reg.TRP_PULSE_EN_EN) arms)

/-- What follows on the blocking (R217, R235, R239, R307) changes registers of the PWM and the Tricycle alone. -/
theorem tripLatch_of_tripFlagged {ws : List Nat} (hws : Win.ofYield ⊆ ws) (u : State) (src arms : Nat) :
    OutsideKept ws (u.tripFlagged src arms) (u.tripLatch src arms) := by
  unfold State.tripLatch
  extract_lets v added first s1 s2 edg s3 s4 ports s5
  have h4 : OutsideKept ws (u.tripFlagged src arms) s4 := .refl ws _
  have h5 : OutsideKept ws (u.tripFlagged src arms) s5 := .ite h4 (((h4.abandonPlans ports).sendBlocks ports).pelotonBlock src added)
  exact (OutsideKept.ite (h5.pwmJudgeAll hws) h5).releaseHeldHalts hws

namespace OutsideKept

variable {ws : List Nat} {s t : State}

theorem putTripFlag (hws : Win.trp ∈ ws) (h : OutsideKept ws s t) (src : Nat) (b : Bool) : OutsideKept ws s (t.putTripFlag src b) :=
  .ite (h.set (f := Reg.TRP_SRC_LO_SRC) hws _) (h.set (f := Reg.TRP_SRC_HI_SRC) hws _)

theorem undoClear (hws : Win.trp ∈ ws) (h : OutsideKept ws s t) (src : Nat) : OutsideKept ws s (t.undoClear src) := by
  unfold State.undoClear
  split
  · exact h
  · exact .ite (((h.putTripFlag hws src true).parts).set (f := Reg.TRP_CLR_REF_COUNT) hws _) h

theorem noteFirst (hws : Win.trp ∈ ws) (h : OutsideKept ws s t) (src : Nat) : OutsideKept ws s (t.noteFirst src) :=
  .ite ((((h.set (f := Reg.TRP_FIRST_SRC) hws _).set (f := Reg.TRP_FIRST_VALID) hws _).set (f := Reg.TRP_FIRST_TICK) hws _).set64
    (lo := Reg.TRP_FIRST_TS_LO_TIME) (hi := Reg.TRP_FIRST_TS_HI_TIME) hws hws _) (.ite (h.set (f := Reg.TRP_FIRST_SRC) hws _) h)

theorem refuseEnabled (hws : Win.trp ∈ ws) (h : OutsideKept ws s t) (arms : Nat) : OutsideKept ws s (t.refuseEnabled arms) :=
  h.foldl (fun _ _ _ hu => .ite ((hu.set (f := Reg.TRP_PULSE_STAT_REFUSED) hws _).set (f := Reg.TRP_PULSE_STAT_ERR) hws _) hu)

theorem tripFlagged (hws : Win.trp ∈ ws) (h : OutsideKept ws s t) (src arms : Nat) : OutsideKept ws s (t.tripFlagged src arms) := by
  unfold State.tripFlagged
  extract_lets v s1 s2 edg s3
  have hv : OutsideKept ws s v := h.undoClear hws src
  have h1 : OutsideKept ws s s1 := .ite (((hv.noteFirst hws src).putTripFlag hws src true).irq 6) hv
  have h3 : OutsideKept ws s s3 := (h1.refuseEnabled hws arms).parts
  exact h3.set (f := Reg.TRP_PULSE_EN_EN) hws _

theorem tripLatch (hws : [Win.trp, Win.pwm, Win.tri] ⊆ ws) (h : OutsideKept ws s t) (src arms : Nat) : OutsideKept ws s (t.tripLatch src arms) :=
  (h.tripFlagged (hws (by decide)) src arms).trans (tripLatch_of_tripFlagged (fun _ hw => hws (List.mem_cons_of_mem _ hw)) t src arms)

end OutsideKept

/-! ### What a trip latch sets (R224, R235) -/

theorem State.tripFlag_putTripFlag (s : State) {src : Nat} (hsrc : src < 36) : (s.putTripFlag src true).tripFlag src = true := by
  unfold State.putTripFlag State.tripFlag
  split
  · next h => exact (State.bit_putBit s Reg.TRP_SRC_LO_SRC (i := src) h src true).trans (if_pos rfl)
  · next h => exact (State.bit_putBit s Reg.TRP_SRC_HI_SRC (i := src - 32) (by simp [Reg.TRP_SRC_HI_SRC]; omega) _ true).trans (if_pos rfl)

/-- The flag of a source is read from the two TRP_SRC registers alone. -/
theorem State.tripFlag_congr {s t : State} (hlo : t.get Reg.TRP_SRC_LO_SRC = s.get Reg.TRP_SRC_LO_SRC)
    (hhi : t.get Reg.TRP_SRC_HI_SRC = s.get Reg.TRP_SRC_HI_SRC) (src : Nat) : t.tripFlag src = s.tripFlag src := by
  simp only [State.tripFlag, State.bit, hlo, hhi]

theorem State.refuseEnabled_get (s : State) (arms : Nat) {f : Fld} (hrefused : f.key ≠ Reg.TRP_PULSE_STAT_REFUSED.key)
    (herr : f.key ≠ Reg.TRP_PULSE_STAT_ERR.key) : (s.refuseEnabled arms).get f = s.get f := by
  refine List.foldlRecOn _ _ (motive := fun u : State => u.get f = s.get f) rfl (fun u hu a _ => ?_)
  split
  · exact (State.get_set_other _ _ _ _ herr).trans ((State.get_set_other _ _ _ _ hrefused).trans hu)
  · exact hu

theorem State.tripFlag_tripLatch (s : State) {src : Nat} (hsrc : src < 36) (arms : Nat) : (s.tripLatch src arms).tripFlag src = true := by
  have hkept := tripLatch_of_tripFlagged (List.Subset.refl Win.ofYield) s src arms
  rw [State.tripFlag_congr (hkept.get _ (by decide)) (hkept.get _ (by decide))]
  unfold State.tripFlagged
  extract_lets v s1 s2 edg s3
  have h1 : s1.tripFlag src = true := by
    rcases Bool.eq_false_or_eq_true (v.tripFlag src) with hset | hclear
    · have hs1 : s1 = v := if_neg (by rw [hset]; decide)
      rw [hs1, hset]
    · have hs1 : s1 = ((v.noteFirst src).putTripFlag src true).irq 6 := if_pos (by rw [hclear]; rfl)
      rw [hs1, State.tripFlag_congr (State.irq_get _ _ _) (State.irq_get _ _ _)]
      exact State.tripFlag_putTripFlag _ hsrc
  have hget {f : Fld} (hrefused : f.key ≠ Reg.TRP_PULSE_STAT_REFUSED.key) (herr : f.key ≠ Reg.TRP_PULSE_STAT_ERR.key) : s3.get f = s1.get f :=
    s1.refuseEnabled_get arms hrefused herr
  rw [State.tripFlag_congr (State.get_set_other _ _ _ _ (by decide)) (State.get_set_other _ _ _ _ (by decide)),
    State.tripFlag_congr (hget (by decide) (by decide)) (hget (by decide) (by decide)), h1]

/-- A latch for every arm leaves no arm ENABLED. -/
theorem State.pulseEn_tripLatch_all (s : State) (src : Nat) : (s.tripLatch src 63).get Reg.TRP_PULSE_EN_EN = 0 := by
  have hkept := tripLatch_of_tripFlagged (List.Subset.refl Win.ofYield) s src 63
  rw [hkept.get _ (by decide), State.tripFlagged, State.get_set_same, armsMinus]
  simp

/-! ### The report of a fault below Fatal (R375 to R380) -/

/-- The per-source fields of the collector stand in its window. -/
theorem fltSource_window : ∀ src < 256, keyWindow (Reg.FLT_SRC_SRC (src / 32)).key = Win.flt ∧ keyWindow (Reg.FLT_INFO_INFO src).key = Win.flt := by
  decide +kernel

theorem fltCounter_window (cls : Nat) : keyWindow (fltCounter cls).key = Win.flt := by
  unfold fltCounter
  split <;> decide

theorem OutsideKept.faultNotice {ws : List Nat} {s t : State} (h : OutsideKept ws s t) (src : Nat) : OutsideKept ws s (t.faultNotice src) :=
  (h.irq 7).emit _

theorem OutsideKept.faultFrom {ws : List Nat} {s t : State} (hws : Win.flt ∈ ws) (h : OutsideKept ws s t) {src : Nat} (hsrc : src < 256)
    (hcls : faultClass src ≠ 4) (info : Nat) (o : FaultOrigin) : OutsideKept ws s (t.faultFrom src info o) := by
  obtain ⟨hbit, hinfo⟩ := fltSource_window src hsrc
  unfold State.faultFrom
  extract_lets cls fltBefore v info' s1 s2 flt s3 s4 s5
  have hv : OutsideKept ws s v := h.parts
  have h1 : OutsideKept ws s s1 := ((hv.set (hbit ▸ hws) _).set (hinfo ▸ hws) _).set (fltCounter_window cls ▸ hws) _
  have hfirst (f : Fld) (hf : keyWindow f.key = Win.flt) {u : State} (hu : OutsideKept ws s u) (x : Nat) : OutsideKept ws s (u.set f x) :=
    hu.set (hf ▸ hws) x
  clear_value s1
  have h2 : OutsideKept ws s s2 := .ite (hfirst _ (by decide) (hfirst _ (by decide) (hfirst _ (by decide) (hfirst _ (by decide)
    (hfirst _ (by decide) (hfirst _ (by decide) (hfirst _ (by decide) (hfirst _ (by decide) (hfirst _ (by decide) h1 _) _) _) _) _) _) _) _) _) h1
  clear_value s2
  have h3 : OutsideKept ws s s3 := h2.parts
  clear_value s3
  have h4 : OutsideKept ws s s4 := .ite (h3.faultNotice src) h3
  clear_value s4
  have h5 : OutsideKept ws s s5 := .ite h4 (OutsideKept.emit (hfirst Reg.FLT_STAT_PIN (by decide) h4 _) _)
  rw [if_neg (show ¬cls = 4 from hcls)]
  exact .ite h (.ite hv h5)

/-- The fields that such a report writes beside its status bit and INFO. -/
def faultFlds : List Fld := [Reg.FLT_CNT_NOTE, Reg.FLT_CNT_REC, Reg.FLT_CNT_SERIOUS, Reg.FLT_CNT_FATAL, Reg.FLT_FIRST_VALID, Reg.FLT_FIRST_CLASS,
  Reg.FLT_FIRST_FORCED, Reg.FLT_FIRST_TYPE, Reg.FLT_FIRST_MASTER, Reg.FLT_FIRST_SRC, Reg.FLT_FIRST_ADDR_VALUE, Reg.FLT_FIRST_TS_LO_VALUE,
  Reg.FLT_FIRST_TS_HI_VALUE, Reg.FLT_STAT_PIN]

/-- They are none of the eight status words, nor is INFO. -/
theorem fltSrc_key_ne_info (j src : Nat) (hj : j < 8) : (Reg.FLT_SRC_SRC j).key ≠ (Reg.FLT_INFO_INFO src).key := by
  simp only [Fld.key, Reg.FLT_SRC_SRC, Reg.FLT_INFO_INFO]
  omega

theorem fltSrc_key_ne : ∀ j < 8, ∀ f ∈ faultFlds, (Reg.FLT_SRC_SRC j).key ≠ f.key := by decide +kernel

theorem fltCounter_mem (cls : Nat) : fltCounter cls ∈ faultFlds := by
  unfold fltCounter
  split <;> decide

/-- Status word `j` reads `x`. -/
def SrcWordIs (j x : Nat) (s : State) : Prop := s.get (Reg.FLT_SRC_SRC j) = x

theorem SrcWordIs.set {j x : Nat} {s : State} (h : SrcWordIs j x s) (hj : j < 8) {f : Fld} (hf : f ∈ faultFlds) (v : Nat) : SrcWordIs j x (s.set f v) :=
  (State.get_set_other _ _ _ _ (fltSrc_key_ne j hj f hf)).trans h

theorem SrcWordIs.ite {j x : Nat} {s t : State} {c : Prop} [Decidable c] (hs : SrcWordIs j x s) (ht : SrcWordIs j x t) :
    SrcWordIs j x (if c then s else t) := by
  split <;> assumption

/-- After the report of a source in use its bit is set: it was, or the report set it and the rest of the report leaves it. -/
theorem State.fltBit_faultFrom (s : State) {src : Nat} (hsrc : src < 256) (hused : faultClass src ≠ 0) (hcls : faultClass src ≠ 4) (info : Nat)
    (o : FaultOrigin) : (s.faultFrom src info o).fltBit Reg.FLT_SRC_SRC src = true := by
  have hj : src / 32 < 8 := by omega
  unfold State.faultFrom
  extract_lets cls fltBefore v info' s1 s2 flt s3 s4 s5
  rw [if_neg (show ¬cls = 0 from hused)]
  by_cases hset : v.fltBit Reg.FLT_SRC_SRC src = true
  · rw [if_pos hset]
    exact hset
  · rw [if_neg hset, if_neg (show ¬cls = 4 from hcls)]
    have h0 : SrcWordIs (src / 32) ((v.putFltBit Reg.FLT_SRC_SRC src true).get (Reg.FLT_SRC_SRC (src / 32)))
        ((v.putFltBit Reg.FLT_SRC_SRC src true).set (Reg.FLT_INFO_INFO src) info') := State.get_set_other _ _ _ _ (fltSrc_key_ne_info _ src hj)
    have h1 : SrcWordIs (src / 32) _ s1 := h0.set hj (fltCounter_mem cls) _
    clear_value s1
    have h2 : SrcWordIs (src / 32) _ s2 := .ite (((((((((h1.set hj (by decide) _).set hj (by decide) _).set hj (by decide) _).set hj (by decide)
      _).set hj (by decide) _).set hj (by decide) _).set hj (by decide) _).set hj (by decide) _).set hj (by decide) _) h1
    clear_value s2
    have h3 : SrcWordIs (src / 32) _ s3 := h2
    clear_value s3
    have hnotice := (OutsideKept.refl [] s3).faultNotice src
    have h4 : SrcWordIs (src / 32) _ s4 := .ite ((hnotice.get _ List.not_mem_nil).trans h3) h3
    clear_value s4
    have h5 : SrcWordIs (src / 32) _ s5 := .ite h4 (h4.set hj (f := Reg.FLT_STAT_PIN) (by decide) _)
    rw [State.fltBit, State.bit, show s5.get _ = _ from h5]
    exact (State.bit_putBit v (Reg.FLT_SRC_SRC (src / 32)) (i := src % 32) (Nat.mod_lt _ (by decide)) _ true).trans (if_pos rfl)

end Sys2Proof.Machine
end

section
/-!
The control engine's program order: branches, loops, waits, the commit of END, RUNO of LIMIT and RATE, and the stop of a run.
-/

namespace Sys2Proof.Machine

/-! ### The stop of a run (R77, R78, R92) -/

section

variable (s : State)

/-- A run that stops discards what it has not committed; its cycles are recorded, and the state is that of EN. -/
theorem cleDiscard_spec (t : Nat) :
    (s.cleDiscard t).cle = { s.cle with runObj := [], runOut := [], loops := [], waitUntil := none, wqWait := false }
      ∧ (s.cleDiscard t).get Reg.CLE_STAT_STATE = (if s.get Reg.CLE_CTRL_EN = 0 then 0 else 1)
      ∧ (s.cleDiscard t).get Reg.CLE_CYC_LAST = (t - s.cle.runStart) % 0x10000
      ∧ (s.cleDiscard t).cad = s.cad
      ∧ ∀ f : Fld, f.key ∉ [Reg.CLE_STAT_STATE.key, Reg.CLE_CYC_LAST.key, Reg.CLE_CYC_MAX.key] → (s.cleDiscard t).get f = s.get f := by
  refine ⟨rfl, ?_, ?_, rfl, fun f hf => ?_⟩
  · refine (State.get_set_same _ _ _).trans ?_
    by_cases h : s.get Reg.CLE_CTRL_EN = 0 <;> simp [State.on, h, Reg.CLE_STAT_STATE]
  · refine (State.get_set_other _ _ _ _ (by decide)).trans ((State.get_set_other _ _ _ _ (by decide)).trans ((State.get_set_same _ _ _).trans ?_))
    exact Nat.mod_mod _ _
  · simp only [List.mem_cons, List.not_mem_nil, or_false, not_or] at hf
    obtain ⟨hstate, hlast, hmax⟩ := hf
    exact (State.get_set_other _ _ _ _ hstate).trans ((State.get_set_other _ _ _ _ hmax).trans (State.get_set_other _ _ _ _ hlast))

theorem Frame.cleDiscard {ps : List Part} {bs : List Nat} {fs : List Fld} {s t : State} (h : Frame ps bs fs s t) (hp : .cle ∈ ps)
    (hstate : Reg.CLE_STAT_STATE ∈ fs) (hlast : Reg.CLE_CYC_LAST ∈ fs) (hmax : Reg.CLE_CYC_MAX ∈ fs) (at_ : Nat) :
    Frame ps bs fs s (t.cleDiscard at_) :=
  (((h.set hlast _).set hmax _).cle hp _).set hstate _

/-- The answer to an overrun (R18, R21) changes, of the registers outside the reaction's windows, three fields of Cadence alone. -/
theorem noteOverrun_keeps : s.noteOverrun.cle = s.cle ∧ ∀ f : Fld, keyWindow f.key ∉ Win.ofReaction →
    f.key ∉ [Reg.CAD_OVR_TICK_TICK.key, Reg.CAD_STAT_HOLDCNT.key, Reg.CAD_STAT_HOLDBLK.key] → s.noteOverrun.get f = s.get f := by
  unfold State.noteOverrun
  extract_lets u cad s1 s2
  have hu {f : Fld} (hf : f.key ≠ Reg.CAD_OVR_TICK_TICK.key) : u.get f = s.get f := State.get_set_other _ _ _ _ hf
  have h16 := (OutsideKept.refl Win.ofReaction (s1.count Reg.CAD_STAT_HOLDCNT 1)).faultFrom (by decide) (src := 16) (by decide) (by decide) s1.tick {}
  have htrip := (OutsideKept.refl Win.ofReaction s2).tripLatch (by decide) 24 63
  have h17 := (OutsideKept.refl Win.ofReaction ((s2.tripLatch 24 63).set Reg.CAD_STAT_HOLDBLK 1)).faultFrom (by decide) (src := 17) (by decide)
    (by decide) s2.tick {}
  refine ⟨?_, fun f hw hf => ?_⟩
  · split
    · rfl
    · split
      · exact h16.cle
      · exact h17.cle.trans htrip.cle
  · simp only [List.mem_cons, List.not_mem_nil, or_false, not_or] at hf
    obtain ⟨htick, hcnt, hblk⟩ := hf
    split
    · exact hu htick
    · split
      · exact (h16.get f hw).trans ((State.get_set_other s1 _ _ _ hcnt).trans (hu htick))
      · exact (h17.get f hw).trans ((State.get_set_other _ _ _ _ hblk).trans ((htrip.get f hw).trans (hu htick)))

/-- A run stopped at an undefined instruction, its place and word recorded (R92). -/
def State.undefRecorded (word : Word) (past : Bool) : State :=
  (((((s.cleDiscard (s.now + 1)).set Reg.CLE_STAT_UNDEF 1).set Reg.CLE_UNDEF_PC_PC (if past then 0 else s.cle.pc)).setBool Reg.CLE_UNDEF_PC_PAST
    past).set Reg.CLE_UNDEF_PC_TICK s.tick).set Reg.CLE_UNDEF_INSN_INSN (if past then 0 else word.toNat)

theorem undefRecorded_gets (word : Word) (past : Bool) :
    let t := s.undefRecorded word past
    t.get Reg.CLE_STAT_UNDEF = 1 ∧ t.get Reg.CLE_UNDEF_PC_PC = (if past then 0 else s.cle.pc) % 16384
      ∧ t.get Reg.CLE_UNDEF_PC_PAST = (if past then 1 else 0) ∧ t.get Reg.CLE_UNDEF_PC_TICK = s.tick % 0x10000
      ∧ t.get Reg.CLE_UNDEF_INSN_INSN = (if past then 0 else word.toNat)
      ∧ t.get Reg.CLE_STAT_STATE = (if s.get Reg.CLE_CTRL_EN = 0 then 0 else 1)
      ∧ t.get Reg.CAD_OVR_SOLVE_COUNT = s.get Reg.CAD_OVR_SOLVE_COUNT := by
  obtain ⟨-, hstate, -, -, hget⟩ := cleDiscard_spec s (s.now + 1)
  have hword : (if past then 0 else word.toNat) < 2 ^ 32 := by split <;> [decide; exact word.isLt]
  unfold State.undefRecorded
  generalize s.cleDiscard (s.now + 1) = u at hstate hget
  simp (disch := decide) only [State.setBool, State.get_set_other, State.get_set_same]
  refine ⟨rfl, rfl, by cases past <;> rfl, rfl, Nat.mod_eq_of_lt hword, hstate, hget _ (by decide)⟩

/-- What follows on the record leaves the engine and its registers alone: a Solve overrun is counted and answered, source 28 reports (R92). -/
theorem cleUndef_of_undefRecorded (word : Word) (past : Bool) :
    (s.cleUndef word past).cle = (s.undefRecorded word past).cle ∧ (s.cleUndef word past).fltBit Reg.FLT_SRC_SRC 28 = true
      ∧ ∀ f : Fld, keyWindow f.key ∉ Win.ofReaction →
        f.key ∉ [Reg.CAD_OVR_TICK_TICK.key, Reg.CAD_STAT_HOLDCNT.key, Reg.CAD_STAT_HOLDBLK.key] →
        (s.cleUndef word past).get f = ((s.undefRecorded word past).count Reg.CAD_OVR_SOLVE_COUNT 1).get f := by
  have hstop : s.cleUndef word past = ((((s.undefRecorded word past).count Reg.CAD_OVR_SOLVE_COUNT 1).noteOverrun).irq 4).fault 28 s.cle.pc := rfl
  rw [hstop]
  generalize s.undefRecorded word past = u
  obtain ⟨hcle, hget⟩ := noteOverrun_keeps (u.count Reg.CAD_OVR_SOLVE_COUNT 1)
  have hflt := ((OutsideKept.refl Win.ofReaction (u.count Reg.CAD_OVR_SOLVE_COUNT 1).noteOverrun).irq 4).faultFrom (by decide) (src := 28)
    (by decide) (by decide) s.cle.pc {}
  exact ⟨hflt.cle.trans hcle, State.fltBit_faultFrom _ (by decide) (by decide) (by decide) _ _, fun f hw hf => (hflt.get f hw).trans (hget f hw hf)⟩

/-- What the run leaves where it meets an undefined instruction: its place and word are recorded, UNDEF and source 28 stand, a Solve overrun is
counted, and nothing of the run is committed (R92). -/
theorem cleUndef_spec (word : Word) (past : Bool) :
    let t := s.cleUndef word past
    t.get Reg.CLE_STAT_UNDEF = 1 ∧ t.get Reg.CLE_UNDEF_PC_PC = (if past then 0 else s.cle.pc) % 16384
      ∧ t.get Reg.CLE_UNDEF_PC_PAST = (if past then 1 else 0) ∧ t.get Reg.CLE_UNDEF_PC_TICK = s.tick % 0x10000
      ∧ t.get Reg.CLE_UNDEF_INSN_INSN = (if past then 0 else word.toNat)
      ∧ t.cle.runObj = [] ∧ t.cle.runOut = [] ∧ t.cle.obj = s.cle.obj ∧ t.cle.outMap = s.cle.outMap ∧ t.cle.mbxOut = s.cle.mbxOut
      ∧ t.get Reg.CLE_STAT_STATE ≠ 2 ∧ t.get Reg.CLE_STAT_STATE ≠ 3 ∧ t.fltBit Reg.FLT_SRC_SRC 28 = true
      ∧ t.get Reg.CAD_OVR_SOLVE_COUNT = min (s.get Reg.CAD_OVR_SOLVE_COUNT + 1) 0xFFFFFFFF := by
  intro t
  obtain ⟨hundef, hpc, hpast, htick, hinsn, hstate, hsolve⟩ := undefRecorded_gets s word past
  obtain ⟨hcle, hbit, hget⟩ := cleUndef_of_undefRecorded s word past
  have hrecord {f : Fld} (hw : keyWindow f.key ∉ Win.ofReaction) (hf : f.key ∉ [Reg.CAD_OVR_TICK_TICK.key, Reg.CAD_STAT_HOLDCNT.key,
      Reg.CAD_STAT_HOLDBLK.key]) (hcnt : f.key ≠ Reg.CAD_OVR_SOLVE_COUNT.key) : t.get f = (s.undefRecorded word past).get f :=
    (hget f hw hf).trans (State.get_set_other _ _ _ _ hcnt)
  have hstopped : t.get Reg.CLE_STAT_STATE < 2 := by
    rw [hrecord (by decide) (by decide) (by decide), hstate]
    split <;> decide
  have hcle' : t.cle = _ := hcle.trans (cleDiscard_spec s (s.now + 1)).1
  refine ⟨(hrecord (by decide) (by decide) (by decide)).trans hundef, (hrecord (by decide) (by decide) (by decide)).trans hpc,
    (hrecord (by decide) (by decide) (by decide)).trans hpast, (hrecord (by decide) (by decide) (by decide)).trans htick,
    (hrecord (by decide) (by decide) (by decide)).trans hinsn, by rw [hcle'], by rw [hcle'], by rw [hcle'], by rw [hcle'], by rw [hcle'],
    by omega, by omega, hbit, ?_⟩
  rw [hget _ (by decide) (by decide), State.get_count_same, hsolve]
  rfl

end

/-! ### The commit of END (R76) -/

theorem tblWfFrom_above {V : Type} [DecidableEq V] {d : Nat → V} {t : Tbl V} {l : Nat} (h : tblWfFrom d (some l) t = true) : ∀ e ∈ t, l < e.1 := by
  induction t generalizing l with
  | nil => simp
  | cons e t ih =>
    obtain ⟨k, v⟩ := e
    obtain ⟨hk, -, ht⟩ := (tblWfFrom_cons d (some l) k v t).mp h
    have hlk : l < k := hk l rfl
    exact List.forall_mem_cons.mpr ⟨hlk, fun e he => Nat.lt_trans hlk (ih ht e he)⟩

theorem tblWfFrom_filter {V : Type} [DecidableEq V] {d : Nat → V} (p : Nat × V → Bool) {lo : Option Nat} {t : Tbl V} (h : tblWfFrom d lo t = true) :
    tblWfFrom d lo (t.filter p) = true := by
  induction t generalizing lo with
  | nil => rfl
  | cons e t ih =>
    obtain ⟨k, v⟩ := e
    obtain ⟨hk, hv, ht⟩ := (tblWfFrom_cons d lo k v t).mp h
    rw [List.filter_cons]
    split
    · exact (tblWfFrom_cons d lo k v _).mpr ⟨hk, hv, ih ht⟩
    · exact tblWfFrom_weaken d (some k) lo _ (fun l hl => ⟨k, rfl, (hk l hl).le⟩) (ih ht)

/-- A selection of the entries by key reads the same at the keys selected. -/
theorem tblGet_filter {V : Type} (d : V) (p : Nat × V → Bool) (t : Tbl V) {i : Nat} (hp : ∀ v, p (i, v) = true) : tblGet d (t.filter p) i = tblGet d t i := by
  induction t with
  | nil => rfl
  | cons e t ih =>
    obtain ⟨k, v⟩ := e
    by_cases hk : k = i
    · subst hk
      simp [hp, tblGet]
    · rw [List.filter_cons]
      split <;> simp [tblGet, hk, ih]

/-- A commit puts each uncommitted word in its place and leaves the other words. -/
theorem commitInto_get {from_ : Tbl (Option Word)} {base : Nat} {lo : Option Nat} (hwf : tblWfFrom (fun _ => none) lo from_ = true)
    (hbase : ∀ e ∈ from_, base ≤ e.1) (t : Tbl Word) (i : Nat) :
    tblGet (0 : Word) (commitInto t from_ base) i = (tblGet none from_ (base + i)).getD (tblGet (0 : Word) t i) := by
  induction from_ generalizing t lo with
  | nil => rfl
  | cons e rest ih =>
    obtain ⟨k, v⟩ := e
    obtain ⟨-, hv, hrest⟩ := (tblWfFrom_cons _ lo k v rest).mp hwf
    obtain ⟨x, rfl⟩ := Option.ne_none_iff_exists'.mp hv
    obtain ⟨hk, hbase⟩ := List.forall_mem_cons.mp hbase
    have hstep : commitInto t ((k, some x) :: rest) base = commitInto (tblSet 0 t (k - base) x) rest base := rfl
    rw [hstep, ih hrest hbase]
    by_cases hi : k = base + i
    · have habsent : tblGet none rest (base + i) = none :=
        tblGet_of_absent _ _ _ fun e he => Nat.ne_of_gt (hi ▸ tblWfFrom_above hrest e he)
      simp [habsent, tblGet, hi]
    · rw [tblGet_set_other _ _ _ _ _ _ (show i ≠ k - base by simp only at hk; omega), tblGet, if_neg hi]

/-- END commits output, mailbox and object words (R76). -/
theorem cleCommit_gets {s : State} (hobj : tblWf (fun _ => none) s.cle.runObj = true) (hout : tblWf (fun _ => none) s.cle.runOut = true) {i : Nat}
    (hi : i < 0xC00) :
    tblGet (0 : Word) s.cleCommit.cle.outMap i = (tblGet none s.cle.runOut i).getD (tblGet (0 : Word) s.cle.outMap i)
      ∧ tblGet (0 : Word) s.cleCommit.cle.mbxOut i = (tblGet none s.cle.runOut (0xC00 + i)).getD (tblGet (0 : Word) s.cle.mbxOut i)
      ∧ tblGet (0 : Word) s.cleCommit.cle.obj i = (tblGet none s.cle.runObj i).getD (tblGet (0 : Word) s.cle.obj i) := by
  have hzero : ∀ t : Tbl (Option Word), ∀ e ∈ t, 0 ≤ e.1 := fun _ e _ => Nat.zero_le e.1
  refine ⟨(commitInto_get (tblWfFrom_filter _ hout) (hzero _) _ i).trans ?_, (commitInto_get (tblWfFrom_filter _ hout) (fun e he => ?_) _ i).trans ?_,
    (commitInto_get hobj (hzero _) _ i).trans (by rw [Nat.zero_add])⟩
  · rw [Nat.zero_add, tblGet_filter _ _ _ (fun _ => decide_eq_true hi)]
  · simpa using (List.mem_filter.mp he).2
  · rw [tblGet_filter _ _ _ (fun _ => by simp)]

/-! ### Objects (R96 to R101) -/

theorem State.objWord_setObj (s : State) (n w : Nat) (v : Int) (a : Nat) :
    (s.setObj n w v).objWord a = if a = 16 * n + w then BitVec.ofInt 32 v else s.objWord a := by
  split
  · next h => simp [State.objWord, State.setObj, h]
  · next h =>
    simp only [State.objWord, State.setObj, tblGet_set_other _ _ _ _ _ _ h]

/-- The end of an object writes OUT and L, and of the object its header alone. -/
theorem objDone_spec (s : State) (n out : Nat) {y : Int} (hy : InWord y) (lim : Bool) :
    (∀ j, (s.objDone n out y lim).wInt j = if j = out then y else s.wInt j)
      ∧ (s.objDone n out y lim).cle.flags = { s.cle.flags with l := lim }
      ∧ (∀ w, w ≠ 0 → (s.objDone n out y lim).objInt n w = s.objInt n w)
      ∧ ∃ w f o, s.objDone n out y lim = { s with cle := { s.cle with w := w, flags := f, runObj := o } } := by
  refine ⟨hy.wInt_setWInt (s.setHdr n 5 lim) out, rfl, fun w hw => ?_, _, _, _, rfl⟩
  exact congrArg BitVec.toInt ((s.objWord_setObj n 0 _ _).trans (if_neg (by omega)))

theorem State.objEcc_of_disarmed {s : State} (h : s.get Reg.FLT_INJ_CTRL_ARM = 0) (n : Nat) : s.objEcc n = s := by
  unfold State.objEcc
  refine List.foldlRecOn _ _ (motive := fun u : State => u = s) rfl (fun u hu w _ => ?_)
  rw [hu]
  exact State.cleEcc_of_disarmed h _ _ _

/-- A header of a LIMIT or RATE object whose other fields are 0 (R97). -/
structure PlainHeader (h : Word) (ty : Nat) : Prop where
  low : h.toNat % 0x10000 / 0x80 = 0
  high : h.toNat / 0x1000000 = 0
  type : h.toNat % 16 = ty

section

variable {s : State} {n ty : Nat}

theorem PlainHeader.hdrType {h : Word} (hh : PlainHeader h ty) (hty : ty < 8) : hdrType h = ty := by
  obtain ⟨-, -, htype⟩ := hh
  unfold Machine.hdrType
  omega

/-- Such an object is defined, is not supervised, and takes the cycles of its type. -/
theorem PlainHeader.defined (hh : PlainHeader (s.objWord (16 * n)) ty) (hty : ty = 4 ∨ ty = 5) :
    s.objUndef n = false ∧ s.runoCycles n = (if ty = 4 then 3 else 4) := by
  have htype : Machine.hdrType (s.objWord (16 * n)) = ty := hh.hdrType (by omega)
  obtain ⟨hlow, hhigh, hmod⟩ := hh
  have hcontrol : isControl (s.objWord (16 * n)) = false := by rcases hty with rfl | rfl <;> simp [isControl, htype]
  have hman : hdrMan (s.objWord (16 * n)) = false := testBit_of_div (by simp only [Bool.toNat_false]; omega)
  have hsup : hdrSup (s.objWord (16 * n)) = false := testBit_of_div (by simp only [Bool.toNat_false]; omega)
  have hgsh : hdrGsh (s.objWord (16 * n)) = 0 := by unfold hdrGsh; rw [Nat.shiftRight_eq_div_pow]; omega
  have hin2 : hdrIn2 (s.objWord (16 * n)) = 0 := by unfold hdrIn2; rw [Nat.shiftRight_eq_div_pow]; omega
  have htop : (s.objWord (16 * n)).toNat >>> 28 = 0 := by rw [Nat.shiftRight_eq_div_pow]; omega
  have hgap : (s.objWord (16 * n)).toNat >>> 12 % 16 = 0 := by rw [Nat.shiftRight_eq_div_pow]; omega
  constructor
  · rcases hty with rfl | rfl <;> simp [State.objUndef, htype, hcontrol, hman, hsup, hgsh, hin2, htop, hgap]
  · rcases hty with rfl | rfl <;> simp [State.runoCycles, State.supervised, htype, hcontrol]

end

/-! ### The statement -/

section

variable {s : State}

/-- An instruction outside the plain ones acts in the state of its issue. -/
theorem does_issue {i : Instr} {word : Word} {undef : Bool} {c : Nat} {f : State → State} {P : State → Prop} (h : s.CleReady)
    (hexec : exec i s = .next (s.cleIssue word undef c f)) (hdef : undef = false) (hP : P (f (s.issued c))) : Does i s P :=
  ⟨_, hexec, by rw [cleIssue_of_ready h, hdef]; exact hP⟩

/-- The engine's words, accumulators, index registers and flags stay. -/
def SameWords (s t : State) : Prop := t.cle.w = s.cle.w ∧ t.cle.acc = s.cle.acc ∧ t.cle.idx = s.cle.idx ∧ t.cle.flags = s.cle.flags

theorem does_end (h : s.CleReady) (hend : s.atLoopEnd = false) : Does .cleEnd s (fun t => t.cle.ended = true ∧ t.cle.runObj = [] ∧ t.cle.runOut = []
    ∧ SameWords s t
    ∧ t.get Reg.CLE_STAT_STATE = (if s.get Reg.CLE_CTRL_EN = 0 then 0 else 1)
    ∧ t.get Reg.CLE_CYC_LAST = (max s.now s.cle.issue + 1 - s.cle.runStart) % 0x10000
    ∧ (s.Canonical → ∀ i, i < 0xC00 →
      tblGet (0 : Word) t.cle.outMap i = (tblGet none s.cle.runOut i).getD (tblGet (0 : Word) s.cle.outMap i)
      ∧ tblGet (0 : Word) t.cle.mbxOut i = (tblGet none s.cle.runOut (0xC00 + i)).getD (tblGet (0 : Word) s.cle.mbxOut i)
      ∧ tblGet (0 : Word) t.cle.obj i = (tblGet none s.cle.runObj i).getD (tblGet (0 : Word) s.cle.obj i))
    ∧ Frame [.cad, .cle] [] [Reg.CLE_STAT_STATE, Reg.CLE_CYC_LAST, Reg.CLE_CYC_MAX] s t) := by
  refine does_issue h rfl hend ?_
  obtain ⟨-, hstate, hlast, -, -⟩ := cleDiscard_spec ((s.issued 1).reach ((s.issued 1).now + 1)).cleCommit ((s.issued 1).now + 1)
  refine ⟨rfl, rfl, rfl, ⟨rfl, rfl, rfl, rfl⟩, hstate, ?_, fun ⟨_, _, hobj, hout, _⟩ i hi =>
    cleCommit_gets (s := (s.issued 1).reach ((s.issued 1).now + 1)) hobj hout hi, ?_⟩
  · rw [← h.now_reach]
    exact hlast
  · exact (((Frame.issued (by decide) (by decide) 1).reach (by decide) _).cle (by decide) _).cleDiscard (by decide) (by simp) (by simp) (by simp) _

/-- An undefined instruction stops the run (R92). -/
def CleStopped (s : State) (pc word past : Nat) (t : State) : Prop :=
  t.get Reg.CLE_STAT_UNDEF = 1 ∧ t.get Reg.CLE_UNDEF_PC_PC = pc ∧ t.get Reg.CLE_UNDEF_PC_PAST = past
    ∧ t.get Reg.CLE_UNDEF_PC_TICK = s.tick % 0x10000 ∧ t.get Reg.CLE_UNDEF_INSN_INSN = word
    ∧ t.cle.runObj = [] ∧ t.cle.runOut = [] ∧ t.cle.obj = s.cle.obj ∧ t.cle.outMap = s.cle.outMap ∧ t.cle.mbxOut = s.cle.mbxOut
    ∧ t.get Reg.CLE_STAT_STATE ≠ 2 ∧ t.get Reg.CLE_STAT_STATE ≠ 3 ∧ t.fltBit Reg.FLT_SRC_SRC 28 = true
    ∧ t.get Reg.CAD_OVR_SOLVE_COUNT = min (s.get Reg.CAD_OVR_SOLVE_COUNT + 1) 0xFFFFFFFF

theorem does_stop {i : Instr} {word : Word} {undef : Bool} {c : Nat} {f : State → State} (h : s.CleReady)
    (hexec : exec i s = .next (s.cleIssue word undef c f)) (hundef : undef = true) : Does i s (CleStopped s s.cle.pc word.toNat 0) := by
  have hstop : s.cleIssue word undef c f = (s.reach s.cle.issue).cleUndef word false := by
    rw [cleIssue_of_ready h, hundef]
    rfl
  obtain ⟨-, -, -, hpc, -⟩ := h
  obtain ⟨hundef, hat, hspec⟩ := cleUndef_spec (s.reach s.cle.issue) word false
  exact ⟨_, hexec, by rw [hstop]; exact ⟨hundef, hat.trans (Nat.mod_eq_of_lt hpc), hspec⟩⟩

/-- A fetch past the end stops it too (R91). -/
theorem does_stop_past {i : Instr} {word : Word} {undef : Bool} {c : Nat} {f : State → State} (hcan : s.cleCanIssue = true) (hpc : 16384 ≤ s.cle.pc)
    (hexec : exec i s = .next (s.cleIssue word undef c f)) : Does i s (CleStopped s 0 0 1) := by
  have hstop : s.cleIssue word undef c f = (s.reach s.cle.issue).cleUndef 0 true := by
    have hpc' : 16384 ≤ (s.reach s.cle.issue).cle.pc := hpc
    simp only [State.cleIssue, hcan, hpc', Bool.true_eq_false, if_false, if_true]
  exact ⟨_, hexec, by rw [hstop]; exact cleUndef_spec (s.reach s.cle.issue) 0 true⟩

/-- RUNO of a defined LIMIT or RATE object. -/
theorem does_runo {o : Fin 256} {ty : Nat} {P : State → Prop} (h : s.CleReady) (hh : PlainHeader (s.objWord (16 * o.val)) ty) (hty : ty = 4 ∨ ty = 5)
    (hP : P ((s.issued (if ty = 4 then 3 else 4)).runObject o).cleNext) : Does (.cleRuno o) s P := by
  obtain ⟨hdef, hcycles⟩ := hh.defined hty
  exact does_plain h rfl hdef (hcycles ▸ hP)

/-- Outside loops the program goes on at the next address (R88). -/
theorem cleAfter_of_no_loops {u : State} (hloops : u.cle.loops = []) (e : Nat) :
    u.cleAfter e = { u with cle := { u.cle with pc := e + 1, loops := [] } } := by
  rw [State.cleAfter, hloops]
  rfl

/-- The engine goes on at address `pc` outside loops, with nothing changed since the issue of an instruction of `n` cycles. -/
def State.wentOn (s : State) (n pc : Nat) : State := { s.issued n with cle := { (s.issued n).cle with pc := pc, loops := [] } }

theorem does_br (h : s.CleReady) (hloops : s.cle.loops = []) (hend : s.atLoopEnd = false) {c : Fin 16} (hc : c.val < 13) (g : Fin 16384) :
    Does (.cleBr c g) s
      (fun t => t = s.wentOn (if s.cle.flags.holds c.val then 2 else 1) (if s.cle.flags.holds c.val then g.val else s.cle.pc + 1)) := by
  have hdef : (decide (13 ≤ c.val) || s.atLoopEnd) = false := by rw [hend, Bool.or_false]; exact decide_eq_false (by omega)
  refine ⟨_, rfl, ?_⟩
  rw [doCleBr, cleIssue_of_ready h, hdef]
  cases s.cle.flags.holds c.val
  · exact cleAfter_of_no_loops (u := s.issued 1) hloops s.cle.pc
  · have hnone : (s.issued 2).cle.loops = [] := hloops
    simp only [Bool.false_eq_true, if_false, if_true, hnone, List.filter_nil]
    rfl

/-- A loop with count 0 is skipped; any other becomes the only one (R88). -/
theorem does_loop (h : s.CleReady) (hloops : s.cle.loops = []) (hend : s.atLoopEnd = false) (n : Fin 4096) {e : Fin 16384} (he : s.cle.pc < e.val) :
    Does (.cleLoop n e) s (fun t => t = if n.val = 0 then s.wentOn 1 (e.val + 1)
      else { s.wentOn 1 (s.cle.pc + 1) with cle := { (s.wentOn 1 (s.cle.pc + 1)).cle with loops := [⟨s.cle.pc, e.val, n.val - 1⟩] } }) := by
  have hdef : (decide (e.val ≤ s.cle.pc ∨ 2 ≤ s.cle.loops.length) || s.atLoopEnd) = false := by
    rw [hend, Bool.or_false, hloops]
    exact decide_eq_false (by simp; omega)
  refine does_issue h rfl hdef ?_
  split
  · exact cleAfter_of_no_loops (u := s.issued 1) hloops e
  · have hnone : (s.issued 1).cle.loops = [] := hloops
    rw [hnone]
    rfl

/-- A count that has come lets the program go on at once; another is awaited (R90). -/
theorem does_waitt (h : s.CleReady) (hloops : s.cle.loops = []) (n : Fin 65536) :
    Does (.cleWaitt n) s (fun t => t = if s.cad.tickStart + n.val ≤ max s.now s.cle.issue + 1 then s.wentOn 1 (s.cle.pc + 1)
      else State.set { s.wentOn 1 (s.cle.pc + 1) with cle := { (s.wentOn 1 (s.cle.pc + 1)).cle with
        waitUntil := some (s.cad.tickStart + n.val) } } Reg.CLE_STAT_STATE 3) := by
  refine does_issue h rfl rfl ?_
  have hissue : (s.issued 1).cle.issue = max s.now s.cle.issue + 1 := congrArg (· + 1) h.now_reach
  by_cases hdue : s.cad.tickStart + n.val ≤ max s.now s.cle.issue + 1
  · have hdue' : (s.issued 1).cad.tickStart + n.val ≤ (s.issued 1).cle.issue := hissue ▸ hdue
    rw [if_pos hdue]
    exact (if_pos hdue').trans (cleAfter_of_no_loops (u := s.issued 1) hloops s.cle.pc)
  · have hdue' : ¬(s.issued 1).cad.tickStart + n.val ≤ (s.issued 1).cle.issue := hissue ▸ hdue
    rw [if_neg hdue]
    exact (if_neg hdue').trans (cleAfter_of_no_loops (u := State.set { s.issued 1 with cle := { (s.issued 1).cle with
      waitUntil := some (s.cad.tickStart + n.val) } } Reg.CLE_STAT_STATE 3) hloops s.cle.pc)

theorem Frame.wentOn (s : State) (n pc : Nat) (fs : List Fld) : Frame [.cad, .cle] [] fs s (s.wentOn n pc) :=
  (Frame.issued (by decide) (by decide) n).cle (by decide) _

/-- LIMIT and RATE run as their types say; with no injection armed the check of their words finds nothing (R100, R386). -/
theorem runObject_limit (harm : s.get Reg.FLT_INJ_CTRL_ARM = 0) {n : Nat} (hty : Machine.hdrType (s.objWord (16 * n)) = 4) :
    s.runObject n = s.runLimit n (s.objWord (16 * n)) (s.wInt (hdrIn (s.objWord (16 * n)))) := by
  simp only [State.runObject, hty, State.objEcc_of_disarmed harm]

theorem runObject_rate (harm : s.get Reg.FLT_INJ_CTRL_ARM = 0) {n : Nat} (hty : Machine.hdrType (s.objWord (16 * n)) = 5) :
    s.runObject n = s.runRate n (s.objWord (16 * n)) (s.wInt (hdrIn (s.objWord (16 * n)))) := by
  simp only [State.runObject, hty, State.objEcc_of_disarmed harm]

/-- A RUNO object without a type is undefined (R97). -/
theorem objUndef_of_empty {n : Nat} (h : (s.objWord (16 * n)).toNat % 8 = 0) : s.objUndef n = true := by
  have hty : Machine.hdrType (s.objWord (16 * n)) = 0 := h
  simp [State.objUndef, hty]

/-- The output of LIMIT lies in the range, as the input and both bounds do. -/
theorem inWord_clampInt {x lo hi : Int} (hx : InWord x) (hlo : InWord lo) (hhi : InWord hi) : InWord (clampInt x lo hi) := by
  unfold InWord clampInt at *
  omega

/-- The output of RATE lies between its last output and the input. -/
theorem inWord_rate {x y up down : Int} (hx : InWord x) (hy : InWord y) : InWord (y + clampInt (x - y) (-(max down 0)) (max up 0)) := by
  unfold InWord clampInt at *
  omega

theorem State.objInt_inWord (s : State) (n w : Nat) : InWord (s.objInt n w) := inWord_toInt _

/-- The end of an object's run: OUT, L, and no register. -/
theorem objDone_cleNext (h : s.CleReady) {c : Nat} {u : State} (hu : ∃ o, u = { s.issued c with cle := { (s.issued c).cle with runObj := o } })
    (n out : Nat) {y : Int} (hy : InWord y) (lim : Bool) :
    let t := (u.objDone n out y lim).cleNext
    (∀ j, t.wInt j = if j = out then y else s.wInt j) ∧ t.cle.flags = { s.cle.flags with l := lim } ∧ (∀ w, w ≠ 0 → t.objInt n w = u.objInt n w)
      ∧ t.cle.issue = max s.now s.cle.issue + c ∧ t.cle.obj = s.cle.obj ∧ Frame [.cad, .cle] [] [] s t := by
  obtain ⟨hword, hflags, hint, w, f, o, hdone⟩ := objDone_spec u n out hy lim
  obtain ⟨_, rfl⟩ := hu
  refine ⟨hword, hflags, hint, ?_, by rw [hdone]; rfl, ?_⟩
  · rw [hdone]
    exact congrArg (· + c) h.now_reach
  · rw [hdone]
    exact (((Frame.issued (by decide) (by decide) c).cle (by decide) _).cle (by decide) _).cleNext (by decide)

/-- RUNO of LIMIT: the input held between the two bounds (R100). -/
theorem does_limit {o : Fin 256} (h : s.CleReady) (hh : PlainHeader (s.objWord (16 * o.val)) 4) :
    let x := s.wInt (hdrIn (s.objWord (16 * o.val)))
    let y := max (s.objInt o.val 1) (min x (s.objInt o.val 2))
    Does (.cleRuno o) s (fun t => (∀ j, t.wInt j = if j = hdrOut (s.objWord (16 * o.val)) then y else s.wInt j)
      ∧ t.cle.flags = { s.cle.flags with l := decide (y ≠ x) } ∧ t.cle.issue = max s.now s.cle.issue + 3 ∧ t.cle.obj = s.cle.obj
      ∧ Frame [.cad, .cle] [] [] s t) := by
  intro x y
  have ⟨_, _, _, _, _, harm⟩ := h
  have hrun : (s.issued 3).runObject o = (s.issued 3).objDone o (hdrOut (s.objWord (16 * o.val))) y (decide (y ≠ x)) := by
    rw [decide_not]
    exact runObject_limit (s := s.issued 3) harm (hh.hdrType (by decide))
  obtain ⟨hword, hflags, -, hrest⟩ := objDone_cleNext h (c := 3) ⟨_, rfl⟩ o.val (hdrOut (s.objWord (16 * o.val)))
    (inWord_clampInt (s.wInt_inWord _) (s.objInt_inWord o.val 1) (s.objInt_inWord o.val 2)) (decide (y ≠ x))
  exact does_runo h hh (.inl rfl) (hrun.symm ▸ ⟨hword, hflags, hrest⟩)

/-- RUNO of RATE: the last output moved towards the input, by no more than the two bounds, and kept as the last output (R100). -/
theorem does_rate {o : Fin 256} (h : s.CleReady) (hh : PlainHeader (s.objWord (16 * o.val)) 5) :
    let last := s.objInt o.val 3
    let y := last + max (-(max (s.objInt o.val 2) 0)) (min (s.wInt (hdrIn (s.objWord (16 * o.val))) - last) (max (s.objInt o.val 1) 0))
    Does (.cleRuno o) s (fun t => (∀ j, t.wInt j = if j = hdrOut (s.objWord (16 * o.val)) then y else s.wInt j)
      ∧ t.objInt o.val 3 = y ∧ t.cle.issue = max s.now s.cle.issue + 4 ∧ t.cle.obj = s.cle.obj ∧ Frame [.cad, .cle] [] [] s t) := by
  intro last y
  have ⟨_, _, _, _, _, harm⟩ := h
  have hy : InWord y := inWord_rate (s.wInt_inWord _) (s.objInt_inWord o.val 3)
  have hkept : ((s.issued 4).setObj o 3 y).objInt o 3 = y :=
    (congrArg BitVec.toInt (((s.issued 4).objWord_setObj o 3 y _).trans (if_pos rfl))).trans hy.toInt_ofInt
  obtain ⟨hword, -, hint, hrest⟩ := objDone_cleNext h (c := 4) (u := (s.issued 4).setObj o 3 y) ⟨_, rfl⟩ o.val
    (hdrOut (s.objWord (16 * o.val))) hy _
  refine does_runo h hh (.inr rfl) ?_
  rw [show (if (5 : Nat) = 4 then 3 else 4) = 4 from rfl, runObject_rate (s := s.issued 4) harm (hh.hdrType (by decide))]
  exact ⟨hword, (hint 3 (by decide)).trans hkept, hrest⟩

end

/-- Settles O18: END commits by a fold over canonical tables, branches and loops act on an empty loop stack, and a stop leaves what
`cleUndef_spec` says. -/
theorem cleProgramOrderAndStops : Obligations.CleProgramOrderAndStops := by
  unfold Obligations.CleProgramOrderAndStops
  intro s at_ ready words same stopped
  refine ⟨fun ⟨hready, hloops⟩ => ?_, fun ⟨hstate, hsolve, hpc⟩ => ?_, fun u ⟨hwait, hstate, hnow, hsolve, hu⟩ => ?_⟩
  · have h : s.CleReady := hready
    have hend : s.atLoopEnd = false := by rw [State.atLoopEnd, hloops]; rfl
    have hnow (c : Nat) : (s.issued c).cle.issue = at_ + c := congrArg (· + c) h.now_reach
    refine ⟨does_end h hend, fun c g hc => ?_, fun n e he => ?_, fun n => ?_, fun o => ?_, fun w => does_stop h rfl rfl⟩
    · obtain ⟨t, hexec, rfl⟩ := does_br h hloops hend hc g
      exact ⟨_, hexec, rfl, rfl, hnow _, ⟨⟨rfl, rfl, rfl, rfl⟩, rfl, rfl, rfl, rfl, rfl, rfl⟩, .wentOn _ _ _ _⟩
    · obtain ⟨t, hexec, rfl⟩ := does_loop h hloops hend n he
      refine ⟨_, hexec, ?_⟩
      split
      · exact ⟨⟨rfl, rfl⟩, hnow _, ⟨⟨rfl, rfl, rfl, rfl⟩, rfl, rfl, rfl, rfl, rfl, rfl⟩, .wentOn _ _ _ _⟩
      · exact ⟨⟨rfl, rfl⟩, hnow _, ⟨⟨rfl, rfl, rfl, rfl⟩, rfl, rfl, rfl, rfl, rfl, rfl⟩, (Frame.wentOn _ _ _ _).cle (by decide) _⟩
    · obtain ⟨t, hexec, rfl⟩ := does_waitt h hloops n
      refine ⟨_, hexec, ?_⟩
      obtain ⟨hrun, -⟩ := hready
      split
      · exact ⟨⟨rfl, hrun, hnow 1⟩, rfl, ⟨⟨rfl, rfl, rfl, rfl⟩, rfl, rfl, rfl, rfl, rfl, rfl⟩, .wentOn _ _ _ _⟩
      · exact ⟨⟨rfl, State.get_set_same _ _ _⟩, rfl, ⟨⟨rfl, rfl, rfl, rfl⟩, rfl, rfl, rfl, rfl, rfl, rfl⟩,
          ((Frame.wentOn _ _ _ _).cle (by decide) _).set (by simp) _⟩
    · intro hw x out lo hi
      obtain ⟨-, -, -, -, -, harm⟩ := hready
      have hout : hdrOut (s.objWord (16 * o.val)) = out := by rw [hdrOut, Nat.shiftRight_eq_div_pow]
      have hin : s.wInt (hdrIn (s.objWord (16 * o.val))) = x := by rw [hdrIn, Nat.shiftRight_eq_div_pow]
      refine ⟨fun ⟨hlow, hhigh, htype⟩ => ?_, fun ⟨hlow, hhigh, htype⟩ => ?_, fun htype => ?_⟩
      · obtain ⟨t, hexec, hword, hflags, hissue, hobj, hframe⟩ := does_limit h ⟨hlow, hhigh, htype⟩
        rw [hout, hin] at hword
        rw [hin] at hflags
        exact ⟨t, hexec, (hword out).trans (if_pos rfl), hflags, fun j hj => (hword j).trans (if_neg hj), hissue, hobj, hframe⟩
      · obtain ⟨t, hexec, hword, hlast, hissue, hobj, hframe⟩ := does_rate h ⟨hlow, hhigh, htype⟩
        rw [hout, hin] at hword
        have hy := (hword out).trans (if_pos rfl)
        rw [hin] at hlast
        exact ⟨t, hexec, hy, hlast.trans hy.symm, hissue, hobj, hframe⟩
      · have hstop := does_stop (i := .cleRuno o) (word := encWord 0x05 (o.val * 2 ^ 18)) (c := s.runoCycles o) (f := fun s => (s.runObject o).cleNext)
          h rfl (objUndef_of_empty htype)
        rw [encWord_toNat (by decide) (by omega)] at hstop
        obtain ⟨t, hexec, hstopped⟩ := hstop
        refine ⟨t, hexec, ?_⟩
        have hnum : 0x05 * 2 ^ 26 + o.val * 2 ^ 18 = 0x14000000 + o.val * 0x40000 := rfl
        exact hnum ▸ hstopped
  · have hcan : s.cleCanIssue = true := by
      have hsolve' : max s.now s.cle.issue < s.solveTime := hsolve
      simp [State.cleCanIssue, hstate, hsolve']
    exact does_stop_past hcan hpc rfl
  · have hgo : ¬(s.get Reg.CLE_STAT_STATE ≠ 3 ∨ s.solveTime ≤ max s.now u) := by
      have hsolve' : u < s.solveTime := hsolve
      omega
    have hrelease : doWaittRelease s = State.set { s.reach u with cle := { s.cle with waitUntil := none, issue := u } } Reg.CLE_STAT_STATE 2 := by
      simp only [doWaittRelease, hwait, if_neg hgo]
      rfl
    refine ⟨_, rfl, ?_⟩
    rw [hrelease]
    refine ⟨State.get_set_same _ _ _, rfl, rfl, ?_, ⟨⟨rfl, rfl, rfl, rfl⟩, rfl, rfl, rfl, rfl, rfl, rfl⟩,
      (((Frame.refl _ _ _ s).reach (by decide) u).cle (by decide) _).set (by simp) _⟩
    show (s.reach u).now = u
    rcases Nat.lt_or_eq_of_le hnow with hlt | heq
    · exact State.now_reach hlt hu
    · rw [← heq, State.now, State.reach]
      exact if_neg (Nat.lt_irrefl _)

end Sys2Proof.Machine
end

section
/-!
The control engine from the bus: its write queue, program store, mailboxes and control register.
-/

namespace Sys2Proof.Machine

section

variable {s : State}

/-! ### Flags of the state as the statement writes them -/

theorem State.on_eq_false {f : Fld} (h : s.get f = 0) : s.on f = false := by simp [State.on, h]

theorem State.on_eq_true {f : Fld} (h : s.get f ≠ 0) : s.on f = true := by simp [State.on, h]

/-- A run is in progress while STATE is RUN or WAIT (R111). -/
theorem cleRunning_iff : s.cleRunning = true ↔ 2 ≤ s.get Reg.CLE_STAT_STATE ∧ s.get Reg.CLE_STAT_STATE ≤ 3 := by
  simp only [State.cleRunning, Bool.or_eq_true, beq_iff_eq]
  omega

theorem cleRunning_eq_false (h : s.get Reg.CLE_STAT_STATE < 2) : s.cleRunning = false :=
  Bool.eq_false_iff.mpr fun hrun => absurd (cleRunning_iff.mp hrun).1 (Nat.not_le.mpr h)

/-! ### The write queue (R106 to R108) -/

theorem wqDrains_eq_true (hwait : s.cle.wqWait = false) (hstate : s.get Reg.CLE_STAT_STATE < 2) (hhold : s.get Reg.CLE_CTRL_HOLDW = 0) :
    s.wqDrains = true := by
  simp [State.wqDrains, cleRunning_eq_false hstate, State.on_eq_false hhold, hwait]

/-- A word is the part outside a mask and the part under it. -/
theorem toNat_and_not_add_and (v m : Word) : (v &&& ~~~m).toNat + (v &&& m).toNat = v.toNat := by
  have hdisjoint : (v &&& ~~~m) &&& (v &&& m) = 0#32 := by
    ext i
    simp only [BitVec.getElem_and, BitVec.getElem_not, BitVec.getElem_zero]
    cases v[i] <;> cases m[i] <;> rfl
  rw [← BitVec.toNat_add_of_and_eq_zero hdisjoint, BitVec.add_eq_or_of_and_eq_zero _ _ hdisjoint]
  congr 1
  ext i
  simp only [BitVec.getElem_or, BitVec.getElem_and, BitVec.getElem_not]
  cases v[i] <;> cases m[i] <;> rfl

/-- HIST taken out of a header (R96). -/
theorem toNat_clear_hist (v : Word) : (v &&& ~~~(0x40 : Word)).toNat = if v.getLsbD 6 then v.toNat - 0x40 else v.toNat := by
  have hsum := toNat_and_not_add_and v 0x40
  have hmask : v &&& (0x40 : Word) = if v.getLsbD 6 then 0x40 else 0 := BitVec.and_twoPow v 6
  rw [hmask] at hsum
  generalize v &&& ~~~(0x40 : Word) = u at hsum ⊢
  split at hsum
  · next hset =>
    rw [if_pos hset, ← hsum]
    exact (Nat.add_sub_cancel _ _).symm
  · next hclear => exact hsum.trans (if_neg hclear).symm

/-- The oldest write has left the queue, in one cycle (R106). -/
def State.wqPopped (s : State) (rest : List (CleMemWord × Word)) : State := { s.reach (s.now + 1) with cle := { s.cle with wq := rest } }

/-- The word written to the object store: a header loses HIST (R96). -/
def objectWritten (a : Nat) (v : Word) : Word := if a % 16 = 0 then v &&& ~~~(0x40 : Word) else v

/-- A write of the engine's memories by the popped entry; WQLVL follows the queue. -/
theorem Frame.drained (s : State) (rest : List (CleMemWord × Word)) (c : CleState) :
    Frame [.cad, .cle] [] [Reg.CLE_STAT_WQLVL] s (State.wqLevel { s.wqPopped rest with cle := c }) :=
  ((((Frame.refl _ _ _ s).reach (by decide) _).cle (by decide) _).cle (by decide) c).set (by simp) _

theorem does_drain_data {a : Fin 4096} {v : Word} {rest : List (CleMemWord × Word)} (hwq : s.cle.wq = (.data a, v) :: rest)
    (hdrains : s.wqDrains = true) : Does .writeQueueDrain s (fun t => t.dataWord a.val = v ∧ (∀ i, i ≠ a.val → t.dataWord i = s.dataWord i)
      ∧ t.cle.wq = rest ∧ t.cle.obj = s.cle.obj ∧ Frame [.cad, .cle] [] [Reg.CLE_STAT_WQLVL] s t) := by
  have hdrain : doWriteQueueDrain s = ((s.wqPopped rest).setData a v).wqLevel := by
    simp only [doWriteQueueDrain, hwq, hdrains, Bool.true_eq_false, if_false]
    rfl
  have hword := (s.wqPopped rest).dataWord_setData a v
  exact ⟨_, congrArg Host.Outcome.next hdrain, (hword a).trans (if_pos rfl), fun i hi => (hword i).trans (if_neg hi), rfl, rfl, .drained s rest _⟩

theorem does_drain_object {a : Fin 4096} {v : Word} {rest : List (CleMemWord × Word)} (hwq : s.cle.wq = (.object a, v) :: rest)
    (hdrains : s.wqDrains = true) : Does .writeQueueDrain s (fun t => t.cle.obj = tblSet (0 : Word) s.cle.obj a (objectWritten a v)
      ∧ t.cle.wq = rest ∧ t.cle.data = s.cle.data ∧ Frame [.cad, .cle] [] [Reg.CLE_STAT_WQLVL] s t) := by
  have hdrain : doWriteQueueDrain s = State.wqLevel { s.wqPopped rest with cle := { (s.wqPopped rest).cle with
      obj := tblSet (0 : Word) s.cle.obj a (objectWritten a v) } } := by
    simp only [doWriteQueueDrain, hwq, hdrains, Bool.true_eq_false, if_false]
    rfl
  exact ⟨_, congrArg Host.Outcome.next hdrain, rfl, rfl, rfl, .drained s rest _⟩

/-! ### The release of a held batch (R107) -/

/-- A batch is judged by the next Acquire deadline: with RUN 0 there is none, before this tick's it is this tick's. -/
theorem nextAcquire_of_not_running (h : s.get Reg.CAD_CTRL_RUN = 0) : s.nextAcquire = none := if_pos (State.on_eq_false h)

theorem nextAcquire_of_ahead (hrun : s.get Reg.CAD_CTRL_RUN ≠ 0) (htick : s.cad.inTick = true) (hphase : s.get Reg.CAD_STAT_PHASE = 0) :
    s.nextAcquire = some (s.cad.tickStart + s.get Reg.CAD_DL_ACQ_DL) := by
  have hrunning : s.running = true := State.on_eq_true hrun
  simp [State.nextAcquire, hrunning, htick, hphase]

/-- Whether a released batch drains at once. -/
def State.batchFits (s : State) : Bool :=
  match s.nextAcquire with
  | none => true
  | some t => s.cleRunning || decide (s.now + s.cle.wq.length ≤ t)

theorem doHoldwClear_of_held (h : s.get Reg.CLE_CTRL_HOLDW ≠ 0) :
    doHoldwClear s = { s.set Reg.CLE_CTRL_HOLDW 0 with cle := { s.cle with wqWait := !s.batchFits } } := by
  have hheld : ¬s.on Reg.CLE_CTRL_HOLDW = false := by simp [State.on_eq_true h]
  rw [doHoldwClear, if_neg hheld]
  rfl

theorem does_holdwClear (h : s.get Reg.CLE_CTRL_HOLDW ≠ 0) : Does .holdwClear s (fun t => t.get Reg.CLE_CTRL_HOLDW = 0
    ∧ t.cle = { s.cle with wqWait := !s.batchFits } ∧ Frame [.cle] [] [Reg.CLE_CTRL_HOLDW] s t) :=
  ⟨_, congrArg Host.Outcome.next (doHoldwClear_of_held h), State.get_set_same s _ 0, rfl, ((Frame.refl _ _ _ s).set (by simp) 0).cle (by decide) _⟩

/-! ### Reads and the program store (R109) -/

theorem Frame.answer {ps : List Part} {bs : List Nat} {fs : List Fld} {t : State} (h : Frame ps bs fs s t) (hp : .bus ∈ ps) (w : Nat) :
    Frame ps bs fs s (t.answer w) :=
  h.parts rfl (fun p hmem => by cases p <;> simp_all [Part.same, State.byteAt, State.answer])

theorem State.paddr_paddrOn (s : State) : s.paddrOn.get Reg.CLE_PADDR_ADDR = (s.get Reg.CLE_PADDR_ADDR + 1) % 16384 := State.get_set_same _ _ _

theorem Frame.paddrOn {ps : List Part} {bs : List Nat} {fs : List Fld} {t : State} (h : Frame ps bs fs s t) (hf : Reg.CLE_PADDR_ADDR ∈ fs) :
    Frame ps bs fs s t.paddrOn := h.set hf _

theorem doClePdataWrite_of_stopped (h : s.get Reg.CLE_CTRL_EN = 0) (v : Word) :
    doClePdataWrite v s = State.paddrOn { s with cle := { s.cle with
      prog := tblSet (0 : Word) s.cle.prog (s.get Reg.CLE_PADDR_ADDR) v,
      progBad := s.cle.progBad.filter (fun x => x != s.get Reg.CLE_PADDR_ADDR) } } := by
  rw [doClePdataWrite, State.on_eq_false h]
  rfl

theorem doClePdataWrite_of_enabled (h : s.get Reg.CLE_CTRL_EN ≠ 0) (v : Word) : doClePdataWrite v s = (s.set Reg.CLE_STAT_PWERR 1).paddrOn :=
  if_pos (State.on_eq_true h)

/-! ### Mailboxes (R110) -/

/-- The staging copy becomes active, and no request is left. -/
def State.mailboxCopied (s : State) (at_ : Nat) : State :=
  State.set { s with cle := { s.cle with mbxCopied := some at_, mbxIn := s.cle.mbxStage, mbxReq := none } } Reg.CLE_MBX_CTRL_PEND 0

/-- A due copy is made, unless its clock is that of a staging write. -/
theorem doMailboxCopy_of_due {at_ : Nat} (hreq : s.cle.mbxReq = some at_) (hdue : s.requestDue at_ = true)
    (hstaged : s.running = true → ∀ p ∈ s.cle.mbxNow, p.1 ≠ s.cad.tickStart) :
    doMailboxCopy s = s.mailboxCopied (if s.running then s.cad.tickStart else s.now) := by
  unfold doMailboxCopy
  split
  · next hnone => exact absurd (hreq.symm.trans hnone) (by simp)
  · next t hsome =>
    obtain rfl := Option.some.inj (hreq.symm.trans hsome)
    rw [if_neg (by simp [hdue])]
    extract_lets copyAt s1
    split
    · rfl
    · next w before hnow =>
      refine if_neg fun ⟨hrun, hw⟩ => hstaged hrun (w, before) hnow (hw.trans ?_)
      simp only [copyAt, if_pos hrun]

theorem Frame.mailboxCopied {t : State} (h : Frame [.cle] [] [Reg.CLE_MBX_CTRL_PEND] s t) (at_ : Nat) :
    Frame [.cle] [] [Reg.CLE_MBX_CTRL_PEND] s (t.mailboxCopied at_) := (h.cle (by decide) _).set (by simp) _

/-- The copy is asked for, with PEND. -/
def State.mailboxAsked (s : State) : State := State.set { s with cle := { s.cle with mbxReq := some s.now } } Reg.CLE_MBX_CTRL_PEND 1

theorem Frame.mailboxAsked (s : State) : Frame [.cle] [] [Reg.CLE_MBX_CTRL_PEND] s s.mailboxAsked :=
  ((Frame.refl _ _ _ s).cle (by decide) _).set (by simp) _

/-- While RUN is 0 a commit copies at once, whether or not a request waits. -/
theorem does_commit_at_once (hrun : s.get Reg.CAD_CTRL_RUN = 0) : Does .mailboxCommit s (fun t =>
    t.cle = { s.cle with mbxIn := s.cle.mbxStage, mbxReq := none, mbxCopied := some s.now } ∧ t.get Reg.CLE_MBX_CTRL_PEND = 0
    ∧ Frame [.cle] [] [Reg.CLE_MBX_CTRL_PEND] s t) := by
  have hstopped : s.running = false := State.on_eq_false hrun
  have hcopy {u : State} {at_ : Nat} (hreq : u.cle.mbxReq = some at_) (hu : u.running = false) : doMailboxCopy u = u.mailboxCopied u.now := by
    rw [doMailboxCopy_of_due hreq (by rw [State.requestDue, hu]; rfl) (by rw [hu]; exact fun h => absurd h (by decide)), hu]
    rfl
  have hasked : s.mailboxAsked.running = false :=
    (congrArg (· != 0) (State.get_set_other _ _ _ _ (by decide))).trans hstopped
  rcases hreq : s.cle.mbxReq with _ | at_
  · have hcommit : doMailboxCommit s = s.mailboxAsked.mailboxCopied s.now := by
      simp only [doMailboxCommit, hreq, hstopped, Bool.false_eq_true, if_true, if_false]
      exact hcopy (u := s.mailboxAsked) rfl hasked
    exact ⟨_, congrArg Host.Outcome.next hcommit, rfl, State.get_set_same _ _ _, (Frame.mailboxAsked s).mailboxCopied _⟩
  · have hcommit : doMailboxCommit s = s.mailboxCopied s.now := by
      simp only [doMailboxCommit, hreq, hstopped, Bool.false_eq_true, reduceCtorEq, if_false]
      exact hcopy hreq hstopped
    exact ⟨_, congrArg Host.Outcome.next hcommit, rfl, State.get_set_same _ _ _, (Frame.refl _ _ _ s).mailboxCopied _⟩

theorem doMailboxCommit_of_running (hrun : s.get Reg.CAD_CTRL_RUN ≠ 0) (hreq : s.cle.mbxReq = none) : doMailboxCommit s = s.mailboxAsked := by
  have hrunning : s.running = true := State.on_eq_true hrun
  simp only [doMailboxCommit, hreq, hrunning, if_true]
  rfl

/-! ### The clearing of EN (R78) -/

/-- EN 0, with the run in progress stopped and what it has not committed discarded. -/
def State.cleDisabled (s : State) : State :=
  let s1 := if s.cleRunning then (s.set Reg.CLE_CTRL_EN 0).cleDiscard s.now else (s.set Reg.CLE_CTRL_EN 0).set Reg.CLE_STAT_STATE 0
  { s1 with cle := { s1.cle with wqWait := false } }

theorem doCleEnClear_of_enabled (h : s.get Reg.CLE_CTRL_EN ≠ 0) : doCleEnClear s = if s.pulsesEnabled then
    ({ s.cleDisabled with trp := { s.cleDisabled.trp with cause25 := setBit s.cleDisabled.trp.cause25 1 } } : State).tripLatch 25 63
    else s.cleDisabled := by
  have hon : ¬s.on Reg.CLE_CTRL_EN = false := by simp [State.on_eq_true h]
  rw [doCleEnClear, if_neg hon]
  rfl

/-- What stands once EN is 0, before the trip of source 25. -/
theorem cleDisabled_spec (s : State) :
    let t := s.cleDisabled
    t.get Reg.CLE_CTRL_EN = 0 ∧ t.get Reg.CLE_STAT_STATE = 0
      ∧ (2 ≤ s.get Reg.CLE_STAT_STATE ∧ s.get Reg.CLE_STAT_STATE ≤ 3 → t.cle.runObj = [] ∧ t.cle.runOut = []
        ∧ t.get Reg.CLE_CYC_LAST = (s.now - s.cle.runStart) % 0x10000)
      ∧ t.cle.data = s.cle.data ∧ t.cle.obj = s.cle.obj ∧ t.cle.outMap = s.cle.outMap
      ∧ t.get Reg.CAD_OVR_SOLVE_COUNT = s.get Reg.CAD_OVR_SOLVE_COUNT := by
  have hen : (s.set Reg.CLE_CTRL_EN 0).get Reg.CLE_CTRL_EN = 0 := State.get_set_same _ _ _
  have hcnt : (s.set Reg.CLE_CTRL_EN 0).get Reg.CAD_OVR_SOLVE_COUNT = s.get Reg.CAD_OVR_SOLVE_COUNT := State.get_set_other _ _ _ _ (by decide)
  intro t
  by_cases hrun : s.cleRunning = true
  · obtain ⟨hcle, hstate, hlast, -, hother⟩ := cleDiscard_spec (s.set Reg.CLE_CTRL_EN 0) s.now
    have ht : t = { (s.set Reg.CLE_CTRL_EN 0).cleDiscard s.now with cle := { ((s.set Reg.CLE_CTRL_EN 0).cleDiscard s.now).cle with wqWait := false } } := by
      simp only [t, State.cleDisabled, hrun, if_true]
    have hget (f : Fld) : t.get f = ((s.set Reg.CLE_CTRL_EN 0).cleDiscard s.now).get f := State.get_of_regs (by rw [ht]) f
    have hcle' : t.cle = { s.cle with runObj := [], runOut := [], loops := [], waitUntil := none, wqWait := false } := by rw [ht, hcle]; rfl
    exact ⟨(hget _).trans ((hother _ (by decide)).trans hen), (hget _).trans (hstate.trans (if_pos hen)),
      fun _ => ⟨by rw [hcle'], by rw [hcle'], (hget _).trans hlast⟩, by rw [hcle'], by rw [hcle'], by rw [hcle'],
      (hget _).trans ((hother _ (by decide)).trans hcnt)⟩
  · have ht : t = { (s.set Reg.CLE_CTRL_EN 0).set Reg.CLE_STAT_STATE 0 with cle := { s.cle with wqWait := false } } := by
      simp only [t, State.cleDisabled, hrun]
      rfl
    have hget (f : Fld) : t.get f = ((s.set Reg.CLE_CTRL_EN 0).set Reg.CLE_STAT_STATE 0).get f := State.get_of_regs (by rw [ht]) f
    have hcle : t.cle = { s.cle with wqWait := false } := by rw [ht]
    exact ⟨(hget _).trans ((State.get_set_other _ _ _ _ (by decide)).trans hen), (hget _).trans (State.get_set_same _ _ _),
      fun h => absurd (cleRunning_iff.mpr h) hrun, by rw [hcle], by rw [hcle], by rw [hcle],
      (hget _).trans ((State.get_set_other _ _ _ _ (by decide)).trans hcnt)⟩

/-- The trip of source 25 leaves the engine and its registers alone. -/
theorem doCleEnClear_kept (h : s.get Reg.CLE_CTRL_EN ≠ 0) : OutsideKept [Win.trp, Win.pwm, Win.tri] s.cleDisabled (doCleEnClear s) := by
  rw [doCleEnClear_of_enabled h]
  have hstart := OutsideKept.refl [Win.trp, Win.pwm, Win.tri] s.cleDisabled
  exact .ite ((OutsideKept.parts hstart).tripLatch (List.Subset.refl _) 25 63) hstart

/-- With an arm ENABLED, source 25 trips and blocks every arm (R231). -/
theorem doCleEnClear_trips (h : s.get Reg.CLE_CTRL_EN ≠ 0) (hpulses : s.get Reg.TRP_PULSE_EN_EN ≠ 0) :
    (doCleEnClear s).tripFlag 25 = true ∧ (doCleEnClear s).get Reg.TRP_PULSE_EN_EN = 0 := by
  have henabled : s.pulsesEnabled = true := State.on_eq_true hpulses
  rw [doCleEnClear_of_enabled h, if_pos henabled]
  exact ⟨State.tripFlag_tripLatch _ (by decide) 63, State.pulseEn_tripLatch_all _ 25⟩

end

/-- Settles O19: each operation's equation in the case of its clause; the trip of source 25 leaves the engine alone. -/
theorem cleMemoriesFromTheBus : Obligations.CleMemoriesFromTheBus := by
  unfold Obligations.CleMemoriesFromTheBus
  intro s
  refine ⟨fun x v hroom => ?_, fun x v hfull => ?_, fun a v rest ⟨hwq, hwait, hstate, hhold⟩ => ?_,
    fun a v rest ⟨hwq, hwait, hstate, hhold⟩ => ?_, fun hheld => ?_, fun v hen => ?_, fun v hen => ?_, ?_, does_commit_at_once,
    fun ⟨hrun, hreq⟩ => ?_, fun at_ ⟨hreq, hwhen⟩ => ?_, fun hen => ?_, ?_, ?_⟩
  · refine ⟨_, congrArg Host.Outcome.next (if_neg (Nat.not_le.mpr hroom)), rfl, ?_, ((Frame.refl _ _ _ s).cle (by decide) _).set (by simp) _⟩
    rw [State.wqLevel, State.get_set_same, List.length_append]
    exact Nat.mod_eq_of_lt (by simp only [List.length_singleton, Reg.CLE_STAT_WQLVL]; omega)
  · exact ⟨_, congrArg Host.Outcome.next (if_pos hfull), State.get_set_same _ _ _, (Frame.refl _ _ _ s).set (by simp) 1⟩
  · exact does_drain_data hwq (wqDrains_eq_true hwait hstate hhold)
  · obtain ⟨t, hexec, hobj, hrest⟩ := does_drain_object hwq (wqDrains_eq_true hwait hstate hhold)
    refine ⟨t, hexec, ?_, fun i hi => ?_, hrest⟩
    · rw [hobj, tblGet_set_same, objectWritten, ite_and]
      split
      · exact toNat_clear_hist v
      · rfl
    · rw [hobj, tblGet_set_other _ _ _ _ _ _ hi]
  · obtain ⟨t, hexec, hclear, hcle, hframe⟩ := does_holdwClear hheld
    refine ⟨t, hexec, hclear, fun hrun => ?_, by rw [hcle], fun ⟨hrun, hstate, htick, hphase⟩ => ?_, hframe⟩
    · rw [hcle, State.batchFits, nextAcquire_of_not_running hrun]
      rfl
    · rw [hcle, State.batchFits, nextAcquire_of_ahead hrun htick hphase, cleRunning_eq_false hstate]
      simp only [Bool.false_or, ← decide_not, Nat.not_le]
  · refine ⟨_, congrArg Host.Outcome.next (doClePdataWrite_of_stopped hen v), tblGet_set_same _ _ _ _, fun i hi => tblGet_set_other _ _ _ _ _ _ hi,
      State.paddr_paddrOn _, ((Frame.refl _ _ _ s).cle (by decide) _).paddrOn (by simp)⟩
  · refine ⟨_, congrArg Host.Outcome.next (doClePdataWrite_of_enabled hen v), ?_, ?_, ((Frame.refl _ _ _ s).set (by simp) 1).paddrOn (by simp)⟩
    · exact (State.get_set_other _ _ _ _ (by decide)).trans (State.get_set_same _ _ _)
    · rw [State.paddr_paddrOn, State.get_set_other _ _ _ _ (by decide)]
  · exact ⟨_, rfl, rfl, State.paddr_paddrOn _, ((Frame.refl _ _ _ s).answer (by decide) _).paddrOn (by simp)⟩
  · exact ⟨_, congrArg Host.Outcome.next (doMailboxCommit_of_running hrun hreq), rfl, State.get_set_same _ _ _, .mailboxAsked s⟩
  · have hcopy : doMailboxCopy s = s.mailboxCopied (if s.running then s.cad.tickStart else s.now) := by
      rcases hwhen with hrun | ⟨hdue, hstaged⟩
      · have hstopped : s.running = false := State.on_eq_false hrun
        exact doMailboxCopy_of_due hreq (by simp [State.requestDue, hstopped]) (by simp [hstopped])
      · exact doMailboxCopy_of_due hreq (by simp [State.requestDue, hdue]) (fun _ => hstaged)
    exact ⟨_, congrArg Host.Outcome.next hcopy, rfl, State.get_set_same _ _ _, (Frame.refl _ _ _ s).mailboxCopied _⟩
  · obtain ⟨hoff, hstate, hrun, hdata, hobj, hout, hsolve⟩ := cleDisabled_spec s
    obtain ⟨hcle, hget⟩ := doCleEnClear_kept hen
    refine ⟨_, rfl, ?_⟩
    beta_reduce
    rw [hcle, hget _ (by decide), hget _ (by decide), hget _ (by decide), hget _ (by decide)]
    refine ⟨hoff, hstate, hrun, hdata, hobj, hout, hsolve, doCleEnClear_trips hen⟩
  · exact ⟨_, rfl, State.get_set_same _ _ _, (Frame.refl _ _ _ s).set (by simp) 0⟩
  · exact ⟨_, rfl, rfl, State.get_set_same _ _ _, ((Frame.refl _ _ _ s).answer (by decide) _).set (by simp) 0⟩

end Sys2Proof.Machine
end

section
/-!
Grid functions: the transitions of OBS and MODE, the writes of GRD, the impedance estimate and the islanding tests.
Each refutation below runs one command in a state that meets its clause, and names what the command changes and the clause's frame does
not let change. The field or part is named outright: no window of a frame is in play.
-/

namespace Sys2Proof.Machine

/-- Refutes O20: the shadow observer runs in FREEWHEEL alone, so leaving it clears SHADOW (R132). A rejoin that is due with SHADOW 1 makes
its transition to FOLLOW, as its clause says; but the clause's frame names OBS, MODE, EVT_TICK and the count of rejoins, and not SHADOW. -/
theorem not_gridModesChangeAsTheTableSays : ¬ Obligations.GridModesChangeAsTheTableSays := by
  unfold Obligations.GridModesChangeAsTheTableSays
  intro h
  let s : State :=
    { (((State.reset.set Reg.GRD_CTRL_EN 1).set Reg.GRD_STAT_MODE 4).set Reg.GRD_STAT_OBS 2).set Reg.GRD_STAT_SHADOW 1 with
      grd := { State.reset.grd with goods := State.reset.get Reg.GRD_OBS_CNT_REJOIN_N, aligned := true } }
  obtain ⟨-, hacts⟩ := h s
  obtain ⟨-, -, -, -, hrejoin, -⟩ := hacts (by decide +kernel)
  obtain ⟨t, hexec, -, -, -, -, hfields⟩ := hrejoin (by decide +kernel)
  have hkept : t.get Reg.GRD_STAT_SHADOW = s.get Reg.GRD_STAT_SHADOW := hfields _ rfl (by decide)
  rw [← Host.Outcome.next.inj hexec] at hkept
  exact absurd hkept (by decide +kernel)

/-- Refutes O21: EN to 0 ends a recovery that is being timed, since RT returns to 0 with it; the grid functions go to OFF, as the clause
says, but its frame keeps their part `grd` of the state, where the recovery stands. -/
theorem not_gridWritesAreJudgedThenWait : ¬ Obligations.GridWritesAreJudgedThenWait := by
  unfold Obligations.GridWritesAreJudgedThenWait
  intro h
  let s : State :=
    { ((State.reset.set Reg.GRD_CTRL_EN 1).set Reg.GRD_STAT_MODE 2).set Reg.GRD_STAT_RT 1 with
      grd := { State.reset.grd with recSince := some 0 }
      bus := { State.reset.bus with waiting := [⟨0, Reg.GRD_CTRL_EN, 0⟩] } }
  obtain ⟨-, -, -, hwaiting⟩ := h s 0
  obtain ⟨-, -, -, hen⟩ := hwaiting ⟨0, Reg.GRD_CTRL_EN, 0⟩ rfl
  obtain ⟨-, hstop⟩ := hen (by decide +kernel)
  obtain ⟨t, hexec, -, -, -, -, hparts, -⟩ := hstop (by decide +kernel)
  have hkept : t.grd.recSince = s.grd.recSince := congrArg GrdState.recSince (hparts .grd (by decide))
  rw [← Host.Outcome.next.inj hexec] at hkept
  exact absurd hkept (by decide +kernel)

/-- Refutes O22: with ISLACT 1 the vector-shift test transfers FREEWHEEL to FORM, as its clause says, and leaving FREEWHEEL clears SHADOW
(R132); but the clause's frame names ISL_STAT, MODE and EVT_TICK, and not SHADOW. -/
theorem not_impedanceIslandingAndRecovery : ¬ Obligations.ImpedanceIslandingAndRecovery := by
  unfold Obligations.ImpedanceIslandingAndRecovery
  intro h
  let s : State :=
    { (((((State.reset.set Reg.GRD_CTRL_EN 1).set Reg.GRD_CTRL_ISLACT 1).set Reg.GRD_ISL_EN_TEST 2).set Reg.GRD_STAT_MODE 4).set
        Reg.GRD_STAT_OBS 1).set Reg.GRD_STAT_SHADOW 1 with
      grd := { State.reset.grd with testSince := [(1, some 0)] }
      cel := { State.reset.cel with acqAt := 1 } }
  obtain ⟨-, htests, -⟩ := h s (by decide +kernel)
  obtain ⟨hmet, -⟩ := htests 1 0 rfl
  obtain ⟨t, hexec, -, -, htransfer, -⟩ := hmet (by decide +kernel)
  obtain ⟨-, -, hfields⟩ := htransfer (by decide +kernel)
  have hkept : t.get Reg.GRD_STAT_SHADOW = s.get Reg.GRD_STAT_SHADOW := hfields _ rfl (by decide)
  rw [← Host.Outcome.next.inj hexec] at hkept
  exact absurd hkept (by decide +kernel)

end Sys2Proof.Machine
end

section
/-!
Cell energy: the state-of-charge window and the ageing hour, each of which reports a Note fault that the frame of its clause does not let
latch.
-/

namespace Sys2Proof.Machine

/-- Refutes O24: the window of battery cell 0 ends with a reported state of charge 100 % beyond the integrated one, against a SOCTOL of 2 %,
so SOCIMPL sets and source 42 latches, as the last clause says (R172); but its frame names SOCIMPL and SOCI alone, and by `Frame.get_eq` the
collector's window frees no field. -/
theorem not_mpptUpdatesByIncrementalConductance : ¬ Obligations.MpptUpdatesByIncrementalConductance := by
  unfold Obligations.MpptUpdatesByIncrementalConductance
  intro h
  let s : State :=
    (((State.reset.set (Reg.SYS_CELL_CFG_KIND 0) 2).set Reg.CEL_CTRL_SOCCHK 1).set (Reg.CEL_BAT_CAP_AH 0) 1).modCell 0
      (fun x => { x with socStart := some 0, socRep := 10000 })
  obtain ⟨-, -, -, -, -, -, hwindow⟩ := h s 0
  obtain ⟨-, hend⟩ := hwindow 0 (by decide +kernel) (by decide +kernel)
  obtain ⟨t, -, hbeyond, -, -, -, -, -, -, hframe⟩ := hend (by decide +kernel)
  obtain ⟨-, hlatched⟩ := hbeyond (by decide +kernel)
  have hkept := hframe.fltBit_eq (by decide) 42 rfl
  exact absurd (hkept.symm.trans (hlatched (by decide +kernel))) (by decide +kernel)

/-- Refutes O25: the on-state voltage of cell 0 has doubled against its baseline, beyond the 20 % of VEOL, so at the end of the hour A is 1,
AGED sets and source 44 latches, as the last clause says (R174); but its frame names AGE, C0 and AGED of the cells alone, and by
`Frame.get_eq` the collector's window frees no field. -/
theorem not_cellSettingsAndAgeing : ¬ Obligations.CellSettingsAndAgeing := by
  unfold Obligations.CellSettingsAndAgeing
  intro h
  let s : State := (State.reset.set (Reg.SYS_CELL_CFG_EN 0) 1).modCell 0
    (fun x => { x with base := some (0, 1000), vonMean := some 2000 })
  obtain ⟨-, -, t, hexec, -, hcells, -, hframe⟩ := h s 0
  obtain ⟨-, -, -, -, -, haged⟩ := hcells 0 (by decide +kernel)
  have hage : (t.cell 0).age = 1 := by
    rw [← Host.Outcome.next.inj hexec]
    decide +kernel
  obtain ⟨-, hlatched⟩ := haged hage
  have hkept := hframe.fltBit_eq (by decide) 44 (by decide +kernel)
  exact absurd (hkept.symm.trans (hlatched (by decide +kernel))) (by decide +kernel)

end Sys2Proof.Machine
end

section
/-!
Edge scheduler: the end state of a leg (R193, R201 to R204, R197). What window opening, the minimum pulse and the previous plan do to the
states that a leg's edges lead to is one step, `Drops`, repeated; the statement then rests on what one such step keeps.
-/

namespace Sys2Proof.Machine

/-! ### What a removal does to the states of the edges (R203) -/

/-- The states that the edges of a leg lead to, in order. -/
def LegWork.dsts (l : LegWork) : List LegPos := l.edges.map WorkEdge.dst

/-- One removal, seen on those states: two consecutive ones go; but of the two that begin a leg that stands off, the second stays. -/
inductive Drops (init : LegPos) : List LegPos → List LegPos → Prop
  | pair {xs zs : List LegPos} {x y : LegPos} (h : xs ≠ [] ∨ init ≠ .off) : Drops init (xs ++ x :: y :: zs) (xs ++ zs)
  | start {zs : List LegPos} {x y : LegPos} (h : init = .off) : Drops init (x :: y :: zs) (y :: zs)

/-- The leg `l'` arises from `l` by removals alone. -/
def ReducesTo (k : LegSetting) (l l' : LegWork) : Prop := Relation.ReflTransGen (Drops k.init) l.dsts l'.dsts

theorem ReducesTo.of_dsts_eq {k : LegSetting} {l l' : LegWork} (h : l'.dsts = l.dsts) : ReducesTo k l l' := by
  rw [ReducesTo, h]

theorem ReducesTo.trans {k : LegSetting} {l l' l'' : LegWork} (h : ReducesTo k l l') (h' : ReducesTo k l' l'') : ReducesTo k l l'' :=
  Relation.ReflTransGen.trans h h'

theorem drop_reduces (k : LegSetting) (l : LegWork) (i : Nat) : ReducesTo k l (l.drop k i) := by
  unfold LegWork.drop
  split
  · next e f he hf =>
    obtain ⟨hi, rfl⟩ := List.getElem?_eq_some_iff.1 he
    obtain ⟨hi', rfl⟩ := List.getElem?_eq_some_iff.1 hf
    have hparts : l.edges = l.edges.take i ++ l.edges[i] :: l.edges[i + 1] :: l.edges.drop (i + 2) := by
      rw [List.getElem_cons_drop, List.getElem_cons_drop, List.take_append_drop]
    apply Relation.ReflTransGen.single
    split
    · next hstart =>
      obtain ⟨rfl, hoff⟩ := hstart
      simp only [LegWork.dsts, List.map_cons]
      conv => arg 2; rw [hparts]
      exact .start hoff
    · next hpair =>
      have hleft : (l.edges.eraseIdx (i + 1)).eraseIdx i = l.edges.take i ++ l.edges.drop (i + 2) := by
        simp [List.eraseIdx_eq_take_drop_succ, List.take_append, List.take_take, Nat.min_eq_left hi'.le]
      simp only [LegWork.dsts, hleft]
      conv => arg 2; rw [hparts]
      simp only [List.map_append, List.map_cons]
      refine .pair ?_
      by_cases hi0 : i = 0
      · exact .inr fun hoff => hpair ⟨hi0, hoff⟩
      · refine .inl (List.ne_nil_of_length_pos ?_)
        rw [List.length_map, List.length_take]
        omega
  · exact .refl

/-! ### The steps of the construction (R196, R197, R201 to R204) -/

theorem compensate_dsts (sgn dt : Int) (st : LegPos) (prev : Int) (es : List WorkEdge) :
    (compensate sgn dt st prev es).map WorkEdge.dst = es.map WorkEdge.dst := by
  induction es generalizing st prev with
  | nil => rfl
  | cons e r ih => simp [compensate, ih]

/-- An edge moved in place leads to the state it led to. -/
theorem map_dst_set {es : List WorkEdge} {i : Nat} {e e' : WorkEdge} (he : es[i]? = some e) (hdst : e'.dst = e.dst) :
    (es.set i e').map WorkEdge.dst = es.map WorkEdge.dst := by
  obtain ⟨hi, rfl⟩ := List.getElem?_eq_some_iff.1 he
  rw [List.map_set, hdst, ← List.getElem_map WorkEdge.dst (h := by simpa using hi), List.set_getElem_self]

theorem companion_dsts (k : LegSetting) (l : LegWork) (i : Nat) (lead : Bool) (d : Int) : (l.companion k i lead d).dsts = l.dsts := by
  unfold LegWork.companion
  split
  · rfl
  · extract_lets j
    split
    · rfl
    · next e he =>
      extract_lets m
      split
      · rfl
      · split
        · rfl
        · exact map_dst_set he rfl

theorem alone_reduces (k : LegSetting) (w : Int × Int) (l : LegWork) : ReducesTo k l (l.alone k w) := by
  unfold LegWork.alone
  split
  · next i hi =>
    split
    · exact .refl
    · next e he =>
      extract_lets lead t hitsPrev hitsNext
      split
      · exact drop_reduces k l _
      · split
        · exact drop_reduces k l _
        · split
          · exact .refl
          · exact .of_dsts_eq ((companion_dsts ..).trans (map_dst_set he rfl))
  · exact .refl

theorem pairs_reduces (k : LegSetting) (w : Int × Int) (fuel : Nat) (l : LegWork) : ReducesTo k l (LegWork.pairs k w fuel l) := by
  induction fuel generalizing l with
  | zero => exact .refl
  | succ fuel ih =>
    unfold LegWork.pairs
    split
    · exact (drop_reduces k l _).trans (ih _)
    · exact .refl

theorem openWindows_reduces (k : LegSetting) (l : LegWork) : ReducesTo k l (l.openWindows k) :=
  List.foldlRecOn k.wins _ (motive := fun l' => ReducesTo k l l') .refl
    fun _ h w _ => (h.trans (pairs_reduces k w _ _)).trans (alone_reduces k w _)

theorem minPulses_reduces (k : LegSetting) (fuel : Nat) (l : LegWork) : ReducesTo k l (LegWork.minPulses k fuel l) := by
  induction fuel generalizing l with
  | zero => exact .refl
  | succ fuel ih =>
    unfold LegWork.minPulses
    split
    · exact .refl
    · exact (drop_reduces k l _).trans (ih _)

theorem firstEdge_reduces (k : LegSetting) (fuel : Nat) (l : LegWork) : ReducesTo k l (LegWork.firstEdge k fuel l) := by
  induction fuel generalizing l with
  | zero => exact .refl
  | succ fuel ih =>
    unfold LegWork.firstEdge
    split
    · next p e _ hone =>
      split
      · exact .of_dsts_eq (by simp [LegWork.dsts, hone])
      · exact .refl
    · split
      · exact (drop_reduces k l 0).trans (ih _)
      · exact .refl
    · exact .refl

/-- The edges of a plan lead to the states that quantisation gave them, but for removals. -/
theorem buildLeg_reduces (k : LegSetting) (sgn : Int) (want : LegPos) (cross : List (Rat × LegPos)) :
    Relation.ReflTransGen (Drops k.init) ((quantised k want cross).map WorkEdge.dst) ((buildLeg k sgn want cross).1.edges.map (fun e => e.2)) := by
  rw [← compensate_dsts sgn k.dt k.init 0]
  unfold buildLeg
  extract_lets e4 l5 l6 l7
  have h : ReducesTo k { edges := e4 } l7 :=
    ((openWindows_reduces k _).trans (minPulses_reduces k _ l5)).trans (firstEdge_reduces k _ l6)
  simpa [ReducesTo, LegWork.dsts, Function.comp_def] using h

/-! ### What removals keep -/

theorem length_le_of_drops {init : LegPos} {ds ds' : List LegPos} (h : Relation.ReflTransGen (Drops init) ds ds') : ds'.length ≤ ds.length := by
  induction h with
  | refl => exact Nat.le_refl _
  | tail _ hstep ih => cases hstep <;> simp at ih ⊢ <;> omega

/-- An edge turns a leg to one side, from the other side or from off. -/
def Turns (x y : LegPos) : Prop := y ≠ .off ∧ y ≠ x

/-- The state that a leg ends in, from the one it stands in and those its edges lead to. -/
def endState (init : LegPos) (ds : List LegPos) : LegPos := ds.getLast?.getD init

@[simp] theorem endState_nil (init : LegPos) : endState init [] = init := rfl

@[simp] theorem endState_cons (init d : LegPos) (ds : List LegPos) : endState init (d :: ds) = endState d ds := by
  simp [endState, List.getLast?_cons]

/-- Two turns from one side lead back to it. -/
theorem Turns.back {x y z : LegPos} (hx : x ≠ .off) (hxy : Turns x y) (hyz : Turns y z) : z = x := by
  revert hx hxy hyz
  unfold Turns
  cases x <;> cases y <;> cases z <;> simp

/-- A pair that goes leaves the leg where it stood before it. -/
theorem pair_keeps {init x y : LegPos} {xs zs : List LegPos} (h : xs ≠ [] ∨ init ≠ .off)
    (hturns : List.IsChain Turns (init :: (xs ++ x :: y :: zs))) :
    List.IsChain Turns (init :: (xs ++ zs)) ∧ endState init (xs ++ zs) = endState init (xs ++ x :: y :: zs) := by
  induction xs generalizing init with
  | nil =>
    simp only [List.nil_append, List.isChain_cons_cons] at hturns
    obtain ⟨hx, hy, hrest⟩ := hturns
    obtain rfl := hx.back (h.resolve_left (fun hne => hne rfl)) hy
    exact ⟨hrest, by simp⟩
  | cons d xs ih =>
    simp only [List.cons_append, List.isChain_cons_cons] at hturns
    obtain ⟨hd, hrest⟩ := hturns
    obtain ⟨hchain, hend⟩ := ih (.inr hd.1) hrest
    exact ⟨List.isChain_cons_cons.2 ⟨hd, hchain⟩, by simpa using hend⟩

theorem drops_keep {init : LegPos} {ds ds' : List LegPos} (h : Relation.ReflTransGen (Drops init) ds ds')
    (hturns : List.IsChain Turns (init :: ds)) : List.IsChain Turns (init :: ds') ∧ endState init ds' = endState init ds := by
  induction h with
  | refl => exact ⟨hturns, rfl⟩
  | tail _ hstep ih =>
    obtain ⟨hchain, hend⟩ := ih
    cases hstep with
    | pair hsome =>
      obtain ⟨hchain', hend'⟩ := pair_keeps hsome hchain
      exact ⟨hchain', hend'.trans hend⟩
    | start hoff =>
      simp only [List.isChain_cons_cons] at hchain
      obtain ⟨-, hy, hrest⟩ := hchain
      exact ⟨List.isChain_cons_cons.2 ⟨⟨hy.1, hoff ▸ hy.1⟩, hrest⟩, by simpa using hend⟩

/-! ### Quantisation (R193, R194) -/

/-- The states that modulation asks of a leg: the one it wants at the start, where the leg does not stand in it, and those of its crossings. -/
def askedStates (init want : LegPos) (cross : List LegPos) : List LegPos := (if want = init then [] else [want]) ++ cross

theorem quantised_dsts (k : LegSetting) (want : LegPos) (cross : List (Rat × LegPos)) :
    (quantised k want cross).map WorkEdge.dst = askedStates k.init want (cross.map (fun e => e.2))
      ∨ want ≠ k.init ∧ ∃ d ds, cross.map (fun e => e.2) = d :: ds
        ∧ (quantised k want cross).map WorkEdge.dst = if d = k.init then ds else d :: ds := by
  unfold quantised askedStates
  extract_lets es
  have hes : es.map WorkEdge.dst = cross.map (fun e => e.2) := by simp [es]
  split
  · exact .inl (by simp [hes])
  · next hwant =>
    split
    · exact .inl (by simp [hes])
    · next hlen =>
      obtain ⟨e, r, hcons⟩ := List.exists_cons_of_ne_nil (l := es) (fun hnil => hlen (by simp [hnil]))
      refine .inr ⟨hwant, e.dst, r.map WorkEdge.dst, by rw [← hes, hcons, List.map_cons], ?_⟩
      rw [hcons]
      dsimp only
      split <;> rfl

theorem quantised_length_le (k : LegSetting) (want : LegPos) (cross : List (Rat × LegPos)) :
    (quantised k want cross).length ≤ (askedStates k.init want (cross.map (fun e => e.2))).length := by
  rw [← List.length_map (f := WorkEdge.dst)]
  rcases quantised_dsts k want cross with h | ⟨hwant, d, ds, hcross, h⟩
  · rw [h]
  · rw [h, hcross, askedStates, if_neg hwant]
    split <;> simp [Nat.le_add_right_of_le]

/-- Where the crossings turn the leg from the state it wants, so do the quantised edges from the one it stands in, to the same end. -/
theorem quantised_turns (k : LegSetting) {want : LegPos} {cross : List (Rat × LegPos)} (hwant : want ≠ .off)
    (hcross : List.IsChain Turns (want :: cross.map (fun e => e.2))) :
    List.IsChain Turns (k.init :: (quantised k want cross).map WorkEdge.dst)
      ∧ endState k.init ((quantised k want cross).map WorkEdge.dst) = endState k.init (askedStates k.init want (cross.map (fun e => e.2))) := by
  rcases quantised_dsts k want cross with h | ⟨hne, d, ds, hds, h⟩
  · rw [h]
    refine ⟨?_, rfl⟩
    by_cases hinit : want = k.init
    · simpa [askedStates, ← hinit] using hcross
    · simpa [askedStates, hinit] using ⟨⟨hwant, hinit⟩, hcross⟩
  · rw [hds, List.isChain_cons_cons] at hcross
    obtain ⟨hd, hrest⟩ := hcross
    rw [h, hds, askedStates, if_neg hne]
    split
    · next hback => exact ⟨hback ▸ hrest, by simp [hback]⟩
    · next hgo => exact ⟨List.isChain_cons_cons.2 ⟨⟨hd.1, hgo⟩, hrest⟩, by simp⟩

/-! ### The statement -/

/-- One step of the check that states alternate: the state before it, and whether every one so far lay on the other side of that before. -/
def alternateStep (p : LegPos × Bool) (x : LegPos) : LegPos × Bool := (x, p.2 && x == if p.1 = .upper then .lower else .upper)

theorem foldl_alternateStep_false (first : LegPos) (ds : List LegPos) : (ds.foldl alternateStep (first, false)).2 = false := by
  induction ds generalizing first with
  | nil => rfl
  | cons d ds ih => exact ih d

theorem turns_of_alternates {first : LegPos} (hfirst : first ≠ .off) {ds : List LegPos} (h : (ds.foldl alternateStep (first, true)).2 = true) :
    List.IsChain Turns (first :: ds) := by
  induction ds generalizing first with
  | nil => exact List.isChain_singleton _
  | cons d ds ih =>
    rw [List.foldl_cons, alternateStep, Bool.true_and] at h
    by_cases hd : d = if first = .upper then .lower else .upper
    · rw [beq_iff_eq.2 hd] at h
      have hturn : Turns first d := by
        rw [hd]
        cases first <;> simp [Turns]
      exact List.isChain_cons_cons.2 ⟨hturn, ih hturn.1 h⟩
    · rw [beq_eq_false_iff_ne.2 hd, foldl_alternateStep_false] at h
      cases h

theorem LegPlan.final_eq (l : LegPlan) : l.final = endState l.init (l.edges.map (fun e => e.2)) := by
  unfold LegPlan.final endState
  rw [List.getLast?_map]
  cases l.edges.getLast? <;> rfl

/-- Settles O28: after quantisation a leg's edges are only moved in time and removed, and no removal changes the state the leg ends in. -/
theorem legsEndAsModulated : Obligations.LegsEndAsModulated := by
  unfold Obligations.LegsEndAsModulated
  intro k sgn want cross asked other alternates plan
  have hdrops := buildLeg_reduces k sgn want cross
  refine ⟨?_, fun ⟨hwant, _, halt⟩ => ?_⟩
  · calc plan.edges.length = (plan.edges.map (fun e => e.2)).length := List.length_map _ |>.symm
      _ ≤ ((quantised k want cross).map WorkEdge.dst).length := length_le_of_drops hdrops
      _ = (quantised k want cross).length := List.length_map _
      _ ≤ asked.length := quantised_length_le k want cross
  · obtain ⟨hturns, hend⟩ := quantised_turns k hwant (turns_of_alternates hwant halt)
    calc plan.final = endState k.init (plan.edges.map (fun e => e.2)) := plan.final_eq
      _ = endState k.init ((quantised k want cross).map WorkEdge.dst) := (drops_keep hdrops hturns).2
      _ = endState k.init asked := hend

end Sys2Proof.Machine
end

section
/-!
Edge scheduler and local PWM: a write that enables one channel and disables another, and the fault of a delay line.
-/

namespace Sys2Proof.Machine

/-- Refutes O26: a write takes the channels in order of number. Channel 1 is running with SYNCIN 1, and cut by trip input 0, which it
selects, TRIPMODE being 1 and TRIPF 0. Writing 1 enables channel 0, whose counter zero is a synchronisation trigger: at the restart point
that this gives channel 1 (R213, R215, R217) TRIPF sets. Only then is channel 1 disabled, and the clause says that it keeps TRIPF. No frame
is in play. The state is built by hand, its cause not yet judged: the statement speaks of every state. -/
theorem not_pwmEventsCutsAndInputs : ¬ Obligations.PwmEventsCutsAndInputs := by
  unfold Obligations.PwmEventsCutsAndInputs
  intro h
  let s : State :=
    { ((((((State.reset.set Reg.PWM_CTRL_EN 2).set (Reg.PWM_EVT_TRGACT 0) 2).set (Reg.PWM_CHCTRL_SYNCIN 1) 1).set
        (Reg.PWM_TRIP_TRIPMODE 1) 1).set (Reg.PWM_TRIP_TRIPSEL 1) 1).set Reg.PWM_TRIPIN_STAT_FILT 1) with
      cad := { State.reset.cad with time := 100 }
      pwm := { State.reset.pwm with chans := [(1, { run := true, cut := true })] } }
  obtain ⟨hwrite, -⟩ := h s
  obtain ⟨t, hexec, hchannels, -⟩ := hwrite 1
  obtain ⟨-, -, -, -, hdisabled⟩ := hchannels 1
  obtain ⟨-, -, -, hkept⟩ := hdisabled (by decide +kernel)
  rw [← Host.Outcome.next.inj hexec] at hkept
  exact absurd hkept (by decide +kernel)

/-- Refutes O27: at reset every trim is 0, so a calibration step that asks for a lower one leaves the first group of line 0 at its trim end
and latches source 48, as the clause says (R208); but its frame names fields of EDG_STAT and EDG_DLCAL_STAT alone, and by `Frame.get_eq` the
collector's window frees no field. -/
theorem not_edgeSettingsAndDelayLines : ¬ Obligations.EdgeSettingsAndDelayLines := by
  unfold Obligations.EdgeSettingsAndDelayLines
  intro h
  obtain ⟨-, -, hlines⟩ := h State.reset
  obtain ⟨-, hcalibrating, -⟩ := hlines 0
  obtain ⟨-, -, -, -, hdown⟩ := hcalibrating (by decide +kernel)
  obtain ⟨t, -, -, -, ⟨-, hlatched⟩, -, hframe⟩ := hdown (by decide +kernel)
  have hkept := hframe.fltBit_eq (by decide) 48 rfl
  exact absurd (hkept.symm.trans (hlatched (by decide +kernel))) (by decide +kernel)

end Sys2Proof.Machine
end

section
/-!
Trip network: the software block, the export limit, blanking windows and hard limits.
-/

namespace Sys2Proof.Machine

/-- A frame that names neither TRP_SRC field lets no trip source latch, its windows freeing none (see `Frame.get_eq`). -/
theorem Frame.tripFlag_eq {ps : List Part} {bs : List Nat} {fs : List Fld} {s t : State} (h : Frame ps bs fs s t) (hbs : 0 ∉ bs)
    (hlo : fldOneOf fs Reg.TRP_SRC_LO_SRC = false) (hhi : fldOneOf fs Reg.TRP_SRC_HI_SRC = false) (src : Nat) : t.tripFlag src = s.tripFlag src :=
  State.tripFlag_congr (h.get_eq hbs hlo) (h.get_eq hbs hhi) src

/-- Refutes O29: at reset no source is latched, and a write to TRP_BLK_REQ for arm 0 latches source 31, as the statement says; but its frame
names no field, and by `Frame.tripFlag_eq` the window of the trip network frees none. -/
theorem not_aBlockTakesEffectAtOnce : ¬ Obligations.ABlockTakesEffectAtOnce := by
  unfold Obligations.ABlockTakesEffectAtOnce
  intro h
  obtain ⟨t, -, hlatched, -, -, -, -, -, hframe⟩ := h State.reset 1 (by decide)
  have hkept := hframe.tripFlag_eq (by decide) rfl rfl 31
  exact absurd (hkept.symm.trans hlatched) (by decide +kernel)

/-- Refutes O30: with P above 1.1 × PEXP since TIME 0, EXPORT_LIMIT_TIMEOUT latches source 35, as the last clause says (R248); but the clause's
frame names no field, and by `Frame.tripFlag_eq` the window of the trip network frees none. -/
theorem not_enablingAndClearingAreJudged : ¬ Obligations.EnablingAndClearingAreJudged := by
  unfold Obligations.EnablingAndClearingAreJudged
  intro h
  let s : State := State.reset.modTrp (fun x => { x with pexpSince := some 0 })
  obtain ⟨-, -, -, -, htimeout⟩ := h s
  obtain ⟨t, -, hlatched, -, -, hframe⟩ := htimeout 0 rfl
  have hkept := hframe.tripFlag_eq (by decide) rfl rfl 35
  exact absurd (hkept.symm.trans hlatched) (by decide +kernel)

/-- Refutes O31: the close of a blanking window is said to leave TIME no lower, and TIME wraps (R7). Cell 0 is in use on arm 0, whose edges
blank comparator 0 for 80 counts; its plan has an edge 40 counts before the wrap. At the last TIME before the wrap the window is open, and it
closes at TIME 40. (Beside this the frames of the clauses on the comparators' outputs name no field, and by `Frame.get_eq` free none.) -/
theorem not_comparatorsFollowTheirThresholds : ¬ Obligations.ComparatorsFollowTheirThresholds := by
  unfold Obligations.ComparatorsFollowTheirThresholds
  intro h
  let s : State :=
    { (State.reset.set (Reg.SYS_CELL_CFG_EN 0) 1).set (Reg.TRP_CMP_CFG_BLKSRC 0) 1 with
      cad := { State.reset.cad with time := 0xFFFFFFFFFFFFFFFF }
      edg := { State.reset.edg with sent := [(0, some { start := 0xFFFFFFFFFFFFFFD8, leg1 := { edges := [(0, .upper)] } })] } }
  obtain ⟨-, -, hcloses, -⟩ := h s 0
  obtain ⟨t, hexec, hlater, -⟩ :=
    hcloses (32 * 0xFFFFFFFFFFFFFFD8, 32 * 0x10000000000000028) (by decide +kernel) (by decide +kernel)
  rw [← Host.Outcome.next.inj hexec] at hlater
  exact absurd hlater (by decide +kernel)

/-- Refutes O32: before LOCK a write of 1 to TRP_HL_IARM takes effect, as the first clause says (R241); but the clause's frame names no field,
and by `Frame.get_eq` the window of the trip network frees none: LIMIT would stay at 4000. -/
theorem not_hardLimitsOnlyTightenAfterLock : ¬ Obligations.HardLimitsOnlyTightenAfterLock := by
  unfold Obligations.HardLimitsOnlyTightenAfterLock
  intro h
  obtain ⟨hlimits, -⟩ := h State.reset 1 (by decide +kernel)
  obtain ⟨-, hwrite⟩ := hlimits (.iarm, Reg.TRP_HL_IARM_LIMIT) List.mem_cons_self
  obtain ⟨t, -, heffect, -, -, hframe⟩ := hwrite (by decide)
  obtain ⟨hlimit, -⟩ := heffect (.inl (by decide +kernel))
  have hkept := hframe.get_eq (by decide) (f := Reg.TRP_HL_IARM_LIMIT) rfl
  exact absurd (hkept.symm.trans hlimit) (by decide +kernel)

end Sys2Proof.Machine
end

section
/-!
Spoke links and power: port enables, a delay jump, the eighth attempt of a service frame, and a loss of VAUX with a broken rail pair.
The frames of the first three clauses name a window for what changes beside the clause's own fields, and by `Frame.get_eq` a window frees no
field; in the last no frame is in play.
-/

namespace Sys2Proof.Machine

/-- Refutes O33: at reset every port is enabled, and a write of 0 to SPK_PORT_EN disables the first 32, as the last clause says (R269); but the
clause's frame names no field, and by `Frame.get_eq` the window of the Hub frees none: the enables would stay as they are. -/
theorem not_linkStatesFollowAlignment : ¬ Obligations.LinkStatesFollowAlignment := by
  unfold Obligations.LinkStatesFollowAlignment
  intro h
  obtain ⟨-, hwords⟩ := h State.reset
  obtain ⟨-, t, -, hwritten, -, hframe⟩ := hwords 0 0
  have hkept := hframe.get_eq (by decide) (f := Reg.SPK_PORT_EN_PORT 0) rfl
  exact absurd (hkept.symm.trans hwritten) (by decide +kernel)

/-- Refutes O34: the sixteenth rejected delay sample of port 0 running latches source 49, as the clause on DLYJUMP says (R265); but its frame
names DLYJUMP alone, and by `Frame.get_eq` the collector's window frees no field. -/
theorem not_reportsAndDelaysAreJudged : ¬ Obligations.ReportsAndDelaysAreJudged := by
  unfold Obligations.ReportsAndDelaysAreJudged
  intro h
  let s : State := State.reset.modPort 0 (fun x => { x with rejects := 16 })
  obtain ⟨-, -, -, -, -, hdelays⟩ := h s
  obtain ⟨-, hjump, -⟩ := hdelays 0
  obtain ⟨t, -, -, hlatched, -, hframe⟩ := hjump (by decide)
  have hkept := hframe.fltBit_eq (by decide) 49 rfl
  exact absurd (hkept.symm.trans hlatched) (by decide +kernel)

/-- Refutes O35: on port 0, in READY, the service frame of SEQ 0 has been sent eight times without an acknowledgement, so it is dropped and
source 52 latches, as the clause says (R274); but its frame names GIVEUP alone, and by `Frame.get_eq` the collector's window frees no field. -/
theorem not_negotiationAndServiceOfAPort : ¬ Obligations.NegotiationAndServiceOfAPort := by
  unfold Obligations.NegotiationAndServiceOfAPort
  intro h
  let e : SvcSent := ⟨0, 3, [], 8, 0⟩
  let s : State := (State.reset.set (Reg.SPK_PSTAT_LSTATE 0) 4).modPort 0 (fun x => { x with unacked := [e] })
  obtain ⟨-, hunacked, -⟩ := h s
  obtain ⟨hdropped, -⟩ := hunacked 0 0 e (by decide +kernel) (by decide +kernel)
  obtain ⟨t, -, -, -, hlatched, hframe⟩ := hdropped (by decide +kernel)
  have hkept := hframe.fltBit_eq (by decide) 52 rfl
  exact absurd (hkept.symm.trans hlatched) (by decide +kernel)

/-- Refutes O53: without a Jug a loss of VAUX powers the main domain down, and the statement says that this leaves the trip network at its reset
state wherever the Hamper has not FAILED. But every lasting condition reports again after a reset, a broken rail pair too (R378, R388): that of
source 2, which is Fatal, latches trip source 28 for every arm (R376). -/
theorem not_powerStatesFollowTheStores : ¬ Obligations.PowerStatesFollowTheStores := by
  unfold Obligations.PowerStatesFollowTheStores
  intro h
  let s : State := { State.reset with flt := { State.reset.flt with railBad := [2] } }
  obtain ⟨-, -, -, -, -, -, -, -, -, -, -, -, hloss, -⟩ := h s
  obtain ⟨hdown, -⟩ := hloss (by decide +kernel)
  obtain ⟨t, hexec, -, ⟨hreset, -⟩, -⟩ := hdown (.inl (by decide +kernel))
  have htrip : t.trp = State.reset.trp := hreset (by decide +kernel) .trp (by decide) (by decide)
  have hblocks : t.tripArms 28 = 0 := congrArg (fun x : TrpState => tblGet 0 x.blocks 28) htrip
  rw [← Host.Outcome.next.inj hexec] at hblocks
  exact absurd hblocks (by decide +kernel)

end Sys2Proof.Machine
end

section
/-!
Tricycle: a failed voter test and a failed core test. The frames of both clauses name a window for what changes beside the clause's own
fields, and by `Frame.get_eq` a window frees no field.
-/

namespace Sys2Proof.Machine

/-- Refutes O36: at power-on reset the voter test is running with STATE HELD, and step 0 failing makes it VTFAIL, as the clause says (R304);
but the clause's frame names no field, and by `Frame.get_eq` the window of the Tricycle frees none: STATE would stay HELD. -/
theorem not_theClusterVotesOrStops : ¬ Obligations.TheClusterVotesOrStops := by
  unfold Obligations.TheClusterVotesOrStops
  intro h
  obtain ⟨-, -, -, htesting⟩ := h State.reset
  obtain ⟨hfails, -⟩ := htesting (by decide)
  obtain ⟨t, -, hvtfail, -, -, -, -, -, -, -, -, -, -, hframe⟩ := hfails 0
  have hkept := hframe.get_eq (by decide) (f := Reg.TRI_STAT_STATE) rfl
  exact absurd (hkept.symm.trans hvtfail) (by decide +kernel)

/-- Refutes O37: in DUPLEX core A is TAKEN and under test since TIME 0, and the test failing latches source 56, as the clause says (R301); but
its frame names CSTAT and LBIST of the core and RSPEND alone, and by `Frame.get_eq` the collector's window frees no field. -/
theorem not_coresLeaveReturnAndAnswer : ¬ Obligations.CoresLeaveReturnAndAnswer := by
  unfold Obligations.CoresLeaveReturnAndAnswer
  intro h
  let s : State :=
    (((State.reset.set Reg.TRI_STAT_STATE 2).set (cstatFld 0) 2).set (lbistFld 0) 1).modCore 0 (fun x => { x with testSince := some 0 })
  obtain ⟨hcores, -⟩ := h s
  obtain ⟨-, -, -, -, -, htest, -⟩ := hcores 0
  obtain ⟨t, -, -, -, -, -, hlatched, hframe⟩ := htest 0 false (by decide +kernel)
  have hkept := hframe.fltBit_eq (by decide) 56 rfl
  exact absurd (hkept.symm.trans (hlatched rfl)) (by decide +kernel)

end Sys2Proof.Machine
end

section
/-!
Host rings: a register write, the failure of a transfer, and READ_REGS. The frames of the first two name a window for what changes beside the
clause's own fields, and by `Frame.get_eq` a window frees no field; in the third no frame is in play.
-/

namespace Sys2Proof.Machine

/-- Refutes O38: a write of 5 to HST_FB_P is not refused and stores its value (R335, R337). The clause on every offset of HST allows two
outcomes, and by `Frame.get_eq` the frames of both keep FB_P at 0. -/
theorem not_ringsFetchAndDoorbells : ¬ Obligations.RingsFetchAndDoorbells := by
  unfold Obligations.RingsFetchAndDoorbells
  intro h
  obtain ⟨-, -, hwrites, -⟩ := h State.reset
  obtain ⟨t, hexec, houtcome⟩ := hwrites 0xC 5
  have hkept : t.get Reg.HST_FB_P_VALUE = State.reset.get Reg.HST_FB_P_VALUE := by
    rcases houtcome with ⟨-, hrefused⟩ | htaken
    · exact hrefused.get_eq (by decide) rfl
    · exact htaken.get_eq (by decide) rfl
  rw [← Host.Outcome.next.inj hexec] at hkept
  exact absurd hkept (by decide +kernel)

/-- Refutes O39: tenant 0 is ATTACHED, neither the dispatching tenant nor the carrier of a safety connection, and a read of SQ 0's entries fails:
source 64 latches, as the clause says (R329). But the clause's frame names fields of HST_T_STAT alone, and by `Frame.get_eq` the collector's
window frees no field. -/
theorem not_tenantsAttachFaultAndReset : ¬ Obligations.TenantsAttachFaultAndReset := by
  unfold Obligations.TenantsAttachFaultAndReset
  intro h
  obtain ⟨htenants, -⟩ := h (State.reset.set (Reg.HST_T_STAT_STATE 0) 1)
  obtain ⟨-, -, -, -, -, -, -, hfailures⟩ := htenants 0
  obtain ⟨-, -, hattached⟩ := hfailures 0
  obtain ⟨t, -, -, -, hlatched, -, -, -, hquiet⟩ := hattached (by decide +kernel)
  have hkept := (hquiet (by decide +kernel)).fltBit_eq (by decide) 64 rfl
  exact absurd (hkept.symm.trans hlatched) (by decide +kernel)

/-- A READ_REGS of 69 words from the last word of page 0xEF, where its tenant has page 0xF0 alone: the first word lies in no window, the last is
HST_TEN_VIOL of tenant 0. -/
def readAcrossWindow : HostOp :=
  { opc := 2, addr := 0x1000, arg0 := 0x400EFFFC, len := 0x114, rights := 1, wins := [(0xF0, 1)] }

/-- Refutes O40: the statement gives the words of a READ_REGS as registers read before it. One with a word outside its windows counts a
violation (R325), and counts it before it reads; so the last word of `readAcrossWindow`, the tenant's own count of violations, is written as 1,
where it read 0 before. -/
theorem not_descriptorsDoAsTheirOpcodesSay : ¬ Obligations.DescriptorsDoAsTheirOpcodesSay := by
  unfold Obligations.DescriptorsDoAsTheirOpcodesSay
  intro h
  let s : State := { State.reset with hst := { State.reset.hst with tenants := [(0, { ops := [readAcrossWindow] })] } }
  obtain ⟨hfirst, -⟩ := h s 0 0
  obtain ⟨-, -, hreads, -⟩ := hfirst readAcrossWindow (by decide +kernel) (by decide +kernel)
  obtain ⟨-, hnow⟩ := hreads rfl true
  obtain ⟨t, hexec, -, -, -, hwritten⟩ := hnow (by decide +kernel)
  have hwords := hwritten ⟨rfl, by decide +kernel⟩
  rw [← Host.Outcome.next.inj hexec] at hwords
  exact absurd hwords (by decide +kernel)

end Sys2Proof.Machine
end

section
/-!
Pool, fabric and fault collector: a rebuild of the free list, a violation, and the latch of a fault. Each clause latches a source within a frame
that names the collector's window for it, and by `Frame.get_eq` a window frees no field.
-/

namespace Sys2Proof.Machine

/-- Refutes O41: a rebuild of the free list latches source 70, as its clause says (R370); but the clause's frame names REBUILD alone, and by
`Frame.get_eq` the collector's window frees no field. -/
theorem not_queuesCarryPackets : ¬ Obligations.QueuesCarryPackets := by
  unfold Obligations.QueuesCarryPackets
  intro h
  obtain ⟨-, -, ⟨t, -, -, hlatched, hframe⟩, -⟩ := h State.reset rfl
  have hkept := hframe.fltBit_eq (by decide) 70 rfl
  exact absurd (hkept.symm.trans hlatched) (by decide +kernel)

/-- Refutes O42: the read-back of a Hamper that is being wiped fails, and source 8 latches, as the last clause says (R357); but its frame names
HSTATE alone, and by `Frame.get_eq` the collector's window frees no field. -/
theorem not_accessesFollowTheFabricRules : ¬ Obligations.AccessesFollowTheFabricRules := by
  unfold Obligations.AccessesFollowTheFabricRules
  intro h
  obtain ⟨-, -, -, -, -, -, -, -, -, hverify⟩ := h (State.reset.set Reg.MEM_HAMPER_HSTATE 1)
  obtain ⟨-, -, hfails⟩ := hverify false
  obtain ⟨t, -, -, hlatched, hframe⟩ := hfails (by decide +kernel)
  have hkept := hframe.fltBit_eq (by decide) 8 rfl
  exact absurd (hkept.symm.trans hlatched) (by decide +kernel)

/-- Refutes O43: at reset a report of source 16, a Note, sets its bit, as the statement says (R376); but the frame of a report below Fatal names
no field, and by `Frame.get_eq` the collector's window frees none. -/
theorem not_faultsLatchWithTheirClassReaction : ¬ Obligations.FaultsLatchWithTheirClassReaction := by
  unfold Obligations.FaultsLatchWithTheirClassReaction
  intro h
  obtain ⟨-, hreports, -⟩ := h State.reset
  obtain ⟨-, -, hreport⟩ := hreports 16 0 none
  obtain ⟨t, -, hlatched, -, -, -, -, -, -, -, -, -, hsmall, -⟩ := hreport (by decide +kernel)
  have hkept := (hsmall (by decide)).fltBit_eq (by decide) 16 rfl
  exact absurd (hkept.symm.trans hlatched) (by decide +kernel)

/-- Refutes O44: at reset checker 15, the rail pairs, is armed for source 0, and source 0 latches, as the clause of a rail injection says (R386);
but its frame names no field, and by `Frame.get_eq` the collector's window frees none. -/
theorem not_faultsAreHandledClearedAndForced : ¬ Obligations.FaultsAreHandledClearedAndForced := by
  unfold Obligations.FaultsAreHandledClearedAndForced
  intro h
  obtain ⟨-, harm, -⟩ := h State.reset
  obtain ⟨-, -, hrails⟩ := harm 15
  obtain ⟨t, -, -, -, -, -, hlatched, -, -, -, -, hframe⟩ := hrails (by decide +kernel)
  have hkept := hframe.fltBit_eq (by decide) 0 rfl
  exact absurd (hkept.symm.trans hlatched) (by decide +kernel)

end Sys2Proof.Machine
end

section
/-!
Safety functions and metering: a demand, a rejected PDU, a faulted channel and a save that takes too long. Each clause latches a source within a
frame that names a window for it, and by `Frame.get_eq` a window frees no field.
-/

namespace Sys2Proof.Machine

/-- Refutes O45: in the Voted mode with SAFE_EN closed and no demand active, DEMAND latches trip source 29, as its clause says (R393); but the
clause's frame names DEMACT and DEMF alone, and by `Frame.tripFlag_eq` the window of the trip network frees no field. -/
theorem not_safetyFunctionsDemandAndLock : ¬ Obligations.SafetyFunctionsDemandAndLock := by
  unfold Obligations.SafetyFunctionsDemandAndLock
  intro h
  obtain ⟨-, ⟨hdemand, -⟩, -⟩ := h ((State.reset.set Reg.TRI_MODE_MODE 1).set Reg.SAF_STAT_SENLVL 1)
  obtain ⟨t, -, ⟨-, hlatched, -, -⟩, hframe, -⟩ := hdemand (by decide +kernel)
  have hkept := hframe.tripFlag_eq (by decide) rfl rfl 29
  exact absurd (hkept.symm.trans hlatched) (by decide +kernel)

/-- Refutes O46: at reset connection 0 is closed, so an empty PDU fails check 1 and source 80 latches, as the clause of the rejections says (R404);
but its frame names LASTREJ and REJ alone, and by `Frame.get_eq` the collector's window frees no field. -/
theorem not_safetyConnectionsJudgeTheirPdus : ¬ Obligations.SafetyConnectionsJudgeTheirPdus := by
  unfold Obligations.SafetyConnectionsJudgeTheirPdus
  intro h
  obtain ⟨hpdus, -⟩ := h State.reset 0
  obtain ⟨-, hrejected, -⟩ := hpdus 0 0 []
  have hearlier (j : Fin 10) (hj : j < 1) : j = 0 := by omega
  obtain ⟨t, -, -, -, hlatched, -, hframe⟩ := hrejected 1 ⟨by decide +kernel, by decide, fun hpasses => absurd (hpasses.1 rfl).1 (by decide),
    fun j hj => by simp [hearlier j hj]⟩
  have hkept := hframe.fltBit_eq (by decide) 80 rfl
  exact absurd (hkept.symm.trans hlatched) (by decide +kernel)

/-- Refutes O47: the result of a sample whose channel 0 is overloaded marks it faulted, and source 83 latches, as the clause of the channels says
(R428); but the frame of the result names fields of metering alone, and by `Frame.get_eq` the collector's window frees no field. -/
theorem not_meteringAccumulatesAndPulses : ¬ Obligations.MeteringAccumulatesAndPulses := by
  unfold Obligations.MeteringAccumulatesAndPulses
  intro h
  let d : MeterDue := ⟨0, 0, { path1 := [], path2 := [], over1 := 1, over2 := 0, refOut := 0, idle := 0 }⟩
  obtain ⟨-, -, hresult, -⟩ := h { State.reset with mtr := { State.reset.mtr with due := [d] } }
  obtain ⟨t, -, -, -, -, -, hchannels, -, -, -, hframe⟩ := hresult d [] rfl
  obtain ⟨-, -, hlatched, -⟩ := hchannels 0
  have hkept := hframe.fltBit_eq (by decide) 83 rfl
  exact absurd (hkept.symm.trans (hlatched ⟨.inl (by decide), by decide +kernel⟩)) (by decide +kernel)

/-- Refutes O48: a save begun at TIME 0 is not complete in time, and source 84 latches, as the last clause says (R435); but its frame names
SAVEERR alone, and by `Frame.get_eq` the collector's window frees no field. -/
theorem not_meteringRegistersWaitAndTotalsAreSaved : ¬ Obligations.MeteringRegistersWaitAndTotalsAreSaved := by
  unfold Obligations.MeteringRegistersWaitAndTotalsAreSaved
  intro h
  obtain ⟨-, -, -, -, -, -, -, -, hsaves⟩ := h { State.reset with mtr := { State.reset.mtr with save := some (0, 0, false) } }
  obtain ⟨-, -, -, hlate⟩ := hsaves (0, 0, false) rfl
  obtain ⟨t, -, -, -, hlatched, -, hframe⟩ := hlate rfl
  have hkept := hframe.fltBit_eq (by decide) 84 rfl
  exact absurd (hkept.symm.trans hlatched) (by decide +kernel)

end Sys2Proof.Machine
end

section
/-!
Station network, Peloton, clocks, lifecycle and boot: a link that goes, a ring frame with a code error, a lost lane, a hot junction, a trial
begun at the last TIME, and the boot of a scrapped part. By `Frame.get_eq` the windows of their frames free no field; in the fifth no frame is
in play.
-/

namespace Sys2Proof.Machine

/-- Refutes O49: with port 0 enabled its link goes, and source 85 latches, as the last clause says (R441); but its frame names LINK alone, and by
`Frame.get_eq` the collector's window frees no field. -/
theorem not_stationFramesAreClassifiedAndSent : ¬ Obligations.StationFramesAreClassifiedAndSent := by
  unfold Obligations.StationFramesAreClassifiedAndSent
  intro h
  obtain ⟨-, -, -, -, -, -, -, -, -, hlinks⟩ := h (State.reset.set Reg.NET_CTRL_EN 1)
  obtain ⟨-, -, hgoes⟩ := hlinks 0 false
  obtain ⟨t, -, -, -, -, hlatched, hframe⟩ := hgoes (by decide +kernel)
  have hkept := hframe.fltBit_eq (by decide) 85 rfl
  exact absurd (hkept.symm.trans hlatched) (by decide +kernel)

/-- Refutes O51: on lane 0, which is up, a Block frame with a code error counts and source 88 latches, as the first clause on frames that are not
taken says (R460); but its frame names the counter alone, and by `Frame.get_eq` the collector's window frees no field. -/
theorem not_ringFramesAreTakenOnceAndForwarded : ¬ Obligations.RingFramesAreTakenOnceAndForwarded := by
  unfold Obligations.RingFramesAreTakenOnceAndForwarded
  intro h
  obtain ⟨-, -, ⟨⟨-, herrs, -⟩, -⟩, -⟩ :=
    h ((State.reset.set Reg.PEL_CTRL_EN 1).set Reg.PEL_STAT_LANEUP 1) 0 { bytes := [], codeError := true } (by decide +kernel)
  obtain ⟨t, -, hlatched, -, hframe⟩ := herrs (by decide +kernel)
  have hkept := hframe.fltBit_eq (by decide) 88 rfl
  exact absurd (hkept.symm.trans hlatched) (by decide +kernel)

/-- Refutes O52: with the Peloton enabled lane 0 loses its alignment, and source 88 latches, as the clause on lanes says (R459); but its frame
names fields of the lane alone, and by `Frame.get_eq` the collector's window frees no field. -/
theorem not_pelotonLanesLeaderAndRegisters : ¬ Obligations.PelotonLanesLeaderAndRegisters := by
  unfold Obligations.PelotonLanesLeaderAndRegisters
  intro h
  obtain ⟨hlanes, -⟩ := h (State.reset.set Reg.PEL_CTRL_EN 1)
  obtain ⟨-, -, -, -, -, hlost⟩ := hlanes 0
  obtain ⟨t, -, -, -, -, -, -, hlatched, hframe⟩ := hlost (by decide +kernel)
  have hkept := hframe.fltBit_eq (by decide) 88 rfl
  exact absurd (hkept.symm.trans hlatched) (by decide +kernel)

/-- Refutes O54: a junction temperature of 125.1 °C latches source 6, as its clause says (R508); but the clause's frame names TJ and MAX alone,
and by `Frame.get_eq` the collector's window frees no field. -/
theorem not_clocksRailsTampersAndGauges : ¬ Obligations.ClocksRailsTampersAndGauges := by
  unfold Obligations.ClocksRailsTampersAndGauges
  intro h
  obtain ⟨-, -, -, hjunction, -⟩ := h State.reset
  obtain ⟨t, -, -, -, -, hlatched, -, hframe⟩ := hjunction 1251 rfl
  have hkept := hframe.fltBit_eq (by decide) 6 rfl
  exact absurd (hkept.symm.trans (hlatched (by decide))) (by decide +kernel)

/-- Refutes O55: LCS_SELECT ends its clock, which the statement gives as TIME + 1; but TIME wraps (R7), so that a trial begun at the last TIME
before the wrap ends at TIME 0. -/
theorem not_lifecycleCommandsAndAgeing : ¬ Obligations.LifecycleCommandsAndAgeing := by
  unfold Obligations.LifecycleCommandsAndAgeing
  intro h
  obtain ⟨hcommands, -⟩ := h { State.reset with cad := { State.reset.cad with time := 0xFFFFFFFFFFFFFFFF } }
  obtain ⟨-, -, -, -, hselect, -⟩ := hcommands 0x6900
  obtain ⟨t, hexec, -, -, -, -, hnow, -⟩ := hselect (by decide)
  rw [← Host.Outcome.next.inj hexec] at hnow
  exact absurd hnow (by decide +kernel)

/-- Refutes O56: the boot of a part whose record is SCRAPPED, its registers not formed from the record yet, shows the lifecycle and stops
(R511), so STATE becomes SCRAPPED; but the frame of the clause names no field, and by `Frame.get_eq` the lifecycle's window frees none. -/
theorem not_imagesAreJudgedThenRun : ¬ Obligations.ImagesAreJudgedThenRun := by
  unfold Obligations.ImagesAreJudgedThenRun
  intro h
  let s : State :=
    { State.reset.set Reg.TRI_STAT_STATE 1 with
      tri := { State.reset.tri with testing := none }
      boot := { State.reset.boot with record := { State.reset.boot.record with state := 5 } } }
  obtain ⟨-, hboots, -⟩ := h s
  obtain ⟨-, hscrapped, -⟩ := hboots ⟨⟨[], ⟨true, true, none⟩⟩, ⟨[], ⟨true, true, none⟩⟩, none⟩
  obtain ⟨t, hexec, -, hframe⟩ := hscrapped (by decide +kernel)
  have hkept := hframe.get_eq (by decide) (f := Reg.LCS_STATE_STATE) rfl
  rw [← Host.Outcome.next.inj hexec] at hkept
  exact absurd hkept (by decide +kernel)

end Sys2Proof.Machine
end

section
/-!
The clock on an empty queue, and the reset state.
-/

namespace Sys2Proof.Machine

/-- The device in the first clock of a run whose program is one NOP, due in the next clock. -/
def runOfOneNop : State :=
  { State.reset.set Reg.CLE_STAT_STATE 2 with
    pwr := { State.reset.pwr with main := .on }
    cle := { State.reset.cle with prog := [(0, encWord 0x01 0)], issue := 1 } }

/-- Refutes O57: of an instruction that is due in the clock after the present one the last clause says that the step executes it. But the
engine issues what is due at the present TIME, and only then TIME counts on (R80): a NOP due at 1 has not executed after the clock of TIME 0,
and the program counter stays. -/
theorem not_aStepExecutesTheFrontCommand : ¬ Obligations.AStepExecutesTheFrontCommand := by
  unfold Obligations.AStepExecutesTheFrontCommand
  intro ⟨_, h⟩
  obtain ⟨-, -, -, hdue⟩ := h runOfOneNop rfl
  have hstep : Host.Outcome.next runOfOneNop.idle = .next (doCleNop (runOfOneNop.reach 1)) := hdue .cleNop (by decide +kernel)
  have hpc : runOfOneNop.idle.cle.pc = (doCleNop (runOfOneNop.reach 1)).cle.pc := by rw [Host.Outcome.next.inj hstep]
  exact absurd hpc (by decide +kernel)

/-- Settles O59: every clause evaluates the reset state, whose tables list nothing but what an unlisted key reads otherwise; that a field's
value is one of its width holds of every state. -/
theorem resetIsCanonicalAndAsTheTablesSay : Obligations.ResetIsCanonicalAndAsTheTablesSay := by
  have hcanonical : State.reset.Canonical := ⟨by decide +kernel, rfl, rfl, rfl, rfl⟩
  have hbytes (a : Nat) : State.reset.byteAt a = 0 := rfl
  unfold Obligations.ResetIsCanonicalAndAsTheTablesSay
  refine ⟨hcanonical, rfl, hbytes, ?_⟩
  simp only [State.get_lt, implies_true, and_true]
  decide +kernel

end Sys2Proof.Machine
end

section
/-!
The tables and the queue of waiting commands: `Kept s t` says that a function of the model, on its way from `s` to `t`, leaves the queue
as it is and canonical tables canonical. First what each shape of an update keeps; then one lemma for each function of the model, subject by
subject, in the order of the model's files: what a function is composed of keeps them, and so does the function. A function that answers a
pair has its lemma for the state of the pair.
-/

namespace Sys2Proof.Machine

/-- From `s` to `t` the queue stays, and canonical tables stay canonical. -/
structure Kept (s t : State) : Prop where
  pending : t.pending = s.pending
  canonical : s.Canonical → t.Canonical

namespace Kept

variable {s t u : State}

theorem refl (s : State) : Kept s s := ⟨rfl, id⟩

theorem trans (h : Kept s t) (h' : Kept t u) : Kept s u := ⟨h'.pending.trans h.pending, h'.canonical ∘ h.canonical⟩

/-- A change beside the blocks that have a table, and beside the queue. -/
theorem parts (h : Kept s t) {cad sys adc grd cel edg dl pwm trp spk pel tri hst memt flt saf mtr net pwr boot bus out free} :
    Kept s { t with
      cad := cad, sys := sys, adc := adc, grd := grd, cel := cel, edg := edg, dl := dl, pwm := pwm, trp := trp, spk := spk,
      pel := pel, tri := tri, hst := hst, memt := memt, flt := flt, saf := saf, mtr := mtr, net := net, pwr := pwr,
      boot := boot, bus := bus, out := out, free := free } :=
  h.trans ⟨rfl, id⟩

/-- A change of the control engine beside its uncommitted words. -/
theorem cleParts (h : Kept s t) {w acc idx flags loops pc runStart issue waitUntil ended started prog progBad data obj outMap mbxOut
    mbxStage mbxIn mbxReq mbxCopied mbxNow wq wqWait inMap} :
    Kept s { t with cle := { t.cle with
      w := w, acc := acc, idx := idx, flags := flags, loops := loops, pc := pc, runStart := runStart, issue := issue,
      waitUntil := waitUntil, ended := ended, started := started, prog := prog, progBad := progBad, data := data, obj := obj,
      outMap := outMap, mbxOut := mbxOut, mbxStage := mbxStage, mbxIn := mbxIn, mbxReq := mbxReq, mbxCopied := mbxCopied,
      mbxNow := mbxNow, wq := wq, wqWait := wqWait, inMap := inMap } } :=
  h.trans ⟨rfl, id⟩

/-- A change of the pool beside its owner tags. -/
theorem poolParts (h : Kept s t) {queues} : Kept s { t with pool := { t.pool with queues := queues } } := h.trans ⟨rfl, id⟩

theorem set (h : Kept s t) (f : Fld) (v : Nat) : Kept s (t.set f v) :=
  h.trans ⟨rfl, fun ⟨hregs, hrest⟩ => ⟨t.set_regsWf f v hregs, hrest⟩⟩

theorem setByte (h : Kept s t) (a : Nat) (b : Byte) : Kept s (t.setByte a b) :=
  h.trans ⟨rfl, fun ⟨hregs, hmem, hrest⟩ => ⟨hregs, t.setByte_memWf a b hmem, hrest⟩⟩

theorem setTag (h : Kept s t) (b v : Nat) : Kept s (t.setTag b v) :=
  h.trans ⟨rfl, fun ⟨hregs, hmem, hobj, hout, htags⟩ => ⟨hregs, hmem, hobj, hout, tblWf_set (fun _ => 0xFF) _ b v htags⟩⟩

theorem filterRegs (h : Kept s t) (p : Nat × Nat → Bool) : Kept s { t with regs := t.regs.filter p } :=
  h.trans ⟨rfl, fun ⟨hregs, hrest⟩ => ⟨tblWfFrom_filter p hregs, hrest⟩⟩

theorem filterMem (h : Kept s t) (p : Host.Cell → Bool) : Kept s { t with mem := t.mem.filter p } :=
  h.trans ⟨rfl, fun ⟨hregs, hmem, hrest⟩ => ⟨hregs, tblWfFrom_filter p hmem, hrest⟩⟩

/-- A run's uncommitted words emptied, with what else of the control engine changes. -/
theorem emptyRun (h : Kept s t) {w acc idx flags loops pc runStart issue waitUntil ended started prog progBad data obj outMap mbxOut
    mbxStage mbxIn mbxReq mbxCopied mbxNow wq wqWait inMap} :
    Kept s { t with cle := { t.cle with
      runObj := [], runOut := []
      w := w, acc := acc, idx := idx, flags := flags, loops := loops, pc := pc, runStart := runStart, issue := issue,
      waitUntil := waitUntil, ended := ended, started := started, prog := prog, progBad := progBad, data := data, obj := obj,
      outMap := outMap, mbxOut := mbxOut, mbxStage := mbxStage, mbxIn := mbxIn, mbxReq := mbxReq, mbxCopied := mbxCopied,
      mbxNow := mbxNow, wq := wq, wqWait := wqWait, inMap := inMap } } :=
  h.trans ⟨rfl, fun ⟨hregs, hmem, _, _, htags⟩ => ⟨hregs, hmem, rfl, rfl, htags⟩⟩

/-- An uncommitted word of an object. -/
theorem runObj (h : Kept s t) (i : Nat) (v : Option Word) :
    Kept s { t with cle := { t.cle with runObj := tblSet none t.cle.runObj i v } } :=
  h.trans ⟨rfl, fun ⟨hregs, hmem, hobj, hrest⟩ => ⟨hregs, hmem, tblWf_set (fun _ => none) _ _ _ hobj, hrest⟩⟩

/-- An uncommitted output word. -/
theorem runOut (h : Kept s t) (i : Nat) (v : Option Word) :
    Kept s { t with cle := { t.cle with runOut := tblSet none t.cle.runOut i v } } :=
  h.trans ⟨rfl, fun ⟨hregs, hmem, hobj, hout, hrest⟩ => ⟨hregs, hmem, hobj, tblWf_set (fun _ => none) _ _ _ hout, hrest⟩⟩

theorem ite {c : Prop} [Decidable c] (ht : Kept s t) (hu : Kept s u) : Kept s (if c then t else u) := by
  split <;> assumption

theorem dite {c : Prop} [Decidable c] {f : c → State} {g : ¬c → State} (hf : ∀ hc, Kept s (f hc)) (hg : ∀ hc, Kept s (g hc)) :
    Kept s (if hc : c then f hc else g hc) := by
  split
  · exact hf _
  · exact hg _

theorem foldl {α : Type} {f : State → α → State} {l : List α} (hf : ∀ u a, Kept s u → Kept s (f u a)) (h : Kept s t) :
    Kept s (l.foldl f t) :=
  List.foldlRecOn l f (motive := fun u : State => Kept s u) h (fun u hu a _ => hf u a hu)

end Kept

end Sys2Proof.Machine
end

section
/-!
What every subject uses: fields and words, faults, memory and its checks.
-/

namespace Sys2Proof.Machine

namespace Kept

variable {s t u : State}

theorem putBit (h : Kept s t) (f : Fld) (i : Nat) (b : Bool) : Kept s (t.putBit f i b) := h.set _ _

theorem setBool (h : Kept s t) (f : Fld) (b : Bool) : Kept s (t.setBool f b) := h.set _ _

theorem count (h : Kept s t) (f : Fld) (n : Nat) : Kept s (t.count f n) := h.set _ _

theorem setInt (h : Kept s t) (f : Fld) (v : Int) : Kept s (t.setInt f v) := h.set _ _

theorem set64 (h : Kept s t) (lo hi : Fld) (v : Nat) : Kept s (t.set64 lo hi v) := (h.set _ _).set _ _

theorem activate (h : Kept s t) (fs : List Fld) : Kept s (t.activate fs) := .foldl (fun _ _ hu => hu.set _ _) h

theorem reach (h : Kept s t) (t' : Nat) : Kept s (t.reach t') := h.parts

theorem endClock (h : Kept s t) : Kept s t.endClock := h.reach _

theorem emit (h : Kept s t) (o : Out) : Kept s (t.emit o) := h.parts

theorem notice (h : Kept s t) (what arg : Nat) : Kept s (t.notice what arg) := h.emit _

theorem nextFree (h : Kept s t) : Kept s t.nextFree := h.parts

theorem modCore (h : Kept s t) (x : Nat) (f : CoreState → CoreState) : Kept s (t.modCore x f) := h.parts

theorem stopCores (h : Kept s t) (xs : List Nat) (cause : Nat) : Kept s (t.stopCores xs cause) :=
  .parts (.foldl (fun _ _ hu => hu.modCore _ _) h)

theorem irq (h : Kept s t) (n : Nat) : Kept s (t.irq n) := .foldl (fun _ _ hu => hu.modCore _ _) h

theorem modPort (h : Kept s t) (p : Nat) (f : PortState → PortState) : Kept s (t.modPort p f) := h.parts

theorem urgentRequest (h : Kept s t) (input : Nat) : Kept s (t.urgentRequest input) :=
  .ite (h.set _ _) (.ite (h.count _ _) (h.parts.putBit _ _ _))

theorem modChan (h : Kept s t) (n : Nat) (f : PwmChan → PwmChan) : Kept s (t.modChan n f) := h.parts

theorem pwmApply (h : Kept s t) (n t' : Nat) (aHigh : Bool) : Kept s (t.pwmApply n t' aHigh) :=
  .ite (h.modChan _ _) ((h.modChan _ _).emit _)

theorem pwmJudge (h : Kept s t) (n : Nat) : Kept s (t.pwmJudge n) := by
  unfold State.pwmJudge
  refine .ite h ?_
  extract_lets latched s1 s2
  have h1 : Kept s s1 := .ite (h.set _ _) h
  have h2 : Kept s s2 := .ite h1 ((h1.set _ _).count _ _)
  exact .ite h1 ((h2.modChan _ _).pwmApply _ _ _)

theorem pwmJudgeAll (h : Kept s t) : Kept s t.pwmJudgeAll := .foldl (fun _ _ hu => hu.pwmJudge _) h

theorem putTripFlag (h : Kept s t) (src : Nat) (b : Bool) : Kept s (t.putTripFlag src b) := .ite (h.putBit _ _ _) (h.putBit _ _ _)

theorem modTrp (h : Kept s t) (f : TrpState → TrpState) : Kept s (t.modTrp f) := h.parts

theorem freshHalt (h : Kept s t) : Kept s t.freshHalt := h.parts

theorem releaseHeldHalts (h : Kept s t) : Kept s t.releaseHeldHalts := by
  unfold State.releaseHeldHalts
  refine .ite h ?_
  split
  · exact h
  · exact ((h.stopCores _ _).set _ _).freshHalt

theorem laneSeq (h : Kept s t) (kind : Nat) : Kept s (t.laneSeq kind).2 := h.parts

theorem laneEmit (h : Kept s t) (f : Nat → Out) : Kept s (t.laneEmit f) := .foldl (fun _ _ hu => hu.emit _) h

theorem laneSend (h : Kept s t) (kind : Nat) (body : List Nat) : Kept s (t.laneSend kind body) :=
  .foldl (fun _ _ hu => hu.emit _) (h.laneSeq _)

theorem tellNow (h : Kept s t) (kind : Nat) (fields : List Nat) : Kept s (t.tellNow kind fields) := (h.laneSeq _).laneEmit _

theorem laneTell (h : Kept s t) (kind : Nat) (fields : List Nat) : Kept s (t.laneTell kind fields) := .ite (h.tellNow _ _) h.parts

theorem laneServe (h : Kept s t) : Kept s t.laneServe := by
  unfold State.laneServe
  split
  · exact h
  · exact .ite (h.parts.tellNow _ _) h

theorem pelotonBlock (h : Kept s t) (src arms : Nat) : Kept s (t.pelotonBlock src arms) := .ite (h.laneSend _ _) h

theorem placeFrame (h : Kept s t) (p t' : Nat) (bytes : List Nat) : Kept s (t.placeFrame p t' bytes) := (h.modPort _ _).emit _

theorem placeAgain (h : Kept s t) (p u' : Nat) (e : Nat × List Nat) : Kept s (t.placeAgain p u' e) :=
  (h.placeFrame _ _ _).modPort _ _

theorem lineYield (h : Kept s t) (p u' : Nat) : Kept s (t.lineYield p u') := by
  unfold State.lineYield
  extract_lets late s1
  have h1 : Kept s s1 := .foldl (fun _ _ hu => hu.emit _) (h.modPort _ _)
  exact .ite (.foldl (fun _ _ hu => hu.placeAgain _ _ _) h1) h

theorem sendBlocks (h : Kept s t) (ports : List Nat) : Kept s (t.sendBlocks ports) :=
  .foldl (fun _ _ hu => (hu.modPort _ _).lineYield _ _) (h.emit _)

theorem abandonPlans (h : Kept s t) (ports : List Nat) : Kept s (t.abandonPlans ports) := .ite h (h.parts.emit _)

theorem undoClear (h : Kept s t) (src : Nat) : Kept s (t.undoClear src) := by
  unfold State.undoClear
  split
  · exact h
  · exact .ite (.count (.parts (h.putTripFlag _ _)) _ _) h

theorem refuseEnabled (h : Kept s t) (arms : Nat) : Kept s (t.refuseEnabled arms) :=
  .foldl (fun _ _ hu => .ite ((hu.putBit _ _ _).set _ _) hu) h

theorem noteFirst (h : Kept s t) (src : Nat) : Kept s (t.noteFirst src) :=
  .ite ((((h.set _ _).set _ _).set _ _).set64 _ _ _) (.ite (h.set _ _) h)

theorem tripLatch (h : Kept s t) (src arms : Nat) : Kept s (t.tripLatch src arms) := by
  unfold State.tripLatch
  extract_lets s0 added first s1 s2 src' s3 s4 ports s5
  have h0 : Kept s s0 := h.undoClear _
  have h1 : Kept s s1 := .ite (((h0.noteFirst _).putTripFlag _ _).irq _) h0
  have h2 : Kept s s2 := (h1.refuseEnabled _).modTrp _
  have h3 : Kept s s3 := h2.parts
  have h4 : Kept s s4 := h3.set _ _
  have h5 : Kept s s5 := .ite h4 (((h4.abandonPlans _).sendBlocks _).pelotonBlock _ _)
  exact .releaseHeldHalts (.ite h5.pwmJudgeAll h5)

theorem putFltBit (h : Kept s t) (f : Nat → Fld) (n : Nat) (b : Bool) : Kept s (t.putFltBit f n b) := h.putBit _ _ _

theorem pinFollow (h : Kept s t) (before : Bool) : Kept s (t.pinFollow before) := .ite h ((h.setBool _ _).emit _)

theorem pinReset (h : Kept s t) : Kept s t.pinReset := .ite (((h.emit _).setBool _ _).emit _) ((h.emit _).setBool _ _)

theorem holdCores (h : Kept s t) : Kept s t.holdCores :=
  .set (.set (.parts (.foldl (fun _ _ hu => .modCore (.ite (hu.set _ _) hu) _ _) h)) _ _) _ _

theorem blockReaction (h : Kept s t) : Kept s t.blockReaction := by
  unfold State.blockReaction
  exact .ite ((h.tripLatch _ _).holdCores) ((h.tripLatch _ _).holdCores.set _ _)

theorem faultNotice (h : Kept s t) (src : Nat) : Kept s (t.faultNotice src) := (h.irq _).notice _ _

theorem faultFrom (h : Kept s t) (src info : Nat) (o : FaultOrigin) : Kept s (t.faultFrom src info o) := by
  unfold State.faultFrom
  extract_lets cls src' s0 info' s1 s2 src'' s3 s4 s5
  have h0 : Kept s s0 := h.parts
  have h1 : Kept s s1 := ((h0.putFltBit _ _ _).set _ _).count _ _
  have h2 : Kept s s2 := .ite ((((((((h1.set _ _).set _ _).setBool _ _).set _ _).set _ _).set _ _).set _ _).set64 _ _ _) h1
  have h3 : Kept s s3 := h2.parts
  have h4 : Kept s s4 := .ite (h3.faultNotice _) h3
  have h5 : Kept s s5 := h4.pinFollow _
  exact .ite h (.ite h0 (.ite h5.blockReaction h5))

theorem injectionDone (h : Kept s t) : Kept s t.injectionDone := (h.set _ _).set _ _

theorem fault (h : Kept s t) (src info : Nat) : Kept s (t.fault src info) := h.faultFrom _ _ _

theorem cleEcc (h : Kept s t) (chk word : Nat) (o : FaultOrigin) : Kept s (t.cleEcc chk word o) :=
  .ite (.ite ((h.injectionDone.count _ _).faultFrom _ _ _) (h.injectionDone.count _ _)) h

theorem railInvalid (h : Kept s t) (src : Nat) : Kept s (t.railInvalid src) :=
  .fault (.fault (.ite ((h.set _ _).set _ _) h) _ _) _ _

theorem storeRW (h : Kept s t) (addr w : Nat) : Kept s (t.storeRW addr w) := .foldl (fun _ _ hu => .ite (hu.set _ _) hu) h

theorem storeAllowed (h : Kept s t) (addr w : Nat) : Kept s (t.storeAllowed addr w) := .foldl (fun _ _ hu => .ite (hu.set _ _) hu) h

theorem clearOnes (h : Kept s t) (addr w : Nat) : Kept s (t.clearOnes addr w) := .foldl (fun _ _ hu => .ite (hu.set _ _) hu) h

theorem await (h : Kept s t) (f : Fld) (v : Nat) : Kept s (t.await f v) := h.parts

theorem awaitAll (h : Kept s t) (fs : List (Fld × Nat)) : Kept s (t.awaitAll fs) := .foldl (fun _ _ hu => hu.await _ _) h

theorem setBytes (h : Kept s t) (a n v : Nat) : Kept s (t.setBytes a n v) := by
  induction n generalizing t a v with
  | zero => exact h
  | succ n ih => exact ih (h.setByte _ _) _ _

theorem setWord (h : Kept s t) (a v : Nat) : Kept s (t.setWord a v) := h.setBytes _ _ _

theorem violate (h : Kept s t) (master : Nat) (kind : AccessKind) (addr : Nat) : Kept s (t.violate master kind addr) :=
  .ite h (.ite (h.count _ _) ((((((h.count _ _).set _ _).set _ _).set _ _).set _ _).faultFrom _ _ _))

theorem answer (h : Kept s t) (w : Nat) : Kept s (t.answer w) := h.parts

theorem eccCheck (h : Kept s t) (master : Nat) (kind : AccessKind) (a : Nat) : Kept s (t.eccCheck master kind a).1 := by
  unfold State.eccCheck
  extract_lets chk w o s1
  have h1 : Kept s s1 := h.injectionDone
  split
  · dsimp only
    exact h1.faultFrom _ _ _
  · split
    · split
      · dsimp only
        exact (h1.count _ _).faultFrom _ _ _
      · exact h1.count _ _
    · exact h

theorem doMemEccCntRead (h : Kept s t) : Kept s (doMemEccCntRead t) := ((h.set _ _).set _ _).answer _

theorem touch (h : Kept s t) (a : Nat) : Kept s (t.touch a) := by
  unfold State.touch
  split
  · exact h
  · exact h.parts

theorem nextRegion (h : Kept s t) : Kept s t.nextRegion := .ite ((h.set _ _).count _ _) (h.set _ _)

theorem testNext (h : Kept s t) : Kept s t.testNext := h.parts

theorem eccRegion (h : Kept s t) (a : Nat) : Kept s (t.eccRegion a) := .foldl (fun _ _ hu => hu.eccCheck _ _ _) h

theorem skipHamper (h : Kept s t) : Kept s t.skipHamper := .ite (h.set _ _) h

theorem doBackgroundTestStep (h : Kept s t) (underAccess differs : Bool) : Kept s (doBackgroundTestStep underAccess differs t) := by
  unfold Machine.doBackgroundTestStep
  refine .ite h ?_
  extract_lets s0 r a s1 f s2
  have h0 : Kept s s0 := (h.reach _).skipHamper
  have h1 : Kept s s1 := h0.eccRegion _
  have hF : Kept s f := .ite h1 (h1.set _ _)
  have h2 : Kept s s2 := .ite ((hF.set _ _).fault _ _) h1
  exact .ite ((h0.count _ _).testNext) h2.nextRegion.testNext

theorem doBackgroundTestStepTimeout (h : Kept s t) : Kept s (doBackgroundTestStepTimeout t) :=
  .ite h (((h.reach _).count _ _).testNext)

theorem clearHamper (h : Kept s t) : Kept s t.clearHamper := h.filterMem _

theorem wipeHamper (h : Kept s t) (cause : Nat) : Kept s (t.wipeHamper cause) :=
  .parts (((h.clearHamper.count _ _).set _ _).set _ _)

theorem doHamperWipe (h : Kept s t) (cause : Nat) : Kept s (doHamperWipe cause t) := .ite (h.wipeHamper _) h

theorem doHamperVerifyComplete (h : Kept s t) (allZero : Bool) : Kept s (doHamperVerifyComplete allZero t) := by
  unfold Machine.doHamperVerifyComplete
  refine .ite h ?_
  extract_lets s0 src s1
  have h0 : Kept s s0 := by
    unfold s0
    split
    · exact h
    · exact h.reach _
  have h1 : Kept s s1 := h0.parts
  exact .ite (h1.set _ _) ((h1.set _ _).fault _ _)

theorem btUse (h : Kept s t) : Kept s t.btUse := h.set _ _

theorem doFaultReport (h : Kept s t) (src info : Nat) (access : Option ReportedAccess) : Kept s (doFaultReport src info access t) :=
  h.faultFrom _ _ _

theorem doRailPairInvalid (h : Kept s t) (src : Nat) (stays : Bool) : Kept s (doRailPairInvalid src stays t) :=
  .ite h (.ite (.ite h h.parts) (.railInvalid (.ite h.parts h) _))

theorem stopTimer (h : Kept s t) (src : Nat) : Kept s (t.stopTimer src) := h.parts

theorem escalate (h : Kept s t) (src : Nat) : Kept s (t.escalate src) := by
  unfold State.escalate
  split
  · exact h.faultNotice _
  · exact h
  · exact h.blockReaction
  · exact h

theorem doEscalationExpiry (h : Kept s t) (src : Nat) : Kept s (doEscalationExpiry src t) :=
  .ite h ((((((h.reach _).stopTimer _).putFltBit _ _ _).pinFollow _).escalate _).endClock)

theorem doFaultNReadbackMismatch (h : Kept s t) (level : Bool) : Kept s (doFaultNReadbackMismatch level t) :=
  .ite (h.setBool _ _) ((h.setBool _ _).fault _ _)

theorem ackOne (h : Kept s t) (src : Nat) : Kept s (t.ackOne src) := .ite ((h.putFltBit _ _ _).stopTimer _) h

theorem doFltAckWrite (h : Kept s t) (j v : Nat) : Kept s (doFltAckWrite j v t) := .foldl (fun _ _ hu => hu.ackOne _) h

theorem clearOne (h : Kept s t) (src : Nat) : Kept s (t.clearOne src) :=
  .ite h (.ite (h.count _ _) ((((h.putFltBit _ _ _).putFltBit _ _ _).putFltBit _ _ _).stopTimer _))

theorem doFltSrcClear (h : Kept s t) (j v : Nat) : Kept s (doFltSrcClear j v t) :=
  .endClock (.pinFollow (.foldl (fun _ _ hu => hu.clearOne _) h) _)

theorem doFltForceWrite (h : Kept s t) (master j v : Nat) : Kept s (doFltForceWrite master j v t) :=
  .foldl (fun _ _ hu => hu.faultFrom _ _ _) (h.set _ _)

theorem injFields (h : Kept s t) (v : Nat) : Kept s (t.injFields v) := by
  unfold State.injFields
  extract_lets chk nbit s1 s2
  have h1 : Kept s s1 := .ite (h.set _ _) h
  have h2 : Kept s s2 := .ite (h1.set _ _) h1
  exact .ite (h2.set _ _) h2

theorem injectRail (h : Kept s t) : Kept s t.injectRail := .ite ((h.injectionDone.parts.reach _).railInvalid _) h

theorem doArm (h : Kept s t) (v : Nat) : Kept s (doArm v t) :=
  .ite h (.ite (((h.injFields _).set _ _).set _ _) (((h.injFields _).set _ _).injectRail))

theorem doCancel (h : Kept s t) : Kept s (doCancel t) := h.set _ _

theorem doFltLock (h : Kept s t) : Kept s (doFltLock t) := h.set _ _

theorem escWrite (h : Kept s t) (f : Fld) (v : Nat) : Kept s (t.escWrite f v) := .ite h (h.set _ _)

end Kept

end Sys2Proof.Machine
end

section
/-!
The grid functions.
-/

namespace Sys2Proof.Machine

namespace Kept

variable {s t u : State}

theorem modGrd (h : Kept s t) (f : GrdState → GrdState) : Kept s (t.modGrd f) := h.parts

theorem setInWord (h : Kept s t) (a v : Nat) : Kept s (t.setInWord a v) := h.cleParts

theorem noteNv (h : Kept s t) : Kept s t.noteNv := .ite h (h.modGrd _)

theorem noteSample (h : Kept s t) : Kept s t.noteSample := by
  unfold State.noteSample
  exact h.noteNv.modGrd _

theorem keepFrequency (h : Kept s t) : Kept s t.keepFrequency := h.modGrd _

theorem observe (h : Kept s t) : Kept s t.observe :=
  .ite ((h.noteSample.modGrd _).keepFrequency.modGrd _) ((h.noteSample.modGrd _).keepFrequency)

theorem toneSample (h : Kept s t) (input t' : Nat) : Kept s (t.toneSample input t') := .ite h (h.modGrd _)

theorem gridSample (h : Kept s t) (input t' : Nat) : Kept s (t.gridSample input t') := by
  unfold State.gridSample
  refine .ite h ?_
  extract_lets s0 m s1
  have h0 : Kept s s0 := h.toneSample _ _
  have h1 : Kept s s1 := h0.modGrd _
  exact .ite h0 (.ite h1.observe h1)

theorem setMode (h : Kept s t) (m : Nat) : Kept s (t.setMode m) :=
  .ite h (.ite ((((h.set _ _).set _ _).irq _).set _ _) (((h.set _ _).set _ _).irq _))

theorem gridTrip (h : Kept s t) (cause : Nat) : Kept s (t.gridTrip cause) :=
  .ite h (.ite (.ite (h.set _ _) h) (((((h.setMode _).set _ _).set _ _).tripLatch _ _).fault _ _))

theorem setRotor (h : Kept s t) (th w : Rat) : Kept s (t.setRotor th w) := h.modGrd _

theorem rotorTracks (h : Kept s t) : Kept s t.rotorTracks := h.setRotor _ _

theorem enterForm (h : Kept s t) : Kept s t.enterForm := (h.setMode _).rotorTracks.modGrd _

theorem freewheelToForm (h : Kept s t) : Kept s t.freewheelToForm := (h.setMode _).modGrd _

theorem enterFreewheel (h : Kept s t) : Kept s t.enterFreewheel :=
  (((((h.setMode _).setRotor _ _).modGrd _).set _ _).count _ _).fault _ _

theorem rideThrough (h : Kept s t) : Kept s t.rideThrough :=
  .ite (.set (.ite (h.modGrd _) h) _ _) (.modGrd (.set (.ite (h.modGrd _) h) _ _) _)

theorem rtHold (h : Kept s t) : Kept s t.rtHold := by
  unfold State.rtHold
  split
  · exact h
  · exact .ite ((h.set _ _).modGrd _) h

theorem rampEnd (h : Kept s t) : Kept s t.rampEnd := by
  unfold State.rampEnd
  split
  · exact h
  · exact .ite (h.modGrd _) h

theorem reseed (h : Kept s t) : Kept s t.reseed := (h.modGrd _).keepFrequency

theorem nvStep (h : Kept s t) : Kept s t.nvStep := .foldl (fun _ _ hu => .ite (hu.fault _ _) hu) (h.modGrd _)

theorem classify (h : Kept s t) : Kept s t.classify := .nvStep (.modGrd (.ite h.reseed h) _)

theorem alignStep (h : Kept s t) : Kept s t.alignStep := .ite (h.modGrd _) h

theorem observerMoves (h : Kept s t) : Kept s t.observerMoves := .ite (h.set _ _) (.ite ((h.set _ _).modGrd _) h)

theorem shadowLock (h : Kept s t) : Kept s t.shadowLock := .ite (h.set _ _) h

theorem shadowCount (h : Kept s t) : Kept s t.shadowCount := .ite h (.ite ((h.modGrd _).set _ _) ((h.modGrd _).shadowLock))

theorem passiveTimers (h : Kept s t) : Kept s t.passiveTimers := .foldl (fun _ _ hu => hu.modGrd _) (h.modGrd _)

theorem islandingAction (h : Kept s t) (k : Nat) : Kept s (t.islandingAction k) := by
  unfold State.islandingAction
  extract_lets s1
  have h1 : Kept s s1 := h.putBit _ _ _
  split
  · exact h1.gridTrip _
  · exact .ite (h1.modGrd _) h1
  · exact h1

theorem activeTests (h : Kept s t) : Kept s t.activeTests := by
  unfold State.activeTests
  split
  · exact h
  · extract_lets s0 zopen xcap s1
    have h0 : Kept s s0 := h.modGrd _
    have h1 : Kept s s1 := .ite (h0.islandingAction _) h0
    exact .ite h0 (.ite (h1.islandingAction _) h1)

theorem passiveTest (h : Kept s t) (k : Nat) : Kept s (t.passiveTest k) := .ite ((h.islandingAction _).modGrd _) h

theorem passiveTests (h : Kept s t) : Kept s t.passiveTests := .foldl (fun _ _ hu => hu.passiveTest _) (h.passiveTimers.modGrd _)

theorem rejoinStep (h : Kept s t) : Kept s t.rejoinStep := .ite (((h.setMode _).count _ _).modGrd _) h

theorem transferStep (h : Kept s t) : Kept s t.transferStep :=
  .ite h (.ite ((h.modGrd _).enterForm) (.ite ((h.modGrd _).freewheelToForm) (h.modGrd _)))

theorem freewheelOver (h : Kept s t) : Kept s t.freewheelOver := .ite (.ite (h.freewheelToForm.fault _ _) (h.gridTrip _)) h

theorem syncEnds (h : Kept s t) : Kept s t.syncEnds := .ite (.ite h.enterForm (h.setMode _)) h

theorem followEnds (h : Kept s t) : Kept s t.followEnds := .ite (.ite h.enterFreewheel (h.setMode _)) h

theorem handoverStep (h : Kept s t) : Kept s t.handoverStep := .ite (((h.setMode _).set _ _).modGrd _) h

theorem blackstartOver (h : Kept s t) : Kept s t.blackstartOver := .ite (h.gridTrip _) h

theorem blackStartMoves (h : Kept s t) : Kept s t.blackStartMoves := by
  unfold State.blackStartMoves
  refine .ite h.blackstartOver (.ite ((((h.setMode _).set _ _).set _ _).fault _ _) ?_)
  exact .ite h.handoverStep.blackstartOver h.handoverStep

theorem formMoves (h : Kept s t) : Kept s t.formMoves := .ite h.enterForm (.ite (h.setMode _) h)

theorem orElse {f g : State → State} (hf : ∀ u, Kept s u → Kept s (f u)) (hg : ∀ u, Kept s u → Kept s (g u)) (u : State) (hu :
    Kept s u) :
    Kept s (orElse f g u) := .ite (hg _ (hf _ hu)) (hf _ hu)

theorem modeStep (h : Kept s t) (m : Nat) : Kept s (t.modeStep m) := by
  unfold State.modeStep
  extract_lets blocked
  have hblocked (u : State) (hu : Kept s u) : Kept s (blocked u) := .ite (hu.setMode _) hu
  refine .ite h ?_
  simp only [List.foldl_cons, List.foldl_nil]
  refine orElse (orElse (orElse (orElse (orElse (orElse (orElse ?_ ?_) ?_) hblocked) ?_) ?_) ?_) ?_ t h
  · exact fun _ hu => hu.rejoinStep
  · exact fun _ hu => hu.transferStep
  · exact fun _ hu => hu.freewheelOver
  · exact fun _ hu => hu.syncEnds
  · exact fun _ hu => hu.followEnds
  · exact fun _ hu => hu.blackStartMoves
  · exact fun _ hu => hu.formMoves

theorem rotorRuns (h : Kept s t) (w : Rat) : Kept s (t.rotorRuns w) := h.setRotor _ _

theorem vsmStep (h : Kept s t) : Kept s t.vsmStep := by
  unfold State.vsmStep
  exact (h.rotorRuns _).modGrd _

theorem steerTo (h : Kept s t) (th w : Rat) : Kept s (t.steerTo th w) := .ite (h.setRotor _ _) (h.rotorRuns _)

theorem freewheelStep (h : Kept s t) : Kept s t.freewheelStep :=
  .ite (h.steerTo _ _) (.ite h.rotorTracks (.ite (h.steerTo _ _) (h.rotorRuns _)))

theorem alignEnds (h : Kept s t) : Kept s t.alignEnds := .ite ((h.set _ _).modGrd _) h

theorem blackStartStep (h : Kept s t) : Kept s t.blackStartStep := .ite (h.alignEnds.modGrd _) (h.alignEnds.modGrd _)

theorem rotorUpdate (h : Kept s t) (m : Nat) : Kept s (t.rotorUpdate m) := by
  unfold State.rotorUpdate
  split
  · exact .ite h (.ite (h.vsmStep.modGrd _) h.vsmStep)
  · exact .ite h.freewheelStep h
  · exact h.blackStartStep
  · exact h
  · exact h.rotorTracks

theorem exportWatch (h : Kept s t) : Kept s t.exportWatch := h.parts

theorem publish (h : Kept s t) : Kept s t.publish := by
  unfold State.publish
  extract_lets adv s0 mode b th o turn dq dn v i c m vrt ws
  have h0 : Kept s s0 := h.setBool _ _
  exact .ite (.exportWatch (.setInWord (.foldl (fun _ _ hu3 => hu3.setInWord _ _) h0) _ _))
    (.exportWatch (.foldl (fun _ _ hu2 => hu2.setInWord _ _) h0))

theorem observerEvaluates (h : Kept s t) : Kept s t.observerEvaluates := h.noteNv.classify.shadowCount.alignStep.observerMoves

theorem gridTests (h : Kept s t) : Kept s t.gridTests := by
  unfold State.gridTests
  refine .activeTests ?_
  refine .passiveTests ?_
  split
  · exact h
  · exact h.gridTrip _

theorem evaluate (h : Kept s t) : Kept s t.evaluate := by
  unfold State.evaluate
  refine .ite h (.ite h.publish ?_)
  extract_lets m s3 s4 s5
  have h3 : Kept s s3 := h.observerEvaluates.rideThrough.rtHold.gridTests
  have h4 : Kept s s4 := h3.modeStep _
  have h5 : Kept s s5 := (h4.modGrd _).rotorUpdate _
  exact h5.publish.rampEnd.modGrd _

theorem grdActs {f : State → State} (h : Kept s t) (hf : ∀ u, Kept s u → Kept s (f u)) : Kept s (t.grdActs f) := .ite h (hf _ h)

theorem doGrdRestart (h : Kept s t) : Kept s (doGrdRestart t) := .ite (((h.setMode _).set _ _).modGrd _) h

theorem doBsreq (h : Kept s t) : Kept s (doBsreq t) := .ite (((h.setMode _).set _ _).modGrd _) ((h.set _ _).fault _ _)

theorem doObserverLocked (h : Kept s t) : Kept s (doObserverLocked t) := .ite ((h.set _ _).syncEnds) h

theorem doObserverLost (h : Kept s t) : Kept s (doObserverLost t) := .ite h.observerMoves.followEnds h

theorem doRejoin (h : Kept s t) : Kept s (doRejoin t) := .ite ((h.set _ _).rejoinStep) h

theorem doShadowLock (h : Kept s t) : Kept s (doShadowLock t) := h.shadowLock

theorem doFreewheelTimeout (h : Kept s t) : Kept s (doFreewheelTimeout t) := .ite h h.freewheelOver

theorem doAlignEnd (h : Kept s t) : Kept s (doAlignEnd t) := .ite ((h.reach _).alignEnds) h

theorem doHandover (h : Kept s t) : Kept s (doHandover t) := h.handoverStep

theorem doBlackstartTimeout (h : Kept s t) : Kept s (doBlackstartTimeout t) := h.blackstartOver

theorem doToneWindowEnd (h : Kept s t) (vRe vIm iRe iIm : Int) : Kept s (doToneWindowEnd vRe vIm iRe iIm t) := by
  unfold Machine.doToneWindowEnd
  refine .ite h ?_
  extract_lets due amps amp t0 s1 s2 valid s3
  have h1 : Kept s s1 := ((h.reach _).modGrd _).set _ _
  have h2 : Kept s s2 := (h1.set _ _).setBool _ _
  have h3 : Kept s s3 := (h2.setBool _ _).modGrd _
  exact .ite (h3.set _ _) (((h3.set _ _).set _ _).set _ _)

theorem doPassiveTestTimerExpiry (h : Kept s t) (k : Nat) : Kept s (doPassiveTestTimerExpiry k t) :=
  .ite (((h.modGrd _).passiveTest _).transferStep) h

theorem doRtHoldExpiry (h : Kept s t) : Kept s (doRtHoldExpiry t) := h.rtHold

theorem grdCfgErr (h : Kept s t) : Kept s t.grdCfgErr := (h.set _ _).fault _ _

theorem grdFields (h : Kept s t) (addr v : Nat) : Kept s (t.grdFields addr v) := by
  unfold State.grdFields
  extract_lets ps src lo amp f s1
  have h1 : Kept s s1 := h.await _ _
  exact .ite h.parts (.ite ((h.parts.await _ _).await _ _) (.ite (.ite h.grdCfgErr (.ite h1.grdCfgErr (h1.await _ _)))
    (.ite h.grdCfgErr (h.awaitAll _))))

theorem toneBegins (h : Kept s t) : Kept s t.toneBegins := h.modGrd _

theorem grdStarts (h : Kept s t) : Kept s t.grdStarts := by
  unfold State.grdStarts
  exact ((h.setMode _).set _ _).toneBegins.modGrd _

theorem grdStops (h : Kept s t) : Kept s t.grdStops := by
  unfold State.grdStops
  extract_lets s1
  have h1 : Kept s s1 := ((((h.setMode _).set _ _).set _ _).set _ _).modGrd _
  exact .ite (h1.tripLatch _ _) h1

theorem takeEffect (h : Kept s t) (w : Waiting) : Kept s (t.takeEffect w) := by
  unfold State.takeEffect
  extract_lets s1
  have h1 : Kept s s1 := h.set _ _
  exact .ite (h1.grdActs (fun _ hu1 => .ite hu1.grdStarts (.ite hu1.grdStops hu1)))
    (.ite (.ite ((h1.set _ _).modGrd _) (.ite (h1.toneBegins.modGrd _) h1))
      (.ite (.foldl (fun _ _ hu3 => (hu3.set _ _).set _ _) (.foldl (fun _ _ hu4 => hu4.parts) h1)) h1))

theorem doDeferredWriteEffect (h : Kept s t) : Kept s (doDeferredWriteEffect t) := .foldl (fun _ _ hu => hu.takeEffect _) h.parts

theorem settle (h : Kept s t) : Kept s t.settle := .ite h h.doDeferredWriteEffect

theorem doGrdRegisterWrite (h : Kept s t) (offset v : Nat) : Kept s (doGrdRegisterWrite offset v t) := by
  unfold Machine.doGrdRegisterWrite
  extract_lets addr s1 s2
  have h1 : Kept s s1 := ((h.clearOnes _ _).grdFields _ _).settle
  have h2 : Kept s s2 := .ite (h1.grdActs (fun _ hu => hu.doGrdRestart)) h1
  exact .ite (.ite (h2.grdActs (fun _ hu => hu.doBsreq)) h2) h1

end Kept

end Sys2Proof.Machine
end

section
/-!
The cells and the MPPT contexts.
-/

namespace Sys2Proof.Machine

namespace Kept

variable {s t u : State}

theorem modCell (h : Kept s t) (c : Nat) (f : CellState → CellState) : Kept s (t.modCell c f) := h.parts

theorem modArm (h : Kept s t) (a : Nat) (f : ArmState → ArmState) : Kept s (t.modArm a f) := h.parts

theorem modMppt (h : Kept s t) (c : Nat) (f : Mppt → Mppt) : Kept s (t.modMppt c f) := h.modCell _ _

theorem computeKeys (h : Kept s t) : Kept s t.computeKeys := .foldl (fun _ _ hu => .ite (hu.set _ _) hu) h

theorem cellFlags (h : Kept s t) (c : Nat) : Kept s (t.cellFlags c) := by
  unfold State.cellFlags
  extract_lets d t0 hot above wasFault wasOver s1 s2
  have h1 : Kept s s1 := ((h.setBool _ _).setBool _ _).modCell _ _
  have h2 : Kept s s2 := .ite (h1.fault _ _) h1
  exact .ite (h2.fault _ _) h2

theorem setSocImpl (h : Kept s t) (c : Nat) : Kept s (t.setSocImpl c) := .ite h ((h.set _ _).fault _ _)

theorem setSoci (h : Kept s t) (c : Nat) (v : Rat) : Kept s (t.setSoci c v) := (h.modCell _ _).set _ _

theorem socStartValues (h : Kept s t) (c : Nat) : Kept s (t.socStartValues c) := (h.setSoci _ _).modCell _ _

theorem socTick (h : Kept s t) (c : Nat) : Kept s (t.socTick c) := by
  unfold State.socTick
  refine .ite h ?_
  extract_lets p k cap check bad s1 s2
  have h1 : Kept s s1 := h.modCell _ _
  have h2 : Kept s s2 := .ite (h1.socStartValues _) (.ite h1 (h1.setSoci _ _))
  exact .ite (h2.setSocImpl _) h2

theorem ageTick (h : Kept s t) (c : Nat) : Kept s (t.ageTick c) := h.modCell _ _

theorem setVref (h : Kept s t) (c : Nat) (v : Rat) : Kept s (t.setVref c v) := (h.modMppt _ _).set _ _

theorem setVoc (h : Kept s t) (c : Nat) (v : Rat) : Kept s (t.setVoc c v) := (h.modMppt _ _).set _ _

theorem setMpptState (h : Kept s t) (c st : Nat) : Kept s (t.setMpptState c st) := (h.set _ _).set _ _

theorem newInterval (h : Kept s t) (c : Nat) : Kept s (t.newInterval c) := h.modMppt _ _

theorem enterVoc (h : Kept s t) (c : Nat) : Kept s (t.enterVoc c) := by
  unfold State.enterVoc
  exact .modMppt (.set (.set (.setMpptState (.ite (h.setVref _ _) h) _ _) _ _) _ _) _ _

theorem vocCapture (h : Kept s t) (c : Nat) : Kept s (t.vocCapture c) := .ite (((h.modMppt _ _).setVoc _ _).set _ _) (h.modMppt _ _)

theorem firstUse (h : Kept s t) (c : Nat) : Kept s (t.firstUse c) := by
  unfold State.firstUse
  exact .modMppt (.set (.set (.setVref (.ite h ((h.setVoc _ _).set _ _)) _ _) _ _) _ _) _ _

theorem leaveVoc (h : Kept s t) (c : Nat) : Kept s (t.leaveVoc c) := .newInterval (.setMpptState (.ite h (h.firstUse _)) _ _) _

theorem mpptCollect (h : Kept s t) (c : Nat) : Kept s (t.mpptCollect c) := by
  unfold State.mpptCollect
  exact h.modMppt _ _

theorem mpptOff (h : Kept s t) (c : Nat) : Kept s (t.mpptOff c) := .ite h ((h.setMpptState _ _).modMppt _ _)

theorem boundVref (h : Kept s t) (c : Nat) : Kept s (t.boundVref c) := .ite ((h.modMppt _ _).set _ _) h

theorem mpptTick (h : Kept s t) (c : Nat) : Kept s (t.mpptTick c) := by
  unfold State.mpptTick
  extract_lets s0 st load s1 s1' s1''
  have h0 : Kept s s0 := h.boundVref _
  have h1 : Kept s s1 := h0.enterVoc _
  have hS1' : Kept s s1' := h0.vocCapture _
  have hS1'' : Kept s s1'' := .ite (h0.setVref _ _) h0
  exact .ite (h0.mpptOff _) (.ite (.ite (h1.leaveVoc _) (h1.vocCapture _))
    (.ite (.ite (hS1'.leaveVoc _) hS1') (.ite (.ite (h0.enterVoc _) h0)
      (.ite (h0.mpptCollect _) (.ite ((hS1''.setMpptState _ _).modMppt _ _) (h0.enterVoc _))))))

theorem setPower (h : Kept s t) (c : Nat) (p : Rat) : Kept s (t.setPower c p) := h.set _ _

theorem takePoint (h : Kept s t) (c : Nat) (v i : Rat) : Kept s (t.takePoint c v i) := (h.modMppt _ _).setPower _ _

theorem trackUpdate (h : Kept s t) (c : Nat) : Kept s (t.trackUpdate c) := by
  unfold State.trackUpdate
  split
  · exact h.modMppt _ _
  · extract_lets m dir s0 half nv
    have h0 : Kept s s0 := (h.takePoint _ _ _).modMppt _ _
    split
    · exact h0.setVref _ _
    · extract_lets mv run step s1 s2
      have h1 : Kept s s1 := (h0.modMppt _ _).set _ _
      have h2 : Kept s s2 := h1.setVref _ _
      exact .ite (h2.set _ _) h2

theorem scanEnd (h : Kept s t) (c : Nat) : Kept s (t.scanEnd c) := by
  unfold State.scanEnd
  exact ((h.setVref _ _).setMpptState _ _).modMppt _ _

theorem scanUpdate (h : Kept s t) (c : Nat) : Kept s (t.scanUpdate c) := by
  unfold State.scanUpdate
  extract_lets m s1
  have h1 : Kept s s1 := by
    unfold s1
    split
    · exact h
    · exact (h.takePoint _ _ _).modMppt _ _
  exact .ite (h1.scanEnd _) ((h1.modMppt _ _).setVref _ _)

theorem doMpptUpdate (h : Kept s t) (c : Nat) : Kept s (doMpptUpdate c t) :=
  .ite h (.ite ((h.trackUpdate _).newInterval _) (.ite ((h.scanUpdate _).newInterval _) h))

theorem doMpptScanStart (h : Kept s t) (c : Nat) : Kept s (doMpptScanStart c t) := by
  -- The body is put in by an equation of functions: unfolded at its arguments, the kernel would evaluate the match on `scanDue`, whose test
  -- multiplies by 400,000,000.
  have hbody : Machine.doMpptScanStart = Machine.doMpptScanStart := rfl
  conv_rhs at hbody => delta Machine.doMpptScanStart
  rw [hbody]
  beta_reduce
  cases t.scanDue c with
  | none => exact h
  | some due => exact .ite (((((h.reach _).setMpptState _ _).modMppt _ _).setVref _ _).newInterval _) h

theorem socWindowStart (h : Kept s t) (c : Nat) : Kept s (t.socWindowStart c) := (h.modCell _ _).socStartValues _

theorem doSocWindowEnd (h : Kept s t) (c : Nat) : Kept s (doSocWindowEnd c t) := by
  unfold Machine.doSocWindowEnd
  split
  · exact h
  · refine .ite h ?_
    extract_lets s0 k check d tol s1
    have h0 : Kept s s0 := h.reach _
    have h1 : Kept s s1 := .ite (h0.setSocImpl _) (.ite (h0.set _ _) h0)
    exact .ite (h0.modCell _ _) (h1.socWindowStart _)

theorem gateUpdate (h : Kept s t) : Kept s t.gateUpdate := .foldl (fun _ _ hu => .ite ((hu.set _ _).modCell _ _) hu) h

theorem doGatesat (h : Kept s t) (c : Nat) : Kept s (doGatesat c t) := .ite (((h.modCell _ _).set _ _).fault _ _) h

theorem ageHour (h : Kept s t) (c : Nat) : Kept s (t.ageHour c) := by
  unfold State.ageHour
  extract_lets k von cbar base age s1 s2
  have h1 : Kept s s1 := h.modCell _ _
  have h2 : Kept s s2 := (h1.set _ _).set _ _
  exact .ite ((h2.set _ _).fault _ _) (.ite (h2.set _ _) h2)

theorem doAgeingHourEnd (h : Kept s t) : Kept s (doAgeingHourEnd t) :=
  .foldl (fun _ _ hu => .ite (hu.ageHour _) hu) (.parts (h.reach _))

theorem doBaseline (h : Kept s t) : Kept s (doBaseline t) := by
  unfold Machine.doBaseline
  refine .foldl (fun u a hu => ?_) h
  extract_lets k
  split
  · exact (hu.modCell _ _).set _ _
  · exact hu

theorem cellStarts (h : Kept s t) (c : Nat) : Kept s (t.cellStarts c) := (h.set _ _).modCell _ _

theorem admitCommitted (h : Kept s t) : Kept s t.admitCommitted := by
  unfold State.admitCommitted
  refine .foldl (fun u a hu => ?_) h
  split
  · exact hu
  · exact .ite (hu.cellStarts _) hu

theorem admitCell (h : Kept s t) (p : Nat) : Kept s (t.admitCell p) := by
  unfold State.admitCell
  extract_lets s1
  have h1 : Kept s s1 := h.modPort _ _
  split
  · exact h1
  · exact h1.cellStarts _

theorem dcLinkAnew (h : Kept s t) : Kept s t.dcLinkAnew := by
  unfold State.dcLinkAnew
  exact h.modTrp _

theorem judgeArm (h : Kept s t) (a : Nat) : Kept s (t.judgeArm a) := by
  unfold State.judgeArm
  extract_lets n k x s1 s2
  have h1 : Kept s s1 := ((h.set _ _).setBool _ _).modArm _ _
  have h2 : Kept s s2 := .ite (h1.fault _ _) h1
  exact .ite ((h2.tripLatch _ _).fault _ _) h2

theorem restArm (h : Kept s t) (a : Nat) : Kept s (t.restArm a) := ((h.set _ _).set _ _).modArm _ _

theorem judgeArms (h : Kept s t) : Kept s t.judgeArms := .foldl (fun _ _ hu => .ite (hu.judgeArm _) (hu.restArm _)) h

theorem postSummaries (h : Kept s t) : Kept s t.postSummaries :=
  .foldl (fun _ _ hu => .foldl (fun _ _ hu1 => hu1.setInWord _ _) hu) h

theorem markEligible (h : Kept s t) : Kept s t.markEligible := .foldl (fun _ _ hu => hu.setBool _ _) h

theorem armDirection (h : Kept s t) (a : Nat) (sign : Int) : Kept s (t.armDirection a sign) :=
  .ite (h.set _ _) (.ite h (.ite (h.set _ _) (.ite (h.set _ _) h)))

theorem shortTick (h : Kept s t) (a : Nat) (short : Bool) : Kept s (t.shortTick a short) :=
  .ite (.ite ((h.modArm _ _).count _ _) (((h.modArm _ _).count _ _).fault _ _)) (h.modArm _ _)

theorem doCelBypReq (h : Kept s t) (j v : Nat) : Kept s (doCelBypReq j v t) := h.parts

theorem doCelRjReq (h : Kept s t) (j v : Nat) : Kept s (doCelRjReq j v t) := h.parts

theorem clearRjDue (h : Kept s t) (c : Nat) : Kept s (t.clearRjDue c) := h.parts

theorem bypassCell (h : Kept s t) (c cause : Nat) : Kept s (t.bypassCell c cause) := by
  unfold State.bypassCell
  split
  · exact h
  · exact h.modPort _ _

theorem doBypassConfirmTimeout (h : Kept s t) (c : Nat) : Kept s (doBypassConfirmTimeout c t) := by
  unfold Machine.doBypassConfirmTimeout
  split
  · exact h
  · split
    · exact h
    · exact .ite h (((h.modPort _ _).tripLatch _ _).fault _ _)

theorem judgeRejoin (h : Kept s t) (c : Nat) : Kept s (t.judgeRejoin c) := by
  unfold State.judgeRejoin
  refine .ite h ?_
  extract_lets s0
  have h0 : Kept s s0 := h.clearRjDue _
  split
  · exact h0.set _ _
  · exact .ite (.ite ((((h0.modPort _ _).putBit _ _ _).set _ _).count _ _) ((h0.modPort _ _).putBit _ _ _)) (h0.set _ _)

theorem decideBypass (h : Kept s t) (c : Nat) : Kept s (t.decideBypass c) := .ite h (h.bypassCell _ _)

theorem cellsAcquire (h : Kept s t) : Kept s t.cellsAcquire := by
  unfold State.cellsAcquire
  extract_lets src s0 each s1 s2 s3
  have h0 : Kept s s0 := h.parts
  have h1 : Kept s s1 := .foldl (fun _ _ hu => .ite (hu.cellFlags _) hu) h0
  have h2 : Kept s s2 := .foldl (fun _ _ hu1 => hu1.judgeRejoin _) (.foldl (fun _ _ hu3 => hu3.decideBypass _) h1)
  have h3 : Kept s s3 := .foldl (fun _ _ hu => .ite (((hu.socTick _).ageTick _).mpptTick _) (hu.mpptOff _)) h2
  exact h3.computeKeys.judgeArms.postSummaries

theorem doBypassDecision (h : Kept s t) (c : Nat) : Kept s (doBypassDecision c t) := by
  unfold Machine.doBypassDecision
  extract_lets src s0 s1
  have h0 : Kept s s0 := .ite h.parts h
  have h1 : Kept s s1 := h0.decideBypass _
  exact .ite h0 (.ite h1.judgeArms.postSummaries h1)

theorem doRejoinJudgement (h : Kept s t) (c : Nat) : Kept s (doRejoinJudgement c t) := by
  unfold Machine.doRejoinJudgement
  extract_lets src s0
  have h0 : Kept s s0 := .ite h.parts h
  exact .ite (h0.judgeRejoin _) (((h0.judgeRejoin _).mpptTick _).judgeArms.postSummaries)

theorem clearBypFail (h : Kept s t) (addr v : Nat) : Kept s (t.clearBypFail addr v) := by
  unfold State.clearBypFail
  refine .ite ?_ ?_
  · extract_lets c
    split
    · exact h
    · exact .ite (h.modPort _ _) h
  · exact h

theorem doCelRegisterWrite (h : Kept s t) (offset v : Nat) : Kept s (doCelRegisterWrite offset v t) := by
  unfold Machine.doCelRegisterWrite
  extract_lets addr s0 ps s1 s2
  have h0 : Kept s s0 := (h.clearOnes _ _).clearBypFail _ _
  have h1 : Kept s s1 := .ite (h0.set _ _) (h0.awaitAll _)
  have h2 : Kept s s2 := h1.settle
  exact .ite h2.doBaseline (.ite (h2.doCelBypReq _ _) (.ite (h2.doCelRjReq _ _) h2))

end Kept

end Sys2Proof.Machine
end

section
/-!
The edge plans, the PWM and the trip network.
-/

namespace Sys2Proof.Machine

namespace Kept

variable {s t u : State}

theorem keepBuilt (h : Kept s t) (a : Nat) (b : BuiltArm) (cells : List (Nat × BuiltCell × Nat × Nat)) :
    Kept s (t.keepBuilt a b cells) :=
  .parts (.foldl (fun _ _ hu => hu.parts) h)

theorem planCarrier (h : Kept s t) (a : Nat) : Kept s (t.planCarrier a) := h.keepBuilt _ _ _

theorem planLevel (h : Kept s t) (a : Nat) : Kept s (t.planLevel a) := (h.shortTick _ _).keepBuilt _ _ _

theorem armOff (h : Kept s t) (a : Nat) : Kept s (t.armOff a) := .foldl (fun _ _ hu => (hu.set _ _).set _ _) (h.modArm _ _)

theorem planArm (h : Kept s t) (a : Nat) : Kept s (t.planArm a) := by
  unfold State.planArm
  extract_lets off s0 notShort s1 s2 src
  have h0 : Kept s s0 := .ite (h.armOff _) h
  have h1 : Kept s s1 := h0.armDirection _ _
  have h2 : Kept s s2 := .ite (h1.planLevel _) ((h1.planCarrier _).modArm _ _)
  exact .ite ((h0.armDirection _ _).modArm _ _) (.ite h2.parts h2)

theorem solvePlans (h : Kept s t) : Kept s t.solvePlans := .parts (.foldl (fun _ _ hu => hu.planArm _) h.markEligible.parts)

theorem countDrop (h : Kept s t) (b : Bool) : Kept s (t.countDrop b) := .ite (h.count _ _) h

theorem cellCarries (h : Kept s t) (mode c : Nat) (b : BuiltCell) : Kept s (t.cellCarries mode c b) :=
  .ite ((h.set _ _).set _ _) ((((h.setInt _ _).setInt _ _).countDrop _).countDrop _)

theorem armCarry (h : Kept s t) (a : Nat) (b : BuiltArm) (total : Int) : Kept s (t.armCarry a b total) :=
  .ite h (.ite (h.modArm _ _) (.ite ((h.modArm _ _).countDrop _) ((h.modArm _ _).countDrop _)))

theorem armStatus (h : Kept s t) (a : Nat) (b : BuiltArm) : Kept s (t.armStatus a b) := by
  unfold State.armStatus
  extract_lets m s1 s2
  have h1 : Kept s s1 := ((h.setBool _ _).set _ _).set _ _
  have h2 : Kept s s2 := (h1.count _ _).count _ _
  exact .ite (((h2.modArm _ _).set _ _).set _ _) h2

theorem holdDirections (h : Kept s t) : Kept s t.holdDirections := .parts (.foldl (fun _ _ hu => hu.armDirection _ _) h)

theorem dispatchEdges (h : Kept s t) (hold : Bool) : Kept s (t.dispatchEdges hold) := by
  unfold State.dispatchEdges
  extract_lets cells sent goes s1 m s2 s2' src
  have h1 : Kept s s1 := by
    unfold s1
    refine .ite h ?_
    refine .foldl (fun u a hu => ?_) h
    split
    · exact ((hu.set _ _).set _ _).set _ _
    · exact .ite (.armStatus (.armCarry (.foldl (fun _ _ hu5 => hu5.cellCarries _ _ _) hu) _ _ _) _ _) hu
  have h2 : Kept s s2 := .ite h1 (h1.set _ _)
  have hS2' : Kept s s2' := .foldl (fun _ _ hu => .ite hu (hu.armOff _)) h2
  exact hS2'.parts

theorem dlSummary (h : Kept s t) : Kept s t.dlSummary :=
  .setBool (.ite ((((h.set _ _).set _ _).set _ _).set _ _) (((h.set _ _).set _ _).set _ _)) _ _

theorem doDlCalStep (h : Kept s t) (line : Nat) (r : TrimResult) : Kept s (doDlCalStep line r t) :=
  .ite h (.ite (h.parts.dlSummary.fault _ _) h.parts.dlSummary)

theorem doDlGroupSwap (h : Kept s t) (line : Nat) : Kept s (doDlGroupSwap line t) := .ite h.parts h

theorem doEdgRegisterWrite (h : Kept s t) (offset v : Nat) : Kept s (doEdgRegisterWrite offset v t) :=
  .settle (.awaitAll (.ite ((h.clearOnes _ _).set _ _) (h.clearOnes _ _)) _)

theorem doEdgWinCntRead (h : Kept s t) : Kept s (doEdgWinCntRead t) := .parts ((h.set _ _).set _ _)

theorem pwmWave (h : Kept s t) (n : Nat) : Kept s (t.pwmWave n) := h.pwmApply _ _ _

theorem pwmLoad (h : Kept s t) (n : Nat) : Kept s (t.pwmLoad n) := h.activate _

theorem pwmRestart (h : Kept s t) (n : Nat) : Kept s (t.pwmRestart n) :=
  .ite h (.ite (.ite (h.pwmJudge _) (.ite (h.pwmJudge _) ((h.set _ _).count _ _))) (.ite h (h.modChan _ _)))

theorem pwmCountEvent (h : Kept s t) (n e : Nat) : Kept s (t.pwmCountEvent n e) := by
  unfold State.pwmCountEvent
  extract_lets s1 k
  have h1 : Kept s s1 := (h.putBit _ _ _).modChan _ _
  exact .ite (.ite ((h1.modChan _ _).irq _) (h1.modChan _ _)) h1

theorem pwmConvert (h : Kept s t) (n e : Nat) : Kept s (t.pwmConvert n e) := .ite (h.urgentRequest _) h

theorem pwmZero (h : Kept s t) (n : Nat) : Kept s (t.pwmZero n) :=
  .pwmCountEvent (.pwmWave (.pwmRestart (.ite (h.modChan _ _) ((h.modChan _ _).pwmLoad _)) _) _) _ _

theorem pwmSync (h : Kept s t) : Kept s t.pwmSync := .foldl (fun _ _ hu => .ite (hu.pwmZero _) hu) h

theorem pwmZeroSync (h : Kept s t) (n : Nat) : Kept s (t.pwmZeroSync n) := .ite ((h.pwmZero _).pwmSync) (h.pwmZero _)

theorem pwmConvertZeros (h : Kept s t) (before : State) : Kept s (t.pwmConvertZeros before) :=
  .foldl (fun _ _ hu => .ite (hu.pwmConvert _ _) hu) h

theorem pwmTick (h : Kept s t) : Kept s t.pwmTick := .pwmConvertZeros (.foldl (fun _ _ hu => .ite (hu.pwmZeroSync _) hu) h) _

theorem pwmTop (h : Kept s t) (n : Nat) : Kept s (t.pwmTop n) := by
  unfold State.pwmTop
  refine .ite h ?_
  extract_lets s' s1
  have hS' : Kept s s' := h.pwmLoad _
  have h1 : Kept s s1 := .ite (hS'.modChan _ _) h
  exact .ite (h1.pwmRestart _) h1

theorem pwmAfter (h : Kept s t) (n e : Nat) : Kept s (t.pwmAfter n e) :=
  .ite (h.pwmApply _ _ _) (.ite ((h.pwmWave _).pwmApply _ _ _) (h.pwmWave _))

theorem doPwmCounterEvent (h : Kept s t) (n e : Nat) : Kept s (doPwmCounterEvent n e t) := by
  unfold Machine.doPwmCounterEvent
  split
  · exact h
  · extract_lets s0 s1 s2
    have h0 : Kept s s0 := h.reach _
    have h1 : Kept s s1 := .ite (h0.pwmTop _) h0
    have h2 : Kept s s2 := ((h1.pwmAfter _ _).pwmCountEvent _ _).pwmConvert _ _
    exact .ite ((h0.pwmZeroSync _).pwmConvertZeros _) (.ite (h2.pwmSync.pwmConvertZeros _) h2)

theorem doPwmDeadtimeEnd (h : Kept s t) (n : Nat) : Kept s (doPwmDeadtimeEnd n t) := by
  unfold Machine.doPwmDeadtimeEnd
  split
  · exact h
  · exact ((h.reach _).modChan _ _).emit _

theorem pwmEnable (h : Kept s t) (n : Nat) (en : Bool) : Kept s (t.pwmEnable n en) := by
  unfold State.pwmEnable
  refine .ite h (.ite ?_ ?_)
  · extract_lets s1
    have h1 : Kept s s1 := (h.putBit _ _ _).modChan _ _
    exact .ite (((h1.modChan _ _).pwmApply _ _ _).pwmJudge _) ((h1.pwmZeroSync _).pwmConvertZeros _)
  · exact ((((h.putBit _ _ _).set _ _).setBool _ _).modChan _ _).pwmApply _ _ _

theorem doPwmCtrlWrite (h : Kept s t) (v : Nat) : Kept s (doPwmCtrlWrite v t) := .foldl (fun _ _ hu => hu.pwmEnable _ _) h

theorem tripInOnset (h : Kept s t) (k : Nat) : Kept s (t.tripInOnset k) := .pwmJudgeAll (.ite (h.tripLatch _ _) h)

theorem setFilt (h : Kept s t) (k : Nat) (active : Bool) : Kept s (t.setFilt k active) :=
  .ite h (.ite ((h.putBit _ _ _).tripInOnset _) (h.putBit _ _ _))

theorem setTripRun (h : Kept s t) (k r : Nat) : Kept s (t.setTripRun k r) := h.parts

theorem doTripInputChange (h : Kept s t) (k : Nat) (level : Bool) (samples : Nat) :
    Kept s (doTripInputChange k level samples t) := by
  unfold Machine.doTripInputChange
  extract_lets active same src s0 s1 flen r
  have h0 : Kept s s0 := h.parts
  have h1 : Kept s s1 := .ite h0 (h0.putBit _ _ _)
  exact .ite ((h1.setTripRun _ _).setFilt _ _) (.ite (h1.setTripRun _ _)
    (.ite ((h1.setTripRun _ _).setFilt _ _) (h1.setTripRun _ _)))

theorem doTripfClear (h : Kept s t) (n : Nat) : Kept s (doTripfClear n t) := .ite h (h.set _ _)

theorem doPwmChnStatRead (h : Kept s t) (n : Nat) : Kept s (doPwmChnStatRead n t) := .parts (h.set _ _)

theorem pwmRegisterWrite (h : Kept s t) (addr v : Nat) : Kept s (t.pwmRegisterWrite addr v) := by
  unfold State.pwmRegisterWrite
  extract_lets n s1 s1' k s2 s2' s2''
  have h1 : Kept s s1 := .foldl (fun _ _ hu => hu.set _ _) h
  have hS1' : Kept s s1' := .foldl (fun _ _ hu => hu.set _ _) h
  have h2 : Kept s s2 := .ite (hS1'.setTripRun _ _) hS1'
  have hS2' : Kept s s2' := hS1'.clearOnes _ _
  have hS2'' : Kept s s2'' := hS1'.pwmJudge _
  exact .ite (.ite h (.ite ((h1.pwmLoad _).pwmWave _) h1)) (.ite (h2.doTripInputChange _ _ _)
    (.ite (.ite (hS2'.doTripfClear _) hS2') (.ite (.ite (hS2''.pwmApply _ _ _) hS2'') (.ite ((hS1'.pwmLoad _).pwmWave _) hS1'))))

theorem noteCap (h : Kept s t) (n : Nat) : Kept s (t.noteCap n) := .ite (h.parts.putBit _ _ _) h

theorem comparatorLatch (h : Kept s t) (n : Nat) : Kept s (t.comparatorLatch n) := by
  unfold State.comparatorLatch
  extract_lets s0 first s1
  have h0 : Kept s s0 := h.noteCap _
  have h1 : Kept s s1 := h0.tripLatch _ _
  exact .ite h0 (.ite (h1.urgentRequest _) h1)

theorem comparatorJudge (h : Kept s t) (n : Nat) : Kept s (t.comparatorJudge n) := .ite h ((h.putBit _ _ _).comparatorLatch _)

theorem comparatorLevel (h : Kept s t) (n : Nat) (level : Int) : Kept s (t.comparatorLevel n level) := h.parts.comparatorJudge _

theorem doComparatorOut (h : Kept s t) (n : Nat) (level : Int) : Kept s (doComparatorOut n level t) := h.comparatorLevel _ _

theorem doComparatorIn (h : Kept s t) (n : Nat) (level : Int) : Kept s (doComparatorIn n level t) := h.comparatorLevel _ _

theorem doBlankingWindowClose (h : Kept s t) (n : Nat) : Kept s (doBlankingWindowClose n t) := by
  unfold Machine.doBlankingWindowClose
  split
  · exact h
  · exact (h.reach _).comparatorLatch _

theorem doBlankingCapReached (h : Kept s t) (n : Nat) : Kept s (doBlankingCapReached n t) := by
  unfold Machine.doBlankingCapReached
  extract_lets cap
  split
  · exact h
  · exact .ite h ((h.reach _).comparatorLatch _)

theorem enableArm (h : Kept s t) (a : Nat) : Kept s (t.enableArm a) :=
  .ite h (.ite ((h.putBit _ _ _).modTrp _) ((h.putBit _ _ _).set _ _))

theorem doPulseEnableRequest (h : Kept s t) (arms : Nat) : Kept s (doPulseEnableRequest arms t) :=
  .ite h (.foldl (fun _ _ hu => .ite (hu.enableArm _) hu) h)

theorem doTrpBlkReq (h : Kept s t) (arms : Nat) : Kept s (doTrpBlkReq arms t) := .ite h (h.tripLatch _ _)

theorem dropTripFlag (h : Kept s t) (src : Nat) : Kept s (t.dropTripFlag src) := (h.putTripFlag _ _).modTrp _

theorem clearTripFlag (h : Kept s t) (src : Nat) : Kept s (t.clearTripFlag src) :=
  .ite h (.ite (h.count _ _) ((h.dropTripFlag _).modTrp _))

theorem doTripFlagClear (h : Kept s t) (hi : Bool) (v : Nat) : Kept s (doTripFlagClear hi v t) :=
  .foldl (fun _ _ hu => .ite (hu.clearTripFlag _) hu) h

theorem tripTick (h : Kept s t) : Kept s t.tripTick := by
  unfold State.tripTick
  extract_lets src s1
  have h1 : Kept s s1 := h.parts
  refine .foldl (fun u a hu => ?_) h1
  exact .ite (.dropTripFlag (.ite (hu.comparatorLatch _) hu) _) (.ite (hu.comparatorLatch _) hu)

theorem checkCellVolts (h : Kept s t) : Kept s t.checkCellVolts := .foldl (fun _ _ hu => .ite (hu.tripLatch _ _) hu) (h.modTrp _)

theorem checkDcLink (h : Kept s t) (input word : Nat) : Kept s (t.checkDcLink input word) :=
  .ite h (.ite ((h.modTrp _).tripLatch _ _) (h.modTrp _))

theorem checkDvdt (h : Kept s t) (p : Nat) (d : CellData) : Kept s (t.checkDvdt p d) := by
  unfold State.checkDvdt
  split
  · exact h
  · exact .foldl (fun _ _ hu => .ite ((hu.modPort _ _).tripLatch _ _) (hu.modPort _ _)) h

theorem doExportLimitTimeout (h : Kept s t) : Kept s (doExportLimitTimeout t) := by
  unfold Machine.doExportLimitTimeout
  split
  · exact h
  · exact (h.reach _).tripLatch _ _

theorem hlReject (h : Kept s t) : Kept s t.hlReject := h.count _ _

theorem tightenLow (h : Kept s t) (f : Fld) (v : Nat) : Kept s (t.tightenLow f v) := .ite (h.set _ _) h.hlReject

theorem fixedField (h : Kept s t) (f : Fld) (v : Nat) : Kept s (t.fixedField f v) := .ite h h.hlReject

theorem lockedFreq (h : Kept s t) (v : Nat) : Kept s (t.lockedFreq v) := by
  unfold State.lockedFreq
  extract_lets maxNow minNow hi lo hi' lo' s1 s2
  have h1 : Kept s s1 := .ite h.hlReject h
  have h2 : Kept s s2 := .ite h1.hlReject h1
  exact .ite h2.hlReject ((h2.set _ _).set _ _)

theorem lockedLimit (h : Kept s t) (r : HardLimitReg) (v : Nat) : Kept s (t.lockedLimit r v) := by
  unfold State.lockedLimit
  split
  · exact h.tightenLow _ _
  · exact h.tightenLow _ _
  · exact h.tightenLow _ _
  · exact ((h.tightenLow _ _).fixedField _ _).fixedField _ _
  · exact h.lockedFreq _
  · exact (h.tightenLow _ _).tightenLow _ _

theorem comparatorJudgeAll (h : Kept s t) : Kept s t.comparatorJudgeAll := .foldl (fun _ _ hu => hu.comparatorJudge _) h

theorem doHardLimitWrite (h : Kept s t) (r : HardLimitReg) (v : Nat) : Kept s (doHardLimitWrite r v t) := by
  unfold Machine.doHardLimitWrite
  extract_lets addr s1
  have h1 : Kept s s1 := .ite (h.lockedLimit _ _) (.ite h.hlReject (h.storeRW _ _))
  exact .ite h (.comparatorJudgeAll (.ite h1 h1.dcLinkAnew))

theorem doHlLock (h : Kept s t) : Kept s (doHlLock t) := h.set _ _

theorem doTrpHlLockRead (h : Kept s t) : Kept s (doTrpHlLockRead t) := .parts (h.set _ _)

theorem trpRegisterWrite (h : Kept s t) (addr v : Nat) : Kept s (t.trpRegisterWrite addr v) := by
  unfold State.trpRegisterWrite
  extract_lets s0 thr s1 k
  have h0 : Kept s s0 := h.clearOnes _ _
  have h1 : Kept s s1 := h0.storeRW _ _
  exact .ite h0 (.ite (.foldl (fun _ _ hu => hu.comparatorLatch _) h1)
    (.ite (h1.comparatorJudge _) (.ite (.ite (h1.tripLatch _ _) h1) h1)))

theorem noteOverrun (h : Kept s t) : Kept s t.noteOverrun := by
  unfold State.noteOverrun
  extract_lets s0 src s1 s1'
  have h0 : Kept s s0 := h.set _ _
  have h1 : Kept s s1 := h0.parts
  have hS1' : Kept s s1' := h0.parts
  exact .ite h0 (.ite ((h1.count _ _).fault _ _) (((hS1'.tripLatch _ _).set _ _).fault _ _))

end Kept

end Sys2Proof.Machine
end

section
/-!
The control engine: its runs, its instructions and objects, its bus; the converter settings.
-/

namespace Sys2Proof.Machine

namespace Kept

variable {s t u : State}

theorem setW (h : Kept s t) (d : Nat) (v : Word) : Kept s (t.setW d v) := h.cleParts

theorem setWInt (h : Kept s t) (d : Nat) (v : Int) : Kept s (t.setWInt d v) := h.setW _ _

theorem setAcc (h : Kept s t) (d : Nat) (v : Int) : Kept s (t.setAcc d v) := h.cleParts

theorem setIdx (h : Kept s t) (x v : Nat) : Kept s (t.setIdx x v) := h.cleParts

theorem setFlags (h : Kept s t) (f : CleFlags) : Kept s (t.setFlags f) := h.cleParts

theorem flagZnv (h : Kept s t) (r : Int) (v : Bool) : Kept s (t.flagZnv r v) := .ite ((h.setFlags _).count _ _) (h.setFlags _)

theorem putW (h : Kept s t) (d : Nat) (x : Int) : Kept s (t.putW d x) := (h.setWInt _ _).flagZnv _ _

theorem putWv (h : Kept s t) (d : Nat) (x : Int) (v : Bool) : Kept s (t.putWv d x v) := (h.setWInt _ _).flagZnv _ _

theorem putAcc (h : Kept s t) (d : Nat) (x : Int) : Kept s (t.putAcc d x) := (h.setAcc _ _).flagZnv _ _

theorem cleCycles (h : Kept s t) (t' : Nat) : Kept s (t.cleCycles t') := (h.set _ _).set _ _

theorem cleDiscard (h : Kept s t) (at_ : Nat) : Kept s (t.cleDiscard at_) := (h.cleCycles at_).emptyRun.set _ _

theorem cleUndef (h : Kept s t) (word : Word) (past : Bool) : Kept s (t.cleUndef word past) := by
  unfold State.cleUndef
  extract_lets pc s1 s2
  have h1 : Kept s s1 := h.cleDiscard _
  have h2 : Kept s s2 := ((((h1.set _ _).set _ _).setBool _ _).set _ _).set _ _
  exact ((h2.count _ _).noteOverrun.irq _).fault _ _

theorem cleIssue {f : State → State} (h :
    Kept s t) (word : Word) (undef : Bool) (cycles : Nat) (hf : ∀ u, Kept s u → Kept s (f u)) :
    Kept s (t.cleIssue word undef cycles f) := by
  unfold State.cleIssue
  refine .ite h ?_
  extract_lets s1 started
  have h1 : Kept s s1 := h.reach _
  exact .ite (h1.cleUndef _ _) (.ite (h1.injectionDone.cleUndef _ _) (.ite (h1.cleUndef _ _) (hf _ h1.cleParts)))

theorem cleAfter (h : Kept s t) (e : Nat) : Kept s (t.cleAfter e) := h.cleParts

theorem cleNext (h : Kept s t) : Kept s t.cleNext := h.cleAfter _

theorem clePlain {f : State → State} (h :
    Kept s t) (word : Word) (undef : Bool) (cycles : Nat) (hf : ∀ u, Kept s u → Kept s (f u)) :
    Kept s (t.clePlain word undef cycles f) := h.cleIssue _ _ _ (fun u hu => (hf u hu).cleNext)

theorem doCleNop (h : Kept s t) : Kept s (doCleNop t) := h.clePlain _ _ _ (fun _ hu => hu)

theorem cleCommit (h : Kept s t) : Kept s t.cleCommit := h.cleParts

theorem doCleEnd (h : Kept s t) : Kept s (doCleEnd t) := h.cleIssue _ _ _ (fun _ hu => (hu.reach _).cleCommit.cleDiscard _)

theorem doCleBr (h : Kept s t) (cond target : Nat) : Kept s (doCleBr cond target t) := by
  unfold Machine.doCleBr
  refine .cleIssue h _ _ _ (fun u hu => ?_)
  exact .ite hu.cleParts hu.cleNext

theorem doCleLoop (h : Kept s t) (count last : Nat) : Kept s (doCleLoop count last t) :=
  h.cleIssue _ _ _ (fun _ hu => .ite (hu.cleAfter _) hu.cleParts)

theorem doCleWaitt (h : Kept s t) (cnt : Nat) : Kept s (doCleWaitt cnt t) :=
  h.cleIssue _ _ _ (fun _ hu => .ite hu.cleNext ((hu.cleParts.set _ _).cleNext))

theorem doWaittRelease (h : Kept s t) : Kept s (doWaittRelease t) := by
  unfold Machine.doWaittRelease
  split
  · exact h
  · exact .ite h (.set (.cleParts (h.reach _)) _ _)

theorem memInc (h : Kept s t) (m : MemOperand) (step : Nat) : Kept s (t.memInc m step) := .ite (h.setIdx _ _) h

theorem setData (h : Kept s t) (a : Nat) (v : Word) : Kept s (t.setData a v) := h.cleParts

theorem loadData (h : Kept s t) (d a : Nat) : Kept s (t.loadData d a) := (h.cleEcc _ _ _).setW _ _

theorem doCleLd (h : Kept s t) (d : Nat) (m : MemOperand) : Kept s (doCleLd d m t) :=
  h.clePlain _ _ _ (fun _ hu => (hu.loadData _ _).memInc _ _)

theorem doCleSt (h : Kept s t) (d : Nat) (m : MemOperand) : Kept s (doCleSt d m t) :=
  h.clePlain _ _ _ (fun _ hu => (hu.setData _ _).memInc _ _)

theorem doCleLd2 (h : Kept s t) (d : Nat) (m : MemOperand) : Kept s (doCleLd2 d m t) :=
  h.clePlain _ _ _ (fun _ hu => ((hu.loadData _ _).loadData _ _).memInc _ _)

theorem doCleSt2 (h : Kept s t) (d : Nat) (m : MemOperand) : Kept s (doCleSt2 d m t) :=
  h.clePlain _ _ _ (fun _ hu => ((hu.setData _ _).setData _ _).memInc _ _)

theorem doCleLdx (h : Kept s t) (d : Nat) (m : MemOperand) : Kept s (doCleLdx d m t) :=
  h.clePlain _ _ _ (fun _ hu => (hu.setW _ _).memInc _ _)

theorem doCleStx (h : Kept s t) (d : Nat) (m : MemOperand) : Kept s (doCleStx d m t) := by
  unfold Machine.doCleStx
  refine .clePlain h _ _ _ (fun u hu => ?_)
  extract_lets a src s1
  have h1 : Kept s s1 := .ite (hu.runOut _ _) hu
  exact h1.memInc _ _

theorem doCleLds (h : Kept s t) (d : Nat) (m : MemOperand) (fresh unsettled : Bool) : Kept s (doCleLds d m fresh unsettled t) :=
  h.clePlain _ _ _ (fun _ hu => ((hu.setWInt _ _).setFlags _).memInc _ _)

theorem putSum (h : Kept s t) (d : Nat) (x : Int) (wrap : Bool) : Kept s (t.putSum d x wrap) := .ite (h.putWv _ _ _) (h.putW _ _)

theorem doCleAdd (h : Kept s t) (d a b : Nat) (wrap : Bool) : Kept s (doCleAdd d a b wrap t) :=
  h.clePlain _ _ _ (fun _ hu => hu.putSum _ _ _)

theorem doCleSub (h : Kept s t) (d a b : Nat) (wrap : Bool) : Kept s (doCleSub d a b wrap t) :=
  h.clePlain _ _ _ (fun _ hu => hu.putSum _ _ _)

theorem doCleNeg (h : Kept s t) (d a : Nat) : Kept s (doCleNeg d a t) := h.clePlain _ _ _ (fun _ hu => hu.putW _ _)

theorem doCleAbs (h : Kept s t) (d a : Nat) : Kept s (doCleAbs d a t) := h.clePlain _ _ _ (fun _ hu => hu.putW _ _)

theorem doCleMul (h : Kept s t) (d a b : Nat) : Kept s (doCleMul d a b t) := h.clePlain _ _ _ (fun _ hu => hu.putW _ _)

theorem doCleDiv (h : Kept s t) (d a b : Nat) : Kept s (doCleDiv d a b t) :=
  h.clePlain _ _ _ (fun _ hu => .ite ((hu.putWv _ _ _).count _ _) (hu.putW _ _))

theorem doCleMinmax (h : Kept s t) (d a b : Nat) (mx : Bool) : Kept s (doCleMinmax d a b mx t) :=
  h.clePlain _ _ _ (fun _ hu => hu.putW _ _)

theorem doCleClamp (h : Kept s t) (d a b : Nat) : Kept s (doCleClamp d a b t) := h.clePlain _ _ _ (fun _ hu => hu.putW _ _)

theorem doCleMovi (h : Kept s t) (d : Nat) (imm : BitVec 18) : Kept s (doCleMovi d imm t) :=
  h.clePlain _ _ _ (fun _ hu => hu.setW _ _)

theorem doCleMovl (h : Kept s t) (d : Nat) (imm : BitVec 14) : Kept s (doCleMovl d imm t) :=
  h.clePlain _ _ _ (fun _ hu => hu.setW _ _)

theorem doCleMov (h : Kept s t) (d a : Nat) : Kept s (doCleMov d a t) := h.clePlain _ _ _ (fun _ hu => hu.setW _ _)

theorem doCleSh (h : Kept s t) (d a b amt : Nat) (reg : Bool) (kind : Nat) : Kept s (doCleSh d a b amt reg kind t) :=
  h.clePlain _ _ _ (fun _ hu => hu.putWv _ _ _)

theorem doCleLogic (h : Kept s t) (d a b op : Nat) : Kept s (doCleLogic d a b op t) := h.clePlain _ _ _ (fun _ hu => hu.putWv _ _ _)

theorem doCleCmp (h : Kept s t) (a b : Nat) : Kept s (doCleCmp a b t) := h.clePlain _ _ _ (fun _ hu => hu.flagZnv _ _)

theorem doCleSel (h : Kept s t) (d a b cond : Nat) : Kept s (doCleSel d a b cond t) := h.clePlain _ _ _ (fun _ hu => hu.setW _ _)

theorem doCleSetx (h : Kept s t) (index a : Nat) (src : Bool) (imm : BitVec 12) : Kept s (doCleSetx index a src imm t) :=
  h.clePlain _ _ _ (fun _ hu => hu.setIdx _ _)

theorem doCleMac (h : Kept s t) (d a b : Nat) : Kept s (doCleMac d a b t) := h.clePlain _ _ _ (fun _ hu => hu.putAcc _ _)

theorem doCleMsu (h : Kept s t) (d a b : Nat) : Kept s (doCleMsu d a b t) := h.clePlain _ _ _ (fun _ hu => hu.putAcc _ _)

theorem doCleDmac (h : Kept s t) (d a b : Nat) (zero : Bool) : Kept s (doCleDmac d a b zero t) :=
  h.clePlain _ _ _ (fun _ hu => hu.putAcc _ _)

theorem doCleMpy (h : Kept s t) (d a b : Nat) : Kept s (doCleMpy d a b t) := h.clePlain _ _ _ (fun _ hu => hu.putAcc _ _)

theorem doCleAld (h : Kept s t) (d a : Nat) (clear : Bool) : Kept s (doCleAld d a clear t) :=
  h.clePlain _ _ _ (fun _ hu => hu.putAcc _ _)

theorem doCleExt (h : Kept s t) (d a k : Nat) : Kept s (doCleExt d a k t) := h.clePlain _ _ _ (fun _ hu => hu.putW _ _)

theorem doCleAadd (h : Kept s t) (d a b : Nat) (minus : Bool) : Kept s (doCleAadd d a b minus t) :=
  h.clePlain _ _ _ (fun _ hu => hu.putAcc _ _)

theorem doCleSincos (h : Kept s t) (d a : Nat) : Kept s (doCleSincos d a t) :=
  h.clePlain _ _ _ (fun _ hu => (hu.setWInt _ _).setWInt _ _)

theorem doCleSqrt (h : Kept s t) (d a : Nat) : Kept s (doCleSqrt d a t) :=
  h.clePlain _ _ _ (fun _ hu => .ite (hu.putWv _ _ _) (hu.putWv _ _ _))

theorem doUndefinedInstruction (h : Kept s t) (word : Word) : Kept s (doUndefinedInstruction word t) :=
  h.cleIssue _ _ _ (fun _ hu => hu)

theorem setObj (h : Kept s t) (n w : Nat) (v : Int) : Kept s (t.setObj n w v) := h.runObj _ _

theorem setHdr (h : Kept s t) (n bit : Nat) (b : Bool) : Kept s (t.setHdr n bit b) := h.setObj _ _ _

theorem implausible (h : Kept s t) (n : Nat) : Kept s (t.implausible n) := ((((h.putBit _ _ _).set _ _).count _ _).irq _).fault _ _

theorem supervise (h : Kept s t) (n u' yp : Nat) (fb : Int) : Kept s (t.supervise n u' yp fb) := by
  unfold State.supervise
  refine .ite h ?_
  extract_lets pred r w15 cnt lim c s2 s1
  have h2 : Kept s s2 := h.setObj _ _ _
  have h1 : Kept s s1 := .ite h (.ite (.ite (h2.implausible _) h2) (h.setObj _ _ _))
  exact (h1.setObj _ _ _).setHdr _ _ _

theorem objDone (h : Kept s t) (n out : Nat) (y : Int) (lim : Bool) : Kept s (t.objDone n out y lim) :=
  ((h.setHdr _ _ _).setWInt _ _).setFlags _

theorem setIntegrator (h : Kept s t) (n : Nat) (x : Int) : Kept s (t.setIntegrator n x) := (h.setObj _ _ _).setObj _ _ _

theorem runPi (h : Kept s t) (n : Nat) (h' : Word) (ref fb : Int) : Kept s (t.runPi n h' ref fb) := by
  unfold State.runPi
  extract_lets e g p umax umin u0 s1 u0' i v u0'' i'
  have h1 : Kept s s1 := h.supervise _ _ _ _
  exact .ite (((h1.setHdr _ _ _).setObj _ _ _).objDone _ _ _ _)
    ((((h1.setHdr _ _ _).setIntegrator _ _).setObj _ _ _).objDone _ _ _ _)

theorem runPr (h : Kept s t) (n : Nat) (h' : Word) (ref fb : Int) : Kept s (t.runPr n h' ref fb) := by
  unfold State.runPr
  extract_lets e g umax umin u0 s1 u0' r u0'' r' v u0'''
  have h1 : Kept s s1 := h.supervise _ _ _ _
  exact .ite (((h1.setHdr _ _ _).setObj _ _ _).objDone _ _ _ _) (.ite
    (((((h1.setHdr _ _ _).setObj _ _ _).setObj _ _ _).setObj _ _ _).objDone _ _ _ _)
      ((((h1.setObj _ _ _).setObj _ _ _).setObj _ _ _).objDone _ _ _ _))

theorem runLeadlag (h : Kept s t) (n : Nat) (h' : Word) (x : Int) : Kept s (t.runLeadlag n h' x) :=
  ((h.setObj _ _ _).setObj _ _ _).objDone _ _ _ _

theorem runLimit (h : Kept s t) (n : Nat) (h' : Word) (x : Int) : Kept s (t.runLimit n h' x) := h.objDone _ _ _ _

theorem runRate (h : Kept s t) (n : Nat) (h' : Word) (x : Int) : Kept s (t.runRate n h' x) := (h.setObj _ _ _).objDone _ _ _ _

theorem runObs (h : Kept s t) (n : Nat) (h' : Word) (x meas : Int) : Kept s (t.runObs n h' x meas) :=
  (((h.setObj _ _ _).setObj _ _ _).objDone _ _ _ _).setWInt _ _

theorem objEcc (h : Kept s t) (n : Nat) : Kept s (t.objEcc n) := .foldl (fun _ _ hu => hu.cleEcc _ _ _) h

theorem runObject (h : Kept s t) (n : Nat) : Kept s (t.runObject n) := by
  unfold State.runObject
  extract_lets h0 x y s0
  have h0 : Kept s s0 := h.objEcc _
  split
  · exact h0.runPi _ _ _ _
  · exact h0.runPr _ _ _ _
  · exact h0.runLeadlag _ _ _
  · exact h0.runLimit _ _ _
  · exact h0.runRate _ _ _
  · exact h0.runObs _ _ _ _

theorem doCleRuno (h : Kept s t) (obj : Nat) : Kept s (doCleRuno obj t) := h.clePlain _ _ _ (fun _ hu => hu.runObject _)

theorem cleStart (h : Kept s t) : Kept s t.cleStart := .ite (h.emptyRun.set _ _) h.cleParts

theorem cleSolve (h : Kept s t) : Kept s t.cleSolve := by
  unfold State.cleSolve
  extract_lets s1
  have h1 : Kept s s1 := .ite (((h.cleDiscard _).count _ _).noteOverrun) h
  exact .ite (h1.setBool _ _) h1

theorem wqLevel (h : Kept s t) : Kept s t.wqLevel := h.set _ _

theorem doCleMemoryBusWrite (h : Kept s t) (word : CleMemWord) (v : Word) : Kept s (doCleMemoryBusWrite word v t) :=
  .ite (h.set _ _) h.cleParts.wqLevel

theorem doWriteQueueDrain (h : Kept s t) : Kept s (doWriteQueueDrain t) := by
  unfold Machine.doWriteQueueDrain
  split
  · exact h
  · refine .ite h ?_
    extract_lets s1 src s2 src' s3
    have h1 : Kept s s1 := h.reach _
    have h2 : Kept s s2 := h1.cleParts
    have h3 : Kept s s3 := by
      unfold s3
      split
      · exact h2.setData _ _
      · exact h2.cleParts
    exact h3.wqLevel

theorem doHoldwClear (h : Kept s t) : Kept s (doHoldwClear t) := .ite h (.cleParts (h.set _ _))

theorem paddrOn (h : Kept s t) : Kept s t.paddrOn := h.set _ _

theorem doClePdataWrite (h : Kept s t) (v : Word) : Kept s (doClePdataWrite v t) := .ite ((h.set _ _).paddrOn) h.cleParts.paddrOn

theorem doClePdataRead (h : Kept s t) : Kept s (doClePdataRead t) := (h.answer _).paddrOn

theorem doMailboxCopy (h : Kept s t) : Kept s (doMailboxCopy t) := by
  unfold Machine.doMailboxCopy
  split
  · exact h
  · refine .ite h ?_
    extract_lets at_ src s1 src'
    have h1 : Kept s s1 := h.cleParts
    split
    · exact h1.cleParts.set _ _
    · exact .ite h1.cleParts (h1.cleParts.set _ _)

theorem doMailboxCommit (h : Kept s t) : Kept s (doMailboxCommit t) :=
  .ite (.ite (h.cleParts.set _ _) h) (.doMailboxCopy (.ite (h.cleParts.set _ _) h))

theorem stageMailbox (h : Kept s t) (a : Nat) (v : Word) : Kept s (t.stageMailbox a v) := .ite h.cleParts.doMailboxCommit h.cleParts

theorem doCleEnClear (h : Kept s t) : Kept s (doCleEnClear t) := by
  unfold Machine.doCleEnClear
  refine .ite h ?_
  extract_lets s0 s1 src s2 src' s3
  have h0 : Kept s s0 := h.set _ _
  have h1 : Kept s s1 := .ite (h0.cleDiscard _) (h0.set _ _)
  have h2 : Kept s s2 := h1.cleParts
  have h3 : Kept s s3 := h2.parts
  exact .ite (h3.tripLatch _ _) h2

theorem doCycclr (h : Kept s t) : Kept s (doCycclr t) := h.set _ _

theorem doCleImplStatRead (h : Kept s t) : Kept s (doCleImplStatRead t) := (h.answer _).set _ _

theorem cleCtrlWrite (h : Kept s t) (v : Nat) : Kept s (t.cleCtrlWrite v) := by
  unfold State.cleCtrlWrite
  extract_lets s1 s2 s3
  have h1 : Kept s s1 := h.setBool _ _
  have h2 : Kept s s2 := .ite h1.doCycclr h1
  have h3 : Kept s s3 := .ite h2.doCleEnClear (.ite h2 ((h2.set _ _).set _ _))
  exact .ite (h3.set _ _) h3.doHoldwClear

theorem cleRegisterWrite (h : Kept s t) (offset v : Nat) : Kept s (t.cleRegisterWrite offset v) :=
  .ite (h.cleCtrlWrite _) (.ite (h.doClePdataWrite _) (.ite (.ite h.doMailboxCommit h) ((h.storeAllowed _ _).clearOnes _ _)))

theorem cleInstr (h : Kept s t) (i : Instr) : Kept s (cleInstr i t) := by
  unfold Machine.cleInstr
  split
  · exact h.doCleNop
  · exact h.doCleEnd
  · exact h.doCleBr _ _
  · exact h.doCleLoop _ _
  · exact h.doCleRuno _
  · exact h.doCleWaitt _
  · exact h.doCleLd _ _
  · exact h.doCleSt _ _
  · exact h.doCleLd2 _ _
  · exact h.doCleSt2 _ _
  · exact h.doCleLdx _ _
  · exact h.doCleStx _ _
  · exact h.doCleLds _ _ _ _
  · exact h.doCleAdd _ _ _ _
  · exact h.doCleSub _ _ _ _
  · exact h.doCleNeg _ _
  · exact h.doCleAbs _ _
  · exact h.doCleMul _ _ _
  · exact h.doCleDiv _ _ _
  · exact h.doCleMinmax _ _ _ _
  · exact h.doCleClamp _ _ _
  · exact h.doCleMovi _ _
  · exact h.doCleMovl _ _
  · exact h.doCleMov _ _
  · exact h.doCleSh _ _ _ _ _ _
  · exact h.doCleLogic _ _ _ _
  · exact h.doCleCmp _ _
  · exact h.doCleSel _ _ _ _
  · exact h.doCleSetx _ _ _ _
  · exact h.doCleMac _ _ _
  · exact h.doCleMsu _ _ _
  · exact h.doCleDmac _ _ _ _
  · exact h.doCleMpy _ _ _
  · exact h.doCleAld _ _ _
  · exact h.doCleExt _ _ _
  · exact h.doCleAadd _ _ _ _
  · exact h.doCleSincos _ _
  · exact h.doCleSqrt _ _
  · exact h

theorem cleClock (h : Kept s t) : Kept s t.cleClock := by
  unfold State.cleClock
  extract_lets s1 word
  have h1 : Kept s s1 := by
    unfold s1
    split
    · exact .ite h.doWaittRelease h
    · exact h
  refine .ite h1 ?_
  split
  · exact h1.cleInstr _
  · exact h1.doUndefinedInstruction _

theorem converterPend (h : Kept s t) : Kept s t.converterPend := h.setBool _ _

theorem doConverterSetWrite (h : Kept s t) (r : ConvReg) (v : Nat) : Kept s (doConverterSetWrite r v t) :=
  .converterPend (.foldl (fun _ _ hu => .ite (hu.set _ _) hu) h)

theorem armSummariesAtCommit (h : Kept s t) : Kept s t.armSummariesAtCommit := .foldl (fun _ _ hu => (hu.set _ _).setBool _ _) h

theorem leaderCapability (h : Kept s t) : Kept s t.leaderCapability := .ite h.armSummariesAtCommit h

theorem sendConfig (h : Kept s t) : Kept s t.sendConfig := .ite (h.laneTell _ _) h

theorem dcLinkCommitted (h : Kept s t) (was : Nat) : Kept s (t.dcLinkCommitted was) := .ite h h.dcLinkAnew

theorem armsAnew (h : Kept s t) : Kept s t.armsAnew := .foldl (fun _ _ hu => hu.modArm _ _) h

theorem doConverterSetCheck (h : Kept s t) : Kept s (doConverterSetCheck t) := by
  unfold Machine.doConverterSetCheck
  split
  · exact h
  · refine .ite h ?_
    extract_lets src s0 e
    have h0 : Kept s s0 := h.parts
    exact .ite ((((h0.activate _).set _ _).converterPend.armSummariesAtCommit.armsAnew.admitCommitted.dcLinkCommitted _).sendConfig)
      (((h0.set _ _).set _ _).set _ _)

theorem doCommit (h : Kept s t) : Kept s (doCommit t) := .ite h.parts h.parts.doConverterSetCheck

theorem sysRegisterWrite (h : Kept s t) (addr v : Nat) : Kept s (t.sysRegisterWrite addr v) :=
  .ite (.ite h.doCommit h) (.ite (h.clearOnes _ _) (.converterPend (.foldl (fun _ _ hu => .ite (hu.set _ _) hu) h)))

end Kept

end Sys2Proof.Machine
end

section
/-!
The queues of the pool.
-/

namespace Sys2Proof.Machine

namespace Kept

variable {s t u : State}

theorem startRebuild (h : Kept s t) : Kept s t.startRebuild := (h.set _ _).fault _ _

theorem freeBlocks (h : Kept s t) (bs : List Nat) : Kept s (t.freeBlocks bs) := by
  unfold State.freeBlocks
  extract_lets s1
  have h1 : Kept s s1 := .foldl (fun _ _ hu => hu.setTag _ _) h
  exact .ite h1.injectionDone.startRebuild h1

theorem takeBlock (h : Kept s t) (owner : Nat) : Kept s (t.takeBlock owner).1 := by
  unfold State.takeBlock
  split
  · exact h.injectionDone.startRebuild
  · split
    · exact h
    · split
      · exact h
      · exact (h.setTag _ _).nextFree

theorem modQueue (h : Kept s t) (q : Nat) (f : QueueState → QueueState) : Kept s (t.modQueue q f) := h.poolParts

theorem queueEvent (h : Kept s t) (q : Nat) : Kept s (t.queueEvent q) := by
  unfold State.queueEvent
  extract_lets s1 e s2
  have h1 : Kept s s1 := .ite (h.putBit _ _ _) (h.putBit _ _ _)
  have h2 : Kept s s2 := .ite (h1.irq _) h1
  exact .ite (h2.notice _ _) h2

theorem setOvr (h : Kept s t) (q : Nat) : Kept s (t.setOvr q) := .ite h ((h.set _ _).queueEvent _)

theorem makeVisible (h : Kept s t) (q : Nat) (p : Packet) : Kept s (t.makeVisible q p) :=
  .ite ((h.modQueue _ _).queueEvent _) (h.modQueue _ _)

theorem resetQueue (h : Kept s t) (q : Nat) : Kept s (t.resetQueue q) := ((((h.freeBlocks _).modQueue _ _).set _ _).set _ _).set _ _

theorem pointerMismatch (h : Kept s t) (q : Nat) : Kept s (t.pointerMismatch q) := by
  unfold State.pointerMismatch
  extract_lets s1 s2
  have h1 : Kept s s1 := h.injectionDone.resetQueue _
  have h2 : Kept s s2 := .ite (h1.putBit _ _ _) (h1.putBit _ _ _)
  exact (h2.queueEvent _).fault _ _

theorem flushNow (h : Kept s t) (q : Nat) : Kept s (t.flushNow q) := .ite (((h.freeBlocks _).modQueue _ _).set _ _) h

theorem doFlush (h : Kept s t) (q : Nat) : Kept s (doFlush q t) := h.set _ _

theorem doFlushEffect (h : Kept s t) (q : Nat) : Kept s (doFlushEffect q t) := .ite (h.pointerMismatch _) (h.flushNow _)

theorem dropHead (h : Kept s t) (q : Nat) : Kept s (t.dropHead q) := by
  unfold State.dropHead
  split
  · exact h
  · exact (h.freeBlocks _).modQueue _ _

theorem doSkip (h : Kept s t) (q : Nat) : Kept s (doSkip q t) := .ite (h.pointerMismatch _) (.ite h (h.dropHead _))

theorem doQueueReset (h : Kept s t) (q : Nat) : Kept s (doQueueReset q t) := h.resetQueue _

theorem doQueueResetComplete (h : Kept s t) (q : Nat) : Kept s (doQueueResetComplete q t) := h.set _ _

theorem truncate (h : Kept s t) (q m : Nat) : Kept s (t.truncate q m) := (h.modQueue _ _).setOvr _

theorem storeContent (h : Kept s t) (q v : Nat) (p : OpenPacket) : Kept s (t.storeContent q v p) :=
  ((h.setWord _ _).touch _).modQueue _ _

theorem append (h : Kept s t) (q m v : Nat) : Kept s (t.append q m v) := by
  unfold State.append
  extract_lets p
  refine .ite h (.ite (h.storeContent _ _ _) (.ite (h.truncate _ _) ?_))
  have hd : Kept s (t.takeBlock q).1 := h.takeBlock _
  split
  · next s1 heq =>
    have h1 : Kept s s1 := by simpa only [heq] using hd
    exact h1.truncate _ _
  · next s1 _ heq =>
    have h1 : Kept s s1 := by simpa only [heq] using hd
    exact h1.storeContent _ _ _

theorem doPush (h : Kept s t) (m q v : Nat) : Kept s (doPush m q v t) :=
  .ite (h.violate _ _ _) (.ite h (.ite (h.pointerMismatch _) ((h.flushNow _).append _ _ _)))

theorem finish (h : Kept s t) (q prod len : Nat) (blocks : List Nat) : Kept s (t.finish q prod len blocks) :=
  ((h.setWord _ _).touch _).makeVisible _ _

theorem discardOpen (h : Kept s t) (q : Nat) (p : OpenPacket) : Kept s (t.discardOpen q p) := (h.freeBlocks _).modQueue _ _

theorem closePacket (h : Kept s t) (q m lastb : Nat) : Kept s (t.closePacket q m lastb) := by
  unfold State.closePacket
  split
  · exact .ite ((h.discardOpen _ _).count _ _) ((h.modQueue _ _).finish _ _ _ _)
  · refine .ite ((h.setOvr _).count _ _) ?_
    have hd : Kept s (t.takeBlock q).1 := h.takeBlock _
    split
    · next s1 heq =>
      have h1 : Kept s s1 := by simpa only [heq] using hd
      exact (h1.setOvr _).count _ _
    · next s1 _ heq =>
      have h1 : Kept s s1 := by simpa only [heq] using hd
      exact h1.finish _ _ _ _

theorem doClose (h : Kept s t) (m q v : Nat) : Kept s (doClose m q v t) := by
  unfold Machine.doClose
  extract_lets lastb s0
  have h0 : Kept s s0 := h.flushNow _
  refine .ite (h.violate _ _ _) (.ite h (.ite (h.pointerMismatch _) (.ite ?_ ?_)))
  · split
    · exact h0
    · exact h0.discardOpen _ _
  · exact h0.closePacket _ _ _

theorem popWord (h : Kept s t) (m : Nat) (p : Packet) (pos : Nat) : Kept s (t.popWord m p pos).1 := (h.eccCheck _ _ _).touch _

theorem popHead (h : Kept s t) (m q : Nat) (p : Packet) : Kept s (t.popHead m q p) := by
  unfold State.popHead
  extract_lets pos w s1
  have hW : Kept s w.1 := h.popWord _ _ _
  have h1 : Kept s s1 := .ite (hW.dropHead _) (.ite ((hW.freeBlocks _).modQueue _ _) (hW.modQueue _ _))
  exact h1.answer _

theorem doPop (h : Kept s t) (m q : Nat) : Kept s (doPop m q t) := by
  unfold Machine.doPop
  refine .ite ((h.violate _ _ _).answer _) (.ite (h.answer _) (.ite ((h.pointerMismatch _).answer _) ?_))
  extract_lets s0
  have h0 : Kept s s0 := h.flushNow _
  split
  · exact h0.answer _
  · exact h0.popHead _ _ _

theorem peek (h : Kept s t) (m q : Nat) : Kept s (t.peek m q) :=
  .ite ((h.violate _ _ _).answer _) (.ite ((h.pointerMismatch _).answer _) (h.answer _))

theorem badBlock (h : Kept s t) (m kind b addr : Nat) : Kept s (t.badBlock m kind b addr) := by
  unfold State.badBlock
  extract_lets s1 s2
  have h1 : Kept s s1 := h.count _ _
  have h2 : Kept s s2 := .ite h1 ((((h1.set _ _).set _ _).set _ _).set _ _)
  exact h2.faultFrom _ _ _

theorem doQueAlloc (h : Kept s t) (m : Nat) : Kept s (doQueAlloc m t) := by
  unfold Machine.doQueAlloc
  refine .ite ((h.violate _ _ _).answer _) ?_
  have hd : Kept s (t.takeBlock (64 + m)).1 := h.takeBlock _
  split
  · next s1 heq =>
    have h1 : Kept s s1 := by simpa only [heq] using hd
    exact h1.answer _
  · next s1 _ heq =>
    have h1 : Kept s s1 := by simpa only [heq] using hd
    exact h1.answer _

theorem doQueFree (h : Kept s t) (m b : Nat) : Kept s (doQueFree m b t) :=
  .ite (h.violate _ _ _) (.ite (h.badBlock _ _ _ _) (.ite (h.badBlock _ _ _ _) (h.freeBlocks _)))

theorem doXferWrite (h : Kept s t) (m q v : Nat) : Kept s (doXferWrite m q v t) :=
  .ite (h.violate _ _ _) (.ite h (.ite (h.pointerMismatch _) (.ite (h.badBlock _ _ _ _)
    (((h.flushNow _).setTag _ _).finish _ _ _ _))))

theorem doXferRead (h : Kept s t) (m q : Nat) : Kept s (doXferRead m q t) := by
  unfold Machine.doXferRead
  refine .ite ((h.violate _ _ _).answer _) (.ite (h.answer _) (.ite ((h.pointerMismatch _).answer _) ?_))
  extract_lets s0
  have h0 : Kept s s0 := h.flushNow _
  split
  · exact h0.answer _
  · split
    · exact .ite (((h0.setTag _ _).modQueue _ _).answer _) (h0.answer _)
    · exact h0.answer _

theorem doFreeListRebuild (h : Kept s t) : Kept s (doFreeListRebuild t) := h.startRebuild

theorem doFreeListRebuildComplete (h : Kept s t) : Kept s (doFreeListRebuildComplete t) := h.set _ _

theorem takeBlocks (h : Kept s t) (q n : Nat) : Kept s (t.takeBlocks q n).1 := by
  induction n generalizing t with
  | zero => exact h
  | succ n ih =>
    have hd : Kept s (t.takeBlock q).1 := h.takeBlock _
    unfold State.takeBlocks
    split
    · next s1 heq => simpa only [heq] using hd
    · next s1 b heq =>
      have h1 : Kept s s1 := by simpa only [heq] using hd
      exact ih h1

theorem storeWords (h : Kept s t) (blocks : List Nat) (i : Nat) (ws : List Nat) : Kept s (t.storeWords blocks i ws) := by
  induction ws generalizing t i with
  | nil => exact h
  | cons w ws ih => exact ih ((h.setWord _ _).touch _) _

theorem deliver (h : Kept s t) (q m len : Nat) (words : List Nat) : Kept s (t.deliver q m len words).1 := by
  unfold State.deliver
  split
  · exact h
  · split
    · exact h.pointerMismatch _
    · extract_lets s0 need quota t0
      have h0 : Kept s s0 := h.flushNow _
      have hT0 : Kept s t0.1 := h0.takeBlocks _ _
      split
      · exact h0
      · split
        · exact hT0
        · exact (hT0.storeWords _ _ _).finish _ _ _ _

theorem readPacket (h : Kept s t) (m : Nat) (p : Packet) : Kept s (t.readPacket m p) :=
  .foldl (fun _ _ hu => (hu.eccCheck _ _ _).touch _) h

theorem consume (h : Kept s t) (q m : Nat) : Kept s (t.consume q m) := .ite h (.ite (h.pointerMismatch _) (h.flushNow _))

theorem takePacket (h : Kept s t) (q m : Nat) : Kept s (t.takePacket q m).1 := by
  unfold State.takePacket
  extract_lets s0
  have h0 : Kept s s0 := h.consume _ _
  split
  · exact h0
  · exact (h0.readPacket _ _).dropHead _

theorem queueCommand (h : Kept s t) (q v : Nat) : Kept s (t.queueCommand q v) := by
  unfold State.queueCommand
  refine .ite (h.doQueueReset _) ?_
  extract_lets s1
  have h1 : Kept s s1 := .ite (h.doSkip _) h
  exact .ite (.ite ((h1.doFlush _).flushNow _) (h1.doFlush _)) h1

end Kept

end Sys2Proof.Machine
end

section
/-!
The Spoke lines.
-/

namespace Sys2Proof.Machine

namespace Kept

variable {s t u : State}

theorem setLink (h : Kept s t) (p st : Nat) : Kept s (t.setLink p st) := (h.set _ _).set _ _

theorem judgeDlyLong (h : Kept s t) (p : Nat) : Kept s (t.judgeDlyLong p) := h.setBool _ _

theorem dropTraining (h : Kept s t) (p : Nat) : Kept s (t.dropTraining p) := (h.modPort _ _).set _ _

theorem linkDown (h : Kept s t) (p st : Nat) : Kept s (t.linkDown p st) :=
  ((((h.dropTraining _).set _ _).set _ _).set _ _).setLink _ _

theorem linkNegotiate (h : Kept s t) (p : Nat) : Kept s (t.linkNegotiate p) := ((h.dropTraining _).modPort _ _).setLink _ _

theorem linkReady (h : Kept s t) (p : Nat) : Kept s (t.linkReady p) := .ite (h.setLink _ _) h

theorem declareLost (h : Kept s t) (p : Nat) : Kept s (t.declareLost p) := by
  unfold State.declareLost
  refine .ite h ?_
  extract_lets s1 s2 src s3
  have h1 : Kept s s1 := (h.putBit _ _ _).modPort _ _
  have h2 : Kept s s2 := h1.fault _ _
  have h3 : Kept s s3 := h2.parts
  exact .ite (h3.setLink _ _) h3

theorem doCellDeclaredLost (h : Kept s t) (p : Nat) : Kept s (doCellDeclaredLost p t) := .ite (h.declareLost _) h

theorem doAlignmentFound (h : Kept s t) (p : Nat) : Kept s (doAlignmentFound p t) := by
  unfold Machine.doAlignmentFound
  extract_lets src s0 st
  have h0 : Kept s s0 := h.parts
  refine .ite h0 (.ite (.ite (h0.linkDown _ _) h0) (.ite (h0.linkNegotiate _) (.ite ?_ ?_)))
  · split
    · exact h0
    · exact .ite ((h0.modPort _ _).setLink _ _) h0
  · exact h0

theorem doAlignmentLoss (h : Kept s t) (p : Nat) : Kept s (doAlignmentLoss p t) :=
  .ite ((h.modPort _ _).setLink _ _) (.ite (h.linkDown _ _) h)

theorem doResyncTimeout (h : Kept s t) (p : Nat) : Kept s (doResyncTimeout p t) := by
  unfold Machine.doResyncTimeout
  split
  · exact h
  · exact .ite (((h.reach _).declareLost _).linkDown _ _) h

theorem doRetrain (h : Kept s t) (j v : Nat) : Kept s (doRetrain j v t) := .foldl (fun _ _ hu => .ite (hu.linkDown _ _) hu) h

theorem doSpkPortEnWrite (h : Kept s t) (j v : Nat) : Kept s (doSpkPortEnWrite j v t) :=
  .foldl (fun _ _ hu => .ite hu (hu.linkDown _ _)) (h.set _ _)

theorem echoMissed (h : Kept s t) (p : Nat) : Kept s (t.echoMissed p) := h.count _ _

theorem echoPort (h : Kept s t) (t0 p : Nat) : Kept s (t.echoPort t0 p) := by
  unfold State.echoPort
  extract_lets t0' s1
  have h1 : Kept s s1 := .ite (h.echoMissed _) h
  exact .ite ((h1.modPort _ _).echoMissed _) ((h1.modPort _ _).emit _)

theorem doEcho (h : Kept s t) : Kept s (doEcho t) := by
  unfold Machine.doEcho
  split
  · exact h
  · exact .ite h (.foldl (fun _ _ hu => hu.echoPort _ _) (.parts (h.reach _)))

theorem setDelay (h : Kept s t) (p : Nat) (d : Int) : Kept s (t.setDelay p d) := (h.set _ _).judgeDlyLong _

theorem delaySample (h : Kept s t) (p : Nat) (twice : Int) : Kept s (t.delaySample p twice) := by
  unfold State.delaySample
  extract_lets x d accept s1 diff
  have h1 : Kept s s1 := (h.modPort _ _).set _ _
  split
  · exact .ite (h1.modPort _ _) (((h1.modPort _ _).setDelay _ _).linkReady _)
  · exact .ite ((h.echoMissed _).modPort _ _) (((h.modPort _ _).set _ _).setDelay _ _)

theorem doEchoReplyReceived (h : Kept s t) (p t2 : Nat) : Kept s (doEchoReplyReceived p t2 t) := by
  unfold Machine.doEchoReplyReceived
  split
  · exact h
  · exact .modPort (.ite ((h.reach _).echoMissed _) (h.reach _)) _ _

theorem takeTurn (h : Kept s t) (p turn : Nat) : Kept s (t.takeTurn p turn) := by
  unfold State.takeTurn
  refine .ite h ?_
  split
  · exact h
  · exact (h.modPort _ _).delaySample _ _

theorem doDlyjump (h : Kept s t) (p : Nat) : Kept s (doDlyjump p t) := .ite h (((h.modPort _ _).set _ _).fault _ _)

theorem doDlystale (h : Kept s t) (p : Nat) : Kept s (doDlystale p t) := .ite h ((h.set _ _).fault _ _)

theorem noteBypass (h : Kept s t) (p : Nat) : Kept s (t.noteBypass p) := .ite (h.modPort _ _) h

theorem sendPlans (h : Kept s t) (hold : Bool) : Kept s (t.sendPlans hold) :=
  .parts (.foldl (fun _ _ hu => ((hu.emit _).noteBypass _).modPort _ _) h)

theorem startPlans (h : Kept s t) : Kept s t.startPlans := .parts (.foldl (fun _ _ hu => (hu.modPort _ _).lineYield _ _) h)

theorem useReport (h : Kept s t) (p : Nat) (f : LineFrame) : Kept s (t.useReport p f) := by
  unfold State.useReport
  extract_lets s1 s2 d s3 s4 s5 src
  have h1 : Kept s s1 := .ite h (h.count _ _)
  have h2 : Kept s s2 := .ite (h1.count _ _) h1
  have h3 : Kept s s3 := h2.modPort _ _
  have h4 : Kept s s4 := .ite (h3.checkDvdt _ _) h3
  have h5 : Kept s s5 := h4.takeTurn _ _
  exact .ite h5.parts h5

theorem wrongVersion (h : Kept s t) (p : Nat) : Kept s (t.wrongVersion p) :=
  .ite ((h.count _ _).modPort _ _) (((h.count _ _).modPort _ _).linkNegotiate _)

theorem wrongStart (h : Kept s t) (p : Nat) (f : LineFrame) : Kept s (t.wrongStart p f) := .ite h (h.count _ _)

theorem doReportFrameReceived (h : Kept s t) (p : Nat) (f : LineFrame) : Kept s (doReportFrameReceived p f t) := by
  unfold Machine.doReportFrameReceived
  extract_lets st inj s0
  have h0 : Kept s s0 := .ite h.injectionDone h
  exact .ite h (.ite (h.count _ _) (.ite (h.wrongStart _ _) (.ite (h.count _ _)
    (.ite (h0.count _ _) (.ite (.ite (h0.takeTurn _ _) h0) (.ite (h0.count _ _)
      (.ite (h0.count _ _) (.ite (h0.wrongVersion _) (h0.useReport _ _)))))))))

theorem judgeReport (h : Kept s t) (tick p : Nat) : Kept s (t.judgeReport tick p) := by
  unfold State.judgeReport
  extract_lets x got s1 m
  cases got with
  | none => exact ((h.count _ _).count _ _).modPort _ _
  | some d => exact .ite ((h.modPort _ _).count _ _) ((h.modPort _ _).set _ _)

theorem judgeReports (h : Kept s t) (tick : Nat) : Kept s (t.judgeReports tick) := .foldl (fun _ _ hu => hu.judgeReport _ _) h

theorem sendServiceFrom (h : Kept s t) (t' p ver seq type : Nat) (payload : List Nat) :
    Kept s (t.sendServiceFrom t' p ver seq type payload) :=
  h.placeFrame _ _ _

theorem sendService (h : Kept s t) (p ver seq type : Nat) (payload : List Nat) : Kept s (t.sendService p ver seq type payload) :=
  h.sendServiceFrom _ _ _ _ _ _

theorem sendHello (h : Kept s t) (p msg map_ : Nat) : Kept s (t.sendHello p msg map_) := h.sendService _ _ _ _ _

theorem doHelloOffer (h : Kept s t) (p : Nat) : Kept s (doHelloOffer p t) := .ite h (((h.reach _).sendHello _ _ _).modPort _ _)

theorem badService (h : Kept s t) (p : Nat) : Kept s (t.badService p) := h.count _ _

theorem storeUnit (h : Kept s t) (p : Nat) (f : LineFrame) : Kept s (t.storeUnit p f) :=
  ((((h.set _ _).set _ _).set _ _).set _ _).modPort _ _

theorem checkUnit (h : Kept s t) (p : Nat) : Kept s (t.checkUnit p) := .ite (h.admitCell _) ((h.modPort _ _).fault _ _)

theorem helloReply (h : Kept s t) (p : Nat) (f : LineFrame) : Kept s (t.helloReply p f) := by
  unfold State.helloReply
  extract_lets s1 s2
  have h1 : Kept s s1 := ((h.storeUnit _ _).checkUnit _).modPort _ _
  have h2 : Kept s s2 := h1.set _ _
  split
  · exact (h2.set _ _).fault _ _
  · exact ((h2.set _ _).sendHello _ _ _).modPort _ _

theorem helloAck (h : Kept s t) (p : Nat) (f : LineFrame) : Kept s (t.helloAck p f) := by
  unfold State.helloAck
  split
  · exact h
  · exact .ite (((h.modPort _ _).set _ _).linkReady _) (h.badService _)

theorem doHello (h : Kept s t) (p : Nat) (f : LineFrame) : Kept s (doHello p f t) := by
  unfold Machine.doHello
  extract_lets st s0
  have h0 : Kept s s0 := .ite h.injectionDone h
  exact .ite h (.ite (h.wrongStart _ _) (.ite (h0.badService _) (.ite (.ite (h0.helloReply _ _) (h0.helloAck _ _))
    (.ite (((h0.count _ _).declareLost _).linkNegotiate _) h0))))

theorem sendSequencedFrom (h : Kept s t) (t' p type : Nat) (payload : List Nat) : Kept s (t.sendSequencedFrom t' p type payload) :=
  (h.sendServiceFrom _ _ _ _ _ _).modPort _ _

theorem sendSequenced (h : Kept s t) (p type : Nat) (payload : List Nat) : Kept s (t.sendSequenced p type payload) :=
  h.sendSequencedFrom _ _ _ _

theorem sendRateFrom (h : Kept s t) (t' p : Nat) (slow : Bool) : Kept s (t.sendRateFrom t' p slow) :=
  .ite ((h.sendSequencedFrom _ _ _ _).modPort _ _) (h.modPort _ _)

theorem sendRateWaiting (h : Kept s t) (p : Nat) : Kept s (t.sendRateWaiting p) := by
  unfold State.sendRateWaiting
  split
  · exact h
  · exact h.sendRateFrom _ _ _

theorem doServiceFrameSend (h : Kept s t) : Kept s (doServiceFrameSend t) := by
  unfold Machine.doServiceFrameSend
  have hd : Kept s (t.takePacket (t.get Reg.SPK_SVC_Q_OUTQ) 7).1 := h.takePacket _ _
  split
  · next s1 heq => simpa only [heq] using hd
  · next s1 _ _ heq =>
    have h1 : Kept s s1 := by simpa only [heq] using hd
    exact .ite h1 (.ite (h1.count _ _) (.ite (h.consume _ _) (h1.sendSequenced _ _ _)))

theorem sendAck (h : Kept s t) (p : Nat) : Kept s (t.sendAck p) := h.sendService _ _ _ _ _

theorem svcAccept (h : Kept s t) (p seq : Nat) : Kept s (t.svcAccept p seq) := (h.modPort _ _).sendAck _

theorem svcHandle (h : Kept s t) (p : Nat) (f : LineFrame) : Kept s (t.svcHandle p f) := by
  unfold State.svcHandle
  extract_lets t0 n r
  have hR : Kept s r.1 := h.deliver _ _ _ _
  exact .ite (.ite (hR.svcAccept _ _) hR) (.ite (h.svcAccept _ _) ((h.badService _).svcAccept _ _))

theorem doServiceFrameReceived (h : Kept s t) (p : Nat) (f : LineFrame) : Kept s (doServiceFrameReceived p f t) := by
  unfold Machine.doServiceFrameReceived
  refine .ite (h.doHello _ _) (.ite h (.ite (h.wrongStart _ _) ?_))
  extract_lets s0 s1
  have h0 : Kept s s0 := .ite h.injectionDone h
  have h1 : Kept s s1 := .ite ((h0.modPort _ _).sendRateWaiting _) h0
  exact .ite (h0.badService _) (.ite h1 (.ite (h1.svcHandle _ _) (.ite (h1.sendAck _) (h1.badService _))))

theorem doServiceRetransmit (h : Kept s t) (p seq : Nat) : Kept s (doServiceRetransmit p seq t) := by
  unfold Machine.doServiceRetransmit
  split
  · exact h
  · refine .ite h ?_
    extract_lets s1
    have h1 : Kept s s1 := h.reach _
    exact .ite ((((h1.modPort _ _).count _ _).fault _ _).sendRateWaiting _) (((h1.sendService _ _ _ _ _).count _ _).modPort _ _)

theorem sendRate (h : Kept s t) (t' : Nat) (slow : Bool) : Kept s (t.sendRate t' slow) :=
  .parts (.foldl (fun _ _ hu => hu.sendRateFrom _ _ _) h)

theorem changeRate (h : Kept s t) (p : Nat) (slow : Bool) : Kept s (t.changeRate p slow) := .parts (h.modPort _ _)

theorem doRate (h : Kept s t) : Kept s (doRate t) := by
  unfold Machine.doRate
  split
  · exact h
  · extract_lets due s1 s2 s3 src
    have h1 : Kept s s1 := by
      unfold s1
      split
      · exact h
      · exact h.reach _
    have h2 : Kept s s2 := .foldl (fun _ _ hu => .ite (hu.changeRate _ _) hu) h1
    have h3 : Kept s s3 := .foldl (fun _ _ hu => hu.modPort _ _) h2
    exact .ite h2 (h3.parts.setBool _ _)

theorem doKickstandPlan (h : Kept s t) : Kept s (doKickstandPlan t) := by
  unfold Machine.doKickstandPlan
  refine .ite h ?_
  extract_lets s1 s2 ps wake s3 src
  have h1 : Kept s s1 := h.reach _
  have h2 : Kept s s2 := h1.judgeReports _
  have h3 : Kept s s3 := .foldl (fun _ _ hu => ((hu.emit _).noteBypass _).modPort _ _) h2
  exact h3.parts

theorem doSpkRegisterWrite (h : Kept s t) (offset v : Nat) : Kept s (doSpkRegisterWrite offset v t) := by
  unfold Machine.doSpkRegisterWrite
  extract_lets addr s1
  have h1 : Kept s s1 := h.clearOnes _ _
  exact .ite (h1.doSpkPortEnWrite _ _) (.ite (h1.doRetrain _ _) (.ite (h1.set _ _)
    (.ite ((h1.awaitAll _).settle) (h1.storeRW _ _))))

theorem doSpkErrRead (h : Kept s t) (which port : Nat) : Kept s (doSpkErrRead which port t) := by
  unfold Machine.doSpkErrRead
  split
  · exact (((h.set _ _).set _ _).set _ _).answer _
  · exact ((((h.set _ _).set _ _).set _ _).set _ _).answer _
  · exact (((h.set _ _).set _ _).set _ _).answer _

theorem doSpkSvcRead (h : Kept s t) (port : Nat) : Kept s (doSpkSvcRead port t) := ((h.set _ _).set _ _).answer _

end Kept

end Sys2Proof.Machine
end

section
/-!
The safety functions, sensing, and the cadence.
-/

namespace Sys2Proof.Machine

namespace Kept

variable {s t u : State}

theorem modConn (h : Kept s t) (c : Nat) (f : SafConn → SafConn) : Kept s (t.modConn c f) := h.parts

theorem demandOnset (h : Kept s t) (fs : Nat) : Kept s (t.demandOnset fs) :=
  .ite h (.tripLatch (.foldl (fun _ _ hu => hu.fault _ _) (h.set _ _)) _ _)

theorem safUpdate (h : Kept s t) : Kept s t.safUpdate := (h.set _ _).demandOnset _

theorem doDemand (h : Kept s t) : Kept s (doDemand t) := .ite h (h.demandOnset _)

theorem safSample (h : Kept s t) (input word : Nat) : Kept s (t.safSample input word) :=
  .ite h (.safUpdate (.ite (.parts (.ite h.parts h)) (.ite h.parts h)))

theorem safAcquire (h : Kept s t) : Kept s t.safAcquire := .ite h h.parts.safUpdate

theorem doSpdTimeout (h : Kept s t) : Kept s (doSpdTimeout t) := by
  unfold Machine.doSpdTimeout
  split
  · exact h
  · exact (h.reach _).safUpdate

theorem doSafeEnChange (h : Kept s t) (closed : Bool) : Kept s (doSafeEnChange closed t) := by
  unfold Machine.doSafeEnChange
  refine .ite h ?_
  extract_lets s0 long s1 src s2 s3
  have h0 : Kept s s0 := (h.reach _).safUpdate
  have h1 : Kept s s1 := .ite (h0.set _ _) h0
  have h2 : Kept s s2 := h1.parts
  have h3 : Kept s s3 := (h2.setBool _ _).safUpdate
  exact .ite h3.endClock h3

theorem safChange (h : Kept s t) (fields : List (Fld × Nat)) : Kept s (t.safChange fields) := h.parts

theorem selectionAfter (h : Kept s t) (before : Bool) : Kept s (t.selectionAfter before) := .ite h (h.safChange _)

theorem doSafLimitChangeEffect (h : Kept s t) : Kept s (doSafLimitChangeEffect t) := by
  unfold Machine.doSafLimitChangeEffect
  extract_lets due s1 src s2
  have h1 : Kept s s1 := .foldl (fun _ _ hu => .setBool (.foldl (fun _ _ hu2 => hu2.set _ _) hu) _ _) h
  have h2 : Kept s s2 := h1.parts
  exact .ite h h2.comparatorJudgeAll

theorem pduReject (h : Kept s t) (c reason : Nat) : Kept s (t.pduReject c reason) := ((h.set _ _).count _ _).fault _ _

theorem pduAccept (h : Kept s t) (c : Nat) (b : List Nat) : Kept s (t.pduAccept c b) := by
  unfold State.pduAccept
  extract_lets before restart seq s1 s2 s3 s4
  have h1 : Kept s s1 := h.modConn _ _
  have h2 : Kept s s2 := (h1.set _ _).set _ _
  have h3 : Kept s s3 := .ite (((h2.set _ _).set _ _).set _ _) h2
  have h4 : Kept s s4 := (h3.selectionAfter _).safUpdate.irq _
  exact (h4.emit _).modConn _ _

theorem connFailsafe (h : Kept s t) (c : Nat) : Kept s (t.connFailsafe c) :=
  .ite h ((((((h.set _ _).count _ _).modConn _ _).selectionAfter _).fault _ _).safUpdate)

theorem watchdogDue (h : Kept s t) (c : Nat) : Kept s (t.watchdogDue c) := .ite (h.connFailsafe _) h

theorem doSafetyPduReceived (h : Kept s t) (c carrier tenant : Nat) (b : List Nat) (at_ : Nat) :
    Kept s (doSafetyPduReceived c carrier tenant b at_ t) :=
  .endClock (.ite ((h.watchdogDue _).pduAccept _ _) ((h.watchdogDue _).pduReject _ _))

theorem doSafetyWatchdogExpiry (h : Kept s t) (c : Nat) : Kept s (doSafetyWatchdogExpiry c t) := .ite h ((h.reach _).connFailsafe _)

theorem connsOfTenantFail (h : Kept s t) (t' : Nat) : Kept s (t.connsOfTenantFail t') :=
  .foldl (fun _ _ hu => .ite (hu.connFailsafe _) hu) h

theorem connClose (h : Kept s t) (c : Nat) : Kept s (t.connClose c) :=
  (((((h.set _ _).set _ _).set _ _).modConn _ _).selectionAfter _).safUpdate

theorem reopen (h : Kept s t) : Kept s t.reopen := .foldl (fun _ _ hu => .ite (hu.set _ _) hu) h

theorem doSafetyConnectionEnWrite (h : Kept s t) (c : Nat) (en : Bool) : Kept s (doSafetyConnectionEnWrite c en t) := by
  unfold Machine.doSafetyConnectionEnWrite
  refine .ite h (.ite (.ite h (((((h.set _ _).set _ _).set _ _).modConn _ _).safUpdate)) ?_)
  exact .ite (h.count _ _) ((h.set _ _).connClose _)

theorem safStore (h : Kept s t) (ps : List (Fld × Nat)) : Kept s (t.safStore ps) :=
  .foldl (fun _ _ hu => .ite (hu.set _ _) (hu.count _ _)) h

theorem safStoreLimits (h : Kept s t) (ps : List (Fld × Nat)) : Kept s (t.safStoreLimits ps) :=
  .ite (h.count _ _) ((h.count _ _).safChange _)

theorem doSafLock (h : Kept s t) : Kept s (doSafLock t) := .ite (h.set _ _) h

theorem safConnWrite (h : Kept s t) (c addr v : Nat) : Kept s (t.safConnWrite c addr v) :=
  .ite (.doSafetyConnectionEnWrite (.ite h (h.safStore _)) _ _) (.ite h (h.safStore _))

theorem doSafRegisterWrite (h : Kept s t) (master offset v : Nat) : Kept s (doSafRegisterWrite master offset v t) := by
  unfold Machine.doSafRegisterWrite
  extract_lets addr before s1 s2 ps crossed
  have h1 : Kept s s1 := (h.safStore _).selectionAfter _
  have h2 : Kept s s2 := .ite h1.doSafLock h1
  exact .ite (h.violate _ _ _) (.ite h (.ite (.ite h2.safUpdate.doDemand h2.safUpdate)
    (.ite (h.clearOnes _ _) (.ite (.ite h (h.safStoreLimits _)) (.ite ((h.safStore _).safUpdate)
      (.ite (h.safConnWrite _ _ _) h))))))

theorem doSafReadCounters (h : Kept s t) (r : SafCounter) : Kept s (doSafReadCounters r t) := by
  unfold Machine.doSafReadCounters
  split
  · exact (h.set _ _).answer _
  · exact ((h.set _ _).set _ _).answer _

theorem convRests (h : Kept s t) (c : Nat) : Kept s (t.convRests c) := .ite h h.parts

theorem convsRest (h : Kept s t) : Kept s t.convsRest := .foldl (fun _ _ hu => hu.convRests _) h

theorem samplingPend (h : Kept s t) : Kept s t.samplingPend := h.setBool _ _

theorem setFilter (h : Kept s t) (n : Nat) (f : FilterState) : Kept s (t.setFilter n f) := h.parts

theorem restartFilter (h : Kept s t) (n : Nat) : Kept s (t.restartFilter n) := h.setFilter _ _

theorem restartFilters (h : Kept s t) : Kept s t.restartFilters := h.parts

theorem doSamplingSetActivate (h : Kept s t) : Kept s (doSamplingSetActivate t) := by
  unfold Machine.doSamplingSetActivate
  refine .ite h ?_
  extract_lets src s0 changes s1 src' s2
  have h0 : Kept s s0 := h.parts
  have h1 : Kept s s1 := (h0.activate _).samplingPend
  have h2 : Kept s s2 := h1.parts
  exact .ite (h0.set _ _) (.convsRest (.ite h2.restartFilters h2))

theorem samplingRecheck (h : Kept s t) : Kept s t.samplingRecheck :=
  .ite h.restartFilters.convsRest ((h.parts.set _ _).restartFilters.convsRest.fault _ _)

theorem putConvEn (h : Kept s t) (v : Nat) : Kept s (t.putConvEn v) := by
  unfold State.putConvEn
  extract_lets stop
  refine .foldl (fun u a hu => ?_) (h.set _ _)
  exact .ite (.putBit (.foldl (fun _ _ hu3 => hu3.restartFilter _) hu.parts) _ _ _) hu

theorem convertersStop (h : Kept s t) : Kept s t.convertersStop := (h.parts.set _ _).restartFilters

theorem storeSampling (h : Kept s t) (r : SampReg) (v : Nat) : Kept s (t.storeSampling r v) := by
  unfold State.storeSampling
  split
  · exact .convsRest (.putConvEn (.ite ((h.set _ _).set _ _) (((h.set _ _).set _ _).set _ _)) _)
  · exact h.set _ _
  · exact (h.set _ _).set _ _

theorem doSamplingSetWrite (h : Kept s t) (r : SampReg) (v : Nat) : Kept s (doSamplingSetWrite r v t) := by
  unfold Machine.doSamplingSetWrite
  extract_lets s1 src s2
  have h1 : Kept s s1 := (h.storeSampling _ _).samplingPend
  have h2 : Kept s s2 := h1.parts
  exact .ite h2 h2.doSamplingSetActivate

theorem doConverterPrewake (h : Kept s t) (inst : Nat) : Kept s (doConverterPrewake inst t) := by
  unfold Machine.doConverterPrewake
  split
  · exact h
  · exact .ite h (.foldl (fun _ _ hu => .ite (hu.parts.putBit _ _ _) hu) (h.reach _))

theorem displace (h : Kept s t) (pair u' : Nat) : Kept s (t.displace pair u') := .ite (h.parts.count _ _) h

theorem doSamplingInstant (h : Kept s t) (inst : Nat) : Kept s (doSamplingInstant inst t) :=
  .ite h (.foldl (fun _ _ hu4 => .foldl (fun _ _ hu5 => hu5.displace _ _) hu4) (.parts (h.reach _)))

theorem doResultPost (h : Kept s t) (input : Nat) (code : BitVec 16) (level : Int) : Kept s (doResultPost input code level t) := by
  unfold Machine.doResultPost
  split
  · exact h
  · extract_lets s0 src s1 c v nv s2 src' s2' r s3
    have h0 : Kept s s0 := h.reach _
    have h1 : Kept s s1 := h0.parts.convRests _
    have h2 : Kept s s2 := h1.set _ _
    have hS2' : Kept s s2' := h2.parts
    have h3 : Kept s s3 := .ite (hS2'.restartFilter _) ((hS2'.setFilter _ _).set _ _)
    exact ((h3.gridSample _ _).checkDcLink _ _).safSample _ _

theorem doRestart (h : Kept s t) (input v : Nat) : Kept s (doRestart input v t) :=
  .ite ((h.storeAllowed _ _).restartFilter _) (h.storeAllowed _ _)

theorem doAdcUrgReq (h : Kept s t) (chan : Nat) : Kept s (doAdcUrgReq chan t) := h.urgentRequest _

theorem doUrgentSample (h : Kept s t) (c : Nat) (code : BitVec 16) (level : Int) : Kept s (doUrgentSample c code level t) := by
  unfold Machine.doUrgentSample
  split
  · exact h
  · exact .displace (.parts (h.reach _)) _ _

theorem doUrgentResultPost (h : Kept s t) (c : Nat) : Kept s (doUrgentResultPost c t) := by
  unfold Machine.doUrgentResultPost
  split
  · exact h
  · exact .ite h (.set (.set (.convRests (.parts (h.reach _)) _) _ _) _ _)

theorem doAdcUrgCntRead (h : Kept s t) : Kept s (doAdcUrgCntRead t) := ((h.set _ _).set _ _).answer _

theorem calResult (h : Kept s t) (c : Nat) (zero refPpm : Int) : Kept s (t.calResult c zero refPpm) := by
  unfold State.calResult
  extract_lets ofs step s1
  have h1 : Kept s s1 := h.setInt _ _
  exact .ite (.ite h1 ((h1.putBit _ _ _).fault _ _)) (.ite (h1.putBit _ _ _) h1)

theorem doCalibrationStep (h : Kept s t) (c : Nat) (e : CalEvent) (refPpm : Int) : Kept s (doCalibrationStep c e refPpm t) := by
  unfold Machine.doCalibrationStep
  split
  · exact .ite h (h.parts.putBit _ _ _)
  · exact .ite h (.convRests (.calResult (.parts (h.putBit _ _ _)) _ _ _) _)

theorem samplingStops (h : Kept s t) : Kept s t.samplingStops := h.parts.convsRest

theorem adcRegisterWrite (h : Kept s t) (addr v : Nat) : Kept s (t.adcRegisterWrite addr v) := by
  unfold State.adcRegisterWrite
  exact .ite (h.doSamplingSetWrite _ _) (.ite (h.doSamplingSetWrite _ _)
    (.ite (h.doSamplingSetWrite _ _) (.ite (h.doSamplingSetWrite _ _)
      (.ite (.ite (h.doAdcUrgReq _) h) (.ite (h.doRestart _ _) ((h.clearOnes _ _).storeAllowed _ _))))))

theorem shiftTime (h : Kept s t) (d : Int) : Kept s (t.shiftTime d) := h.trans ⟨rfl, id⟩

theorem timingPend (h : Kept s t) : Kept s t.timingPend := h.setBool _ _

theorem doTimingSetWrite (h : Kept s t) (r : TimingReg) (v : Nat) : Kept s (doTimingSetWrite r v t) := (h.set _ _).timingPend

theorem timingMoved (h : Kept s t) (period : Bool) : Kept s (t.timingMoved period) :=
  .foldl (fun _ _ hu => hu.judgeDlyLong _) (.ite h.samplingRecheck h)

theorem doTimingSetActivate (h : Kept s t) : Kept s (doTimingSetActivate t) := by
  unfold Machine.doTimingSetActivate
  refine .ite h ?_
  extract_lets src s0 s1 changed moved src' s2
  have h0 : Kept s s0 := h.parts
  have h1 : Kept s s1 := (h0.activate _).timingPend
  have h2 : Kept s s2 := .ite h1.parts h1
  exact .ite (h0.set _ _) (h2.timingMoved _)

theorem doApply (h : Kept s t) : Kept s (doApply t) := .ite h.parts h.parts.doTimingSetActivate

theorem alignNext (h : Kept s t) : Kept s t.alignNext := .ite h.parts h

theorem putAlign (h : Kept s t) (on : Bool) : Kept s (t.putAlign on) := .ite (h.setBool _ _) ((h.setBool _ _).alignNext)

theorem doRunSet (h : Kept s t) : Kept s (doRunSet t) := .ite h (.parts (h.set _ _))

theorem doTicksStop (h : Kept s t) : Kept s (doTicksStop t) := by
  unfold Machine.doTicksStop
  split
  · exact h
  · exact .ite h (.parts ((h.reach _).set _ _))

theorem doCadLock (h : Kept s t) : Kept s (doCadLock t) := h.set _ _

theorem doHoldlimWrite (h : Kept s t) (v : Nat) : Kept s (doHoldlimWrite v t) := .ite h (h.set _ _)

theorem doCap (h : Kept s t) : Kept s (doCap t) := ((((h.set64 _ _ _).set _ _).set _ _).set _ _).nextFree

theorem takeSnap (h : Kept s t) (lo master v : Nat) : Kept s (t.takeSnap lo master v) := h.parts

theorem doCadTimeLoRead (h : Kept s t) (master : Nat) : Kept s (doCadTimeLoRead master t) := (h.takeSnap _ _ _).answer _

theorem doCadTimeHiRead (h : Kept s t) (master : Nat) : Kept s (doCadTimeHiRead master t) := h.answer _

theorem setSync (h : Kept s t) (v : Nat) : Kept s (t.setSync v) := .parts (h.set _ _)

theorem doSyncHoldoverTimeout (h : Kept s t) : Kept s (doSyncHoldoverTimeout t) := .ite (((h.reach _).setSync _).fault _ _) h

theorem stepTime (h : Kept s t) (step : Int) : Kept s (t.stepTime step) := .set (.alignNext (.parts (h.shiftTime _))) _ _

theorem phaseStep (h : Kept s t) : Kept s t.phaseStep := .ite (h.stepTime _) h

theorem adjust (h : Kept s t) (off : Int) : Kept s (t.adjust off).1 := h.setInt _ _

theorem slewBy (h : Kept s t) (d : Int) : Kept s (t.slewBy d) := h.parts

theorem ptpOffset (h : Kept s t) (off : Int) : Kept s (t.ptpOffset off) := by
  unfold State.ptpOffset
  extract_lets far near s0 st n r src src' s1 s2 src'' s3
  have h0 : Kept s s0 := h.setInt _ _
  have hR : Kept s r.1 := by
    unfold r
    split
    · exact h0
    · exact h0.adjust _
  have hSrc : Kept s src := hR
  have h1 : Kept s s1 := hSrc.parts
  have h2 : Kept s s2 := .ite (h1.setSync _) (.ite (.ite (h1.setSync _) (.ite (h1.setSync _) h1)) (.ite (h1.setSync _) h1))
  have h3 : Kept s s3 := h2.parts.slewBy _
  exact .ite h2 (.ite (h2.slewBy _) (.ite (.ite (h3.set _ _) (.ite h3.phaseStep (h3.set _ _))) ((h2.parts.slewBy _).set _ _)))

theorem timeClock (h : Kept s t) : Kept s t.timeClock :=
  .ite (h.reach _) (.ite (.set (.parts (h.reach _)) _ _) (.parts (h.reach _)))

theorem setSource (h : Kept s t) (src : Nat) : Kept s (t.setSource src) :=
  .alignNext (.setSync (.set (.parts ((h.set _ _).set _ _)) _ _) _)

theorem cadSyncWrite (h : Kept s t) (v : Nat) : Kept s (t.cadSyncWrite v) :=
  .ite (h.storeAllowed _ _) (((h.storeAllowed _ _).set _ _).setSource _)

end Kept

end Sys2Proof.Machine
end

section
/-!
The host's tenants and their rings.
-/

namespace Sys2Proof.Machine

namespace Kept

variable {s t u : State}

theorem modTenant (h : Kept s t) (t' : Nat) (f : TenantState → TenantState) : Kept s (t.modTenant t' f) := h.parts

theorem modRing (h : Kept s t) (t' r : Nat) (f : RingState → RingState) : Kept s (t.modRing t' r f) := h.modTenant _ _

theorem ifPresent {f : State → State} (h : Kept s t) (n : Nat) (hf : ∀ u, Kept s u → Kept s (f u)) : Kept s (t.ifPresent n f) :=
  .ite (hf _ h) h

theorem tenViol (h : Kept s t) (t' : Nat) : Kept s (t.tenViol t') := h.count _ _

theorem signal (h : Kept s t) (t' v : Nat) : Kept s (t.signal t' v) := .ite (h.modTenant _ _) (h.emit _)

theorem sendPending (h : Kept s t) (t' : Nat) : Kept s (t.sendPending t') := .foldl (fun _ _ hu => (hu.modTenant _ _).emit _) h

theorem vecWrite (h : Kept s t) (t' i v : Nat) : Kept s (t.vecWrite t' i v) := (h.modTenant _ _).sendPending _

theorem ringPut (h : Kept s t) (t' r : Nat) (words : Nat → List Nat) : Kept s (t.ringPut t' r words) := (h.emit _).modRing _ _ _

theorem hostEvent (h : Kept s t) (to_ code tenant arg : Nat) : Kept s (t.hostEvent to_ code tenant arg) :=
  .ite h (.ite (h.set _ _) ((h.ringPut _ _ _).signal _ _))

theorem hostEventBoth (h : Kept s t) (tenant code arg : Nat) : Kept s (t.hostEventBoth tenant code arg) :=
  .ite (h.hostEvent _ _ _ _) ((h.hostEvent _ _ _ _).hostEvent _ _ _ _)

theorem cqSignal (h : Kept s t) (t' c : Nat) : Kept s (t.cqSignal t' c) := (h.signal _ _).modRing _ _ _

theorem postEntry (h : Kept s t) (t' : Nat) (o : HostOp) : Kept s (t.postEntry t' o) :=
  .ite h (.ite (((h.ringPut _ _ _).modRing _ _ _).cqSignal _ _) ((h.ringPut _ _ _).modRing _ _ _))

theorem complete (h : Kept s t) (t' : Nat) (o : HostOp) : Kept s (t.complete t' o) :=
  .ite (h.modTenant _ _) ((h.modTenant _ _).postEntry _ _)

theorem leave (h : Kept s t) (ten q : Nat) (ops : List HostOp) : Kept s (State.leave ten q ops t).1 := by
  induction ops generalizing t with
  | nil => exact h
  | cons o rest ih =>
    unfold State.leave
    split
    · exact ih h
    · split
      · exact ih (h.complete _ _)
      · exact h

theorem postDone (h : Kept s t) (t' q : Nat) : Kept s (t.postDone t' q) := (h.leave _ _ _).modTenant _ _

theorem updOp (h : Kept s t) (t' q : Nat) (f : HostOp → HostOp) : Kept s (t.updOp t' q f) := h.modTenant _ _

theorem finishOp (h : Kept s t) (t' q status result : Nat) : Kept s (t.finishOp t' q status result) := (h.updOp _ _ _).postDone _ _

theorem doDescriptorFetch (h : Kept s t) (b : List Nat) : Kept s (doDescriptorFetch b t) := by
  unfold Machine.doDescriptorFetch
  refine .ite h ?_
  split
  · exact h
  · extract_lets q g head o s0 fence full o1 s1 src
    have h0 : Kept s s0 := h.modTenant _ _
    have h1 : Kept s s1 := (h0.modRing _ _ _).modTenant _ _
    exact .ite (h0.modTenant _ _) (h1.parts.postDone _ _)

theorem doorbell (h : Kept s t) (t' r v : Nat) (put : Nat → RingState → RingState) : Kept s (t.doorbell t' r v put) :=
  .ite (.tenViol (.ite h.parts h) _) (.modRing (.ite h.parts h) _ _ _)

theorem doSqTailDoorbell (h : Kept s t) (t' q v : Nat) : Kept s (doSqTailDoorbell t' q v t) := h.doorbell _ _ _ _

theorem doCqHeadDoorbell (h : Kept s t) (t' r v : Nat) : Kept s (doCqHeadDoorbell t' r v t) := h.doorbell _ _ _ _

theorem doCqCoalescingTimer (h : Kept s t) (t' c : Nat) : Kept s (doCqCoalescingTimer t' c t) := by
  unfold Machine.doCqCoalescingTimer
  extract_lets us
  split
  · exact h
  · exact .ite h ((h.reach _).cqSignal _ _)

theorem doRingEnableWrite (h : Kept s t) (t' r v : Nat) : Kept s (doRingEnableWrite t' r v t) := by
  unfold Machine.doRingEnableWrite
  extract_lets en named s1
  have h1 : Kept s s1 := (h.set _ _).set _ _
  exact .ite (.ite h (.ite ((h.set _ _).modTenant _ _) (h.set _ _))) (.ite h1 (.ite ((h1.set _ _).modRing _ _ _) (h1.set _ _)))

theorem ringBase (h : Kept s t) (t' r : Nat) (f : Fld) (v : Nat) : Kept s (t.ringBase t' r f v) := .ite h (h.set _ _)

theorem enterFallback (h : Kept s t) : Kept s t.enterFallback :=
  .ite h.parts (.fault (.parts (((h.set _ _).count _ _).hostEventBoth _ _ _)) _ _)

theorem tenantGone (h : Kept s t) (t' : Nat) : Kept s (t.tenantGone t') :=
  .ite ((h.connsOfTenantFail _).enterFallback) (h.connsOfTenantFail _)

theorem doDispatchStale (h : Kept s t) : Kept s (doDispatchStale t) := by
  unfold Machine.doDispatchStale
  split
  · exact h
  · exact .ite ((h.reach _).enterFallback) h

theorem putSlot (h : Kept s t) (k v : Nat) : Kept s (t.putSlot k v) := by
  unfold State.putSlot
  extract_lets s1
  have h1 : Kept s s1 := h.set _ _
  split
  · exact h1.set _ _
  · exact h1.set _ _
  · exact h1.set _ _
  · exact h1.set _ _
  · exact h1

theorem rampSlot (h : Kept s t) (k : Nat) : Kept s (t.rampSlot k) := by
  unfold State.rampSlot
  split
  · exact h
  · exact h.parts.putSlot _ _

theorem fallbackRamp (h : Kept s t) : Kept s t.fallbackRamp := (h.rampSlot _).rampSlot _

theorem doAttach (h : Kept s t) (t' vermap : Nat) : Kept s (doAttach t' vermap t) :=
  .ite h (.ite (h.set _ _) (((h.set _ _).set _ _).hostEvent _ _ _ _))

theorem tenantReset (h : Kept s t) (t' : Nat) : Kept s (t.tenantReset t') := by
  unfold State.tenantReset
  extract_lets s1 s2 s3 s4
  have h1 : Kept s s1 := h.set _ _
  have h2 : Kept s s2 := h1.modTenant _ _
  have h3 : Kept s s3 := .foldl (fun _ _ hu => ((((hu.set _ _).set _ _).set _ _).set _ _).set _ _) h2
  have h4 : Kept s s4 := .foldl (fun _ _ hu => (hu.set _ _).set _ _) h3
  exact h4.tenantGone _

theorem doDetach (h : Kept s t) (t' : Nat) : Kept s (doDetach t' t) := (h.hostEvent _ _ _ _).tenantReset _

theorem doHstTReset (h : Kept s t) (t' v : Nat) : Kept s (doHstTReset t' v t) := .ite (h.tenantReset _) h

theorem doTenantResetComplete (h : Kept s t) (t' : Nat) : Kept s (doTenantResetComplete t' t) :=
  .ite h ((((h.set _ _).set _ _).set _ _).hostEvent _ _ _ _)

theorem configReset (h : Kept s t) (t' : Nat) : Kept s (t.configReset t') := h.modTenant _ _

theorem doLinkReset (h : Kept s t) : Kept s (doLinkReset t) := .parts (.foldl (fun _ _ hu => (hu.tenantReset _).configReset _) h)

theorem doFunctionLevelReset (h : Kept s t) (t' : Nat) : Kept s (doFunctionLevelReset t' t) :=
  .ite h.doLinkReset ((h.tenantReset _).configReset _)

theorem doTenantDmaFailure (h : Kept s t) (t' r : Nat) : Kept s (doTenantDmaFailure t' r t) := by
  unfold Machine.doTenantDmaFailure
  exact .ite (h.modRing _ _ _) (.ite h ((((((h.set _ _).set _ _).modRing _ _ _).hostEventBoth _ _ _).fault _ _).tenantGone _))

theorem doNopDescriptor (h : Kept s t) (t' q : Nat) : Kept s (doNopDescriptor t' q t) := by
  unfold Machine.doNopDescriptor
  split
  · exact h
  · exact .ite (h.finishOp _ _ _ _) h

theorem doQsend (h : Kept s t) (t' q : Nat) (data : List Nat) (dma : Bool) : Kept s (doQsend t' q data dma t) := by
  unfold Machine.doQsend
  split
  · exact h
  · refine .ite h (.ite ((h.tenViol _).finishOp _ _ _ _) (.ite (h.finishOp _ _ _ _) ?_))
    exact .ite ((h.deliver _ _ _ _).finishOp _ _ _ _) ((h.deliver _ _ _ _).finishOp _ _ _ _)

theorem doQrecv (h : Kept s t) (ten q : Nat) (dma : Bool) : Kept s (doQrecv ten q dma t) := by
  unfold Machine.doQrecv
  split
  · exact h
  · next o _ =>
    refine .ite h (.ite ((h.tenViol _).finishOp _ _ _ _) ?_)
    have hd : Kept s (t.takePacket o.arg0 (16 + ten)).1 := h.takePacket _ _
    split
    · next s1 heq =>
      have h1 : Kept s s1 := by simpa only [heq] using hd
      exact h1.finishOp _ _ _ _
    · next s1 n ws heq =>
      have h1 : Kept s s1 := by simpa only [heq] using hd
      exact .ite ((h.consume _ _).finishOp _ _ _ _) (.ite (h1.finishOp _ _ _ _) ((h1.emit _).finishOp _ _ _ _))

theorem doTimeDescriptor (h : Kept s t) (t' q : Nat) (dma : Bool) : Kept s (doTimeDescriptor t' q dma t) := by
  unfold Machine.doTimeDescriptor
  split
  · exact h
  · refine .ite h ?_
    extract_lets s1 words
    have h1 : Kept s s1 := .ite h (h.tenViol _)
    exact .ite (h1.finishOp _ _ _ _) ((h1.emit _).nextFree.finishOp _ _ _ _)

theorem doSafetyDescriptor (h : Kept s t) (t' q : Nat) (b : List Nat) (dma : Bool) : Kept s (doSafetyDescriptor t' q b dma t) := by
  unfold Machine.doSafetyDescriptor
  split
  · exact h
  · refine .ite h (.ite (.finishOp (.ite h (h.tenViol _)) _ _ _ _) ?_)
    extract_lets pdu reason s1 status answer
    have h1 : Kept s s1 := h.doSafetyPduReceived _ _ _ _ _
    exact .ite ((h.tenViol _).finishOp _ _ _ _) ((h1.emit _).finishOp _ _ _ _)

theorem toMgc (h : Kept s t) (t' q : Nat) (o : HostOp) : Kept s (t.toMgc t' q o) :=
  .ite (((h.updOp _ _ _).notice _ _).postDone _ _) (((h.tenViol _).finishOp _ _ _ _).nextFree)

theorem doRecordDescriptor (h : Kept s t) (t' q : Nat) : Kept s (doRecordDescriptor t' q t) := by
  unfold Machine.doRecordDescriptor
  split
  · exact h
  · exact .ite (h.toMgc _ _ _) h

theorem doMgcDefinedOperation (h : Kept s t) (t' q : Nat) : Kept s (doMgcDefinedOperation t' q t) := by
  unfold Machine.doMgcDefinedOperation
  split
  · exact h
  · exact .ite (h.toMgc _ _ _) h

theorem doMgcOperationComplete (h : Kept s t) (t' q tag status result : Nat) :
    Kept s (doMgcOperationComplete t' q tag status result t) := by
  unfold Machine.doMgcOperationComplete
  split
  · exact h
  · exact (h.modTenant _ _).complete _ _

theorem applyPair (h : Kept s t) (t' : Nat) (o : HostOp) (p : Nat × Nat) : Kept s (t.applyPair t' o p) := by
  unfold State.applyPair
  refine .ite (h.putSlot _ _) (.ite h ?_)
  split
  · exact h.parts
  · exact .ite h.parts (h.putSlot _ _)

theorem leaveFallback (h : Kept s t) (t' : Nat) : Kept s (t.leaveFallback t') := .ite ((h.set _ _).hostEventBoth _ _ _) h

theorem applySetpoint (h : Kept s t) (t' : Nat) (o : HostOp) : Kept s (t.applySetpoint t' o) := by
  unfold State.applySetpoint
  extract_lets s1
  have h1 : Kept s s1 := .foldl (fun _ _ hu => hu.applyPair _ _ _) (.ite (h.leaveFallback _) h)
  exact (h1.modTenant _ _).postDone _ _

theorem doSetpointApply (h : Kept s t) : Kept s (doSetpointApply t) := .ite h (.foldl (fun _ _ hu => hu.applySetpoint _ _) h)

theorem doSetpoint (h : Kept s t) (t' q : Nat) : Kept s (doSetpoint t' q t) := by
  unfold Machine.doSetpoint
  split
  · exact h
  · refine .ite h ?_
    extract_lets emptied s1 counts back src s2 s4 src' s5
    have h1 : Kept s s1 := .ite (h.tenViol _) h
    have h2 : Kept s s2 := .ite h1.parts h1
    have h4 : Kept s s4 := h2.updOp _ _ _
    have h5 : Kept s s5 := h4.parts
    exact .ite (.finishOp (.ite (h2.leaveFallback _) h2) _ _ _ _) (.ite h5 h5.doSetpointApply)

theorem retarget (h : Kept s t) (k : Nat) (target : Fld) : Kept s (t.retarget k target) := .ite h.parts h

theorem configWrite (h : Kept s t) (t' : Nat) (r : ConfigReg) (v : Nat) : Kept s (t.configWrite t' r v) := by
  unfold State.configWrite
  split
  · exact .ite h.parts h
  · exact .ite h (.parts (.foldl (fun _ _ hu => (hu.tenantReset _).configReset _) h))
  · exact (h.modTenant _ _).sendPending _
  · exact h

theorem configAccess (h : Kept s t) (t' : Nat) (r : ConfigReg) (v : Option Nat) : Kept s (t.configAccess t' r v) := by
  unfold State.configAccess
  refine .ifPresent h _ (fun u hu => ?_)
  split
  · exact hu.answer _
  · exact hu.configWrite _ _ _

theorem doHstRegisterWrite (h : Kept s t) (offset v : Nat) : Kept s (doHstRegisterWrite offset v t) := by
  unfold Machine.doHstRegisterWrite
  extract_lets addr s1 since src
  have h1 : Kept s s1 := (h.storeRW _ _).clearOnes _ _
  exact .ite (h.set _ _) (.ite h1.parts (.ite (h1.retarget _ _) (.ite (h1.retarget _ _) (.ite (h1.modTenant _ _) h1))))

theorem bar0Write (h : Kept s t) (t' off v : Nat) : Kept s (t.bar0Write t' off v) :=
  .ite h (.ite (.ite h (.ite (h.doAttach _ _) (.ite (h.doDetach _) h)))
    (.ite (h.clearOnes _ _) (.ite (h.doHstTReset _ _) (.ite (.ite (h.ringBase _ _ _ _)
      (.ite (h.ringBase _ _ _ _) (h.doRingEnableWrite _ _ _))) (.ite
        (.ite (h.ringBase _ _ _ _) (.ite (h.ringBase _ _ _ _) (.ite (h.doRingEnableWrite _ _ _) (h.storeRW _ _))))
          (.ite (.ite (h.doSqTailDoorbell _ _ _) (h.doCqHeadDoorbell _ _ _))
            (.ite (h.doCqHeadDoorbell _ _ _) (.ite (h.vecWrite _ _ _) (.ite h (h.tenViol _))))))))))

end Kept

end Sys2Proof.Machine
end

section
/-!
Metering.
-/

namespace Sys2Proof.Machine

namespace Kept

variable {s t u : State}

theorem modMchan (h : Kept s t) (c : Nat) (f : MeterChan → MeterChan) : Kept s (t.modMchan c f) := h.parts

theorem modMelem (h : Kept s t) (e : Nat) (f : MeterElem → MeterElem) : Kept s (t.modMelem e f) := h.parts

theorem modMpulse (h : Kept s t) (j : Nat) (f : MeterPulse → MeterPulse) : Kept s (t.modMpulse j f) := h.parts

theorem setGain (h : Kept s t) (k g : Nat) : Kept s (t.setGain k g) := (h.set _ _).modMchan _ _

theorem meterFresh (h : Kept s t) : Kept s t.meterFresh := h.parts

theorem clearResidue (h : Kept s t) (j : Nat) : Kept s (t.clearResidue j) := h.modMpulse _ _

theorem meterField (h : Kept s t) (f : Fld) (v : Nat) : Kept s (t.meterField f v) := by
  unfold State.meterField
  extract_lets trim s1 pulse
  have h1 : Kept s s1 := h.set _ _
  exact .ite h (.ite (h1.clearResidue _) (.ite (h1.clearResidue _) (.ite (.foldl (fun _ _ hu => .ite hu (hu.setGain _ _)) h1)
    (.ite h1.meterFresh h1))))

theorem meterSnap (h : Kept s t) : Kept s t.meterSnap := .set (.foldl (fun _ _ hu => hu.set64 _ _ _) h) _ _

theorem meterZero (h : Kept s t) : Kept s t.meterZero := .ite h ((h.parts.clearResidue _).clearResidue _)

theorem writeTotals (h : Kept s t) (copy : Fin 2) (count : Nat) : Kept s (t.writeTotals copy count) := by
  unfold State.writeTotals
  extract_lets b s1 s2
  have h1 : Kept s s1 := .foldl (fun _ _ hu => hu.setBytes _ _ _) h
  have h2 : Kept s s2 := .foldl (fun _ _ hu => hu.setBytes _ _ _) h1
  exact h2.setBytes _ _ _

theorem startSave (h : Kept s t) : Kept s t.startSave := (h.parts.writeTotals _ _).set _ _

theorem meterEffect (h : Kept s t) (w : MeterWait) : Kept s (t.meterEffect w) := by
  unfold State.meterEffect
  split
  · exact h.meterField _ _
  · exact h.set _ _
  · exact h.meterSnap
  · exact h.meterZero
  · exact h.startSave

theorem meterAwait (h : Kept s t) (w : MeterWait) : Kept s (t.meterAwait w) := h.parts

theorem meterBoundary (h : Kept s t) : Kept s t.meterBoundary := .foldl (fun _ _ hu => hu.meterEffect _) h.parts

theorem doMeteringSample (h : Kept s t) (x : MeterSample) : Kept s (doMeteringSample x t) :=
  .ite h (.ite (.parts ((h.reach _).meterBoundary)) ((h.reach _).meterBoundary))

theorem currentSample (h : Kept s t) (k : Nat) (d : MeterDue) : Kept s (t.currentSample k d).1 := by
  unfold State.currentSample
  extract_lets c s1v g code s2v tooHigh below s1 g' s2
  have h1 : Kept s s1 := h.modMchan _ _
  have h2 : Kept s s2 := h1.setGain _ _
  split
  · exact h1
  · split
    · exact .ite h2 (h2.count _ _)
    · exact h1

theorem doUpshift (h : Kept s t) (k : Nat) : Kept s (doUpshift k t) := .ite ((h.setGain _ _).count _ _) h

theorem correct (h : Kept s t) (c : Nat) (v : Int) : Kept s (t.correct c v) := h.modMchan _ _

theorem channelFault (h : Kept s t) (c : Nat) (x : MeterSample) : Kept s (t.channelFault c x) := by
  unfold State.channelFault
  extract_lets count s1 tooHigh m bad s2 s3
  have h1 : Kept s s1 := h.modMchan _ _
  have h2 : Kept s s2 := .ite (h1.putBit _ _ _) h1
  have h3 : Kept s s3 := h2.putBit _ _ _
  exact .ite (h3.fault _ _) h3

theorem pulseTake (h : Kept s t) (j n : Nat) : Kept s (t.pulseTake j n) :=
  .ite h (.ite (h.modMpulse _ _) (.ite ((h.modMpulse _ _).count _ _) ((h.modMpulse _ _).set _ _)))

theorem accumulate (h : Kept s t) (e : Nat) (x : Int × Int × Int) (add : Bool) : Kept s (t.accumulate e x add) := by
  unfold State.accumulate
  extract_lets ps s1 inc s2
  have h1 : Kept s s1 := h.modMelem _ _
  have h2 : Kept s s2 := .ite (.foldl (fun _ _ hu => hu.parts) h1) h1
  exact .foldl (fun _ _ hu => .ite (hu.pulseTake _ _) hu) h2

theorem doMeteringResult (h : Kept s t) : Kept s (doMeteringResult t) := by
  unfold Machine.doMeteringResult
  split
  · exact h
  · extract_lets s0 src s1 s2 xs total faulted s3
    have h0 : Kept s s0 := h.reach _
    have h1 : Kept s s1 := h0.parts
    have h2 : Kept s s2 := by
      unfold s2
      refine .foldl (fun u a hu => ?_) h1
      extract_lets r
      have hR : Kept s r.1 := by
        unfold r
        split
        · exact hu
        · exact hu.currentSample _ _
      exact (hR.channelFault _ _).correct _ _
    have h3 : Kept s s3 := .foldl (fun _ _ hu => hu.accumulate _ _ _) h2
    exact h3.accumulate _ _ _

theorem doMeteringWindowEnd (h : Kept s t) : Kept s (doMeteringWindowEnd t) := by
  unfold Machine.doMeteringWindowEnd
  extract_lets n s0 s1 mean s2 s3 s4 src
  have h0 : Kept s s0 := h.reach _
  have h1 : Kept s s1 := .foldl (fun _ _ hu => hu.set _ _) h0
  have h2 : Kept s s2 := .foldl (fun _ _ hu => ((hu.set _ _).set _ _).set _ _) h1
  have h3 : Kept s s3 := .foldl (fun _ _ hu => hu.modMchan _ _) h2
  have h4 : Kept s s4 := .foldl (fun _ _ hu => hu.modMelem _ _) h3
  exact .ite h h4.parts

theorem doMeteringPulse (h : Kept s t) (j : Nat) : Kept s (doMeteringPulse j t) :=
  .ite h ((((h.reach _).set _ _).modMpulse _ _).emit _)

theorem doMeteringPulseEnd (h : Kept s t) (j : Nat) : Kept s (doMeteringPulseEnd j t) := by
  unfold Machine.doMeteringPulseEnd
  split
  · exact h
  · exact ((h.reach _).modMpulse _ _).emit _

theorem pulseCut (h : Kept s t) (j : Nat) : Kept s (t.pulseCut j) := .ite h ((h.modMpulse _ _).emit _)

theorem meterStop (h : Kept s t) : Kept s t.meterStop := .foldl (fun _ _ hu => hu.pulseCut _) h.meterFresh

theorem doSavenow (h : Kept s t) : Kept s (doSavenow t) := h.meterAwait _

theorem doPeriodicSave (h : Kept s t) : Kept s (doPeriodicSave t) := .ite h (.startSave (.parts (h.reach _)))

theorem doSaveComplete (h : Kept s t) : Kept s (doSaveComplete t) := by
  unfold Machine.doSaveComplete
  split
  · exact h
  · exact (h.parts.setBytes _ _ _).set _ _

theorem doSaveTimeout (h : Kept s t) : Kept s (doSaveTimeout t) := by
  unfold Machine.doSaveTimeout
  split
  · exact h
  · exact .ite h (.fault (.set (.parts (h.reach _)) _ _) _ _)

theorem loadTotals (h : Kept s t) (copy : Fin 2) : Kept s (t.loadTotals copy) := .foldl (fun _ _ hu => hu.modMpulse _ _) h.parts

theorem restoreTotals (h : Kept s t) : Kept s t.restoreTotals :=
  .ite (h.loadTotals _) (.ite (((h.loadTotals _).set _ _).fault _ _) ((h.set _ _).fault _ _))

theorem doSnap (h : Kept s t) : Kept s (doSnap t) := h.meterAwait _

theorem doMtrClr (h : Kept s t) (v : Nat) : Kept s (doMtrClr v t) := .ite (h.meterAwait _) h

theorem doCallock (h : Kept s t) : Kept s (doCallock t) := h.meterAwait _

theorem doTotlock (h : Kept s t) : Kept s (doTotlock t) := h.meterAwait _

theorem doMtrStatRead (h : Kept s t) : Kept s (doMtrStatRead t) := (h.answer _).set _ _

theorem doMtrCounterRead (h : Kept s t) (i : Nat) : Kept s (doMtrCounterRead i t) :=
  .ite (((h.answer _).set _ _).set _ _) ((h.answer _).set _ _)

theorem doMtrRegisterWrite (h : Kept s t) (offset v : Nat) : Kept s (doMtrRegisterWrite offset v t) := by
  unfold Machine.doMtrRegisterWrite
  extract_lets addr
  refine .ite (h.doMtrClr _) ?_
  split
  · exact h
  · refine .ite h ?_
    extract_lets s1 s2 s3 s4 s5
    have h1 : Kept s s1 := .foldl (fun _ _ hu => hu.meterAwait _) h
    have h2 : Kept s s2 := .foldl (fun _ _ hu => hu.meterAwait _) h1
    have h3 : Kept s s3 := .ite h2.doSnap h2
    have h4 : Kept s s4 := .ite h3.doSavenow h3
    have h5 : Kept s s5 := .ite h4.doCallock h4
    exact .ite (.ite h5.doTotlock h5) h2

end Kept

end Sys2Proof.Machine
end

section
/-!
The station network.
-/

namespace Sys2Proof.Machine

namespace Kept

variable {s t u : State}

theorem modPtpPort (h : Kept s t) (p : Nat) (f : PtpPort → PtpPort) : Kept s (t.modPtpPort p f) := h.parts

theorem modGoose (h : Kept s t) (n : Nat) (f : GooseSub → GooseSub) : Kept s (t.modGoose n f) := h.parts

theorem modStream (h : Kept s t) (n : Nat) (f : SvStream → SvStream) : Kept s (t.modStream n f) := h.parts

theorem queueTx (h : Kept s t) (x : NetTx) : Kept s (t.queueTx x) := .ite h.parts h

theorem sendOn (h : Kept s t) (p cls kind time : Nat) (b : List Nat) : Kept s (t.sendOn p cls kind time b) := h.queueTx _

theorem originate (h : Kept s t) (ports : List Nat) (cls kind time : Nat) (bytes : List Nat) :
    Kept s (t.originate ports cls kind time bytes) := by
  unfold State.originate
  extract_lets b red s1 src
  have h1 : Kept s s1 := .foldl (fun _ _ hu => hu.sendOn _ _ _ _ _) h
  exact .ite (.foldl (fun _ _ hu => hu.sendOn _ _ _ _ _) h) h1.parts

theorem originateAny (h : Kept s t) (cls kind : Nat) (bytes : List Nat) : Kept s (t.originateAny cls kind bytes) :=
  (h.originate _ _ _ _ _).nextFree

theorem transmit (h : Kept s t) (x : NetTx) (start : Nat) : Kept s (t.transmit x start) :=
  .ite h.parts (.ite (((h.parts.parts.emit _).queueTx _).nextFree) (h.parts.parts.emit _))

theorem servePort (h : Kept s t) (p fuel : Nat) : Kept s (t.servePort p fuel) := by
  induction fuel generalizing t with
  | zero => exact h
  | succ fuel ih =>
    unfold State.servePort
    split
    · exact h
    · exact .ite (ih (h.transmit _ _)) h

theorem netServe (h : Kept s t) : Kept s t.netServe := .ite h ((h.servePort _ _).servePort _ _)

theorem remember (h : Kept s t) (src seq : Nat) : Kept s (t.remember src seq) := h.parts

theorem netDeliver (h : Kept s t) (q len : Nat) (words : List Nat) : Kept s (t.netDeliver q len words).1 := by
  unfold State.netDeliver
  extract_lets r
  have hR : Kept s r.1 := h.deliver _ _ _ _
  split
  · exact hR
  · exact hR.count _ _

theorem give (h : Kept s t) (g : NetGiven) : Kept s (t.give g) := h.parts

theorem takeGiven (h : Kept s t) {c : NetClass} {g : NetGiven} (hg : t.takeGiven c = some (g, u)) : Kept s u := by
  unfold State.takeGiven at hg
  split at hg
  · nomatch hg
  · cases hg
    exact h.parts

theorem general (h : Kept s t) (b : List Nat) : Kept s (t.general b) :=
  .ite h (.ite (.parts (h.netDeliver _ _ _)) (h.netDeliver _ _ _))

theorem noteNode (h : Kept s t) (b : List Nat) : Kept s (t.noteNode b) := .ite h.parts h

theorem giveFrame (h : Kept s t) (p : Nat) (b : List Nat) : Kept s (t.giveFrame p b) := by
  unfold State.giveFrame
  extract_lets g t0
  refine .ite (.ite h (h.give _)) (.ite (h.give _) ?_)
  split
  · exact .ite h (h.give _)
  · exact .ite h (h.give _)
  · exact .ite (h.general _) h

theorem transparent (h : Kept s t) (p o : Nat) (b : List Nat) : Kept s (t.transparent p o b).1 := by
  unfold State.transparent
  extract_lets kind key add raise src
  split
  · exact h.nextFree
  · split
    · exact h.parts.nextFree
    · split
      · split
        · exact h
        · exact h
      · exact h

theorem forward (h : Kept s t) (p : Nat) (b : List Nat) : Kept s (t.forward p b) := by
  unfold State.forward
  refine .ite (h.count _ _) ?_
  extract_lets inner r
  have hR : Kept s r.1 := by
    unfold r
    split
    · exact h.transparent _ _ _
    · exact h
  exact hR.sendOn _ _ _ _ _

theorem redundancy (h : Kept s t) (p : Nat) (b : List Nat) : Kept s (t.redundancy p b) := by
  unfold State.redundancy
  extract_lets pass
  split
  · exact h.giveFrame _ _
  · split
    · exact (h.noteNode _).giveFrame _ _
    · exact .ite h (((h.remember _ _).noteNode _).giveFrame _ _)
  · refine .ite h ?_
    split
    · exact (h.noteNode _).giveFrame _ _
    · exact .ite (.ite h (h.netServe.forward _ _)) (.giveFrame (.noteNode (.remember (.ite h (h.netServe.forward _ _)) _ _) _) _ _)

theorem frameIn (h : Kept s t) (p : Nat) (frame : List Nat) (fcsOk : Bool) : Kept s (t.frameIn p frame fcsOk) :=
  .ite h (.ite (h.count _ _) (.ite (h.count _ _) (h.redundancy _ _)))

theorem doStationFrameReceived (h : Kept s t) (p : Nat) (frame : List Nat) (fcsOk both : Bool) :
    Kept s (doStationFrameReceived p frame fcsOk both t) :=
  .ite ((h.frameIn _ _ _).frameIn _ _ _) (h.frameIn _ _ _)

theorem changePort (h : Kept s t) (t' : Nat) : Kept s (t.changePort t') := by
  unfold State.changePort
  extract_lets a
  split
  · exact h
  · exact .ite (h.set _ _) h

theorem validSync (h : Kept s t) (p : Nat) (t2 : Int) (t1 : Rat) (at_ : Nat) : Kept s (t.validSync p t2 t1 at_) := by
  unfold State.validSync
  split
  · exact h
  · extract_lets s0 active s1 s2
    have h0 : Kept s s0 := by
      unfold s0
      split
      · exact h
      · exact .ite (h.changePort _) h
    have h1 : Kept s s1 := .ite (h0.set _ _) h0
    have h2 : Kept s s2 := h1.modPtpPort _ _
    exact .ite (h2.ptpOffset _) h2

theorem setPathDelay (h : Kept s t) (p : Nat) (d : Rat) : Kept s (t.setPathDelay p d) := (h.modPtpPort _ _).set _ _

theorem ptpMessage (h : Kept s t) (p at_ : Nat) (m : PtpBody) (t' : Int) : Kept s (t.ptpMessage p at_ m t') := by
  unfold State.ptpMessage
  extract_lets x selected src
  split
  · exact h.parts
  · exact .ite h (.ite (h.modPtpPort _ _) (h.validSync _ _ _ _))
  · split
    · exact h
    · exact .ite ((h.modPtpPort _ _).validSync _ _ _ _) h
  · exact h.queueTx _
  · split
    · exact h
    · exact .ite h (.ite (h.modPtpPort _ _) (h.setPathDelay _ _))
  · split
    · exact .ite h (h.setPathDelay _ _)
    · exact h

theorem doPtpMessageReceived (h : Kept s t) (domain : Nat) (m : PtpBody) (stamp : Nat) :
    Kept s (doPtpMessageReceived domain m stamp t) := by
  unfold Machine.doPtpMessageReceived
  split
  · exact h
  · next s1 heq =>
    have h1 : Kept s s1 := h.takeGiven heq
    exact .ite h1 (h1.ptpMessage _ _ _ _)

theorem doPdelayReqSend (h : Kept s t) (stamp0 stamp1 : Nat) : Kept s (doPdelayReqSend stamp0 stamp1 t) :=
  .ite h (.foldl (fun _ _ hu => (hu.modPtpPort _ _).queueTx _) (.parts (h.reach _)))

theorem doAnnounceTimeout (h : Kept s t) : Kept s (doAnnounceTimeout t) := by
  unfold Machine.doAnnounceTimeout
  split
  · exact h
  · exact .parts (h.reach _)

theorem doActivePortChange (h : Kept s t) : Kept s (doActivePortChange t) := by
  unfold Machine.doActivePortChange
  split
  · exact h
  · exact (h.reach _).changePort _

theorem gooseDeliver (h : Kept s t) (len : Nat) (words : List Nat) : Kept s (t.gooseDeliver len words).1 := by
  unfold State.gooseDeliver
  split
  · exact h.netDeliver _ _ _
  · exact h

theorem gooseStale (h : Kept s t) (n : Nat) : Kept s (t.gooseStale n) := ((h.modGoose _ _).set _ _).gooseDeliver _ _

theorem doGooseTalExpiry (h : Kept s t) (n : Nat) : Kept s (doGooseTalExpiry n t) := by
  unfold Machine.doGooseTalExpiry
  split
  · exact h
  · exact .ite h ((h.reach _).gooseStale _)

theorem gooseMessage (h : Kept s t) (n : Nat) (g : NetGiven) (st sq tal : Nat) : Kept s (t.gooseMessage n g st sq tal) := by
  unfold State.gooseMessage
  extract_lets live o apdu r fresh
  have hR : Kept s r.1 := h.gooseDeliver _ _
  have hFresh : Kept s fresh := .ite (((hR.modGoose _ _).set _ _).set _ _) hR
  split
  · exact hFresh
  · exact .ite hFresh (.ite ((h.modGoose _ _).set _ _) (h.count _ _))

theorem doGooseMessageReceived (h : Kept s t) (st sq tal : Nat) : Kept s (doGooseMessageReceived st sq tal t) := by
  unfold Machine.doGooseMessageReceived
  split
  · exact h
  · next s1 heq =>
    have h1 : Kept s s1 := h.takeGiven heq
    refine .ite h1 ?_
    extract_lets s2
    have h2 : Kept s s2 := by
      unfold s2
      split
      · exact h1
      · exact .ite (h1.gooseStale _) h1
    exact h2.gooseMessage _ _ _ _ _

theorem setPub (h : Kept s t) (j : Nat) (p : Option GoosePub) : Kept s (t.setPub j p) := h.parts

theorem doGoosePublish (h : Kept s t) : Kept s (doGoosePublish t) := by
  unfold Machine.doGoosePublish
  refine .ite h ?_
  have hd : Kept s (t.takePacket (t.get Reg.NET_QSEL_GPUBQ) 8).1 := h.takePacket _ _
  split
  · next s1 heq => simpa only [heq] using hd
  · next s1 _ _ heq =>
    have h1 : Kept s s1 := by simpa only [heq] using hd
    exact .ite h1 ((h1.originateAny _ _ _).setPub _ _)

theorem doGooseResend (h : Kept s t) (j : Nat) : Kept s (doGooseResend j t) := by
  unfold Machine.doGooseResend
  split
  · exact h
  · exact .ite h (((h.reach _).originateAny _ _ _).setPub _ _)

theorem svEntry (h : Kept s t) (n k at_ : Nat) (e : EntryKind) (ms : List (Nat × Nat)) : Kept s (t.svEntry n k at_ e ms) :=
  .set (.modStream (.foldl (fun _ _ hu => hu.setWord _ _) h) _ _) _ _

theorem svLose (h : Kept s t) (n k at_ : Nat) : Kept s (t.svLose n k at_) :=
  .fault (.parts (((h.svEntry _ _ _ _ _).set _ _).modStream _ _)) _ _

theorem svAbsent (h : Kept s t) (n at_ : Nat) : Kept s (t.svAbsent n at_) :=
  .ite (h.svLose _ _ _) (((h.svEntry _ _ _ _ _).count _ _).modStream _ _)

theorem doSvSampleDue (h : Kept s t) (n : Nat) : Kept s (doSvSampleDue n t) := .ite ((h.reach _).svAbsent _ _) h

theorem svCatchUp (h : Kept s t) (n time fuel : Nat) : Kept s (t.svCatchUp n time fuel) := by
  induction fuel generalizing t with
  | zero => exact h
  | succ fuel ih => exact .ite (ih (h.svAbsent _ _)) h

theorem svWrite (h : Kept s t) (n k time : Nat) (resync : Bool) (ms : List (Nat × Nat)) : Kept s (t.svWrite n k time resync ms) :=
  (h.modStream _ _).svEntry _ _ _ _ _

theorem svResync (h : Kept s t) (n k time c : Nat) (ms : List (Nat × Nat)) : Kept s (t.svResync n k time c ms) :=
  .ite ((h.parts.svWrite _ _ _ _ _).set _ _) (((h.modStream _ _).svWrite _ _ _ _ _).set _ _)

theorem svSkip (h : Kept s t) (n at_ d : Nat) : Kept s (t.svSkip n at_ d) := by
  induction d generalizing t with
  | zero => exact h
  | succ d ih => exact ih (h.svAbsent _ _)

theorem svSample (h : Kept s t) (n k time : Nat) (ms : List (Nat × Nat)) : Kept s (t.svSample n k time ms) := by
  unfold State.svSample
  extract_lets x m d lossn s1
  have h1 : Kept s s1 := h.count _ _
  split
  · exact h
  · exact .ite (h.svResync _ _ _ _ _) (h.svResync _ _ _ _ _)
  · exact .ite (h.svWrite _ _ _ _ _) (.ite (.ite ((h1.modStream _ _).svResync _ _ _ _ _) (h1.modStream _ _))
      (.ite (h.svLose _ _ _) ((h.svSkip _ _ _).svWrite _ _ _ _ _)))
  · exact h.svResync _ _ _ _ _

theorem doSvFrameReceived (h : Kept s t) (asdus : List SvAsdu) (sim : Bool) : Kept s (doSvFrameReceived asdus sim t) := by
  unfold Machine.doSvFrameReceived
  split
  · exact h
  · next s1 heq =>
    have h1 : Kept s s1 := h.takeGiven heq
    extract_lets n
    refine .ite h1 ?_
    refine .foldl (fun u a hu => ?_) (h1.svCatchUp _ _ _)
    exact .ite (hu.count _ _) ((hu.modStream _ _).svSample _ _ _ _)

theorem doSvPublish (h : Kept s t) (j : Nat) : Kept s (doSvPublish j t) := by
  unfold Machine.doSvPublish
  split
  · exact h
  · exact .ite h (h.parts.originateAny _ _ _)

theorem doSafetyFrameReceived (h : Kept s t) : Kept s (doSafetyFrameReceived t) := by
  unfold Machine.doSafetyFrameReceived
  split
  · exact h
  · next s1 heq =>
    have h1 : Kept s s1 := h.takeGiven heq
    extract_lets o pdu
    split
    · exact h1.count _ _
    · extract_lets s2
      have h2 : Kept s s2 := h1.doSafetyPduReceived _ _ _ _ _
      refine .ite ?_ ?_
      · split
        · exact h2.originate _ _ _ _ _
        · exact h2
      · exact h2

theorem doSupervisionFrameSend (h : Kept s t) : Kept s (doSupervisionFrameSend t) :=
  .ite h (.originate (.parts (h.reach _)) _ _ _ _ _)

theorem consumeGeneral (h : Kept s t) : Kept s t.consumeGeneral := .foldl (fun _ _ hu => .ite (hu.consume _ _) hu) h

theorem doGeneralFrameTransmit (h : Kept s t) : Kept s (doGeneralFrameTransmit t) := by
  unfold Machine.doGeneralFrameTransmit
  extract_lets s0
  have h0 : Kept s s0 := h.consumeGeneral
  split
  · exact h0
  · next i _ =>
    have hd : Kept s (s0.takePacket (s0.get (txQueue i).2) 8).1 := h0.takePacket _ _
    split
    · next s1 heq => simpa only [heq] using hd
    · next s1 len words heq =>
      have h1 : Kept s s1 := by simpa only [heq] using hd
      exact .ite (h1.parts.count _ _) (h1.parts.originateAny _ _ _)

theorem linkPut (h : Kept s t) (p : Nat) (up : Bool) : Kept s (t.linkPut p up) := .parts (h.putBit _ _ _)

theorem doStationLinkChange (h : Kept s t) (p : Nat) (up : Bool) : Kept s (doStationLinkChange p up t) :=
  .ite h (.ite (h.linkPut _ _) ((h.linkPut _ _).fault _ _))

theorem ptpStop (h : Kept s t) : Kept s t.ptpStop := h.parts

theorem netKickstand (h : Kept s t) : Kept s t.netKickstand := .putBit (.foldl (fun _ _ hu => .ite hu (hu.set _ _)) h.ptpStop) _ _ _

theorem netEnable (h : Kept s t) (offset : Nat) (en : Fld) (on : Bool) : Kept s (t.netEnable offset en on) := by
  unfold State.netEnable
  extract_lets s1 n n'
  have h1 : Kept s s1 := h.setBool _ _
  exact .ite ((h1.modGoose _ _).set _ _) (.ite (h1.setPub _ _) (.ite (h1.setBool _ _) h1))

theorem netCtrl (h : Kept s t) (v : Nat) : Kept s (t.netCtrl v) := by
  unfold State.netCtrl
  extract_lets s1 s2 src s3
  have h1 : Kept s s1 := h.storeRW _ _
  have h2 : Kept s s2 := .foldl (fun _ _ hu => .ite hu (hu.linkPut _ _)) h1
  have h3 : Kept s s3 := h2.parts
  exact .ite h3 h3.ptpStop

theorem doNetRegisterWrite (h : Kept s t) (offset v : Nat) : Kept s (doNetRegisterWrite offset v t) := by
  unfold Machine.doNetRegisterWrite
  extract_lets addr misplaced refused s1
  have hRefused : Kept s refused := h.set _ _
  have h1 : Kept s s1 := h.storeRW _ _
  refine .ite (h.clearOnes _ _) ?_
  split
  · exact .ite hRefused (.ite (h.netCtrl _) (h.storeRW _ _))
  · exact .ite (.ite (h.netEnable _ _ _) hRefused) (.ite hRefused (.ite (h1.netEnable _ _ _) h1))

theorem doNetCounterRead (h : Kept s t) (i : Nat) : Kept s (doNetCounterRead i t) := .foldl (fun _ _ hu => hu.set _ _) (h.answer _)

end Kept

end Sys2Proof.Machine
end

section
/-!
The Peloton.
-/

namespace Sys2Proof.Machine

namespace Kept

variable {s t u : State}

theorem modPel (h : Kept s t) (f : PelState → PelState) : Kept s (t.modPel f) := h.parts

theorem modDev (h : Kept s t) (d : Nat) (f : PelDevice → PelDevice) : Kept s (t.modDev d f) := h.modPel _

theorem laneFresh (h : Kept s t) (l : Nat) : Kept s (t.laneFresh l) := h.modPel _

theorem doLaneAlignmentChange (h : Kept s t) (l : Nat) (e : LaneEvent) : Kept s (doLaneAlignmentChange l e t) := by
  unfold Machine.doLaneAlignmentChange
  refine .ite h ?_
  split
  · exact .ite (h.set _ _) h
  · exact .ite h (((h.set _ _).putBit _ _ _).laneFresh _)
  · exact ((((h.set _ _).putBit _ _ _).set _ _).count _ _).fault _ _

theorem laneEchoMissed (h : Kept s t) (l : Nat) : Kept s (t.laneEchoMissed l) := h.count _ _

theorem laneSample (h : Kept s t) (l : Nat) (ten : Int) : Kept s (t.laneSample l ten) := by
  unfold State.laneSample
  extract_lets d put diff n s1
  have h1 : Kept s s1 := h.laneEchoMissed _
  split
  · exact .ite (h.modPel _) ((h.modPel _).set _ _)
  · exact .ite (.ite (h1.modPel _) (h1.laneFresh _)) ((h.modPel _).set _ _)

theorem doPelotonEcho (h : Kept s t) (l : Nat) (e : LaneEcho) : Kept s (doPelotonEcho l e t) := by
  unfold Machine.doPelotonEcho
  refine .ite h ?_
  split
  · exact .ite h (.emit (.modPel (.ite (h.reach _) ((h.reach _).laneEchoMissed _)) _) _)
  · exact h.emit _
  · exact .ite h (((h.reach _).modPel _).laneSample _ _)

theorem ringForward (h : Kept s t) (l : Nat) (f : LineFrame) (kind : Nat) : Kept s (t.ringForward l f kind) :=
  .ite (.emit (.ite h.nextFree h) _) h

theorem ringRemember (h : Kept s t) (f : LineFrame) (kind : Nat) : Kept s (t.ringRemember f kind) := by
  unfold State.ringRemember
  exact h.modPel _

theorem ringSound (h : Kept s t) (l : Nat) (f : LineFrame) (kind : Nat) (legal : Bool) : Kept s (t.ringSound l f kind legal).1 := by
  unfold State.ringSound
  extract_lets start bad s0
  have h0 : Kept s s0 := .ite h.injectionDone h
  split
  · exact h
  · split
    · dsimp only
      exact (h0.count _ _).fault _ _
    · split
      · exact h0.count _ _
      · split
        · dsimp only
          exact (h0.count _ _).fault _ _
        · split
          · exact h0.count _ _
          · exact h0

theorem meet (h : Kept s t) (d : Nat) : Kept s (t.meet d) := .ite h ((h.modDev _ _).sendConfig)

theorem ringTake (h : Kept s t) (l : Nat) (f : LineFrame) (kind : Nat) (legal : Bool) : Kept s (t.ringTake l f kind legal).1 := by
  unfold State.ringTake
  extract_lets r s1
  have hR : Kept s r.1 := h.ringSound _ _ _ _
  have h1 : Kept s s1 := .ite ((hR.set _ _).set _ _) hR
  split
  · exact hR
  · split
    · exact h1
    · exact ((h1.ringRemember _ _).ringForward _ _ _).meet _

theorem chooseVersion (h : Kept s t) : Kept s t.chooseVersion := .ite (h.set _ _) (.ite (h.set _ _) h)

theorem admitDevice (h : Kept s t) (d : Nat) : Kept s (t.admitDevice d) := ((h.putBit _ _ _).putBit _ _ _).set _ _

theorem refuseDevice (h : Kept s t) (d r : Nat) : Kept s (t.refuseDevice d r) :=
  ((((h.set _ _).set _ _).set _ _).modDev _ _).fault _ _

theorem admission (h : Kept s t) (d : Nat) : Kept s (t.admission d) := by
  unfold State.admission
  extract_lets x s1
  have h1 : Kept s s1 := (h.modDev _ _).admitDevice _
  split
  · exact h
  · exact .ite h (.ite (.ite h1.chooseVersion h1) (.ite h (h.refuseDevice _ _)))

theorem admitAll (h : Kept s t) : Kept s t.admitAll := .foldl (fun _ _ hu => .ite hu (hu.admission _)) h

theorem doPelotonHello (h : Kept s t) : Kept s (doPelotonHello t) := .ite h (((h.reach _).modPel _).laneTell _ _)

theorem noLeader (h : Kept s t) : Kept s t.noLeader := ((h.set _ _).modPel _).tripLatch _ _

theorem leaderFound (h : Kept s t) (d : Nat) : Kept s (t.leaderFound d) := by
  unfold State.leaderFound
  exact .modPel (.set (.ite (h.modDev _ _) h) _ _) _

theorem doLeaderElection (h : Kept s t) : Kept s (doLeaderElection t) := by
  unfold Machine.doLeaderElection
  extract_lets lost cands s0
  have h0 : Kept s s0 := .ite (h.reach _) h
  have hnone : Kept s (if t.pel.electDue then s0.noLeader else t) := .ite h0.noLeader h
  refine .ite h ?_
  cases cands with
  | nil => exact hnone
  | cons d ds =>
    refine .ite hnone ?_
    extract_lets s1 s2
    have h1 : Kept s s1 := .leaderFound (.ite (h0.count _ _) h0) _
    have h2 : Kept s s2 := ((h1.set _ _).leaderCapability.admitDevice _).chooseVersion
    exact .ite (h2.setSource _).admitAll (h1.set _ _)

theorem underLeader (h : Kept s t) (d ver : Nat) (ring : Bool) : Kept s (t.underLeader d ver ring) :=
  (((h.leaderFound _).set _ _).set _ _).setBool _ _

theorem follow (h : Kept s t) : Kept s t.follow := by
  unfold State.follow
  extract_lets s1 s2
  have h1 : Kept s s1 := h.admitDevice _
  have h2 : Kept s s2 := .ite (h1.setSource _) (.ite h1 (h1.setSync _))
  exact h2.admitAll

theorem followTime (h : Kept s t) (l : Nat) (f : LineFrame) (arrival : Nat) : Kept s (t.followTime l f arrival) := by
  unfold State.followTime
  extract_lets t0 err period s1 s1' onGrid src s2 s3
  have h1 : Kept s s1 := ((h.set _ _).set _ _).set _ _
  have hS1' : Kept s s1' := h1.shiftTime _
  have h2 : Kept s s2 := hS1'.parts
  have h3 : Kept s s3 := h2.modPel _
  exact .ite h3 (h3.timingPend.timingMoved _)

theorem yield (h : Kept s t) : Kept s t.yield := .ite ((h.putBit _ _ _).modPel _) h

theorem doPelotonTimeFrame (h : Kept s t) (l : Nat) (f : LineFrame) (arrival : Nat) :
    Kept s (doPelotonTimeFrame l f arrival t) := by
  unfold Machine.doPelotonTimeFrame
  extract_lets legal r d s1
  have hR : Kept s r.1 := h.ringTake _ _ _ _
  have h1 : Kept s s1 := hR.yield.underLeader _ _ _
  exact .ite hR (.ite (h1.follow.followTime _ _ _) h1)

theorem sendTime (h : Kept s t) : Kept s t.sendTime := .ite (h.laneSend _ _) h

theorem doSummarySend (h : Kept s t) : Kept s (doSummarySend t) := .ite h (((h.reach _).modDev _ _).laneSend _ _)

theorem doSummaryReceived (h : Kept s t) (l : Nat) (f : LineFrame) : Kept s (doSummaryReceived l f t) :=
  .ite (h.ringTake _ _ _ _) ((h.ringTake _ _ _ _).modDev _ _)

theorem pelotonAcquire (h : Kept s t) : Kept s t.pelotonAcquire := by
  unfold State.pelotonAcquire
  refine .ite h ?_
  extract_lets fix s1 others
  have hfix (u : State) (d : Nat) (hu : Kept s u) : Kept s (fix u d) :=
    .ite (hu.modDev _ _) (.ite ((hu.modDev _ _).set _ _) ((hu.modDev _ _).count _ _))
  have h1 : Kept s s1 := .foldl hfix h
  exact .ite (h1.setBool _ _) h1

theorem doDeviceUnheard (h : Kept s t) (d : Nat) : Kept s (doDeviceUnheard d t) := by
  unfold Machine.doDeviceUnheard
  refine .ite h ?_
  extract_lets s1 s2 s3 s4
  have h1 : Kept s s1 := ((h.putBit _ _ _).putBit _ _ _).irq _
  have h2 : Kept s s2 := h1.modDev _ _
  have h3 : Kept s s3 := (((h2.modDev _ _).count _ _).modPel _).fault _ _
  have h4 : Kept s s4 := .ite (h3.setSync _) h3
  exact .ite (.ite (h4.modPel _) h4.noLeader) h2

theorem sendGrid (h : Kept s t) : Kept s t.sendGrid := .ite (h.laneSend _ _) h

theorem putGridWord (h : Kept s t) (a v : Nat) : Kept s (t.putGridWord a v) := h.cleParts

theorem doGridFrameReceived (h : Kept s t) (l : Nat) (f : LineFrame) : Kept s (doGridFrameReceived l f t) := by
  unfold Machine.doGridFrameReceived
  extract_lets r s1
  have hR : Kept s r.1 := h.ringTake _ _ _ _
  have h1 : Kept s s1 := .foldl (fun _ _ hu => hu.putGridWord _ _) hR
  exact .ite hR (h1.exportWatch.modPel _)

theorem gridCoast (h : Kept s t) : Kept s t.gridCoast := .ite h ((h.putGridWord _ _).modPel _)

theorem doPelotonBlockFrame (h : Kept s t) (l : Nat) (f : LineFrame) : Kept s (doPelotonBlockFrame l f t) := by
  unfold Machine.doPelotonBlockFrame
  extract_lets r s1
  have hR : Kept s r.1 := h.ringTake _ _ _ _
  have h1 : Kept s s1 := .ite (hR.modDev _ _) hR
  exact .ite hR (.ite h1 ((h1.count _ _).tripLatch _ _))

theorem takeHello (h : Kept s t) (l hop d : Nat) (cand : Bool) (verMap part : Nat) :
    Kept s (t.takeHello l hop d cand verMap part) :=
  (h.modDev _ _).admission _

theorem inbound (h : Kept s t) (l : Nat) (f : LineFrame) : Kept s (t.inbound l f) :=
  .ite (h.deliver _ _ _ _) ((h.deliver _ _ _ _).count _ _)

theorem doPelotonServiceFrame (h : Kept s t) (l : Nat) (f : LineFrame) (c : PelService) :
    Kept s (doPelotonServiceFrame l f c t) := by
  unfold Machine.doPelotonServiceFrame
  extract_lets ty legal r d own
  have hr : Kept s r.1 := h.ringTake _ _ _ _
  refine .ite (hr.refuseDevice _ _) (.ite hr ?_)
  clear_value ty
  split
  · exact hr.takeHello _ _ _ _ _ _
  · exact (hr.modDev _ _).leaderCapability.admission _
  · exact .ite (hr.laneTell _ _) hr
  · exact .ite (hr.inbound _ _) hr

theorem doPelotonServiceSend (h : Kept s t) : Kept s (doPelotonServiceSend t) := by
  unfold Machine.doPelotonServiceSend
  refine .ite h ?_
  have hd : Kept s (t.takePacket (t.get Reg.PEL_SVC_Q_OUTQ) 9).1 := h.takePacket _ _
  split
  · next s1 heq => simpa only [heq] using hd
  · next s1 _ _ heq =>
    have h1 : Kept s s1 := by simpa only [heq] using hd
    exact .ite h1 (h1.laneSend _ _)

theorem lanesStop (h : Kept s t) : Kept s t.lanesStop := by
  unfold State.lanesStop
  extract_lets s1 s2 s3
  have h1 : Kept s s1 := .foldl (fun _ _ hu => ((hu.set _ _).set _ _).laneFresh _) h
  have h2 : Kept s s2 := .foldl (fun _ _ hu => hu.set _ _) h1
  have h3 : Kept s s3 := .foldl (fun _ _ hu => hu.set _ _) h2
  exact h3.modPel _

theorem lanesStart (h : Kept s t) : Kept s t.lanesStart := .ite (.foldl (fun _ _ hu => hu.set _ _) h) h

theorem pelEnable (h : Kept s t) (on : Bool) : Kept s (t.pelEnable on) :=
  .ite (h.setBool _ _) (.ite ((h.setBool _ _).lanesStart) ((h.setBool _ _).lanesStop))

theorem pelCtrl (h : Kept s t) (v : Nat) : Kept s (t.pelCtrl v) := .ite (h.set _ _) (((h.storeRW _ _).set _ _).pelEnable _)

theorem doPelRegisterWrite (h : Kept s t) (offset v : Nat) : Kept s (doPelRegisterWrite offset v t) :=
  .ite (h.pelCtrl _) (.ite (h.set _ _) (.ite (.ite (h.await _ _) (h.set _ _)) ((h.clearOnes _ _).storeRW _ _)))

theorem doPelErrRead (h : Kept s t) (l : Nat) : Kept s (doPelErrRead l t) := .foldl (fun _ _ hu => hu.set _ _) (h.answer _)

end Kept

end Sys2Proof.Machine
end

section
/-!
The Tricycle, the power states and the clocks.
-/

namespace Sys2Proof.Machine

namespace Kept

variable {s t u : State}

theorem showPending (h : Kept s t) : Kept s t.showPending := h.setBool _ _

theorem recordDisagreement (h : Kept s t) (os : List BusOut) (cores : Nat) : Kept s (t.recordDisagreement os cores) :=
  .ite h ((((((h.set _ _).set _ _).set _ _).set _ _).set _ _).set64 _ _ _)

theorem stopSafe (h : Kept s t) : Kept s t.stopSafe := (h.holdCores.parts.set _ _).fault _ _

theorem outvote (h : Kept s t) (x : Nat) : Kept s (t.outvote x) :=
  (((((h.set _ _).set _ _).count _ _).modCore _ _).showPending.fault _ _).irq _

theorem passVoted (h : Kept s t) (o : BusOut) : Kept s (t.passVoted o) := h.parts.emit _

theorem doClusterBusOutput (h : Kept s t) (a b c : BusOut) : Kept s (doClusterBusOutput a b c t) := by
  unfold Machine.doClusterBusOutput
  extract_lets st inj a' b' c' s0 os
  have h0 : Kept s s0 := .ite h.injectionDone h
  have houtvote (o : BusOut) (os : List BusOut) (x y : Nat) : Kept s (((s0.passVoted o).recordDisagreement os x).outvote y) :=
    ((h0.passVoted _).recordDisagreement _ _).outvote _
  have hstop (os : List BusOut) (x : Nat) : Kept s (s0.recordDisagreement os x).stopSafe := (h0.recordDisagreement _ _).stopSafe
  refine .ite h (.ite (.ite (.ite (h0.passVoted _) (houtvote _ _ _ _))
    (.ite (houtvote _ _ _ _) (.ite (houtvote _ _ _ _) (hstop _ _)))) ?_)
  clear_value os
  split
  · exact .ite (h0.passVoted _) (hstop _ _)
  · exact h0

theorem doRsreq (h : Kept s t) (x : Nat) : Kept s (doRsreq x t) := .ite ((h.modCore _ _).showPending) h

theorem autoResync (h : Kept s t) : Kept s t.autoResync := .ite h (.showPending (.foldl (fun _ _ hu => .ite hu (hu.modCore _ _)) h))

theorem doResyncFreeze (h : Kept s t) (verified : Bool) : Kept s (doResyncFreeze verified t) := by
  unfold Machine.doResyncFreeze
  split
  · extract_lets s0 src take src' s1
    have h0 : Kept s s0 := .ite h (h.reach _)
    have h1 : Kept s s1 := h0.parts.modCore _ _
    exact .ite ((((h1.set _ _).set _ _).count _ _).showPending.irq _) ((h1.set _ _).showPending.fault _ _)
  · exact h

theorem doTakeout (h : Kept s t) (x : Nat) : Kept s (doTakeout x t) := .ite h.parts h

theorem doTakeoutEffect (h : Kept s t) : Kept s (doTakeoutEffect t) := by
  unfold Machine.doTakeoutEffect
  split
  · exact h
  · refine .ite h ?_
    extract_lets src s0 s1
    have h0 : Kept s s0 := h.parts
    have h1 : Kept s s1 := (h0.set _ _).set _ _
    exact .ite h0 (.ite ((h1.set _ _).modCore _ _) h1)

theorem doLbistComplete (h : Kept s t) (x : Nat) (passed : Bool) : Kept s (doLbistComplete x passed t) := by
  unfold Machine.doLbistComplete
  split
  · exact h
  · extract_lets s0 s1
    have h0 : Kept s s0 := h.reach _
    have h1 : Kept s s1 := h0.modCore _ _
    exact .ite ((h1.showPending.set _ _).irq _) (((((h1.modCore _ _).set _ _).set _ _).showPending.fault _ _).irq _)

theorem startCore (h : Kept s t) (x entry : Nat) : Kept s (t.startCore x entry) := .ite (h.modCore _ _) h

theorem doGob (h : Kept s t) : Kept s (doGob t) := h.startCore _ _

theorem doGoc (h : Kept s t) : Kept s (doGoc t) := h.startCore _ _

theorem coresReset (h : Kept s t) : Kept s t.coresReset := .foldl (fun _ _ hu => hu.modCore _ _) h

theorem startVoterTest (h : Kept s t) : Kept s t.startVoterTest := by
  unfold State.startVoterTest
  extract_lets src s1 s2
  have h1 : Kept s s1 := h.parts
  have h2 : Kept s s2 := .foldl (fun _ _ hu => (hu.set _ _).set _ _) h1.coresReset
  exact ((((((h2.set _ _).set _ _).set _ _).set _ _).set _ _).set _ _).set _ _

theorem doTriReset (h : Kept s t) (master : Nat) : Kept s (doTriReset master t) := .ite h.startVoterTest.parts h

theorem releaseCluster (h : Kept s t) : Kept s t.releaseCluster := by
  unfold State.releaseCluster
  extract_lets split s0 src s1 s2 at_ s3a src' s3
  have h1 : Kept s s1 := h.coresReset.parts
  have h2 : Kept s s2 := ((((h1.set _ _).set _ _).set _ _).setBool _ _).set _ _
  have hat (u : State) (x : Nat) (hu : Kept s u) : Kept s (at_ u x) := by
    unfold at_
    split
    · exact hu
    · exact hu.modCore _ _
  have h3a : Kept s s3a := .foldl hat (h2.modCore _ _)
  have h3 : Kept s s3 := h3a.parts
  exact .ite (.foldl (fun _ _ hu => .ite hu (hu.connClose _)) h3) h3.reopen.safUpdate

theorem doVoterTestComplete (h : Kept s t) (failed : Option (Fin 42)) : Kept s (doVoterTestComplete failed t) := by
  unfold Machine.doVoterTestComplete
  refine .ite h ?_
  split
  · exact h.releaseCluster
  · exact ((((h.coresReset.parts.set _ _).set _ _).set _ _).set _ _).fault _ _

theorem haltCores (h : Kept s t) (cs : List Nat) : Kept s (t.haltCores cs) := by
  unfold State.haltCores
  split
  · exact .foldl (fun _ _ hu => hu.modCore _ _) h
  · exact h.stopCores _ _

theorem doDebugHaltRequest (h : Kept s t) (hart : Nat) : Kept s (doDebugHaltRequest hart t) := by
  unfold Machine.doDebugHaltRequest
  extract_lets cs s1
  have h1 : Kept s s1 := ((h.haltCores _).set _ _).freshHalt
  exact .ite h (.ite (.foldl (fun _ _ hu => hu.modCore _ _) h) (.ite (h1.fault _ _) h1))

theorem snapTime (h : Kept s t) (x : Nat) : Kept s (t.snapTime x) := h.modCore _ _

theorem doTimeCsrRead (h : Kept s t) (x : Nat) : Kept s (doTimeCsrRead x t) := .ite h ((h.snapTime _).answer _)

theorem doTimehCsrRead (h : Kept s t) (x : Nat) : Kept s (doTimehCsrRead x t) := .ite h (h.answer _)

theorem doTcirqpendWrite (h : Kept s t) (x v events : Nat) : Kept s (doTcirqpendWrite x v events t) :=
  .ite h (.foldl (fun _ _ hu => hu.modCore _ _) h)

theorem triRegisterWrite (h : Kept s t) (master addr v : Nat) : Kept s (t.triRegisterWrite master addr v) := by
  unfold State.triRegisterWrite
  refine .ite ?_ ?_
  · refine .ite h ?_
    extract_lets s1 s2 s3
    have h1 : Kept s s1 := .ite (h.doRsreq _) h
    have h2 : Kept s s2 := .ite (h1.doTakeout _) h1
    have h3 : Kept s s3 := .ite h2.doGob h2
    exact .ite h3.doGoc h3
  · refine .ite (.ite (h.doTriReset _) h) (.ite (.ite (h.storeAllowed _ _) ((h.storeAllowed _ _).autoResync)) ?_)
    exact .ite h ((h.clearOnes _ _).storeAllowed _ _)

theorem takeTrap (h : Kept s t) (x cause tval : Nat) : Kept s (t.takeTrap x cause tval) := .foldl (fun _ _ hu => hu.modCore _ _) h

theorem modPwr (h : Kept s t) (f : PwrState → PwrState) : Kept s (t.modPwr f) := h.parts

theorem relatch (h : Kept s t) : Kept s t.relatch := by
  unfold State.relatch
  extract_lets s1
  have h1 : Kept s s1 := .foldl (fun _ _ hu => .ite (hu.fault _ _) hu) h
  exact .foldl (fun _ _ hu => .ite (hu.railInvalid _) hu) h1

theorem lifeRegs (h : Kept s t) : Kept s t.lifeRegs := by
  unfold State.lifeRegs
  extract_lets r s1 s2 s3 s4 src
  have h1 : Kept s s1 := ((((h.set _ _).setBool _ _).setBool _ _).set _ _).set _ _
  have h2 : Kept s s2 := ((h1.set _ _).setBool _ _).set _ _
  have h3 : Kept s s3 := (((h2.set _ _).set _ _).set _ _).set _ _
  have h4 : Kept s s4 := h3.set64 _ _ _
  exact h4.parts

theorem keyWritten (h : Kept s t) (m a : Nat) : Kept s (t.keyWritten m a) := .ite h.parts.lifeRegs h

theorem restart (h : Kept s t) (keep : Nat → Bool) : Kept s (t.restart keep) := by
  unfold State.restart
  extract_lets l r
  have hr : Kept s r := h.trans ⟨rfl, fun ⟨hregs, hmem, _⟩ => ⟨tblWfFrom_filter _ hregs, tblWfFrom_filter _ hmem, rfl, rfl, rfl⟩⟩
  exact hr.lifeRegs.pinReset.relatch

theorem stallFollow (h : Kept s t) : Kept s t.stallFollow := h.modPwr _

theorem lockedOutputs (h : Kept s t) : Kept s t.lockedOutputs :=
  .stallFollow (.foldl (fun _ _ hu1 => .ite (.foldl (fun _ _ hu3 => hu3.set _ _) hu1) hu1) h)

theorem mainDown (h : Kept s t) : Kept s t.mainDown := (h.modPwr _).restart _

theorem entryBegin (h : Kept s t) : Kept s t.entryBegin := (h.startSave.sendRate _ _).modPwr _

theorem enter (h : Kept s t) : Kept s t.enter := .ite ((h.set _ _).modPwr _) (((h.set _ _).modPwr _).entryBegin)

theorem forcedEntry (h : Kept s t) : Kept s t.forcedEntry := .enter (.ite (h.tripLatch _ _) h)

theorem doKsreq (h : Kept s t) : Kept s (doKsreq t) := .ite h.enter.endClock (h.set _ _)

theorem dropVolts (h : Kept s t) : Kept s t.dropVolts := .foldl (fun _ _ hu => hu.modPort _ _) h

theorem stopForKickstand (h : Kept s t) : Kept s t.stopForKickstand := by
  unfold State.stopForKickstand
  extract_lets s0 src s1 s2 s3 src' s4
  have h0 : Kept s s0 := .dropVolts (.ite (h.cleDiscard _) h)
  have h1 : Kept s s1 := h0.parts
  have h2 : Kept s s2 := (h1.set _ _).meterStop.netKickstand.lanesStop.convertersStop
  have h3 : Kept s s3 := (((h2.set _ _).set _ _).set _ _).stallFollow
  have h4 : Kept s s4 := h3.parts
  exact .foldl (fun _ _ hu => hu.pwmApply _ _ _) (h4.set _ _)

theorem kickstandReset (h : Kept s t) : Kept s t.kickstandReset :=
  .stopForKickstand (.foldl (fun _ _ hu => hu.modPort _ _) (h.set _ _))

theorem safKept (h : Kept s t) (u' : State) : Kept s (t.safKept u') := h.parts.selectionAfter _

theorem deviceReset (h : Kept s t) : Kept s t.deviceReset := by
  unfold State.deviceReset
  extract_lets s0 s1
  have h0 : Kept s s0 := ((h.restart _).modPwr _).lockedOutputs
  have h1 : Kept s s1 := (h0.safKept _).safUpdate
  exact .ite h1.kickstandReset (.ite h1.enter (.ite (h1.modPwr _) h1))

theorem doKickstandEntryComplete (h : Kept s t) : Kept s (doKickstandEntryComplete t) := .ite h.stopForKickstand h

theorem doKickstandAlignTimeout (h : Kept s t) (p : Nat) : Kept s (doKickstandAlignTimeout p t) :=
  .ite (.linkDown (.declareLost (.parts (h.reach _)) _) _ _) h

theorem raiseWake (h : Kept s t) (c : Nat) : Kept s (t.raiseWake c) := .ite (h.modPwr _) h

theorem collectWakes (h : Kept s t) : Kept s t.collectWakes := by
  unfold State.collectWakes
  extract_lets s1 s2 s3 src src' src''
  have h1 : Kept s s1 := .ite (h.raiseWake _) h
  have h2 : Kept s s2 := .ite (h1.raiseWake _) h1
  have h3 : Kept s s3 := .ite (h2.raiseWake _) h2
  exact h3.parts

theorem exitBegin (h : Kept s t) (c : Nat) : Kept s (t.exitBegin c) := (((h.set _ _).set _ _).modPwr _).dropVolts.sendRate _ _

theorem doWake (h : Kept s t) : Kept s (doWake t) := by
  unfold Machine.doWake
  extract_lets s1 all taken
  have h1 : Kept s s1 := h.collectWakes
  have hTaken : Kept s taken := (h1.set _ _).modPwr _
  split
  · exact h1
  · exact .ite ((h1.set _ _).modPwr _) (.ite (.ite (hTaken.modPwr _) h1)
      (.ite h1 (.ite (hTaken.exitBegin _) (.ite (hTaken.modPwr _) h1))))

theorem thawTimers (h : Kept s t) : Kept s t.thawTimers := by
  unfold State.thawTimers
  split
  · exact h
  · exact h.parts

theorem doKickstandExitComplete (h : Kept s t) : Kept s (doKickstandExitComplete t) := by
  unfold Machine.doKickstandExitComplete
  split
  · exact h
  · refine .ite h ?_
    extract_lets at_ s0 src s1 s2 s3 s4 again s5
    have h0 : Kept s s0 := (h.reach _).set _ _
    have h1 : Kept s s1 := .ite h0.parts h0
    have h2 : Kept s s2 := (h1.setBool _ _).thawTimers.lanesStart
    have h3 : Kept s s3 := (h2.modPwr _).lockedOutputs
    have h4 : Kept s s4 := .comparatorJudgeAll (.foldl (fun _ _ hu => hu.pwmApply _ _ _) h3)
    have h5 : Kept s s5 := h4.modPwr _
    exact .ite h5.forcedEntry h5

theorem doVauxRise (h : Kept s t) : Kept s (doVauxRise t) := by
  unfold Machine.doVauxRise
  extract_lets fed s1
  have h1 : Kept s s1 := ((h.set _ _).set _ _).modPwr _
  split
  · exact h1.modPwr _
  · exact .modPwr (.ite (h1.raiseWake _) h1) _
  · exact .ite (h1.raiseWake _) h1

theorem doPowerOnReset (h : Kept s t) : Kept s (doPowerOnReset t) := by
  unfold Machine.doPowerOnReset
  refine .ite h ?_
  extract_lets s1 src s2 s3 s4 s5 s6
  have h1 : Kept s s1 := (h.modPwr _).restart _
  have h2 : Kept s s2 := h1.parts.lifeRegs
  have h3 : Kept s s3 := ((((h2.set _ _).set _ _).set _ _).set _ _).set _ _
  have h4 : Kept s s4 := .foldl (fun _ _ hu => hu.set _ _) h3
  have h5 : Kept s s5 := (((h4.setBool _ _).setBool _ _).setBool _ _).set _ _
  have h6 : Kept s s6 := .safUpdate (.ite (h5.fault _ _) h5)
  exact .ite h6.kickstandReset h6.stallFollow

theorem doVauxLoss (h : Kept s t) : Kept s (doVauxLoss t) := by
  unfold Machine.doVauxLoss
  extract_lets s1 st enough s2
  have h1 : Kept s s1 := (h.set _ _).modPwr _
  have h2 : Kept s s2 := h1.set _ _
  exact .ite h1 (.ite h1.mainDown (.ite h1.mainDown (.ite h2.forcedEntry (.ite (h2.modPwr _) h2))))

theorem doEarlyWarning (h : Kept s t) : Kept s (doEarlyWarning t) := .ite h ((((h.set _ _).set _ _).fault _ _).startSave.notice _ _)

theorem doEarlyWarningClear (h : Kept s t) : Kept s (doEarlyWarningClear t) := .ite h (h.set _ _)

theorem doJugThresholdCrossed (h : Kept s t) : Kept s (doJugThresholdCrossed t) := .ite h (.ite h.forcedEntry (.ite h.mainDown h))

theorem doReverseCurrent (h : Kept s t) : Kept s (doReverseCurrent t) := h.set _ _

theorem doSupplyReturn (h : Kept s t) : Kept s (doSupplyReturn t) := h.set _ _

theorem doRailOutOfBand (h : Kept s t) (r : Nat) (out : Bool) : Kept s (doRailOutOfBand r out t) :=
  .ite h (.ite (((h.putBit _ _ _).modPwr _).fault _ _) ((h.putBit _ _ _).modPwr _))

theorem aonReset (h : Kept s t) : Kept s t.aonReset := h.filterRegs _

theorem doCupThresholdCrossed (h : Kept s t) (above : Bool) : Kept s (doCupThresholdCrossed above t) :=
  .ite (.ite h (((h.aonReset.modPwr _).set _ _).wipeHamper _)) (.ite h (.modPwr (.aonReset (.ite h h.mainDown)) _))

theorem doGaugeMeasurement (h : Kept s t) (cupMv jugMv : Nat) : Kept s (doGaugeMeasurement cupMv jugMv t) := by
  unfold Machine.doGaugeMeasurement
  exact .modPwr (.set (.set (.set (.set (.ite (h.reach _) h) _ _) _ _) _ _) _ _) _

theorem doJugCapacitanceMeasured (h : Kept s t) (ms mv : Nat) : Kept s (doJugCapacitanceMeasured ms mv t) := (h.setInt _ _).set _ _

theorem doRtcSecond (h : Kept s t) : Kept s (doRtcSecond t) := .ite h (.ite ((h.set _ _).raiseWake _) (h.set _ _))

theorem doPwrRtcWrite (h : Kept s t) (v : Nat) : Kept s (doPwrRtcWrite v t) := h.set _ _

theorem tamper (h : Kept s t) : Kept s t.tamper :=
  .ite (((h.wipeHamper _).raiseWake _).fault _ _) (((h.wipeHamper _).raiseWake _).modPwr _)

theorem doTamperSample (h : Kept s t) (opens : Nat) : Kept s (doTamperSample opens t) :=
  .ite h (.ite (((h.set _ _).modPwr _).tamper) ((h.set _ _).modPwr _))

theorem doPwrRegisterWrite (h : Kept s t) (offset v : Nat) : Kept s (doPwrRegisterWrite offset v t) := by
  unfold Machine.doPwrRegisterWrite
  extract_lets addr low s1
  have h1 : Kept s s1 := h.storeRW _ _
  exact .ite (h.clearOnes _ _)
    (.ite h (.ite h (.ite h (.ite (h.set _ _) (.ite (.ite h1.doKsreq h1)
      (.ite ((((h.storeRW _ _).set _ _).set _ _).modPwr _) (h.storeRW _ _)))))))

theorem outputsStop (h : Kept s t) (n : Nat) : Kept s (t.outputsStop n) := by
  unfold State.outputsStop
  extract_lets s1
  have h1 : Kept s s1 := .set (.foldl (fun _ _ hu => hu.set _ _) h) _ _
  exact .ite h1.stallFollow h1

theorem outputsRun (h : Kept s t) (n : Nat) : Kept s (t.outputsRun n) := by
  unfold State.outputsRun
  extract_lets s1
  have h1 : Kept s s1 := .set (.foldl (fun _ _ hu => hu.set _ _) h) _ _
  exact .ite h1.stallFollow h1

theorem doPllLockLoss (h : Kept s t) (n : Nat) : Kept s (doPllLockLoss n t) := by
  unfold Machine.doPllLockLoss
  refine .ite h ?_
  extract_lets s1
  have h1 : Kept s s1 := (((h.outputsStop _).set _ _).count _ _).modPwr _
  exact .ite (h1.fault _ _) (h1.fault _ _)

theorem doPllRelock (h : Kept s t) (n : Nat) : Kept s (doPllRelock n t) :=
  .ite h (.ite (.set (.parts ((h.outputsRun _).modPwr _)) _ _) ((h.outputsRun _).modPwr _))

theorem doClkPll2CfgWrite (h : Kept s t) (v : Nat) : Kept s (doClkPll2CfgWrite v t) :=
  .ite (h.set _ _) (((((((h.set _ _).set _ _).set _ _).set _ _).set _ _).outputsStop _).modPwr _)

theorem doClkOutWrite (h : Kept s t) (m v : Nat) : Kept s (doClkOutWrite m v t) := by
  unfold Machine.doClkOutWrite
  extract_lets part div s1 s2 n s3
  have h1 : Kept s s1 := (h.set _ _).set _ _
  have h2 : Kept s s2 := .ite (h1.set _ _) h1
  have h3 : Kept s s3 := .ite (h2.set _ _) h2
  exact .ite h (.ite (h.set _ _) (.ite h3.stallFollow h3))

theorem doClkPllStatRead (h : Kept s t) (n : Nat) : Kept s (doClkPllStatRead n t) := (h.set _ _).answer _

theorem clkRegisterWrite (h : Kept s t) (addr v : Nat) : Kept s (t.clkRegisterWrite addr v) := h.clearOnes _ _

theorem doJunctionTemperatureSample (h : Kept s t) (v : Nat) : Kept s (doJunctionTemperatureSample v t) := by
  unfold Machine.doJunctionTemperatureSample
  refine .ite h ?_
  extract_lets s1 higher s2
  have h1 : Kept s s1 := h.set _ _
  have h2 : Kept s s2 := .modPwr (.ite (h1.set _ _) h1) _
  exact .ite (h2.fault _ _) h2

end Kept

end Sys2Proof.Machine
end

section
/-!
Boot, images and the lifecycle.
-/

namespace Sys2Proof.Machine

namespace Kept

variable {s t u : State}

theorem modBoot (h : Kept s t) (f : BootState → BootState) : Kept s (t.modBoot f) := h.parts

theorem modRecord (h : Kept s t) (f : LifeRecord → LifeRecord) : Kept s (t.modRecord f) := (h.modBoot _).lifeRegs

theorem rejectImage (h : Kept s t) (source reason : Nat) : Kept s (t.rejectImage source reason) :=
  (((h.set _ _).set _ _).set _ _).fault _ _

theorem putUnit (h : Kept s t) (target place v : Nat) : Kept s (t.putUnit target place v) := by
  unfold State.putUnit
  split
  · exact (h.set _ _).doClePdataWrite _
  · exact .dite (fun _ => (h.doCleMemoryBusWrite _ _).doWriteQueueDrain) (fun _ => h)
  · exact .dite (fun _ => (h.doCleMemoryBusWrite _ _).doWriteQueueDrain) (fun _ => h)
  · exact h.setByte _ _

theorem copySegment (h : Kept s t) (b : List Nat) (zero : Bool) (g : Segment) : Kept s (t.copySegment b zero g) := by
  unfold State.copySegment
  split
  · exact h
  · exact .foldl (fun _ _ hu => hu.putUnit _ _ _) h

theorem takeImage (h : Kept s t) (b : List Nat) (v : ImageVerdict) (source : Nat) (only : Nat → Bool) :
    Kept s (t.takeImage b v source only).1 := by
  unfold State.takeImage
  extract_lets reason gs s1
  have h1 : Kept s s1 := .foldl (fun _ _ hu => hu.copySegment _ _ _) h
  split
  · exact h1
  · exact h1.rejectImage _ _

theorem holdToken (h : Kept s t) (b : List Nat) : Kept s (t.holdToken b) := by
  unfold State.holdToken
  exact .ite h ((h.modBoot _).lifeRegs)

theorem applyConfig (h : Kept s t) (b : List Nat) : Kept s (t.applyConfig b) := by
  unfold State.applyConfig
  extract_lets r0 r1 s1 s2 s3 src
  have h1 : Kept s s1 := ((h.set _ _).set _ _).set _ _
  have h2 : Kept s s2 := ((h1.set _ _).set _ _).set _ _
  have h3 : Kept s s3 := ((h2.set _ _).set _ _).lanesStop
  exact .ite h2 h3.parts

theorem startImage (h : Kept s t) (b : List Nat) (src slot : Nat) : Kept s (t.startImage b src slot) :=
  .startVoterTest (.parts ((((((h.applyConfig _).set _ _).set _ _).set _ _).set _ _).modBoot _))

theorem offer (h : Kept s t) (b : List Nat) (v : ImageVerdict) (source : Nat) : Kept s (t.offer b v source).1 := by
  unfold State.offer
  extract_lets r
  have hR : Kept s r.1 := h.takeImage _ _ _ _
  split
  · exact hR
  · split
    · dsimp only
      exact hR.holdToken _
    · exact hR

theorem fallBack (h : Kept s t) (slot : Nat) : Kept s (t.fallBack slot) := (h.modRecord _).set _ _

theorem bootQspi (h : Kept s t) (offers : ImageOffers) : Kept s (t.bootQspi offers).1 := by
  unfold State.bootQspi
  extract_lets r0 s0 img p first s1 q second s1'
  have h0 : Kept s s0 := .ite (h.fallBack _) h
  have hFirst : Kept s first.1 := h0.offer _ _ _
  have h1 : Kept s s1 := .ite (hFirst.modRecord _) hFirst
  have hSecond : Kept s second.1 := hFirst.offer _ _ _
  have hS1' : Kept s s1' := .ite (hSecond.fallBack _) hSecond
  split
  · exact h1.startImage _ _ _
  · split
    · exact hS1'.startImage _ _ _
    · dsimp only
      exact hSecond

theorem bootPeloton (h : Kept s t) (offers : ImageOffers) : Kept s (t.bootPeloton offers).1 := by
  unfold State.bootPeloton
  extract_lets s1
  have h1 : Kept s s1 := .laneTell (.ite h (h.pelEnable _)) _ _
  split
  · exact h1
  · extract_lets r
    have hR : Kept s r.1 := h1.offer _ _ _
    split
    · exact hR.startImage _ _ _
    · exact hR

theorem bootSources (h : Kept s t) (offers : ImageOffers) (place : Nat) (order : List Nat) :
    Kept s (State.bootSources offers place order t) := by
  induction order generalizing t place with
  | nil => exact h.modBoot _
  | cons src rest ih =>
    unfold State.bootSources
    refine .ite (h.modBoot _) ?_
    extract_lets r
    have hR : Kept s r.1 := by
      unfold r
      split
      · exact h.bootQspi _
      · exact h.bootPeloton _
    exact .ite hR (ih hR _)

theorem bootFrom (h : Kept s t) (offers : ImageOffers) (place : Nat) : Kept s (t.bootFrom offers place) := h.bootSources _ _ _

theorem agePlans (h : Kept s t) : Kept s t.agePlans :=
  .btUse (.parts (((((((h.set _ _).set _ _).set _ _).set _ _).set _ _).set _ _).set _ _))

theorem loadTrims (h : Kept s t) : Kept s t.loadTrims := by
  unfold State.loadTrims
  extract_lets r s1 s2 src s3 s4
  have h1 : Kept s s1 := h.trans ⟨rfl, fun ⟨hregs, hrest⟩ =>
    ⟨List.foldlRecOn (motive := fun tbl => tblWf Reg.resetOfKey tbl = true) _ _ hregs
      (fun tbl htbl e _ => tblWf_set _ tbl e.1 e.2 htbl), hrest⟩⟩
  have h2 : Kept s s2 := .ite (h1.set _ _) h1
  have h3 : Kept s s3 := h2.parts
  have h4 : Kept s s4 := by
    unfold s4
    refine .foldl (fun u a hu => ?_) h3
    split
    · exact hu
    · exact hu.set _ _
  exact h4.agePlans.restoreTotals.meterAwait _

theorem doBoot (h : Kept s t) (offers : ImageOffers) : Kept s (doBoot offers t) :=
  .ite h (.ite h.lifeRegs (.bootFrom (.loadTrims (.ite (h.lifeRegs.set _ _) h.lifeRegs)) _ _))

theorem doBootRetry (h : Kept s t) (offers : ImageOffers) : Kept s (doBootRetry offers t) := by
  unfold Machine.doBootRetry
  split
  · exact h
  · exact .ite h (((h.reach _).modBoot _).bootFrom _ _)

theorem doImageSourceTimeout (h : Kept s t) (offers : ImageOffers) : Kept s (doImageSourceTimeout offers t) := by
  unfold Machine.doImageSourceTimeout
  split
  · exact h
  · exact .ite h (((h.reach _).modBoot _).bootFrom _ _)

theorem doClusterImageReload (h : Kept s t) (i : Image) : Kept s (doClusterImageReload i t) := by
  unfold Machine.doClusterImageReload
  split
  · exact h
  · refine .ite h ?_
    extract_lets source b bad s0 wait src r s1 src'
    have h0 : Kept s s0 := by
      unfold s0
      split
      · exact h
      · exact (h.reach _).modBoot _
    have hR : Kept s r.1 := h0.takeImage _ _ _ _
    have h1 : Kept s s1 := .foldl (fun _ _ hu => hu.modCore _ _) hR
    exact .ite (hR.modBoot _) (.ite ((hR.holdToken _).modBoot _) h1.parts)

theorem hostImage (h : Kept s t) (t' q : Nat) (b : List Nat) (v : ImageVerdict) : Kept s (t.hostImage t' q b v) :=
  .ite (((h.offer _ _ _).finishOp _ _ _ _).startImage _ _ _) ((h.offer _ _ _).finishOp _ _ _ _)

theorem doImageDescriptor (h : Kept s t) (t' q : Nat) (block : List Nat) (v : ImageVerdict) (dma : Bool) :
    Kept s (doImageDescriptor t' q block v dma t) := by
  unfold Machine.doImageDescriptor
  split
  · exact h
  · extract_lets phase bytes s0 s1
    have h0 : Kept s s0 := h.modBoot _
    have h1 : Kept s s1 := h0.modBoot _
    refine .ite h (.ite (h.toMgc _ _ _) (.ite (h.finishOp _ _ _ _) ?_))
    split
    · exact ((h0.modBoot _).rejectImage _ _).finishOp _ _ _ _
    · refine .ite (.ite ((h0.modBoot _).finishOp _ _ _ _) ((h0.modBoot _).toMgc _ _ _)) ?_
      exact .ite (h1.hostImage _ _ _ _) (.ite ((h1.offer _ _ _).finishOp _ _ _ _) (h1.toMgc _ _ _))

theorem eraseConfig (h : Kept s t) : Kept s t.eraseConfig := h.filterMem _

theorem eraseKeys (h : Kept s t) : Kept s t.eraseKeys := h.filterMem _

theorem doLcsTrans (h : Kept s t) (v : Nat) : Kept s (doLcsTrans v t) := by
  unfold Machine.doLcsTrans
  extract_lets target s1 s2
  have h1 : Kept s s1 := h.modRecord _
  have h2 : Kept s s2 := h1.wipeHamper _
  exact .ite h (.ite (h.set _ _) (.deviceReset (.ite h2.eraseConfig.eraseKeys h2)))

theorem doLcsSelect (h : Kept s t) (v : Nat) : Kept s (doLcsSelect v t) := .ite ((h.modRecord _).endClock) h

theorem doLcsConfirm (h : Kept s t) (v : Nat) : Kept s (doLcsConfirm v t) := .ite h ((h.modRecord _).modBoot _)

theorem doConfirmTimeout (h : Kept s t) : Kept s (doConfirmTimeout t) := by
  unfold Machine.doConfirmTimeout
  split
  · exact h
  · exact .ite h ((h.reach _).deviceReset)

theorem doKeyRevoke (h : Kept s t) (slots : Nat) : Kept s (doKeyRevoke slots t) := h.modRecord _

theorem doLcsLock (h : Kept s t) : Kept s (doLcsLock t) := h.set _ _

theorem lcsRegisterWrite (h : Kept s t) (addr v : Nat) : Kept s (t.lcsRegisterWrite addr v) := by
  unfold State.lcsRegisterWrite
  refine .ite (h.doLcsTrans _) (.ite (h.doLcsSelect _) (.ite (h.doLcsConfirm _) ?_))
  exact .ite (h.doKeyRevoke _) (.storeRW (.clearOnes (.ite h.doLcsLock h) _ _) _ _)

theorem raisePlan (h : Kept s t) (p : Nat) : Kept s (t.raisePlan p) := .ite h ((h.modRecord _).fault _ _)

theorem doAgeingMeasurement (h : Kept s t) (d0 d1 : Nat) (shift2 : Int) (d3 : Nat) (shift4 : Int) :
    Kept s (doAgeingMeasurement d0 d1 shift2 d3 shift4 t) := by
  unfold Machine.doAgeingMeasurement
  refine .ite h ?_
  extract_lets drifts s0 s1 s2 top s3
  have h0 : Kept s s0 := h.reach _
  have h1 : Kept s s1 := h0.modBoot _
  have h2 : Kept s s2 := .foldl (fun _ _ hu => ((hu.set _ _).set _ _).set _ _) h1
  have h3 : Kept s s3 := (h2.set _ _).setBool _ _
  exact .agePlans (.foldl (fun _ _ hu => hu.raisePlan _) h3)

theorem ageRegisterWrite (h : Kept s t) (addr v : Nat) : Kept s (t.ageRegisterWrite addr v) := .ite ((h.storeRW _ _).agePlans) h

end Kept

end Sys2Proof.Machine
end

section
/-!
The phases of a tick, the fabric and its registers, debugging, and the clock of an empty queue.
-/

namespace Sys2Proof.Machine

namespace Kept

variable {s t u : State}

theorem setPhase (h : Kept s t) (p : Nat) : Kept s (t.setPhase p) := h.set _ _

theorem firstAfterRun (h : Kept s t) : Kept s t.firstAfterRun := .ite h.parts h

theorem doTickStart (h : Kept s t) : Kept s (doTickStart t) := by
  unfold Machine.doTickStart
  split
  · exact h
  · refine .ite h ?_
    extract_lets s0 s1 src s2 s3
    have h0 : Kept s s0 := h.firstAfterRun
    have h1 : Kept s s1 := (h0.reach _).set _ _
    have h2 : Kept s s2 := h1.parts
    have h3 : Kept s s3 := ((h2.setPhase _).irq _).phaseStep
    exact h3.fallbackRamp.tripTick.pwmTick.safUpdate.sendTime

theorem putCellWords (h : Kept s t) : Kept s t.putCellWords := h.cleParts

theorem doAcquireDeadline (h : Kept s t) : Kept s (doAcquireDeadline t) := by
  unfold Machine.doAcquireDeadline
  refine .ite h ?_
  extract_lets s1 src s2 s3
  have h1 : Kept s s1 := ((h.reach _).setPhase _).irq _
  have h2 : Kept s s2 := h1.parts
  have h3 : Kept s s3 := (h2.pelotonAcquire.judgeReports _).cellsAcquire
  exact h3.putCellWords.evaluate.checkCellVolts.safAcquire.cleStart.sendGrid

theorem noPlans (h : Kept s t) : Kept s t.noPlans := h.parts

theorem doSolveDeadline (h : Kept s t) : Kept s (doSolveDeadline t) := by
  unfold Machine.doSolveDeadline
  refine .ite h ?_
  extract_lets s1 s2
  have h1 : Kept s s1 := ((h.reach _).setPhase _).irq _
  have h2 : Kept s s2 := h1.gridCoast.cleSolve
  exact .ite h2.noPlans.holdDirections h2.solvePlans

theorem doPlanFrameStart (h : Kept s t) : Kept s (doPlanFrameStart t) := .ite h ((h.reach _).startPlans)

theorem doPlanDeadline (h : Kept s t) (incomplete : Bool) : Kept s (doPlanDeadline incomplete t) := by
  unfold Machine.doPlanDeadline
  refine .ite h ?_
  extract_lets s1 late s2 s3 hold src s4 s5 src'
  have h1 : Kept s s1 := ((h.reach _).setPhase _).irq _
  have h2 : Kept s s2 := .ite ((h1.count _ _).noteOverrun.noPlans) h1
  have h3 : Kept s s3 := .ite h2 (h2.set _ _)
  have h4 : Kept s s4 := .ite h3.parts h3
  have h5 : Kept s s5 := .sendPlans (.dispatchEdges (.ite h4 h4.gateUpdate) _) _
  exact h5.parts

theorem doDispatchDeadline (h : Kept s t) (stalled : Bool) : Kept s (doDispatchDeadline stalled t) :=
  .ite h (.ite (.fault (.set (.count (.parts (h.reach _)) _ _) _ _) _ _) (.parts (h.reach _)))

theorem settleAll (h : Kept s t) : Kept s t.settleAll := by
  unfold State.settleAll
  extract_lets s1 s2 src
  have h1 : Kept s s1 := h.doTimingSetActivate.doConverterSetCheck.doSamplingSetActivate.doMailboxCopy
  have h2 : Kept s s2 := h1.doDeferredWriteEffect.doSetpointApply
  exact h2.cleParts

theorem doRunClear (h : Kept s t) : Kept s (doRunClear t) := by
  unfold Machine.doRunClear
  refine .ite h ?_
  extract_lets stop src s1 s1' src' s2
  have h1 : Kept s s1 := h.parts.set _ _
  have hS1' : Kept s s1' := h1.samplingStops
  have h2 : Kept s s2 := .ite (hS1'.parts.tripLatch _ _) hS1'
  exact h2.settleAll

theorem readLo (h : Kept s t) (m addr : Nat) : Kept s (t.readLo m addr) := .ite (h.takeSnap _ _ _) h

theorem doRegisterPairLoRead (h : Kept s t) (m addr : Nat) : Kept s (doRegisterPairLoRead m addr t) :=
  .ite ((h.readLo _ _).answer _) h

theorem clearRc (h : Kept s t) (addr : Nat) : Kept s (t.clearRc addr) := .foldl (fun _ _ hu => .ite (hu.set _ _) hu) h

theorem cleBusEcc (h : Kept s t) (m type addr : Nat) : Kept s (t.cleBusEcc m type addr) :=
  .ite (h.cleEcc _ _ _) (.ite (h.cleEcc _ _ _) h)

theorem readRun (h : Kept s t) (o : HostOp) (m addr n : Nat) : Kept s (State.readRun o m addr n t).1 := by
  induction n generalizing t addr with
  | zero => exact h
  | succ n ih => exact ih (.ite ((h.readLo _ _).cleBusEcc _ _ _) h) _

theorem readRegs (h : Kept s t) (t' q : Nat) (o : HostOp) (dma : Bool) : Kept s (t.readRegs t' q o dma) := by
  unfold State.readRegs
  extract_lets s1 r put s2
  have h1 : Kept s s1 := .ite h (h.tenViol _)
  have hR : Kept s r.1 := by
    unfold r
    split
    · exact h1.readRun _ _ _ _
    · exact h1
  have h2 : Kept s s2 := .ite (hR.emit _) hR
  exact (h2.modTenant _ _).postDone _ _

theorem doReadRegs (h : Kept s t) (t' q : Nat) (dma : Bool) : Kept s (doReadRegs t' q dma t) := by
  unfold Machine.doReadRegs
  split
  · exact h
  · exact .ite h (.ite (h.updOp _ _ _) (h.readRegs _ _ _ _))

theorem doReadRegsSnapshot (h : Kept s t) (t' q : Nat) (dma : Bool) : Kept s (doReadRegsSnapshot t' q dma t) := by
  unfold Machine.doReadRegsSnapshot
  split
  · exact h
  · exact .ite (h.readRegs _ _ _ _) h

theorem cadRegisterWrite (h : Kept s t) (o v : Nat) : Kept s (t.cadRegisterWrite o v) := by
  unfold State.cadRegisterWrite
  refine .ite ?_ ?_
  · extract_lets s1 s2 s3
    have h1 : Kept s s1 := .ite h.doCadLock h
    have h2 : Kept s s2 := (h1.doHoldlimWrite _).putAlign _
    have h3 : Kept s s3 := .ite h2.doRunSet h2.doRunClear
    exact .ite h3.doApply h3
  · exact .ite (h.doTimingSetWrite _ _) (.ite (h.doTimingSetWrite _ _)
      (.ite (h.doTimingSetWrite _ _) (.ite (h.doTimingSetWrite _ _)
        (.ite (h.doTimingSetWrite _ _) (.ite (h.doTimingSetWrite _ _)
          (.ite (h.doTimingSetWrite _ _) (.ite (.ite h.doCap h) (.ite (h.cadSyncWrite _)
            ((h.clearOnes _ _).storeAllowed _ _)))))))))

theorem cleWrite (h : Kept s t) (o v : Nat) : Kept s (t.cleWrite o v) :=
  .ite (h.cleRegisterWrite _ _) (.ite (h.doCleMemoryBusWrite _ _) (.ite (h.doCleMemoryBusWrite _ _) (.ite (h.stageMailbox _ _) h)))

theorem trpWrite (h : Kept s t) (o v : Nat) : Kept s (t.trpWrite o v) :=
  .ite (h.doPulseEnableRequest _) (.ite (h.doTrpBlkReq _) (.ite (h.doTripFlagClear _ _)
    (.ite (h.doTripFlagClear _ _) (.ite (.ite h.doHlLock h) (.ite (h.doHardLimitWrite _ _)
      (.ite (h.doHardLimitWrite _ _) (.ite (h.doHardLimitWrite _ _)
        (.ite (h.doHardLimitWrite _ _) (.ite (h.doHardLimitWrite _ _)
          (.ite (h.doHardLimitWrite _ _) (h.trpRegisterWrite _ _)))))))))))

theorem queWrite (h : Kept s t) (m o v : Nat) : Kept s (t.queWrite m o v) :=
  .ite (h.doQueFree _ _) (.ite (.ite (h.doPush _ _ _) (.ite (h.doClose _ _ _)
    (.ite (h.queueCommand _ _) (.ite (h.doXferWrite _ _ _) ((h.clearOnes _ _).storeAllowed _ _)))))
      ((h.clearOnes _ _).storeAllowed _ _))

theorem memWrite (h : Kept s t) (addr v : Nat) : Kept s (t.memWrite addr v) :=
  .ite (((h.clearOnes _ _).storeRW _ _).btUse) (h.clearOnes _ _)

theorem fltWrite (h : Kept s t) (m o v : Nat) : Kept s (t.fltWrite m o v) := by
  unfold State.fltWrite
  extract_lets addr s1 s1'
  have h1 : Kept s s1 := h.storeAllowed _ _
  have hS1' : Kept s s1' := h.injFields _
  exact .ite (.ite h1.doFltLock h1) (.ite (h.escWrite _ _) (.ite ((h.escWrite _ _).escWrite _ _)
    (.ite (.ite (h.doArm _) (.ite hS1'.doCancel hS1')) (.ite (h.doFltSrcClear _ _)
      (.ite (h.doFltAckWrite _ _) (.ite (h.doFltForceWrite _ _ _) ((h.clearOnes _ _).storeRW _ _)))))))

theorem writeRegister (h : Kept s t) (m addr v : Nat) : Kept s (t.writeRegister m addr v) := by
  unfold State.writeRegister
  extract_lets o
  split
  · exact h.sysRegisterWrite _ _
  · exact .ite (h.doClkPll2CfgWrite _) (.ite (h.doClkOutWrite _ _) (h.clkRegisterWrite _ _))
  · exact .ite (h.doPwrRtcWrite _) (h.doPwrRegisterWrite _ _)
  · exact h.cadRegisterWrite _ _
  · exact h.adcRegisterWrite _ _
  · exact h.doMtrRegisterWrite _ _
  · exact h.cleWrite _ _
  · exact h.doGrdRegisterWrite _ _
  · exact h.doCelRegisterWrite _ _
  · exact h.doEdgRegisterWrite _ _
  · exact .ite (h.doPwmCtrlWrite _) (h.pwmRegisterWrite _ _)
  · exact h.trpWrite _ _
  · exact h.doSpkRegisterWrite _ _
  · exact h.doPelRegisterWrite _ _
  · exact h.triRegisterWrite _ _ _
  · exact h.doHstRegisterWrite _ _
  · exact h.queWrite _ _ _
  · exact h.memWrite _ _
  · exact h.fltWrite _ _ _
  · exact h.doSafRegisterWrite _ _ _
  · exact h.doNetRegisterWrite _ _
  · exact h.lcsRegisterWrite _ _
  · exact h.ageRegisterWrite _ _
  · exact h

theorem readRegister (h : Kept s t) (m : Nat) (kind : AccessKind) (addr : Nat) : Kept s (t.readRegister m kind addr) :=
  .ite (h.doRegisterPairLoRead _ _) (.ite (h.doQueAlloc _) (.ite (h.doPop _ _)
    (.ite (h.doXferRead _ _) (.ite (h.peek _ _) (.ite h.doClePdataRead (((h.cleBusEcc _ _ _).answer _).clearRc _))))))

theorem regAccess (h : Kept s t) (m : Nat) (kind : AccessKind) (size a v : Nat) : Kept s (t.regAccess m kind size a v) :=
  .ite (.ite h (h.answer _)) (.ite (.ite (h.writeRegister _ _ _) (.ite (h.violate _ _ _) h))
    (.ite (h.readRegister _ _ _) (.answer (.ite (h.violate _ _ _) h) _)))

theorem memAccess (h : Kept s t) (m : Nat) (kind : AccessKind) (size a v : Nat) : Kept s (t.memAccess m kind size a v) := by
  unfold State.memAccess
  extract_lets s0 r
  have h0 : Kept s s0 := h.touch _
  have hR : Kept s r.1 := h0.eccCheck _ _ _
  exact .ite (.ite ((h0.setBytes _ _ _).keyWritten _ _) (.ite hR ((hR.setBytes _ _ _).keyWritten _ _)))
    ((h0.eccCheck _ _ _).answer _)

theorem access (h : Kept s t) (m : Nat) (kind : AccessKind) (size a v : Nat) : Kept s (t.access m kind size a v) := by
  unfold State.access
  exact .ite (.ite (h.violate _ _ _) ((h.violate _ _ _).answer _)) (.ite (h.regAccess _ _ _ _ _) (h.memAccess _ _ _ _ _))

theorem bar0Read (h : Kept s t) (t' off : Nat) : Kept s (t.bar0Read t' off) :=
  .ite (h.answer _) (.ite (h.answer _) (.ite (h.answer _) (.ite ((h.readLo _ _).answer _) ((h.tenViol _).answer _))))

theorem bar0Access (h : Kept s t) (t' : Nat) (kind : AccessKind) (size off v : Nat) : Kept s (t.bar0Access t' kind size off v) := by
  unfold State.bar0Access
  extract_lets word r src
  have hR : Kept s r := h.bar0Read _ _
  exact .ite h (.ite (.ite (h.tenViol _) ((h.tenViol _).answer _)) (.ite (.ite (h.bar0Write _ _ _) (.ite h (h.tenViol _)))
    (.ite (h.bar0Read _ _) (hR.parts.answer _))))

theorem access32 (h : Kept s t) (m : Nat) (kind : AccessKind) (size a v : Nat) : Kept s (t.access32 m kind size a v) := by
  unfold State.access32
  refine .ite h (.ite (h.bar0Access _ _ _ _ _) (.ite ?_ ?_))
  · split
    · exact h.takeTrap _ _ _
    · exact h.access _ _ _ _ _
  · exact h.access _ _ _ _ _

theorem busAccess (h : Kept s t) (a : BusAccess) : Kept s (t.busAccess a) := by
  unfold State.busAccess
  extract_lets m v at_ s1 s2
  have h1 : Kept s s1 := h.access32 _ _ _ _ _
  have h2 : Kept s s2 := h1.access32 _ _ _ _ _
  exact .ite (h.access32 _ _ _ _ _) (.ite (.ite h2 (h2.answer _)) h)

theorem countWait (h : Kept s t) (a : BusAccess) : Kept s (t.countWait a) := h.count _ _

theorem bothAccess (h : Kept s t) (a b : BusAccess) : Kept s (t.bothAccess a b) := by
  unfold State.bothAccess
  extract_lets x y s1 s1'
  have h1 : Kept s s1 := (h.busAccess _).busAccess _
  have hS1' : Kept s s1' := (h.busAccess _).busAccess _
  exact .ite (.ite (.ite (h1.count _ _) h1) ((h.busAccess _).busAccess _)) (.ite (hS1'.countWait _) hS1')

theorem doRegisterWrite (h : Kept s t) (a : FabricCommand) : Kept s (doRegisterWrite a t) := by
  unfold Machine.doRegisterWrite
  split
  · exact h.busAccess _
  · exact .foldl (fun _ _ hu => hu.access32 _ _ _ _ _) h
  · exact h.bothAccess _ _
  · exact h.configAccess _ _ _
  · exact h.hostEvent _ _ _ _

theorem csrWrite (h : Kept s t) {x n v : Nat} (hw : t.csrWrite x n v = some u) : Kept s u := by
  unfold State.csrWrite at hw
  split at hw
  · nomatch hw
  · cases hw
    exact h.modCore _ _

theorem debugWrite (h : Kept s t) {x regno v : Nat} (hw : t.debugWrite x regno v = some u) : Kept s u := by
  unfold State.debugWrite at hw
  split at hw
  · exact h.csrWrite hw
  · split at hw
    · cases hw
      exact h
    · split at hw
      · cases hw
        exact h.modCore _ _
      · nomatch hw

theorem setCmderr (h : Kept s t) (e : Nat) : Kept s (t.setCmderr e) := h.parts

theorem doAccesses (h : Kept s t) (x : Nat) (as : List BusAccess) : Kept s (t.doAccesses x as) :=
  .foldl (fun _ _ hu => hu.busAccess _) h

theorem abstractCommand {f : State → State} (h : Kept s t) (x : Nat) (hf : ∀ u, Kept s u → Kept s (f u)) :
    Kept s (t.abstractCommand x f) := .ite h (.ite (h.setCmderr _) (hf _ h))

theorem resumeCores (h : Kept s t) (cs : List Nat) : Kept s (t.resumeCores cs) :=
  .setBool (.foldl (fun _ _ hu => hu.modCore _ _) h) _ _

theorem stepCores (h : Kept s t) (x : Nat) (cs : List Nat) (as : List BusAccess) : Kept s (t.stepCores x cs as) :=
  .ite h (.parts ((h.doAccesses _ _).stopCores _ _))

/-- A register written in one core after another, where each of them has it. -/
theorem debugWrites (h : Kept s t) (n v : Nat) (cs : List Nat) :
    ∀ u ∈ cs.foldl (fun o y => o.bind (fun u => u.debugWrite y n v)) (some t), Kept s u := by
  refine List.foldlRecOn cs _ (motive := fun o : Option State => ∀ u ∈ o, Kept s u) ?_ ?_
  · rintro _ ⟨⟩
    exact h
  · intro o ho y _ u hu
    obtain ⟨w, hw, hwrite⟩ := Option.bind_eq_some_iff.mp hu
    exact (ho w hw).debugWrite hwrite

theorem doDebugResume (h : Kept s t) (hart : Nat) (r : DebugRequest) : Kept s (doDebugResume hart r t) := by
  unfold Machine.doDebugResume
  split
  · next x xs _ _ =>
    extract_lets cs
    split
    · exact h.resumeCores _
    · exact h.stepCores _ _ _
    · refine .abstractCommand h _ (fun u hu => ?_)
      split
      · exact hu.setCmderr _
      · exact .parts (.ite (hu.snapTime _) hu)
    · refine .abstractCommand h _ (fun u hu => ?_)
      have hwrites := hu.debugWrites
      generalize hw : List.foldl _ _ cs = w
      cases w with
      | none => exact hu.setCmderr _
      | some v => exact hwrites _ _ _ v hw
    · exact h.parts
    · exact h.abstractCommand _ (fun _ hu => ((hu.doAccesses _ _).stopCores _ _).setCmderr _)
    · exact h.setCmderr _
  · exact h

theorem idle (h : Kept s t) : Kept s t.idle := .ite h.cleClock.timeClock.netServe.laneServe h

end Kept

end Sys2Proof.Machine
end

section
/-!
Every command and every step: the tables stay canonical, and the queue stays.
-/

namespace Sys2Proof.Machine

namespace Kept

/-- Every command answers a next state, and keeps the tables and the queue. -/
theorem exec (i : Instr) (s : State) : ∃ t, Machine.exec i s = .next t ∧ Kept s t := by
  have h : Kept s s := refl s
  cases i with
  | planDeadline _ => exact ⟨_, rfl, h.doPlanDeadline _⟩
  | dispatchDeadline _ => exact ⟨_, rfl, h.doDispatchDeadline _⟩
  | holdlimWrite _ => exact ⟨_, rfl, h.doHoldlimWrite _⟩
  | cadTimeLoRead _ => exact ⟨_, rfl, h.doCadTimeLoRead _⟩
  | cadTimeHiRead _ => exact ⟨_, rfl, h.doCadTimeHiRead _⟩
  | timingSetWrite _ _ => exact ⟨_, rfl, h.doTimingSetWrite _ _⟩
  | converterSetWrite _ _ => exact ⟨_, rfl, h.doConverterSetWrite _ _⟩
  | converterPrewake _ => exact ⟨_, rfl, h.doConverterPrewake _⟩
  | samplingInstant _ => exact ⟨_, rfl, h.doSamplingInstant _⟩
  | resultPost _ _ _ => exact ⟨_, rfl, h.doResultPost _ _ _⟩
  | adcUrgReq _ => exact ⟨_, rfl, h.doAdcUrgReq _⟩
  | urgentSample _ _ _ => exact ⟨_, rfl, h.doUrgentSample _ _ _⟩
  | urgentResultPost _ => exact ⟨_, rfl, h.doUrgentResultPost _⟩
  | calibrationStep _ _ _ => exact ⟨_, rfl, h.doCalibrationStep _ _ _⟩
  | samplingSetWrite _ _ => exact ⟨_, rfl, h.doSamplingSetWrite _ _⟩
  | restart _ _ => exact ⟨_, rfl, h.doRestart _ _⟩
  | cleBr _ _ => exact ⟨_, rfl, h.doCleBr _ _⟩
  | cleLoop _ _ => exact ⟨_, rfl, h.doCleLoop _ _⟩
  | cleRuno _ => exact ⟨_, rfl, h.doCleRuno _⟩
  | cleWaitt _ => exact ⟨_, rfl, h.doCleWaitt _⟩
  | cleLd _ _ => exact ⟨_, rfl, h.doCleLd _ _⟩
  | cleSt _ _ => exact ⟨_, rfl, h.doCleSt _ _⟩
  | cleLd2 _ _ => exact ⟨_, rfl, h.doCleLd2 _ _⟩
  | cleSt2 _ _ => exact ⟨_, rfl, h.doCleSt2 _ _⟩
  | cleLdx _ _ => exact ⟨_, rfl, h.doCleLdx _ _⟩
  | cleStx _ _ => exact ⟨_, rfl, h.doCleStx _ _⟩
  | cleLds _ _ _ _ => exact ⟨_, rfl, h.doCleLds _ _ _ _⟩
  | cleAdd _ _ _ _ => exact ⟨_, rfl, h.doCleAdd _ _ _ _⟩
  | cleSub _ _ _ _ => exact ⟨_, rfl, h.doCleSub _ _ _ _⟩
  | cleNeg _ _ => exact ⟨_, rfl, h.doCleNeg _ _⟩
  | cleAbs _ _ => exact ⟨_, rfl, h.doCleAbs _ _⟩
  | cleMul _ _ _ => exact ⟨_, rfl, h.doCleMul _ _ _⟩
  | cleDiv _ _ _ => exact ⟨_, rfl, h.doCleDiv _ _ _⟩
  | cleMinmax _ _ _ _ => exact ⟨_, rfl, h.doCleMinmax _ _ _ _⟩
  | cleClamp _ _ _ => exact ⟨_, rfl, h.doCleClamp _ _ _⟩
  | cleMovi _ _ => exact ⟨_, rfl, h.doCleMovi _ _⟩
  | cleMovl _ _ => exact ⟨_, rfl, h.doCleMovl _ _⟩
  | cleMov _ _ => exact ⟨_, rfl, h.doCleMov _ _⟩
  | cleSh _ _ _ _ _ _ => exact ⟨_, rfl, h.doCleSh _ _ _ _ _ _⟩
  | cleLogic _ _ _ _ => exact ⟨_, rfl, h.doCleLogic _ _ _ _⟩
  | cleCmp _ _ => exact ⟨_, rfl, h.doCleCmp _ _⟩
  | cleSel _ _ _ _ => exact ⟨_, rfl, h.doCleSel _ _ _ _⟩
  | cleSetx _ _ _ _ => exact ⟨_, rfl, h.doCleSetx _ _ _ _⟩
  | cleMac _ _ _ => exact ⟨_, rfl, h.doCleMac _ _ _⟩
  | cleMsu _ _ _ => exact ⟨_, rfl, h.doCleMsu _ _ _⟩
  | cleDmac _ _ _ _ => exact ⟨_, rfl, h.doCleDmac _ _ _ _⟩
  | cleMpy _ _ _ => exact ⟨_, rfl, h.doCleMpy _ _ _⟩
  | cleAld _ _ _ => exact ⟨_, rfl, h.doCleAld _ _ _⟩
  | cleExt _ _ _ => exact ⟨_, rfl, h.doCleExt _ _ _⟩
  | cleAadd _ _ _ _ => exact ⟨_, rfl, h.doCleAadd _ _ _ _⟩
  | cleSincos _ _ => exact ⟨_, rfl, h.doCleSincos _ _⟩
  | cleSqrt _ _ => exact ⟨_, rfl, h.doCleSqrt _ _⟩
  | undefinedInstruction _ => exact ⟨_, rfl, h.doUndefinedInstruction _⟩
  | cleMemoryBusWrite _ _ => exact ⟨_, rfl, h.doCleMemoryBusWrite _ _⟩
  | clePdataWrite _ => exact ⟨_, rfl, h.doClePdataWrite _⟩
  | grdRegisterWrite _ _ => exact ⟨_, rfl, h.doGrdRegisterWrite _ _⟩
  | toneWindowEnd _ _ _ _ => exact ⟨_, rfl, h.doToneWindowEnd _ _ _ _⟩
  | passiveTestTimerExpiry _ => exact ⟨_, rfl, h.grdActs (fun _ hu => hu.doPassiveTestTimerExpiry _)⟩
  | celRegisterWrite _ _ => exact ⟨_, rfl, h.doCelRegisterWrite _ _⟩
  | mpptUpdate _ => exact ⟨_, rfl, h.doMpptUpdate _⟩
  | mpptScanStart _ => exact ⟨_, rfl, h.doMpptScanStart _⟩
  | socWindowEnd _ => exact ⟨_, rfl, h.doSocWindowEnd _⟩
  | gatesat _ => exact ⟨_, rfl, h.doGatesat _⟩
  | celBypReq _ _ => exact ⟨_, rfl, h.doCelBypReq _ _⟩
  | bypassDecision _ => exact ⟨_, rfl, h.doBypassDecision _⟩
  | bypassConfirmTimeout _ => exact ⟨_, rfl, h.doBypassConfirmTimeout _⟩
  | celRjReq _ _ => exact ⟨_, rfl, h.doCelRjReq _ _⟩
  | rejoinJudgement _ => exact ⟨_, rfl, h.doRejoinJudgement _⟩
  | edgRegisterWrite _ _ => exact ⟨_, rfl, h.doEdgRegisterWrite _ _⟩
  | dlCalStep _ _ => exact ⟨_, rfl, h.doDlCalStep _ _⟩
  | dlGroupSwap _ => exact ⟨_, rfl, h.doDlGroupSwap _⟩
  | pwmCtrlWrite _ => exact ⟨_, rfl, h.doPwmCtrlWrite _⟩
  | pwmCounterEvent _ _ => exact ⟨_, rfl, h.doPwmCounterEvent _ _⟩
  | pwmDeadtimeEnd _ => exact ⟨_, rfl, h.doPwmDeadtimeEnd _⟩
  | tripInputChange _ _ _ => exact ⟨_, rfl, h.doTripInputChange _ _ _⟩
  | tripfClear _ => exact ⟨_, rfl, h.doTripfClear _⟩
  | pwmChnStatRead _ => exact ⟨_, rfl, h.doPwmChnStatRead _⟩
  | comparatorOut _ _ => exact ⟨_, rfl, h.doComparatorOut _ _⟩
  | blankingWindowClose _ => exact ⟨_, rfl, h.doBlankingWindowClose _⟩
  | pulseEnableRequest _ => exact ⟨_, rfl, h.doPulseEnableRequest _⟩
  | trpBlkReq _ => exact ⟨_, rfl, h.doTrpBlkReq _⟩
  | tripFlagClear _ _ => exact ⟨_, rfl, h.doTripFlagClear _ _⟩
  | hardLimitWrite _ _ => exact ⟨_, rfl, h.doHardLimitWrite _ _⟩
  | echoReplyReceived _ _ => exact ⟨_, rfl, h.doEchoReplyReceived _ _⟩
  | dlyjump _ => exact ⟨_, rfl, h.doDlyjump _⟩
  | dlystale _ => exact ⟨_, rfl, h.doDlystale _⟩
  | reportFrameReceived _ _ => exact ⟨_, rfl, h.doReportFrameReceived _ _⟩
  | cellDeclaredLost _ => exact ⟨_, rfl, h.doCellDeclaredLost _⟩
  | helloOffer _ => exact ⟨_, rfl, h.doHelloOffer _⟩
  | hello _ _ => exact ⟨_, rfl, h.doHello _ _⟩
  | serviceFrameReceived _ _ => exact ⟨_, rfl, h.doServiceFrameReceived _ _⟩
  | serviceRetransmit _ _ => exact ⟨_, rfl, h.doServiceRetransmit _ _⟩
  | alignmentFound _ => exact ⟨_, rfl, h.doAlignmentFound _⟩
  | alignmentLoss _ => exact ⟨_, rfl, h.doAlignmentLoss _⟩
  | resyncTimeout _ => exact ⟨_, rfl, h.doResyncTimeout _⟩
  | retrain _ _ => exact ⟨_, rfl, h.doRetrain _ _⟩
  | spkPortEnWrite _ _ => exact ⟨_, rfl, h.doSpkPortEnWrite _ _⟩
  | spkRegisterWrite _ _ => exact ⟨_, rfl, h.doSpkRegisterWrite _ _⟩
  | spkErrRead _ _ => exact ⟨_, rfl, h.doSpkErrRead _ _⟩
  | spkSvcRead _ => exact ⟨_, rfl, h.doSpkSvcRead _⟩
  | clusterBusOutput _ _ _ => exact ⟨_, rfl, h.doClusterBusOutput _ _ _⟩
  | resyncFreeze _ => exact ⟨_, rfl, h.doResyncFreeze _⟩
  | rsreq _ => exact ⟨_, rfl, h.doRsreq _⟩
  | takeout _ => exact ⟨_, rfl, h.doTakeout _⟩
  | lbistComplete _ _ => exact ⟨_, rfl, h.doLbistComplete _ _⟩
  | triReset _ => exact ⟨_, rfl, h.doTriReset _⟩
  | voterTestComplete _ => exact ⟨_, rfl, h.doVoterTestComplete _⟩
  | clusterImageReload _ => exact ⟨_, rfl, h.doClusterImageReload _⟩
  | debugHaltRequest _ => exact ⟨_, rfl, h.doDebugHaltRequest _⟩
  | timeCsrRead _ => exact ⟨_, rfl, h.doTimeCsrRead _⟩
  | timehCsrRead _ => exact ⟨_, rfl, h.doTimehCsrRead _⟩
  | tcirqpendWrite _ _ _ => exact ⟨_, rfl, h.doTcirqpendWrite _ _ _⟩
  | sqTailDoorbell _ _ _ => exact ⟨_, rfl, h.ifPresent _ (fun _ hu => hu.doSqTailDoorbell _ _ _)⟩
  | cqHeadDoorbell _ _ _ => exact ⟨_, rfl, h.ifPresent _ (fun _ hu => hu.doCqHeadDoorbell _ _ _)⟩
  | descriptorFetch _ => exact ⟨_, rfl, h.doDescriptorFetch _⟩
  | readRegs _ _ _ => exact ⟨_, rfl, h.doReadRegs _ _ _⟩
  | readRegsSnapshot _ _ _ => exact ⟨_, rfl, h.doReadRegsSnapshot _ _ _⟩
  | setpoint _ _ => exact ⟨_, rfl, h.doSetpoint _ _⟩
  | qsend _ _ _ _ => exact ⟨_, rfl, h.doQsend _ _ _ _⟩
  | qrecv _ _ _ => exact ⟨_, rfl, h.doQrecv _ _ _⟩
  | timeDescriptor _ _ _ => exact ⟨_, rfl, h.doTimeDescriptor _ _ _⟩
  | safetyDescriptor _ _ _ _ => exact ⟨_, rfl, h.doSafetyDescriptor _ _ _ _⟩
  | recordDescriptor _ _ => exact ⟨_, rfl, h.doRecordDescriptor _ _⟩
  | imageDescriptor _ _ _ _ _ => exact ⟨_, rfl, h.doImageDescriptor _ _ _ _ _⟩
  | mgcDefinedOperation _ _ => exact ⟨_, rfl, h.doMgcDefinedOperation _ _⟩
  | mgcOperationComplete _ _ _ _ _ => exact ⟨_, rfl, h.doMgcOperationComplete _ _ _ _ _⟩
  | nopDescriptor _ _ => exact ⟨_, rfl, h.doNopDescriptor _ _⟩
  | cqCoalescingTimer _ _ => exact ⟨_, rfl, h.doCqCoalescingTimer _ _⟩
  | attach _ _ => exact ⟨_, rfl, h.ifPresent _ (fun _ hu => hu.doAttach _ _)⟩
  | detach _ => exact ⟨_, rfl, h.ifPresent _ (fun _ hu => hu.doDetach _)⟩
  | hstTReset _ _ => exact ⟨_, rfl, h.ifPresent _ (fun _ hu => hu.doHstTReset _ _)⟩
  | tenantResetComplete _ => exact ⟨_, rfl, h.doTenantResetComplete _⟩
  | functionLevelReset _ => exact ⟨_, rfl, h.ifPresent _ (fun _ hu => hu.doFunctionLevelReset _)⟩
  | ringEnableWrite _ _ _ => exact ⟨_, rfl, h.ifPresent _ (fun _ hu => hu.doRingEnableWrite _ _ _)⟩
  | tenantDmaFailure _ _ => exact ⟨_, rfl, h.doTenantDmaFailure _ _⟩
  | hstRegisterWrite _ _ => exact ⟨_, rfl, h.doHstRegisterWrite _ _⟩
  | backgroundTestStep _ _ => exact ⟨_, rfl, h.doBackgroundTestStep _ _⟩
  | hamperWipe _ => exact ⟨_, rfl, h.doHamperWipe _⟩
  | hamperVerifyComplete _ => exact ⟨_, rfl, h.doHamperVerifyComplete _⟩
  | push _ _ _ => exact ⟨_, rfl, h.doPush _ _ _⟩
  | close _ _ _ => exact ⟨_, rfl, h.doClose _ _ _⟩
  | pop _ _ => exact ⟨_, rfl, h.doPop _ _⟩
  | flush _ => exact ⟨_, rfl, h.doFlush _⟩
  | flushEffect _ => exact ⟨_, rfl, h.doFlushEffect _⟩
  | skip _ => exact ⟨_, rfl, h.doSkip _⟩
  | queueReset _ => exact ⟨_, rfl, h.doQueueReset _⟩
  | queueResetComplete _ => exact ⟨_, rfl, h.doQueueResetComplete _⟩
  | queAlloc _ => exact ⟨_, rfl, h.doQueAlloc _⟩
  | queFree _ _ => exact ⟨_, rfl, h.doQueFree _ _⟩
  | xferWrite _ _ _ => exact ⟨_, rfl, h.doXferWrite _ _ _⟩
  | xferRead _ _ => exact ⟨_, rfl, h.doXferRead _ _⟩
  | faultReport _ _ _ => exact ⟨_, rfl, h.doFaultReport _ _ _⟩
  | railPairInvalid _ _ => exact ⟨_, rfl, h.doRailPairInvalid _ _⟩
  | escalationExpiry _ => exact ⟨_, rfl, h.doEscalationExpiry _⟩
  | faultNReadbackMismatch _ => exact ⟨_, rfl, h.doFaultNReadbackMismatch _⟩
  | fltAckWrite _ _ => exact ⟨_, rfl, h.doFltAckWrite _ _⟩
  | fltSrcClear _ _ => exact ⟨_, rfl, h.doFltSrcClear _ _⟩
  | fltForceWrite _ _ _ => exact ⟨_, rfl, h.doFltForceWrite _ _ _⟩
  | arm _ => exact ⟨_, rfl, h.doArm _⟩
  | safetyPduReceived _ _ _ _ => exact ⟨_, rfl, h.doSafetyPduReceived _ _ _ _ _⟩
  | safetyWatchdogExpiry _ => exact ⟨_, rfl, h.doSafetyWatchdogExpiry _⟩
  | safetyConnectionEnWrite _ _ => exact ⟨_, rfl, h.doSafetyConnectionEnWrite _ _⟩
  | safeEnChange _ => exact ⟨_, rfl, h.doSafeEnChange _⟩
  | safRegisterWrite _ _ _ => exact ⟨_, rfl, h.doSafRegisterWrite _ _ _⟩
  | safReadCounters _ => exact ⟨_, rfl, h.doSafReadCounters _⟩
  | meteringSample _ => exact ⟨_, rfl, h.doMeteringSample _⟩
  | upshift _ => exact ⟨_, rfl, h.doUpshift _⟩
  | meteringPulse _ => exact ⟨_, rfl, h.doMeteringPulse _⟩
  | mtrClr _ => exact ⟨_, rfl, h.doMtrClr _⟩
  | mtrCounterRead _ => exact ⟨_, rfl, h.doMtrCounterRead _⟩
  | mtrRegisterWrite _ _ => exact ⟨_, rfl, h.doMtrRegisterWrite _ _⟩
  | stationFrameReceived _ _ _ _ => exact ⟨_, rfl, h.doStationFrameReceived _ _ _ _⟩
  | ptpMessageReceived _ _ _ => exact ⟨_, rfl, h.doPtpMessageReceived _ _ _⟩
  | pdelayReqSend _ _ => exact ⟨_, rfl, h.doPdelayReqSend _ _⟩
  | gooseMessageReceived _ _ _ => exact ⟨_, rfl, h.doGooseMessageReceived _ _ _⟩
  | gooseTalExpiry _ => exact ⟨_, rfl, h.doGooseTalExpiry _⟩
  | gooseResend _ => exact ⟨_, rfl, h.doGooseResend _⟩
  | svFrameReceived _ _ => exact ⟨_, rfl, h.doSvFrameReceived _ _⟩
  | svSampleDue _ => exact ⟨_, rfl, h.doSvSampleDue _⟩
  | svPublish _ => exact ⟨_, rfl, h.doSvPublish _⟩
  | stationLinkChange _ _ => exact ⟨_, rfl, h.doStationLinkChange _ _⟩
  | netRegisterWrite _ _ => exact ⟨_, rfl, h.doNetRegisterWrite _ _⟩
  | netCounterRead _ => exact ⟨_, rfl, h.doNetCounterRead _⟩
  | laneAlignmentChange _ _ => exact ⟨_, rfl, h.doLaneAlignmentChange _ _⟩
  | pelotonTimeFrame _ _ _ => exact ⟨_, rfl, h.doPelotonTimeFrame _ _ _⟩
  | summaryReceived _ _ => exact ⟨_, rfl, h.doSummaryReceived _ _⟩
  | gridFrameReceived _ _ => exact ⟨_, rfl, h.doGridFrameReceived _ _⟩
  | pelotonBlockFrame _ _ => exact ⟨_, rfl, h.doPelotonBlockFrame _ _⟩
  | pelotonServiceFrame _ _ _ => exact ⟨_, rfl, h.doPelotonServiceFrame _ _ _⟩
  | pelotonEcho _ _ => exact ⟨_, rfl, h.doPelotonEcho _ _⟩
  | deviceUnheard _ => exact ⟨_, rfl, h.doDeviceUnheard _⟩
  | pelRegisterWrite _ _ => exact ⟨_, rfl, h.doPelRegisterWrite _ _⟩
  | pelErrRead _ => exact ⟨_, rfl, h.doPelErrRead _⟩
  | cupThresholdCrossed _ => exact ⟨_, rfl, h.doCupThresholdCrossed _⟩
  | gaugeMeasurement _ _ => exact ⟨_, rfl, h.doGaugeMeasurement _ _⟩
  | jugCapacitanceMeasured _ _ => exact ⟨_, rfl, h.doJugCapacitanceMeasured _ _⟩
  | pwrRtcWrite _ => exact ⟨_, rfl, h.doPwrRtcWrite _⟩
  | tamperSample _ => exact ⟨_, rfl, h.doTamperSample _⟩
  | railOutOfBand _ _ => exact ⟨_, rfl, h.doRailOutOfBand _ _⟩
  | pwrRegisterWrite _ _ => exact ⟨_, rfl, h.doPwrRegisterWrite _ _⟩
  | pllLockLoss _ => exact ⟨_, rfl, h.doPllLockLoss _⟩
  | pllRelock _ => exact ⟨_, rfl, h.doPllRelock _⟩
  | clkPll2CfgWrite _ => exact ⟨_, rfl, h.doClkPll2CfgWrite _⟩
  | clkOutWrite _ _ => exact ⟨_, rfl, h.doClkOutWrite _ _⟩
  | clkPllStatRead _ => exact ⟨_, rfl, h.doClkPllStatRead _⟩
  | junctionTemperatureSample _ => exact ⟨_, rfl, h.doJunctionTemperatureSample _⟩
  | boot _ => exact ⟨_, rfl, h.doBoot _⟩
  | bootRetry _ => exact ⟨_, rfl, h.doBootRetry _⟩
  | lcsTrans _ => exact ⟨_, rfl, h.doLcsTrans _⟩
  | lcsSelect _ => exact ⟨_, rfl, h.doLcsSelect _⟩
  | lcsConfirm _ => exact ⟨_, rfl, h.doLcsConfirm _⟩
  | keyRevoke _ => exact ⟨_, rfl, h.doKeyRevoke _⟩
  | ageingMeasurement _ _ _ _ _ => exact ⟨_, rfl, h.doAgeingMeasurement _ _ _ _ _⟩
  | registerWrite _ => exact ⟨_, rfl, h.doRegisterWrite _⟩
  | comparatorIn _ _ => exact ⟨_, rfl, h.doComparatorIn _ _⟩
  | blankingCapReached _ => exact ⟨_, rfl, h.doBlankingCapReached _⟩
  | registerPairLoRead _ _ => exact ⟨_, rfl, h.doRegisterPairLoRead _ _⟩
  | kickstandAlignTimeout _ => exact ⟨_, rfl, h.doKickstandAlignTimeout _⟩
  | meteringPulseEnd _ => exact ⟨_, rfl, h.doMeteringPulseEnd _⟩
  | imageSourceTimeout _ => exact ⟨_, rfl, h.doImageSourceTimeout _⟩
  | debugResume _ => exact ⟨_, rfl, h.doDebugResume _ _⟩
  | tickStart => exact ⟨_, rfl, h.doTickStart⟩
  | acquireDeadline => exact ⟨_, rfl, h.doAcquireDeadline⟩
  | solveDeadline => exact ⟨_, rfl, h.doSolveDeadline⟩
  | planFrameStart => exact ⟨_, rfl, h.doPlanFrameStart⟩
  | apply => exact ⟨_, rfl, h.doApply⟩
  | timingSetActivate => exact ⟨_, rfl, h.doTimingSetActivate⟩
  | runSet => exact ⟨_, rfl, h.doRunSet⟩
  | runClear => exact ⟨_, rfl, h.doRunClear⟩
  | ticksStop => exact ⟨_, rfl, h.doTicksStop⟩
  | cadLock => exact ⟨_, rfl, h.doCadLock⟩
  | cap => exact ⟨_, rfl, h.doCap⟩
  | syncHoldoverTimeout => exact ⟨_, rfl, h.doSyncHoldoverTimeout⟩
  | commit => exact ⟨_, rfl, h.doCommit⟩
  | converterSetCheck => exact ⟨_, rfl, h.doConverterSetCheck⟩
  | samplingSetActivate => exact ⟨_, rfl, h.doSamplingSetActivate⟩
  | adcUrgCntRead => exact ⟨_, rfl, h.doAdcUrgCntRead⟩
  | cleNop => exact ⟨_, rfl, h.doCleNop⟩
  | cleEnd => exact ⟨_, rfl, h.doCleEnd⟩
  | waittRelease => exact ⟨_, rfl, h.doWaittRelease⟩
  | writeQueueDrain => exact ⟨_, rfl, h.doWriteQueueDrain⟩
  | holdwClear => exact ⟨_, rfl, h.doHoldwClear⟩
  | clePdataRead => exact ⟨_, rfl, h.doClePdataRead⟩
  | mailboxCommit => exact ⟨_, rfl, h.doMailboxCommit⟩
  | mailboxCopy => exact ⟨_, rfl, h.doMailboxCopy⟩
  | cleEnClear => exact ⟨_, rfl, h.doCleEnClear⟩
  | cycclr => exact ⟨_, rfl, h.doCycclr⟩
  | cleImplStatRead => exact ⟨_, rfl, h.doCleImplStatRead⟩
  | deferredWriteEffect => exact ⟨_, rfl, h.doDeferredWriteEffect⟩
  | grdRestart => exact ⟨_, rfl, h.grdActs (fun _ hu => hu.doGrdRestart)⟩
  | bsreq => exact ⟨_, rfl, h.grdActs (fun _ hu => hu.doBsreq)⟩
  | observerLocked => exact ⟨_, rfl, h.grdActs (fun _ hu => hu.doObserverLocked)⟩
  | observerLost => exact ⟨_, rfl, h.grdActs (fun _ hu => hu.doObserverLost)⟩
  | rejoin => exact ⟨_, rfl, h.grdActs (fun _ hu => hu.doRejoin)⟩
  | shadowLock => exact ⟨_, rfl, h.grdActs (fun _ hu => hu.doShadowLock)⟩
  | freewheelTimeout => exact ⟨_, rfl, h.grdActs (fun _ hu => hu.doFreewheelTimeout)⟩
  | alignEnd => exact ⟨_, rfl, h.grdActs (fun _ hu => hu.doAlignEnd)⟩
  | handover => exact ⟨_, rfl, h.grdActs (fun _ hu => hu.doHandover)⟩
  | blackstartTimeout => exact ⟨_, rfl, h.grdActs (fun _ hu => hu.doBlackstartTimeout)⟩
  | rtHoldExpiry => exact ⟨_, rfl, h.grdActs (fun _ hu => hu.doRtHoldExpiry)⟩
  | ageingHourEnd => exact ⟨_, rfl, h.doAgeingHourEnd⟩
  | baseline => exact ⟨_, rfl, h.doBaseline⟩
  | edgWinCntRead => exact ⟨_, rfl, h.doEdgWinCntRead⟩
  | hlLock => exact ⟨_, rfl, h.doHlLock⟩
  | trpHlLockRead => exact ⟨_, rfl, h.doTrpHlLockRead⟩
  | exportLimitTimeout => exact ⟨_, rfl, h.doExportLimitTimeout⟩
  | echo => exact ⟨_, rfl, h.doEcho⟩
  | serviceFrameSend => exact ⟨_, rfl, h.doServiceFrameSend⟩
  | rate => exact ⟨_, rfl, h.doRate⟩
  | kickstandPlan => exact ⟨_, rfl, h.doKickstandPlan⟩
  | takeoutEffect => exact ⟨_, rfl, h.doTakeoutEffect⟩
  | gob => exact ⟨_, rfl, h.doGob⟩
  | goc => exact ⟨_, rfl, h.doGoc⟩
  | setpointApply => exact ⟨_, rfl, h.doSetpointApply⟩
  | linkReset => exact ⟨_, rfl, h.doLinkReset⟩
  | dispatchStale => exact ⟨_, rfl, h.doDispatchStale⟩
  | backgroundTestStepTimeout => exact ⟨_, rfl, h.doBackgroundTestStepTimeout⟩
  | memEccCntRead => exact ⟨_, rfl, h.doMemEccCntRead⟩
  | freeListRebuild => exact ⟨_, rfl, h.doFreeListRebuild⟩
  | freeListRebuildComplete => exact ⟨_, rfl, h.doFreeListRebuildComplete⟩
  | cancel => exact ⟨_, rfl, h.doCancel⟩
  | fltLock => exact ⟨_, rfl, h.doFltLock⟩
  | demand => exact ⟨_, rfl, h.doDemand⟩
  | spdTimeout => exact ⟨_, rfl, h.doSpdTimeout⟩
  | safLimitChangeEffect => exact ⟨_, rfl, h.doSafLimitChangeEffect⟩
  | safLock => exact ⟨_, rfl, h.doSafLock⟩
  | meteringResult => exact ⟨_, rfl, h.doMeteringResult⟩
  | meteringWindowEnd => exact ⟨_, rfl, h.doMeteringWindowEnd⟩
  | snap => exact ⟨_, rfl, h.doSnap⟩
  | savenow => exact ⟨_, rfl, h.doSavenow⟩
  | periodicSave => exact ⟨_, rfl, h.doPeriodicSave⟩
  | saveComplete =>
    have h1 := h.doSaveComplete
    exact ⟨_, rfl, .ite h1.entryBegin h1⟩
  | saveTimeout => exact ⟨_, rfl, h.doSaveTimeout⟩
  | callock => exact ⟨_, rfl, h.doCallock⟩
  | totlock => exact ⟨_, rfl, h.doTotlock⟩
  | mtrStatRead => exact ⟨_, rfl, h.doMtrStatRead⟩
  | announceTimeout => exact ⟨_, rfl, h.doAnnounceTimeout⟩
  | activePortChange => exact ⟨_, rfl, h.doActivePortChange⟩
  | goosePublish => exact ⟨_, rfl, h.doGoosePublish⟩
  | safetyFrameReceived => exact ⟨_, rfl, h.doSafetyFrameReceived⟩
  | supervisionFrameSend => exact ⟨_, rfl, h.doSupervisionFrameSend⟩
  | generalFrameTransmit => exact ⟨_, rfl, h.doGeneralFrameTransmit⟩
  | summarySend => exact ⟨_, rfl, h.doSummarySend⟩
  | pelotonHello => exact ⟨_, rfl, h.doPelotonHello⟩
  | leaderElection => exact ⟨_, rfl, h.doLeaderElection⟩
  | vauxRise => exact ⟨_, rfl, h.doVauxRise⟩
  | powerOnReset => exact ⟨_, rfl, h.doPowerOnReset⟩
  | vauxLoss => exact ⟨_, rfl, h.doVauxLoss⟩
  | earlyWarning => exact ⟨_, rfl, h.doEarlyWarning⟩
  | earlyWarningClear => exact ⟨_, rfl, h.doEarlyWarningClear⟩
  | ksreq => exact ⟨_, rfl, h.doKsreq⟩
  | kickstandEntryComplete => exact ⟨_, rfl, h.doKickstandEntryComplete⟩
  | wake => exact ⟨_, rfl, h.doWake⟩
  | kickstandExitComplete => exact ⟨_, rfl, h.doKickstandExitComplete⟩
  | jugThresholdCrossed => exact ⟨_, rfl, h.doJugThresholdCrossed⟩
  | rtcSecond => exact ⟨_, rfl, h.doRtcSecond⟩
  | reverseCurrent => exact ⟨_, rfl, h.doReverseCurrent⟩
  | confirmTimeout => exact ⟨_, rfl, h.doConfirmTimeout⟩
  | lcsLock => exact ⟨_, rfl, h.doLcsLock⟩
  | supplyReturn => exact ⟨_, rfl, h.doSupplyReturn⟩
  | pelotonServiceSend => exact ⟨_, rfl, h.doPelotonServiceSend⟩

end Kept

/-- Settles O60: every command keeps canonical tables canonical, by the lemma of each function it is made of (`Kept.exec`), the clock on an
empty queue likewise (`Kept.idle`); that a step takes the command off the queue touches no table. -/
theorem everyStepKeepsTheTablesCanonical : Obligations.EveryStepKeepsTheTablesCanonical := by
  unfold Obligations.EveryStepKeepsTheTablesCanonical
  intro s t hs hstep
  unfold step at hstep
  split at hstep
  · cases hstep
    exact (Kept.refl s).idle.canonical hs
  · next c rest _ =>
    obtain ⟨u, hexec, hkept⟩ := Kept.exec c { s with pending := rest }
    cases hexec.symm.trans hstep
    exact hkept.canonical hs

/-- Settles O58: no command stops, and none touches the queue, by `Kept.exec`; the commands listed by the shape of their operands are
instances of it. -/
theorem everyCommandAnswersAndKeepsTheQueue : Obligations.EveryCommandAnswersAndKeepsTheQueue := by
  unfold Obligations.EveryCommandAnswersAndKeepsTheQueue
  intro keeps
  have hkeeps (i : Instr) : keeps i := fun s => by
    obtain ⟨t, hexec, hkept⟩ := Kept.exec i s
    exact ⟨t, hexec, hkept.pending⟩
  simp only [hkeeps, implies_true, and_self]

end Sys2Proof.Machine
end
